-- ==== Sys2Proof/Word.lean ====
section
/-! DEFINITION. The word types of the DX128 model (spec/00_scope.md R5, spec/02 R34, spec/03 R65 and R69). -/

namespace Sys2Proof

/-- A byte of stack memory. -/
abbrev Byte := BitVec 8
/-- A 16-byte packet slot (R69). -/
abbrev Slot := BitVec 128
/-- The 32 data bytes of a granule (R22). -/
abbrev GData := BitVec 256
/-- An 80-bit stored code word: data in bits 63..0, check bits in bits 79..64 (R279). -/
abbrev CodeWord := BitVec 80
/-- A 72-byte flit (R65). -/
abbrev Flit := BitVec 576
/-- A training-sequence or alignment-marker block (R34, R46). -/
abbrev Block := BitVec 128

end Sys2Proof
end

