-- ==== Sys2Proof/Syntax.lean ====
section
/-! DEFINITION. The commands of the block: one constructor of `Instr` for each row of spec/opcode_table.json, with the
operands that its step takes from outside the stack. -/

namespace Sys2Proof

/-- A management transport (R383): in-band at a port, or the I3C sideband. -/
inductive Via where
  | port (p : Fin 4)
  | i3c
deriving DecidableEq, Repr

/-- Header and data slots of a request packet (R78), as the port delivers it. -/
structure ReqHdr where
  port : Fin 4
  tag : Nat
  domain : Nat
  tc : Bool
  cmpl : Bool
  release : Bool
  param : BitVec 32
  addr : Nat
  len : Nat
  slots : List Slot
  /-- What the check bits of the page-map entry show at this translation (R99): 0 nothing, 1 corrected, 2 restored,
  3 uncorrectable in both copies; for the actions of a TXN or LSEQ_STAGE, two bits for each, the first lowest. -/
  pmEcc : Nat
deriving DecidableEq, Repr

/-- A Kamond signer certificate (R356): the digest of the root key that issued it, whether its signature verifies under that key,
and the kinds of object that its usage extension names. -/
structure Cert where
  issuer : BitVec 384 := 0
  verifies : Bool := true
  firmware : Bool := true
  lifecycle : Bool := true
deriving DecidableEq, Repr

/-- The signed envelope (R392): SIGNER, CRED_LEN, the digest of CRED or the certificate that it is, the nonce that was signed, and
whether the ECDSA arithmetic comes out true. -/
structure Envelope where
  signer : Nat
  credLen : Nat := 97
  credDigest : BitVec 384
  cert : Cert := {}
  nonce : BitVec 256
  mathOk : Bool
deriving DecidableEq, Repr

/-- What every management command carries beside its parameters (R386, R387): transport, TAG (in-band), SEQ, the vendor field (I3C),
the lengths, FRAG and FRAG_LEN of its header, whether PARAM_LEN fits the opcode (R391 step 4), and the envelope when SIGNED is set.
FRAG is zero for a command of one packet; otherwise this is the LAST fragment, behind those that `commandFragment` brought (R388). -/
structure Mgmt where
  via : Via
  tag : Nat
  seq : Nat
  vendor : Nat := 0x0000D128
  bodyLen : Nat := 0
  paramLen : Nat := 0
  frag : Nat := 0
  fragLen : Nat := 0
  lenOk : Bool
  env : Option Envelope
deriving DecidableEq, Repr

/-- One entry of PAGEMAP_UPDATE (R399). -/
structure PmChange where
  hpn : Nat
  kind : Nat
  domain : Nat
  shared : Bool
  ppn : Nat
deriving DecidableEq, Repr

/-- The settings of one regulated master in REGULATION_SET (R240, R399). -/
structure RegMaster where
  latTarget : Nat
  minBw : Nat
  realtime : Bool
  tc1Rate : Nat
  tc1Burst : Nat
deriving DecidableEq, Repr

/-- What the cryptographic checks of an image find (R368): SHA-384 of its body, its signer certificate, whether KAMOND_SIG verifies
under it, the digest of the key under which OWNER_SIG verifies, and whether it does. -/
structure Image where
  bodyHash : BitVec 384
  cert : Cert := {}
  kamondOk : Bool
  ownerDigest : BitVec 384
  ownerOk : Bool
deriving DecidableEq, Repr

/-- The certificates that COMPLETE carries (R360): the intermediate and the device certificate, the public key in the latter, and
whether the chain verifies to the root. -/
structure Chain where
  intermediate : List Byte
  device : List Byte
  devKey : BitVec 776
  verifies : Bool
deriving DecidableEq, Repr

/-- A bad TSV bond (R324): channel, column, layer. -/
structure Bond where
  chan : Fin 32
  column : Nat
  layer : Nat
deriving DecidableEq, Repr

/-- The histogram of one lane in a calibration unit (R314 to R316): the 128 bins as (bits compared, bits that disagreed). -/
structure LaneHist where
  lane : Nat
  pc : Nat
  bins : List (Nat × Nat)
deriving DecidableEq, Repr

/-- The histograms of a unit, which its slice names. A unit, or a lane of one, that a list does not name finds its centre at the tap
value in force, with an eye that passes (DESIGN CHOICE, log 51). -/
structure UnitHist where
  slice : Fin 136
  lanes : List LaneHist
deriving DecidableEq, Repr

/-- What a BIST finds (R330, R331): the failing rows of each bank as (slice, pseudo-channel and bank, rows); the logic BIST of a
controller, the SRAM BIST of its buffers and the die-level scan of a layer, each with whether it fails. -/
structure BistFinding where
  rows : List (Nat × Nat × Nat)
  logicBad : Bool
  sramBad : Bool
  scanBad : Bool
deriving DecidableEq, Repr

/-- What the self-tests of a start find (R326, R327): each test's result, bad bonds of channel columns, what start-up calibration
gathers, and whether a rail monitor reads out of range. -/
structure Post where
  romOk : Bool
  pagemapOk : Bool
  trackerOk : Bool
  mgmtOk : Bool
  controlOk : Bool
  badBonds : List Bond
  /-- The histograms of start-up calibration (R321), unit by unit. -/
  hists : List UnitHist
  /-- The layer during whose ramp a rail monitor reads out of range; none when all stay in range (R306, R414). -/
  railLayer : Option (Fin 18)
  /-- The identity slot in use unwraps under the PUF response (R358). -/
  keyOk : Bool
deriving DecidableEq, Repr

/-- The register sources of R430. -/
inductive RegSrc where
  | inband | i3c | testbox | firmware
deriving DecidableEq, Repr

/-- What a layer returns when a command fails its parity check (R235, R236): the pseudo-channel and the 4-bit sequence number of the
failed command, and whether the same command had failed before. -/
structure CaFailure where
  pc : Fin 2 := 0
  seq : BitVec 4 := 0
  repeated : Bool := false
deriving DecidableEq, Repr

/-- An uncorrectable error in a channel controller's storage (R292): in an entry of the write buffer, a value of the atomic unit, the
value of a COMMITTED hold, in no pending value, or in one whose address is lost with it. -/
inductive SoftLoss where
  | writeBuffer (i : Nat)
  | atomicUnit (i : Nat)
  | hold (i : Nat)
  | noValue
  | noAddress
deriving DecidableEq, Repr

/-- One in-service test step (R328, R329): its target (0 to 7 the spare slices, 8 to 24 the layers); for a layer, the columns whose
bond fails, each with whether it fails only at reduced drive; for a spare slice, the bits in which the array answers other than what it
holds, by the number of the read's visit in the step. -/
structure IstRun where
  target : Fin 25
  bonds : List (Nat × Bool)
  reads : List (Nat × BitVec 320)
deriving DecidableEq, Repr

/-- A link-control slot that arrives (R70), with the CRET field of the CTRL flit that carries it. -/
structure CtrlSlot where
  slot : Slot
  cret : BitVec 16
deriving DecidableEq, Repr

/-- A link-control slot that arrives at a port. -/
structure PortCtrl where
  port : Fin 4
  ctrl : CtrlSlot
deriving DecidableEq, Repr

/-- The result of a mover's access: the element it belongs to, and what the check bits of the page-map entry that the mover's next
translation reads show (R99), as in `ReqHdr`. -/
structure ElemReturn where
  elem : Nat
  ecc : Nat
deriving DecidableEq, Repr

/-- An uncorrectable error in the tracker, the crossbar, a coordinator's state or a commit record (R289, R292): it touches no pending
value, the value of a committed granule, named by its transaction's and its own place, or one whose address is lost with it. -/
inductive FabricLoss where
  | noValue
  | record (region : Fin 4) (txn key : Nat)
  | noAddress (region : Fin 4) (txn key : Nat)
deriving DecidableEq, Repr

/-- Who holds tracker entries (R92). -/
inductive Holder where
  | port (p : Fin 4)
  | engine
deriving DecidableEq, Repr

/-- What a measurement channel converts (R335, R345): a reading in 0.1 °C or mV, none when the conversion fails, and whether VPP_L's good
flag of a layer's monitor is lost. -/
structure HkReading where
  value : Option Int
  vppLost : Bool
deriving DecidableEq, Repr

/-- The commands, in the order of spec/opcode_table.json. -/
inductive Instr where
  | powerOn (addrSel : Fin 4)
  | brownout
  | resetNDeassert (post : Post)
  | resetNAssert
  | refclkLost
  | refclkPresent (post : Post)
  | thermalRestart (post : Post)
  | dataReady (elapsedUs : Nat)
  | signalDetect (p : Fin 4) (lanes : Nat)
  | tsSpeed (p : Fin 4) (lane : Fin 17) (blk : Block)
  | tsTrain (p : Fin 4) (lane : Fin 17) (blk : Block)
  | prbsCheckComplete (p : Fin 4) (lane : Fin 17) (errs : Nat) (cdrLock tsOk : Bool)
  | tsMap (p : Fin 4) (lane : Fin 17) (blk : Block)
  | tsWake (p : Fin 4) (lane : Fin 17) (blk : Block)
  | bringupTimeout (p : Fin 4)
  | detectHoldoffExpiry (p : Fin 4)
  | cdrLockLost (p : Fin 4) (lane : Fin 17)
  | fecCodeWord (p : Fin 4) (check : BitVec 300) (msg : BitVec 5140)
  | alignmentMarker (p : Fin 4) (lane : Fin 17) (blk : Option Block)
  | streamStart (p : Fin 4)
  | enterLight (p : Fin 4)
  | enterDeep (p : Fin 4)
  | retrainTimeout (p : Fin 4)
  | skipFlit (p : Fin 4) (f : Flit)
  | skipSend (p : Fin 4)
  | sleepReq (p : Fin 4) (x : CtrlSlot)
  | sleepAck (x : PortCtrl) (sleepNow : Bool)
  | sleepNak (p : Fin 4) (x : CtrlSlot)
  | wakeReq (x : PortCtrl)
  | sleepReplyTimeout (p : Fin 4)
  | txLightIdle (p : Fin 4)
  | txDeepIdle (p : Fin 4)
  | sleepMinimumEnd (p : Fin 4)
  | owedAckTimeout (p : Fin 4)
  | wakeAckTimeout (p : Fin 4)
  | streamStartTimeout (p : Fin 4)
  | pktFlit (p : Fin 4) (f : Flit)
  | idleFlit (p : Fin 4) (f : Flit)
  | badFlit (p : Fin 4) (byBuffer : Bool)
  | init (p : Fin 4) (x : CtrlSlot)
  | initDone (x : PortCtrl)
  | nak (p : Fin 4) (x : CtrlSlot)
  | nakRepeat (p : Fin 4)
  | replayTimeout (p : Fin 4)
  | read32 (h : ReqHdr)
  | read64 (h : ReqHdr)
  | read128 (h : ReqHdr)
  | read256 (h : ReqHdr)
  | write32 (h : ReqHdr)
  | write64 (h : ReqHdr)
  | write128 (h : ReqHdr)
  | write256 (h : ReqHdr)
  | writeMasked32 (h : ReqHdr)
  | atomic (h : ReqHdr)
  | txn (h : ReqHdr)
  | lseqBegin (h : ReqHdr)
  | lseqStage (h : ReqHdr)
  | lseqCommit (h : ReqHdr)
  | lseqAbort (h : ReqHdr)
  | doorbell (h : ReqHdr)
  | doorbellTakesEffect (id : Nat)
  | fence (h : ReqHdr)
  | fenceComplete (id : Nat)
  | unassignedOpcode (opcode : Nat) (h : ReqHdr)
  | trackerAllocate (who : Holder) (soft : Option FabricLoss)
  | copierStart (k : Fin 4)
  | chunkCopy (k : Fin 4)
  | chunkHoldRetry (k : Fin 4)
  | clearingComplete (k : Fin 4)
  | pagemapDrainComplete (q : Fin 4)
  | shadowWrite (hpn : Nat)
  | arbiterDecision (c : Fin 32) (drain : Nat) (soft : Option SoftLoss)
  | readDataDecode (c : Fin 32) (id : Nat) (idx : Nat) (noise : BitVec 320)
  | atomicWriteback (c : Fin 32) (gran : Nat)
  | openPageTimeout (c : Fin 32) (slot : Nat)
  | refreshTick (slice : Fin 136)
  | spreadVisit (slice : Fin 136)
  | deadlineGuard (slice : Fin 136) (bank : Fin 32)
  | targetedRefresh (slice : Fin 136) (bank : Fin 32) (row : Nat)
  | caParityError (c : Fin 32) (rank : Fin 5) (failed : CaFailure)
  | softRowRepairDone (c : Fin 32)
  | delayApplyPoint (c : Fin 32)
  | regTick
  | queueLevelUpdate (r : Fin 4)
  | floorRecompute
  | guaranteeScaled
  | beatEdge (width interval : Nat)
  | mark (frac : Nat)
  | beatMissing
  | internalBeat
  | beatLockTimeout
  | freeRunTimeout
  | windowBlock (c : Fin 32)
  | windowBlockLift (c : Fin 32)
  | windowWorkStart (c : Fin 32) (tests : List IstRun)
  | windowClose (c : Fin 32)
  | calUnitComplete (slice : Fin 136) (hist : List LaneHist)
  | calPatternFallback (slice : Fin 136)
  | clkPhaseStep (r : Fin 4)
  | istUnitDue (target : Fin 25) (overduePermille : Nat)
  | istStep (target : Fin 25) (bonds : List (Nat × Bool)) (reads : List (Nat × BitVec 320))
  | moverTakeQueue (m : Fin 16) (soft : Nat)
  | tailCheck (m : Fin 16)
  | slotCheck (m : Fin 16)
  | copy (m : Fin 16)
  | fill (m : Fin 16)
  | gather (m : Fin 16)
  | scatter (m : Fin 16)
  | scatterUpdate (m : Fin 16)
  | verify (m : Fin 16)
  | fenceDescriptor (m : Fin 16)
  | notifyDescriptor (m : Fin 16)
  | elementResult (m : Fin 16) (r : ElemReturn)
  | elementRetry (m : Fin 16) (elem : Nat)
  | descriptorEnd (m : Fin 16)
  | recordWrite (m : Fin 16)
  | holdRequest (c : Fin 32) (id : Nat) (gran : Nat)
  | holdGrant (id : Nat) (gran : Nat)
  | woundNotice (id : Nat)
  | oldValue (id : Nat) (gran : Nat) (noise : BitVec 320)
  | prepare (c : Fin 32) (id : Nat) (gran : Nat)
  | prepareAnswer (id : Nat) (gran : Nat)
  | commit (c : Fin 32) (id : Nat) (gran : Nat)
  | holdRelease (c : Fin 32) (id : Nat) (gran : Nat)
  | holdWaitTimeout (c : Fin 32) (id : Nat)
  | leaseExpiry (r : Fin 4) (port : Fin 4) (lsid : Nat)
  | shotClockExpiry (seq : Nat)
  | rowTrackerClear
  | hkConversion (chan : Fin 64) (reading : HkReading)
  | hkRoundEnd (crossbarMore moverMore : Nat)
  | selfRefreshEntry
  | eraseComplete (failed : List Nat)
  | zeroizeComplete
  | fwRecheck (matches_ : Bool)
  | authLockoutEnd
  | stagingClaimLapse
  | bootClaimLapse
  | bistComplete (id : Nat) (found : BistFinding) (tsvOrBenchBad : Bool) (hists : List UnitHist)
  | eyeScanComplete (id : Nat) (eyes : List (List (BitVec 64 × BitVec 121)))
  | commandFragment (m : Mgmt) (opcode frag bodyLen paramLen fragLen : Nat) (signed last : Bool)
  | identify (m : Mgmt)
  | getStatus (m : Mgmt)
  | regRead (m : Mgmt) (addr count : Nat)
  | regWrite (m : Mgmt) (addr : Nat) (values : List (BitVec 32))
  | pagemapRead (m : Mgmt) (first : Nat) (mirror : Bool) (count : Nat)
  | pagemapUpdate (m : Mgmt) (changes : List PmChange)
  | mirrorSet (m : Mgmt) (hpn : Nat) (enable : Bool)
  | mirrorResolve (m : Mgmt) (hpn granule : Nat) (secondary : Bool)
  | benchDonate (m : Mgmt) (hpns : List Nat)
  | queueConfigure (m : Mgmt) (queue mask : Nat) (ctx : BitVec 256)
  | queueEnable (m : Mgmt) (queue : Nat)
  | queueDisable (m : Mgmt) (queue : Nat)
  | domainSet (m : Mgmt) (portValid : BitVec 4) (setOwner : Bool) (ownerPort : Nat) (masks : List (BitVec 64))
  | regulationSet (m : Mgmt) (reserve : Nat) (masters : List RegMaster)
  | beatSetNumber (m : Mgmt) (mode : Nat) (number atNumber : Nat)
  | changeoverConfigure (m : Mgmt) (enable : Bool) (period phase limit : Nat)
  | maintStart (m : Mgmt) (kind targetType targetIndex : Nat)
  | maintStatus (m : Mgmt) (first : Nat)
  | maintAbort (m : Mgmt) (id : Nat)
  | faultLogRead (m : Mgmt) (seqFrom count : Nat) (overflow : Bool)
  | faultAck (m : Mgmt) (first last : Nat)
  | layerReset (m : Mgmt) (layer : Nat) (readBackOk secondOk : Bool)
  | thermalConfigure (m : Mgmt) (levels : List Nat) (powerLimit : Nat)
  | fwLoadBegin (m : Mgmt) (imageLen : Nat)
  | fwLoadChunk (m : Mgmt) (offset : Nat) (data : List Byte)
  | fwLoadEnd (m : Mgmt) (image : Image)
  | fwActivate (m : Mgmt) (digestOk : Bool) (post : Post)
  | lifecycleTransition (m : Mgmt) (target phase : Nat) (ownerKeyHash : BitVec 384) (countersign : Bool) (chain : Chain)
  | ownerKeySet (m : Mgmt) (hash : BitVec 384) (countersign : Bool)
  | zeroize (m : Mgmt)
  | scorecardRead (m : Mgmt) (first count : Nat) (snapshot : Bool)
  | spdmMessage (m : Mgmt) (code : Nat) (param : Nat)
  | resetWarm (m : Mgmt) (post : Post)
  | bootBlock (m : Mgmt) (kind offset len : Nat) (layout fillMapped : Bool) (data : List Byte) (image : Image)
  | getVersion (via : Via)
  | getCapabilities (via : Via)
  | negotiateAlgorithms (via : Via) (offers : Bool)
  | getDigests (via : Via)
  | getCertificate (via : Via) (slot offset len : Nat)
  | challenge (via : Via) (slot summary : Nat)
  | getMeasurements (via : Via) (index : Nat) (signed : Bool)
  | setEndpointId (eid : BitVec 8)
  | getEndpointId
  | getMctpVersionSupport
  | getMessageTypeSupport
  | enec (events : BitVec 8)
  | disec (events : BitVec 8)
  | rstdaa
  | setdasa (static dynamic : BitVec 7)
  | setaasa
  | setnewda (dynamic : BitVec 7)
  | getpid
  | getbcr
  | getdcr
  | getstatus
  | getmwl
  | getmrl
  | rstact (action : BitVec 8)
  | bypass
  | idcode
  | samplePreload (pins : BitVec 64)
  | extest
  | clamp
  | highz
  | trstN
  | portEnableSet (p : Fin 4)
  | portEnableClear (p : Fin 4)
  | portRetrain (p : Fin 4)
  | portRetrainFull (p : Fin 4)
  | portMaxRate (p : Fin 4) (rate : Nat)
  | chEnableSet (c : Fin 32)
  | chEnableClear (c : Fin 32)
  | srrGo (c : Fin 32)
  | dlyTap (c : Fin 32) (byFirmware : Bool) (value : Nat)
  | sliceDrain (c : Fin 32) (bits : BitVec 5)
  | moverEnable (m : Fin 16) (on : Bool)
  | scClear (first count : Nat)
  | refreshMode (mode : Bool)
  | srRequestSet
  | srRequestClear
  | registerWrite (src : RegSrc) (addr : Nat) (value : BitVec 32)
  | squelchDetect (p : Fin 4)
  | mgmtFault
  | fetchFailed (m : Fin 16)
  | unassignedDescriptorOpcode (m : Fin 16)
  | unassignedCommandOpcode (m : Mgmt) (opcode : Nat)
  | unsupportedMctpMessageType (type : Nat)
  | unsupportedSpdmRequest (via : Via) (code : Nat)
  | discardedVc2Header (p : Fin 4) (slot : Slot)
deriving DecidableEq, Repr

end Sys2Proof
end

