-- ==== Sys2Proof/Decode.lean ====
section
/-! DEFINITION. The words of spec/opcode_table.json: the table gives no row any bits, so no word spells a command. -/

namespace Sys2Proof

/-- The command that a table word spells. Every row of spec/opcode_table.json has an empty list of fields: the commands
are events (spec/95), not words, so every word spells none. -/
def decodeTableWord (nbits w : Nat) : Option Instr :=
  match nbits, w with
  | _, _ => none

end Sys2Proof
end

