-- ==== Sys2Proof/Machine/Bits.lean ====
section
/-! DEFINITION. Bit fields, byte order and the two cyclic redundancy codes (R5, R34, R67). -/

namespace Sys2Proof.Machine

open Sys2Proof

/-- Bits `lo + n - 1` down to `lo` of a number. -/
def bitsOf (x lo n : Nat) : Nat := (x >>> lo) % 2 ^ n

/-- Bit `i` of a number. -/
def bitOf (x i : Nat) : Bool := x.testBit i

/-- A flag as a number. -/
def b2n (b : Bool) : Nat := if b then 1 else 0

/-- The little-endian bytes of a number: `n` of them (R5). -/
def toBytes (n x : Nat) : List Byte := (List.range n).map fun i => BitVec.ofNat 8 (x >>> (8 * i))

/-- The number that little-endian bytes spell. -/
def ofBytes : List Byte → Nat
  | [] => 0
  | b :: t => b.toNat + 256 * ofBytes t

/-- Numbers packed side by side in elements of `w` bits, lowest first. -/
def packBits (w : Nat) : List Nat → Nat
  | [] => 0
  | x :: t => x % 2 ^ w + 2 ^ w * packBits w t

/-- One bit of the reflected CRC-32C register (R67): `r` after the bit `b`. -/
def crc32cBit (r : Nat) (b : Bool) : Nat :=
  let x := bitOf r 0 != b
  if x then Nat.xor (r >>> 1) 0x82F63B78 else r >>> 1

/-- Bytes of a list of fields as one number, each of its width in bytes, lowest first. -/
def packBytes : List (Nat × Nat) → Nat
  | [] => 0
  | (n, x) :: t => x % 2 ^ (8 * n) + 2 ^ (8 * n) * packBytes t

/-- CRC-32C of the low `8 * n` bits of `x`, taken byte by byte from the lowest, each low bit first (R67). -/
def crc32c (n x : Nat) : Nat :=
  Nat.xor ((List.range (8 * n)).foldl (fun r i => crc32cBit r (bitOf x i)) 0xFFFFFFFF) 0xFFFFFFFF

/-- CRC-16 with polynomial 0x1021 and initial value 0xFFFF of the low `n` bits of `x` in transmit order, bit 0 first
(R34). -/
def crc16 (n x : Nat) : Nat :=
  (List.range n).foldl (fun r i =>
    let t := bitOf r 15 != bitOf x i
    let r' := (2 * r) % 65536
    if t then Nat.xor r' 0x1021 else r') 0xFFFF

/-- A block received with its polarity inverted: the most significant bit of every unit interval, an even bit of the
block, is inverted (R32). -/
def invertPolarity (b : Block) : Block := b ^^^ 0x55555555555555555555555555555555#128

/-- The 16-byte slots of a number of bytes, lowest first: `n` slots. -/
def slotsOf (n x : Nat) : List Slot := (List.range n).map fun i => BitVec.ofNat 128 (x >>> (128 * i))

/-- The number that slots spell, lowest slot in the low bits. -/
def ofSlots : List Slot → Nat
  | [] => 0
  | s :: t => s.toNat + 2 ^ 128 * ofSlots t

/-- Reads a two's complement number of `n` bits. -/
def toSigned (n x : Nat) : Int := if bitOf x (n - 1) then (x % 2 ^ n : Nat) - (2 ^ n : Nat) else (x % 2 ^ n : Nat)

/-- Writes a number in two's complement of `n` bits. -/
def ofSigned (n : Nat) (x : Int) : Nat := (x % (2 ^ n : Nat)).toNat

/-- The smallest number of a list, `d` when the list is empty. -/
def minOf (d : Nat) (l : List Nat) : Nat := l.foldl Nat.min (l.headD d)

/-- The i-th element of a list with `i` inside the list changed by `f`. -/
def listModify {α : Type} (f : α → α) : List α → Nat → List α
  | [], _ => []
  | a :: t, 0 => f a :: t
  | a :: t, i + 1 => a :: listModify f t i

/-- The elements that satisfy `p` changed by `f`. -/
def mapIf {α : Type} (p : α → Bool) (f : α → α) (l : List α) : List α := l.map fun a => if p a then f a else a

end Sys2Proof.Machine
end

