-- ==== Sys2Proof/Machine/Fec.lean ====
section
/-! DEFINITION. The forward error correction of a direction (R44): RS(544,514) over GF(2^10) as clause 91 of IEEE 802.3
defines it. PRESUMED (log 58): the field polynomial x^10 + x^3 + 1, the generator roots alpha^0 to alpha^29 and the first
symbol as the highest coefficient are clause 91's, which the spec names without repeating. -/

namespace Sys2Proof.Machine

open Sys2Proof

/-! ## The field -/

/-- A field element times alpha. -/
def gfDouble (a : Nat) : Nat := if 512 ≤ a then Nat.xor (2 * a) 0x409 else 2 * a

/-- The product of two field elements. -/
def gfMul (a b : Nat) : Nat :=
  ((List.range 10).foldl (fun (r : Nat × Nat) i => (if bitOf b i then Nat.xor r.1 r.2 else r.1, gfDouble r.2)) (0, a)).1

/-- alpha to the power n. -/
def gfPow : Nat → Nat
  | 0 => 1
  | n + 1 => gfDouble (gfPow n)

/-- The inverse of a field element other than zero: its power 1,022. -/
def gfInv (a : Nat) : Nat :=
  ((List.range 9).foldl (fun (r : Nat × Nat) _ => let q := gfMul r.2 r.2; (gfMul r.1 q, q)) (1, a)).1

/-- The value of a polynomial at x, highest coefficient first. -/
def gfEval (x : Nat) (l : List Nat) : Nat := l.foldl (fun r a => Nat.xor (gfMul r x) a) 0

/-- The sum of two polynomials, lowest coefficient first. -/
def gfAdd : List Nat → List Nat → List Nat
  | [], b => b
  | a, [] => a
  | a :: s, b :: t => Nat.xor a b :: gfAdd s t

/-- The product of two polynomials, lowest coefficient first. -/
def gfPolyMul (a : List Nat) : List Nat → List Nat
  | [] => []
  | b :: t => gfAdd (a.map (gfMul b)) (0 :: gfPolyMul a t)

/-! ## Encoding -/

/-- The generator polynomial, lowest coefficient first: 31 coefficients. -/
def rsGenerator : List Nat := (List.range 30).foldl (fun g j => gfPolyMul g [gfPow j, 1]) [1]

/-- The check symbols of message symbols: the remainder of the message shifted by 30 places. -/
def rsCheck (msg : List Nat) : List Nat :=
  let g := (rsGenerator.take 30).reverse
  msg.foldl (fun r s => let f := Nat.xor s (r.headD 0); List.zipWith (fun a b => Nat.xor a (gfMul f b)) (r.drop 1 ++ [0]) g) (List.replicate 30 0)

/-- The symbols of a bit string, symbol 0 in its low bits (R44). -/
def symbolsOf (n x : Nat) : List Nat := (List.range n).map fun k => bitsOf x (10 * k) 10

/-- The code word of a message (R44). -/
def rsEncode (msg : BitVec 5140) : BitVec 5440 :=
  BitVec.ofNat 5440 (msg.toNat + 2 ^ 5140 * packBits 10 (rsCheck (symbolsOf 514 msg.toNat)))

/-! ## Decoding -/

/-- The syndromes of a received word. -/
def rsSyndromes (w : List Nat) : List Nat := (List.range 30).map fun j => gfEval (gfPow j) w

/-- The state of the search for the error locator: the locator and the last one that failed, the number of errors, the
distance to the last failure and its discrepancy. -/
structure RsSearch where
  cur : List Nat := [1]
  old : List Nat := [1]
  errors : Nat := 0
  gap : Nat := 1
  disc : Nat := 1

/-- One step of the search for the error locator, on syndrome n. -/
def rsStep (syn : List Nat) (r : RsSearch) (n : Nat) : RsSearch :=
  let d := (List.range (r.errors + 1)).foldl (fun x i => Nat.xor x (gfMul (r.cur.getD i 0) (syn.getD (n - i) 0))) 0
  if d = 0 then { r with gap := r.gap + 1 }
  else
    let f := gfMul d (gfInv r.disc)
    let next := gfAdd r.cur (List.replicate r.gap 0 ++ r.old.map (gfMul f))
    if 2 * r.errors ≤ n then { cur := next, old := r.cur, errors := n + 1 - r.errors, gap := 1, disc := d }
    else { r with cur := next, gap := r.gap + 1 }

/-- The powers of alpha that name the symbols: symbol k has the power 543 − k. -/
def rsPowers : List Nat := ((List.range 544).foldl (fun (r : List Nat × Nat) _ => (r.2 :: r.1, gfDouble r.2)) ([], 1)).1

/-- The error at a symbol, whose power of alpha is x; zero where the locator has no root. -/
def rsErrorAt (loc omega : List Nat) (x : Nat) : Nat :=
  let y := gfInv x
  if gfEval y loc.reverse = 0 then
    let odd := (List.range loc.length).map fun i => if i % 2 = 1 then loc.getD i 0 else 0
    gfMul (gfMul x (gfEval y omega.reverse)) (gfInv (gfEval y ((odd.drop 1).reverse)))
  else 0

/-- A received word decoded (R44): the symbols in error, at most 15, and the corrected message; none when it is
uncorrectable. -/
def rsDecode (w : BitVec 5440) : Option (List Nat × BitVec 5140) :=
  let r := symbolsOf 544 w.toNat
  let syn := rsSyndromes r
  if syn.all (· = 0) then some ([], w.setWidth 5140)
  else
    let s := (List.range 30).foldl (rsStep syn) {}
    let omega := (gfPolyMul syn s.cur).take 30
    let errs := rsPowers.map (rsErrorAt s.cur omega)
    let fixed := List.zipWith Nat.xor r errs
    let at_ := (List.range 544).filter fun k => errs.getD k 0 ≠ 0
    if s.errors ≤ 15 && at_.length = s.errors && (rsSyndromes fixed).all (· = 0) then
      some (at_, BitVec.ofNat 5140 (packBits 10 (fixed.take 514)))
    else none

end Sys2Proof.Machine
end

