-- ==== Sys2Proof/Machine/Ecc.lean ====
section
/-! DEFINITION. The error-correcting code and the poison encoding (R279 to R282). -/

namespace Sys2Proof.Machine

open Sys2Proof

/-- g(x) = m1(x) m3(x) with m1 = x^7 + x^3 + 1 and m3 = x^7 + x^3 + x^2 + x + 1, the minimal polynomial of the cube of a
root of m1 (R280). -/
def eccGen : Nat := 0x4377

/-- The remainders of x^j modulo g(x) for j from 0, `n` of them, starting from the remainder `r`. -/
def eccRemainders (r : Nat) : Nat → List Nat
  | 0 => []
  | n + 1 =>
    let r2 := 2 * r
    r :: eccRemainders (if bitOf r2 14 then Nat.xor r2 eccGen else r2) n

/-- The syndrome of an error in bit j of the shortened word, for j from 0 to 77: the remainder in bits 13..0, and bit 14
because every such bit enters the overall parity (R280). -/
def eccColumns : List Nat := (eccRemainders 1 78).map fun r => r + 0x4000

/-- The syndrome of an error in each of the 80 stored bits: the data bits 0 to 63 stand at 14 to 77 of the shortened
word, the check bits 0 to 13 at 0 to 13, then c[14] and c[15]. -/
def eccBitSyndromes : List Nat := eccColumns.drop 14 ++ eccColumns.take 14 ++ [0x4000, 0x8000]

/-- The sum of the syndromes of the bits of `x` that are set. -/
def eccSum (x : Nat) : Nat → List Nat → Nat
  | _, [] => 0
  | i, c :: t => Nat.xor (if bitOf x i then c else 0) (eccSum x (i + 1) t)

/-- The 16-bit syndrome of a stored word: S1 and S3 as the remainder modulo g, the overall parity p, and c[15] (R280). -/
def eccSyndrome (w : CodeWord) : Nat := eccSum w.toNat 0 eccBitSyndromes

/-- The check bits of a clean word (R280): those that make the syndrome zero. -/
def eccCheck (d : BitVec 64) : BitVec 16 :=
  let r := eccSum d.toNat 0 (eccColumns.drop 14)
  let low := bitsOf r 0 14
  -- c[14] is the even parity of the data bits and c[13:0]
  let par := bitsOf (eccSum low 0 eccColumns) 14 1
  BitVec.ofNat 16 (low + 0x4000 * ((bitsOf r 14 1 + par) % 2))

/-- The stored word of a clean data word. -/
def eccEncode (d : BitVec 64) : CodeWord := (eccCheck d) ++ d

/-- The poison pattern P (R281), and a poisoned word. -/
def poisonPattern : BitVec 16 := 0xE9A6
/-- A poisoned word: zero data with the poison pattern in its check bits (R281). -/
def poisonWord : CodeWord := poisonPattern ++ (0 : BitVec 64)

/-- The decoder's outcome for a word (Table 2 of R282). -/
inductive WordOutcome where
  | clean (d : BitVec 64)
  | corrected1 (d : BitVec 64)
  | corrected2 (d : BitVec 64)
  | poison
  | uncorrectable
deriving DecidableEq, Repr

/-- The bit whose error alone has the syndrome `s`. -/
def eccFindOne (s : Nat) : Option Nat := eccBitSyndromes.findIdx? (· == s)

/-- Two bits whose errors together have the syndrome `s`: the first from the list `l` that starts at bit `i`. -/
def eccFindTwo (s : Nat) : Nat → List Nat → Option (Nat × Nat)
  | _, [] => none
  | i, c :: t =>
    match eccFindOne (Nat.xor s c) with
    | some j => some (i, j)
    | none => eccFindTwo s (i + 1) t

/-- A stored word with bit `i` inverted, as data. -/
def eccFlip (w : CodeWord) (i : Nat) : CodeWord := w ^^^ BitVec.ofNat 80 (2 ^ i)

/-- The decoder: the outcomes of Table 2 in order (R282). -/
def eccDecode (w : CodeWord) : WordOutcome :=
  let s := eccSyndrome w
  if s = 0 then .clean (w.extractLsb' 0 64)
  else
    match eccFindOne s with
    | some i => .corrected1 ((eccFlip w i).extractLsb' 0 64)
    | none =>
      match eccFindTwo s 0 eccBitSyndromes with
      | some (i, j) => .corrected2 ((eccFlip (eccFlip w i) j).extractLsb' 0 64)
      | none =>
        let p := eccSyndrome poisonWord
        if s = p || (eccFindOne (Nat.xor s p)).isSome then .poison else .uncorrectable

/-- A granule as stored: 32 data bytes in bits 255..0, then the check bits of words 0 to 3 (R279). -/
def granWord (g : BitVec 320) (w : Nat) : CodeWord :=
  (g.extractLsb' (256 + 16 * w) 16) ++ (g.extractLsb' (64 * w) 64)

/-- The stored form of clean data. -/
def granEncode (d : GData) : BitVec 320 :=
  (eccCheck (d.extractLsb' 192 64)) ++ (eccCheck (d.extractLsb' 128 64)) ++ (eccCheck (d.extractLsb' 64 64)) ++
    (eccCheck (d.extractLsb' 0 64)) ++ d

/-- The stored form of a poisoned granule: four poisoned words (R145, R281). -/
def granPoison : BitVec 320 := poisonPattern ++ poisonPattern ++ poisonPattern ++ poisonPattern ++ (0 : BitVec 256)

/-- What the decoder finds in a granule. -/
structure GranRead where
  /-- The data, zero where a word has none. -/
  data : GData
  poisoned : Bool
  uncorrectable : Bool
  ce1 : Nat
  ce2 : Nat
  /-- First word found uncorrectable or poisoned. -/
  word : Nat
deriving DecidableEq, Repr

/-- The data of a word's outcome. -/
def WordOutcome.data : WordOutcome → BitVec 64
  | .clean d | .corrected1 d | .corrected2 d => d
  | .poison | .uncorrectable => 0

/-- The granule's outcome from those of its four words: poisoned when any word is, whatever the others are, and otherwise
uncorrectable when any word is (R145). -/
def granDecode (g : BitVec 320) : GranRead :=
  let w0 := eccDecode (granWord g 0)
  let w1 := eccDecode (granWord g 1)
  let w2 := eccDecode (granWord g 2)
  let w3 := eccDecode (granWord g 3)
  let ws := [w0, w1, w2, w3]
  { data := w3.data ++ w2.data ++ w1.data ++ w0.data
    poisoned := ws.contains .poison
    uncorrectable := !ws.contains .poison && ws.contains .uncorrectable
    ce1 := ws.countP fun w => match w with | .corrected1 _ => true | _ => false
    ce2 := ws.countP fun w => match w with | .corrected2 _ => true | _ => false
    word := (ws.findIdx? fun w => w == .poison || w == .uncorrectable).getD 0 }

end Sys2Proof.Machine
end

