-- ==== Sys2Proof/Machine/Sparse.lean ====
section
/-! DEFINITION. Sparse tables: a list of (key, value) pairs in one canonical form. Keys rise strictly and no listed value
is the one an unlisted key has. -/

namespace Sys2Proof.Machine

/-- The value of key `k`, where an unlisted key has the value `d k`. -/
def sparseGet {α : Type} (d : Nat → α) : List (Nat × α) → Nat → α
  | [], k => d k
  | (k', v) :: t, k => if k = k' then v else sparseGet d t k

/-- The table with key `k` at value `v`, in canonical form. -/
def sparsePut {α : Type} [DecidableEq α] (d : Nat → α) : List (Nat × α) → Nat → α → List (Nat × α)
  | [], k, v => if v = d k then [] else [(k, v)]
  | (k', v') :: t, k, v =>
    if k < k' then (if v = d k then (k', v') :: t else (k, v) :: (k', v') :: t)
    else if k = k' then (if v = d k then t else (k, v) :: t)
    else (k', v') :: sparsePut d t k v

/-- The canonical form above a bound: keys at least `lo`, strictly rising, no value at its default. -/
def sparseWfFrom {α : Type} [DecidableEq α] (d : Nat → α) (lo : Nat) : List (Nat × α) → Bool
  | [] => true
  | (k, v) :: t => decide (lo ≤ k) && decide (v ≠ d k) && sparseWfFrom d (k + 1) t

/-- The canonical form. -/
def sparseWf {α : Type} [DecidableEq α] (d : Nat → α) (l : List (Nat × α)) : Bool := sparseWfFrom d 0 l

/-- The table with the keys of `lo` up to `lo + n - 1` at the values of `f`. -/
def sparsePutRange {α : Type} [DecidableEq α] (d : Nat → α) (f : Nat → α) (lo : Nat) :
    Nat → List (Nat × α) → List (Nat × α)
  | 0, l => l
  | n + 1, l => sparsePutRange d f (lo + 1) n (sparsePut d l lo (f lo))

end Sys2Proof.Machine
end

