-- ==== Sys2Proof/Config.lean ====
section
/-! DEFINITION. Values the spec leaves open: opaque constants without a body, so that no proof sees a value. -/

namespace Sys2Proof

/-- The n-th 256-bit draw of the on-die DRBG (R363): the spec states no value. -/
opaque Config.drbg : Nat → BitVec 256
/-- The state of the DRBG after its n-th draw (R374, R381): the spec states no value. -/
opaque Config.drbgState : Nat → BitVec 384
/-- The bits of the n-th wrapped key (R357, R358): the spec states no value. -/
opaque Config.wrappedKey : Nat → BitVec 512
/-- The bytes of the Kamond root certificate in the boot ROM (R356, R359). -/
opaque Config.rootCert : List Byte
/-- SHA-384 of a transcript of SPDM messages, as (code, value), in the encodings of DSP0274 (R371, R373). -/
opaque Config.transcriptHash : List (Nat × Nat) → BitVec 384
/-- The n-th P-384 public key that KEYGEN makes, 97 bytes (R358, R360). -/
opaque Config.publicKey : Nat → BitVec 776
/-- A signature over a digest by the key that belongs to a public key, at the n-th draw (R360, R371): r and s, 96 bytes. -/
opaque Config.signature : Nat → BitVec 776 → BitVec 384 → BitVec 768
/-- SHA-384 of a bit string given by its length and its value (R5, R372). -/
opaque Config.sha384 : Nat → Nat → BitVec 384
/-- Bytes of a published-standard answer whose content the spec does not spell out (certificates, SPDM and MCTP
encodings, I3C identifiers): the value of item `k` with argument `n`. -/
opaque Config.standardValue : Nat → Nat → Nat
/-- Whether the n-th response that waits at class-5 entry leaves (R288: not defined). -/
opaque Config.leavesAtLockdown : Nat → Bool
/-- A value of a register or an order the spec leaves open, for the n-th time it is needed. -/
opaque Config.freeNat : Nat → Nat

/-- The base-die term of P_EST in 0.1 W, of the crossbar, atomic-unit and mover activity counts of a round under the fused
coefficients (R342): the spec states no coefficient. -/
opaque Config.basePower : Nat → Nat → Nat → Nat
/-- The power of a port direction in DEEP_SLEEP, in 0.1 W (R342, Table 5 of R347): the spec states only what each sleep saves. -/
opaque Config.deepPower : Nat

/-- What RX_ADAPT of a port's lane shows while its receiver adapts continuously (R62), by nanosecond (log 55). -/
opaque Config.rxAdapt : Nat → Nat → Nat → BitVec 16

end Sys2Proof
end

