-- ==== Sys2Proof/Machine/State.lean ====
section
/-! DEFINITION. The state of the stack as plain data, and the state right after power-on reset (R8, R426, R435 to R448). -/

namespace Sys2Proof.Machine

/-- Why a command could stop the block: no command of this model faults, every event of the spec is an effect on the
state. The one constructor is raised by nobody; it is safe. -/
inductive Fault where
  | neverRaised
deriving DecidableEq, Repr

/-- Why a command could be refused. `notModelled` is raised by an arm of `exec` without a meaning; it is safe. -/
inductive Refusal where
  | notModelled (mnemonic : String)
deriving DecidableEq, Repr

/-! ## Ports -/

/-- The bring-up states of R35; a retrain is shown by a flag beside it (R49, R438). -/
inductive LinkState where
  | detect | speed | train | laneMap | deskew | linkInit | active
deriving DecidableEq, Repr

/-- The power states of one direction (R55). -/
inductive SleepState where
  | active | light | deep
deriving DecidableEq, Repr

/-- The lane states of R439. -/
inductive LaneState where
  | active | spareIdle | failed | off
deriving DecidableEq, Repr

/-- One lane of one direction: register fields of R439 and what bring-up and R48 keep of it. -/
structure Lane where
  state : LaneState := .off
  logicalPos : Nat := 0
  polarityInv : Bool := false
  txFfe : BitVec 30 := 0x003F0000
  rxAdapt : BitVec 16 := 0
  eyeWidth : Nat := 0
  eyeHeight : Nat := 0
  /-- LANE_ID found in SPEED (R36). -/
  laneId : Option Nat := none
  /-- Consecutive valid TS_SPEED blocks (R36). -/
  tsCount : Nat := 0
  /-- The judgement of R37, once made in this TRAIN. -/
  judged : Option Bool := none
  /-- Marked failing under R48 since the last bring-up from DETECT. -/
  failing : Bool := false
  /-- Corrected symbols of the last 100 microseconds, as (time, symbols) (R48). -/
  symErrs : List (Nat × Nat) := []
  /-- A valid marker was seen in this DESKEW. -/
  amSeen : Bool := false
  /-- Consecutive markers missed or corrupt (R48). -/
  amMissed : Nat := 0
  /-- A marker, good or bad, has come at the present marker boundary (R46); a good one has (R48). -/
  amGot : Bool := false
  amGood : Bool := false
  /-- The deskew offset measured in the last DESKEW (R47). -/
  deskew : Nat := 0
deriving DecidableEq, Repr

/-- The outcome of lane_map for one direction (R41): width 0 when down. -/
structure DirMap where
  width : Nat := 0
  group : Nat := 0
  spare : Option Nat := none
deriving DecidableEq, Repr

/-- A packet the stack sends (R83 to R85), waiting for credit; `trk` is the tracker entry it keeps (R94). -/
structure OutPkt where
  opcode : Nat
  tag : Nat
  status : Nat
  info : BitVec 32
  addr : Nat
  data : List Slot
  trk : Option Nat
deriving DecidableEq, Repr

/-- A request at the head of a port that waits for a tracker entry (R93), or its stack leaving self-refresh. -/
structure Waiting where
  opcode : Nat
  hdr : ReqHdr
  since : Nat
  /-- Step 3 of R25 has admitted it, so that no later check of that step applies to it (R105): marked capped-in or not. -/
  admitted : Option Bool := none
  /-- The moment since which it stands at allocation without a tracker entry (R92). -/
  allocSince : Option Nat := none
  /-- Its link was lost: it runs to completion and its response is discarded (R51). -/
  orphan : Bool := false
deriving DecidableEq, Repr

/-- What a port's transmitter lays on its lanes (R44 to R47, R53, R55, R58 to R60, R65 to R71, R73, R74). -/
structure TxLine where
  /-- Flit payloads of the packet begun that wait for room in the replay buffer (R73), and stored PKT flits that wait for their
  place in the flit stream, as (SEQ, slots). -/
  rest : List (List Slot) := []
  queue : List (Nat × List Slot) := []
  /-- Place in the rotation of CRET kinds (R68), the acknowledgement and the running totals last sent. -/
  cretTurn : Nat := 0
  ackSent : Nat := 4095
  cretSent : Vector Nat 3 := Vector.replicate 3 0
  /-- The flit last laid into the stream; the bits of the stream not yet in a code word, and how many. -/
  last : Option Flit := none
  val : Nat := 0
  len : Nat := 0
  /-- The code word last sent (R44), code words since the last marker, AM_COUNT, and the AM_COUNT and EVENT of the last marker
  (R46). -/
  word : Option (BitVec 5440) := none
  cw : Nat := 0
  amCount : Nat := 0
  marker : Option (Nat × Nat) := none
  /-- The link state for which the transmitter sends, the STREAM_START marker it owes (R47), and the nanoseconds before it: the
  driver's start and the wake preamble (R60). -/
  phase : LinkState := .detect
  start : Bool := false
  hold : Nat := 0
  /-- The preamble before it is that of DEEP_SLEEP: TS_WAKE frames (R60). -/
  deepWake : Bool := false
  /-- Bits of lane time not yet used. -/
  budget : Nat := 0
  /-- TS frames sent since the bring-up state began (TS_COUNT), and the last TS block as lane 0 carries it (R34). -/
  frames : Nat := 0
  ts : Option Block := none
  /-- No SLEEP_REQ before this moment (R57); a WAKE_REQ has been sent for the present stall (R59). -/
  retryAt : Nat := 0
  wakeAsked : Bool := false
  /-- The next sequence number that has not been sent once (R73), and the flits sent again and the NAK slots sent that the scorecard
  has not counted yet (R97). -/
  fresh : Nat := 0
  again : Nat := 0
  naks : Nat := 0
deriving DecidableEq, Repr

/-- One Fledom port: registers (R438), bring-up, sleep and link layer. -/
structure Port where
  enable : Bool := true
  maxRate : Nat := 2
  sleepLight : Bool := true
  sleepDeep : Bool := true
  regNotify : Bool := true
  faultNotifyMin : Nat := 1
  laneFailThreshold : Nat := 1024
  uncorrRetrainLimit : Nat := 8
  replayTimeout : Nat := 2
  txLightIdle : Nat := 2000
  txDeepIdle : Nat := 200
  poolLimit : Nat := 1024
  domainMask : BitVec 64 := 1
  latTarget : Nat := 0
  minBw : Nat := 0
  realtime : Bool := false
  tc1Rate : Nat := 160
  tc1Burst : Nat := 4096
  /-- Content of the TC1 bucket in tenths of a byte, as it stood at a moment (R246). -/
  tc1Bucket : Nat := 0
  tc1At : Nat := 0
  link : LinkState := .detect
  retraining : Bool := false
  rate : Nat := 0
  /-- R38: bring-up stays at 56 Gb/s. -/
  fallback56 : Bool := false
  failedAttempts : Nat := 0
  /-- R39: the 10 ms hold in DETECT. -/
  holdoff : Bool := false
  portDownSent : Bool := false
  /-- Frames sent and block times received in the present bring-up state that count toward its exit (R35, R36), and the TS_COUNT of the
  block time last counted. -/
  doneSent : Nat := 0
  doneRecv : Nat := 0
  tsTime : Option Nat := none
  partnerGood : BitVec 17 := 0
  txMap : DirMap := {}
  rxMap : DirMap := {}
  reversed : Bool := false
  mapMatches : Nat := 0
  alignedMarkers : Nat := 0
  /-- Times of the retrains begun within the last second (R50). -/
  retrainTimes : List Nat := []
  /-- Code words received, and the numbers of the uncorrectable ones among the last 1,024 (R48). -/
  cwCount : Nat := 0
  uncorrAt : List Nat := []
  /-- A ROLE other than host was received in this SPEED; the rate this side has chosen in it, zero before (R36). -/
  badRole : Bool := false
  rateSel : Nat := 0
  /-- Lanes on which TS blocks were found within the last frame time, with the moment (R48). -/
  tsSeen : List (Nat × Nat) := []
  /-- The retrain in progress changed the spare use or narrowed the width (R50). -/
  mapChanged : Bool := false
  rx : Vector Lane 17 := Vector.replicate 17 {}
  tx : Vector Lane 17 := Vector.replicate 17 {}
  txSleep : SleepState := .active
  rxSleep : SleepState := .active
  /-- The target of a SLEEP_REQ that awaits its reply (R57). -/
  sleepReqOut : Option Nat := none
  /-- The minimum sleep of R59 runs; a wake decided during it waits. -/
  sleepMinimum : Bool := false
  wakeDecided : Bool := false
  /-- The wake preamble was sent and no acknowledgement of the first flit has come (R60). -/
  wakeUnacked : Bool := false
  /-- The receiver waits for STREAM_START after detecting signal (R61). -/
  awaitStart : Bool := false
  /-- TS_WAKE blocks seen in the preamble (R60). -/
  wakeBlocks : Nat := 0
  /-- Sleep messages queued for the partner: code and argument (R55), oldest first. -/
  sleepOut : List (Nat × Nat) := []
  /-- Flits sent since the last SKIP (R53). -/
  sinceSkip : Nat := 0
  /-- Bits of the flit stream not yet a whole flit, and how many (R44, R47). -/
  partialVal : Nat := 0
  partialLen : Nat := 0
  /-- Code words received since the last marker boundary (R46). -/
  rxCw : Nat := 0
  /-- Flits that the FEC has delivered and that are on their way to the elastic buffer. -/
  rxLine : List Flit := []
  /-- The elastic buffer (R54): it passes flits on once it has reached its target fill after STREAM_START. -/
  rxFlits : List Flit := []
  ebOn : Bool := false
  /-- What the transmitter lays on its lanes. -/
  line : TxLine := {}
  /-- Next sequence number expected (R72), and the NAK state. -/
  expSeq : Nat := 0
  nakOut : Bool := false
  /-- NAK slots queued for the next CTRL flit (R72). -/
  nakQueue : List Nat := []
  /-- Next sequence number to assign (R73), and the stored flits, oldest first. -/
  nextSeq : Nat := 0
  replay : List (Nat × List Slot) := []
  /-- Replays from the same oldest flit without progress (R75), and the last replay's first flit with its time (R73). -/
  replayRepeats : Nat := 0
  replayLast : Option (Nat × Nat) := none
  /-- INIT exchange of R71. -/
  initRecv : Bool := false
  initDoneRecv : Bool := false
  resumeSent : Bool := false
  /-- Credits by virtual channel (R76): the partner's advertisement, slots used, slots returned to us; slots the partner
  has sent and slots freed by us. -/
  adv : Vector Nat 3 := Vector.replicate 3 0
  used : Vector Nat 3 := Vector.replicate 3 0
  ret : Vector Nat 3 := Vector.replicate 3 0
  recvd : Vector Nat 3 := Vector.replicate 3 0
  freed : Vector Nat 3 := Vector.replicate 3 0
  /-- VC0 slots freed whose credit is held back under a throttle, and how many may be (R341). -/
  withheld : Nat := 0
  holdBack : Nat := 0
  /-- Slots of the packet being assembled (R69), header first. -/
  asm : List Slot := []
  /-- Whole packets in the receive buffers, oldest first. -/
  rxPkts : List (List Slot) := []
  waiting : List Waiting := []
  /-- The request being taken up was accepted over a lost link: its response is discarded (R51). -/
  mute : Bool := false
  /-- Responses on VC1 (R94), NOTIFY packets (R85) and management replies on VC2, oldest first. -/
  respQ : List OutPkt := []
  notifyQ : List OutPkt := []
  mgmtQ : List OutPkt := []
deriving DecidableEq, Repr

/-! ## Requests in flight -/

/-- What a request asks of each of its granules. -/
inductive Op where
  | read
  | write
  | masked (mask : BitVec 32)
  | atomic (aop : Nat) (w8 ret : Bool) (operand compare : BitVec 64)
  | doorbell (queue : Nat)
  | fence
  | verify
  /-- A TXN or locked-sequence packet at its coordinator. -/
  | coord
deriving DecidableEq, Repr

/-- Where a granule of a request stands on the path of R25. -/
inductive Phase where
  /-- At the page map, behind a chunk being copied (R112). -/
  | atMap
  /-- In its channel's input queue (R209). -/
  | queued
  /-- Accepted by the channel, result not yet known (R210). -/
  | accepted
  /-- Ended with `status`. -/
  | done
deriving DecidableEq, Repr

/-- One granule of a request. -/
structure Gran where
  g : Nat
  ppn : Nat := 0
  /-- Epoch carried from translation (R107), while counted. -/
  epoch : Option Bool := none
  mirrored : Bool := false
  phase : Phase := .queued
  status : Nat := 0
  data : GData := 0
  /-- What VERIFY found: KIND of R166, zero for nothing; in a mover's write, 3 for a granule to store as poison (R165). -/
  kind : Nat := 0
  /-- Accepted behind an atomic-unit entry whose value it takes (R133). -/
  viaAu : Bool := false
  /-- Accepted over accepted data: it takes no place in its bank's queue and no activate (R213). -/
  fwd : Bool := false
  /-- Held back in the crossbar: its requester's input queue is full (R209), or queue-level feedback withholds credit
  (R248). -/
  staged : Bool := false
  /-- The moment it entered its channel's input queue (R212, R241). -/
  entered : Nat := 0
  /-- What accepted data gave a granule with `fwd`, as it stood when the granule was accepted (R148). -/
  fwdValue : BitVec 320 := 0
deriving DecidableEq, Repr

/-- Who issued a request (R26, R92): a port, or a mover for one of its elements. -/
inductive Src where
  | port (p : Fin 4)
  | mover (m : Fin 16) (elem : Nat)
deriving DecidableEq, Repr

/-- A request tracker entry (R92). -/
structure Trk where
  id : Nat
  src : Src
  opcode : Nat
  op : Op
  tag : Nat
  domain : Nat
  addr : Nat
  tc1 : Bool
  /-- Marked capped-in under R246: priority 8. -/
  marked : Bool
  cmpl : Bool
  /-- RELEASE, with the identifiers of the requests it waits for (R143). -/
  release : Option (List Nat)
  /-- The link was lost: the response is discarded (R51). -/
  orphan : Bool := false
  /-- It has ended; its response waits for room in the response buffer (R94). -/
  ended : Bool := false
  grans : List Gran
  since : Nat
  /-- It has met stored poison, which counts once for a request (R151). -/
  metPoison : Bool := false
  /-- A mover's read of a packed side that it will write, or of a ring slot, which is write-type at the page map (R103). -/
  writeType : Bool := false
deriving DecidableEq, Repr

/-! ## Page map, mirrors, bench and copiers -/

/-- The STATE of a page-map entry (R98). -/
inductive PmState where
  | normal | migrating | lost | unmapped
deriving DecidableEq, Repr

/-- A page-map entry (R98). -/
structure PmEntry where
  ppn : Nat
  domain : Nat
  mirrored : Bool
  shared : Bool
  state : PmState
deriving DecidableEq, Repr

/-- The uses of a physical page (R101). -/
inductive Use where
  | mapped | target | mirror | bench | clearing | unused | retired
deriving DecidableEq, Repr

/-- What every entry held when the map was last initialised: the sparse lists hold what differs from it. -/
inductive Layout where
  /-- Every entry UNMAPPED, every page CLEARING (before initialisation, and under INIT_LAYOUT IMAGE, R412). -/
  | blank
  /-- The default layout of R23. -/
  | default
  /-- A supplied layout (R415): every entry UNMAPPED; the user slices CLEARING, or UNUSED once a full fill has zeroed them,
  and the spare slices BENCH. -/
  | image (filled : Bool)
deriving DecidableEq, Repr

/-- A mirror-table entry (R116) with its pending shadow writes (R118): granule, value and, for a mover's write, its queue and
the descriptors that queue had completed (R176), in order. -/
structure Mirror where
  secPpn : Nat
  hpn : Nat
  synced : Bool
  pending : List (Nat × BitVec 320 × Option (Nat × Nat)) := []
deriving DecidableEq, Repr

/-- Why a copier copies a page (R110, R125, R126, R290). -/
inductive CopyKind where
  | migrate (queued : Bool)
  | mirrorCopy
  | substitution
  | substMirror
  | single
  /-- Zeros for a page that then is UNUSED, or BENCH when it was a mirror's secondary (R102, R117). -/
  | clearing (toBench : Bool)
deriving DecidableEq, Repr

/-- A piece of copier work (R126): host page when there is one, source and destination. `cmd` names the parked command. -/
structure CopyJob where
  kind : CopyKind
  hpn : Nat
  src : Nat
  dst : Nat
  /-- The OP_ID of the command that waits for it, zero for none. -/
  op : Nat := 0
  /-- The command whose reply leaves at the end: transport, TAG, opcode, SEQ. -/
  reply : Option (Via × Nat × Nat × Nat) := none
  /-- A clearing that a waiting MAP, REMAP or MIGRATE names (R126). -/
  named : Bool := false
deriving DecidableEq, Repr

/-- A copier with its job, cursor and busy chunk (R110, R113). -/
structure Copier where
  job : Option CopyJob := none
  cursor : Nat := 0
  busy : Option Nat := none
  /-- A hold was found on the chunk; the copier tries again in 1 microsecond. -/
  retry : Bool := false
  /-- The moment the chunk became busy, and how many of its 64 source reads and 64 destination writes the channels have
  accepted (R25, R111). -/
  since : Nat := 0
  reads : Nat := 0
  writes : Nat := 0
  /-- The rate it takes its chunk at, in steps of 4 GB/s: GLOBAL.COPIER_BW as it stood at the copier's last chunk boundary
  (R111). -/
  bw : Nat := 4
  /-- Source granules whose read a channel has accepted and not yet returned, oldest first, each with whether accepted data serves
  it (R210, R213). -/
  out : List (Nat × Bool) := []
  /-- Granules read and not yet written: the stored value for the destination (R114). -/
  buf : List (BitVec 320) := []
deriving DecidableEq, Repr

/-- A PAGEMAP_UPDATE, MIRROR_SET disable, BENCH_DONATE or dropped mirror in its drain phase (R107). -/
structure Drain where
  epoch : Bool
  /-- Old physical pages that left MAPPED or MIRROR, with what becomes of each. -/
  oldPages : List (Nat × Use)
  /-- Old mirror secondaries, which return to the bench once cleared (R117). -/
  secondaries : List Nat
  /-- Host pages the command names. -/
  hpns : List Nat
  /-- The command's reply, when it leaves at the drain's end: transport, TAG, opcode, SEQ. -/
  reply : Option (Via × Nat × Nat × Nat)
  payload : List Byte
  since : Nat
  /-- The drain phase has ended: the hold wait and the wait for shadow writes remain (R107, R108). -/
  drained : Bool := false
deriving DecidableEq, Repr

/-- The page map with its tables (R98 to R128). -/
structure PageMap where
  layout : Layout := .blank
  /-- Working copy: entries that differ from the layout. -/
  entries : List (Nat × PmEntry) := []
  /-- Restore copy (R100): layout and entries. -/
  restoreLayout : Layout := .blank
  restore : List (Nat × PmEntry) := []
  /-- Physical page table: uses that differ from the layout's. -/
  uses : List (Nat × Use) := []
  /-- Mirror table, by index. -/
  mirrors : List (Nat × Mirror) := []
  /-- Restore copies of the physical page table and of the mirror table (R100); the latter without pending shadow writes. -/
  restoreUses : List (Nat × Use) := []
  restoreMirrors : List (Nat × Mirror) := []
  /-- Mirrors whose entry is removed and whose shadow writes are still to complete before the secondary is cleared (R117). -/
  leaving : List Mirror := []
  epoch : Vector Bool 4 := Vector.replicate 4 false
  drains : Vector (List Drain) 4 := Vector.replicate 4 []
  /-- Commands that wait for a CLEARING page or for a quarter's drain (R106, R107), oldest first. -/
  waits : List Instr := []
  copiers : Vector Copier 4 := Vector.replicate 4 {}
  /-- The slice being vacated, with its next page to look at and its pages RETIRED, and the slices that wait (R125, R126). -/
  substSlice : Option Nat := none
  /-- The spare slice that the substitution in progress claims and takes its pages from (Table 7 of R270). -/
  substSpare : Option Nat := none
  substNext : Nat := 0
  substDone : Nat := 0
  substQueue : List Nat := []
  /-- Migrations, mirror copies, single substitutions and clearings in arrival order. -/
  jobs : List CopyJob := []
  initBadHpn : Nat := 0
  initDisplaced : Nat := 0
  initResult : Nat := 0
deriving DecidableEq, Repr

/-! ## Channels -/

/-- Who holds a granule (R186). -/
inductive HoldState where
  | acquired | prepared | committed | orderMarker
deriving DecidableEq, Repr

/-- A hold-table entry (R186). -/
structure Hold where
  gran : Nat
  /-- Transaction or sequence identifier. -/
  id : Nat
  isSeq : Bool
  port : Fin 4
  domain : Nat
  age : Nat
  stage : Option GData
  state : HoldState
deriving DecidableEq, Repr

/-- A hold request that waits at its channel (R188). -/
structure HoldWait where
  gran : Nat
  id : Nat
  since : Nat
deriving DecidableEq, Repr

/-- An operation applied by the atomic unit: tracker entry and granule index. -/
structure AuOp where
  id : Nat
  idx : Nat
deriving DecidableEq, Repr

/-- An atomic-unit entry (R220): the value once decoded, and the operations that wait for it. -/
structure AuEntry where
  gran : Nat
  value : Option GData
  waiting : List AuOp
  /-- A full write was accepted after it (R220): its value is not written back. -/
  replaced : Bool := false
deriving DecidableEq, Repr

/-- A row-disturb table of one bank (R229, R230): (row, counter) by entry, pending rows with the counter at trigger and
whether due at the must level. -/
structure Disturb where
  table : List (Nat × Nat) := []
  pending : List (Nat × Nat × Bool) := []
deriving DecidableEq, Repr

/-- One bank of one slice: refresh debt, row pointer, row disturbance, open row, spare rows (R222 to R234). -/
structure Bank where
  debt : Int := 0
  pointer : Nat := 0
  disturb : Disturb := {}
  openRow : Option Nat := none
  repaired : List Nat := []
  /-- The end of the last refresh or targeted refresh, which blocks the bank (R211). -/
  busyUntil : Nat := 0
  /-- The rotation has visited the bank while accepted granules were unfinished: it is blocked, and its REFpb follows them
  (R225). -/
  visitDue : Bool := false
  /-- The end of the last refresh with which the deadline guard blocked the bank (R241). -/
  guardEnd : Nat := 0
  /-- The bank's calibration row, outside its user and spare rows, holds the PRBS7 pattern (R315). -/
  calRow : Bool := false
deriving DecidableEq, Repr

/-- An operation whose commands a channel has issued to a slice (R235, R236): an access of a granule under its activate, a refresh of a
bank, of a whole slice, or a targeted refresh of a bank. -/
inductive CaOp where
  | access (key : Nat)
  | refresh (bank : Nat)
  | refreshAll (rank : Nat)
  | targeted (bank : Nat)
deriving DecidableEq, Repr

/-- The calibration probes of a rank's unit (R314): the LAYER_CAL that they serve, the burst slots that they have had, and the moment
since which the next one waits (R212). -/
structure ProbeRun where
  act : Nat := 0
  slots : Nat := 0
  since : Nat := 0
deriving DecidableEq, Repr

/-- Regulation of one master at one channel (R241 to R244). -/
structure Master where
  /-- The smoothed latency L in units of 1/65,536 ns. -/
  lat : Nat := 0
  boost : Nat := 0
  fallback : Bool := true
  /-- Fallback was entered by saturation. -/
  bySaturation : Bool := false
  sat : Nat := 0
  calm : Nat := 0
  /-- Tokens in units of 1/65,536, as they stood at a moment (R244). -/
  bucket : Nat := 0
  bucketAt : Nat := 0
  accepted : Nat := 0
  overShare : Bool := false
  withheld : Bool := false
deriving DecidableEq, Repr

/-- A calibration unit in progress (R316 to R319): the centres to reach, by lane (pc × 64 + lane). -/
structure CalUnit where
  rank : Nat
  targets : List (Nat × Nat)
  activity : Nat
  /-- The layer's effective temperature at the end of gathering (R319). -/
  temp : Int := 0
deriving DecidableEq, Repr

/-- One channel controller. -/
structure Chan where
  enable : Bool := false
  adaptive : Bool := false
  trrDefer : Bool := true
  dlyApplyIdle : Bool := false
  openPageTimeout : Nat := 60
  fairN : Nat := 8
  fairNPending : Option Nat := none
  actAlert : Nat := 2048
  actMust : Nat := 4096
  rowCeLimit : Nat := 8
  dlySel : BitVec 12 := 0
  fwSel : BitVec 12 := 0
  srrRank : Nat := 0
  srrPc : Nat := 0
  srrBank : Nat := 0
  srrRow : Nat := 0
  srrStatus : Nat := 0
  /-- The moment the repair began, and how many of its 32 reads and 32 writes have been accepted (R234). -/
  srrSince : Nat := 0
  srrAccesses : Nat := 0
  /-- Granules of the row whose read has been accepted and not yet returned, and those read and not yet written (R234). -/
  srrOut : List Nat := []
  srrBuf : List (BitVec 320) := []
  /-- Rows that firmware is still to repair, each by one of its granules (R283). -/
  srrWaits : List Nat := []
  sliceDrain : BitVec 5 := 0
  sliceOut : BitVec 5 := 0
  sliceFailed : BitVec 5 := 0
  hotSlices : BitVec 5 := 0
  caOut : Bool := false
  bistStatus : Nat := 0
  sparesFree : Nat := 4
  throttleFactor : Nat := 256
  spareMap : BitVec 32 := 0
  withdrawn : BitVec 4 := 0
  /-- Bonds that failed the reduced-drive test (R329), as (column, layer): CH.TSV_MARGINAL shows the columns. -/
  marginal : List (Nat × Nat) := []
  calRejectRun : Vector Nat 5 := Vector.replicate 5 0
  calBeat : Vector (BitVec 64) 5 := Vector.replicate 5 0
  masters : Vector Master 5 := Vector.replicate 5 {}
  /-- Write buffer, oldest first: granule and stored value (R210). -/
  wbuf : List (Nat × BitVec 320) := []
  au : List AuEntry := []
  holds : List Hold := []
  holdWaits : List HoldWait := []
  /-- Arbiter (R218): requester 0 to 6, its priority, slots left, and the fair count. -/
  arbHolder : Option (Fin 7) := none
  arbPrio : Nat := 0
  arbLeft : Nat := 0
  arbCount : Nat := 0
  /-- The last moment at which an input queue was not empty (R211). -/
  lastBusy : Nat := 0
  /-- Banks by rank × 32 + bank × 2 + pc, only those that differ from the reset bank. -/
  banks : List (Nat × Bank) := []
  /-- Rotation position of each slice's next visit (R225): the first after the timebase starts is 1 (R467). -/
  rotation : Vector Nat 5 := Vector.replicate 5 1
  /-- Row-error tracker (R283), by entry number: row key and count. -/
  rowErrs : List (Option (Nat × Nat)) := []
  /-- Granules found uncorrectable and not written whole since, so that only the first detection is reported (R145, R283). -/
  ueFound : List Nat := []
  /-- Parity repeats of the same command per slice, and ranks with a parity error in the last millisecond. -/
  caRepeats : Vector Nat 5 := Vector.replicate 5 0
  caRecent : List (Nat × Nat) := []
  /-- The operations whose commands were issued last, newest last, and the sequence number of the next command of each
  pseudo-channel (R235). One number stands for the commands of one operation (DESIGN CHOICE, log 80). -/
  caIssued : List (Nat × CaOp) := []
  caSeq : Vector (BitVec 4) 2 := Vector.replicate 2 0
  /-- A slice's layer ignores commands until ERR_CLEAR: the sequence number of the failed one (R235). -/
  caIgnores : Vector (Option (BitVec 4)) 5 := Vector.replicate 5 none
  /-- A value whose address could not be recovered was lost: the channel goes out of service at the next warm reset (R292). -/
  outAtReset : Bool := false
  /-- Delay lanes: taps in force and pending, by layer × 128 + pc × 64 + lane; reset value 64. -/
  taps : List (Nat × Nat) := []
  tapsPending : List (Nat × Nat) := []
  cal : List CalUnit := []
  /-- A changeover window blocks or runs at this channel (R266): block moment. -/
  windowBlocked : Option Nat := none
  windowRuns : Bool := false
  /-- The latest moment at which the work of the open window may end (R266), and the moment until which an item of Table 4 of
  chapter 10 blocks a bank or slice for it (R268). -/
  windowUntil : Nat := 0
  windowBusy : Nat := 0
  /-- The end of the last window or block, and of the last drain of a slice: latency samples that overlap one are not used
  (R241, R310). -/
  windowEnd : Nat := 0
  drainEnd : Nat := 0
  /-- The probes of a rank's unit write and read pattern traffic (R315). -/
  calPattern : BitVec 5 := 0
  /-- The calibration probes of the ranks' units (R314). -/
  probes : Vector ProbeRun 5 := Vector.replicate 5 {}
  /-- What the last floor recomputation used of this channel (R250, R254): active, hot rate, refresh mode, throttle factor. -/
  flActive : Bool := false
  flHot : Bool := false
  flMode : Bool := false
  flFactor : Nat := 256
  refreshMode : Bool := false
deriving DecidableEq, Repr

/-! ## Movers and queues -/

/-- A queue context (R153). -/
structure Queue where
  head : Nat := 0
  dbPending : Bool := false
  /-- 0 DISABLED, 1 IDLE, 2 RUNNING, 3 PARKED. -/
  state : Nat := 0
  headDone : Bool := false
  ringWait : Bool := false
  slotFree : Bool := false
  domain : Nat := 0
  notifyPort : Fin 4 := 0
  notifyMode : Nat := 0
  priority : Nat := 0
  ringBase : Nat := 0
  ringLog2 : Nat := 0
  ringProduced : Nat := 0
  resume : Nat := 0
  descCompleted : Nat := 0
deriving DecidableEq, Repr

/-- What a mover waits for next in run (R171). -/
inductive MoverPhase where
  | free
  | tail
  | slot
  | fetch
  /-- The fetch or tail check failed with this status. -/
  | fetchFail (status : Nat)
  | running
  /-- The descriptor has ended; its record is to be written: END_CAUSE and STATUS. -/
  | record (cause status : Nat)
deriving DecidableEq, Repr

/-- An element access in flight or waiting for its retry (R163, R164). -/
structure Elem where
  k : Nat
  retries : Nat := 0
  waiting : Bool := false
  /-- Its tracker entry while an access is in flight, or the status with which it ended without one. -/
  trk : Option Nat := none
  ended : Option Nat := none
  /-- Its address and the data that goes there: SCATTER's packed bytes, SCATTER_UPDATE's operand, or what COPY has read. -/
  addr : Nat := 0
  packed : Nat := 0
  packedPoison : Bool := false
  /-- A COPY element that has been read and is written to its destination. -/
  writing : Bool := false
  /-- Its granules that have returned: MAX_INFLIGHT may let an element be issued in parts (R163). -/
  got : List Gran := []
deriving DecidableEq, Repr

/-- One data mover. -/
structure Mover where
  enable : Bool := true
  faulted : Bool := false
  maxInflight : Nat := 128
  curQueue : Option Nat := none
  phase : MoverPhase := .free
  /-- Descriptor in progress (R157). -/
  desc : BitVec 512 := 0
  nextElem : Nat := 0
  inflight : List Elem := []
  countA : Nat := 0
  countB : Nat := 0
  countC : Nat := 0
  /-- Lowest failing element with its status. -/
  lowFail : Option (Nat × Nat) := none
  reports : Nat := 0
  /-- Report entries not yet written: their numbers and values (R166). -/
  reportsDue : List (Nat × Nat) := []
  /-- An access that is no element's has failed (R171). -/
  bulkFailed : Bool := false
  denied : Bool := false
  /-- Blocks of the index table and of the packed side that have reached the mover, by element number (R162, R181). -/
  blocks : List (Nat × List Gran) := []
  /-- Retries of the destination write in progress, and whether it waits for its next (R164). -/
  destRetries : Nat := 0
  destWaits : Bool := false
  /-- The first access that could not be issued holds the later ones back (R92, R248), and since when it lacks a tracker
  entry. -/
  stalled : Bool := false
  allocSince : Option Nat := none
  /-- What the check bits of the entry that its next translation reads show (R99): 0 nothing, 1 a correction, 2 a repair from
  the restore copy, 3 an error in both copies. -/
  entryEcc : Nat := 0
  /-- Elements returned whose destination granule or packet is not yet complete: element, status, data, and whether
  poison was met at its target (R165). -/
  results : List (Nat × Nat × Nat × Bool) := []
  /-- Destination granules or stream packets of this run that are done (R165, R167). -/
  streamSent : Nat := 0
  /-- STREAM_PORT lost its link (R168). -/
  streamLost : Bool := false
  /-- Why the descriptor must stop (R173): the queue state afterwards, and DB_PENDING. -/
  stop : Option (Nat × Bool) := none
  stopReply : Option (Via × Nat × Nat × Nat) := none
deriving DecidableEq, Repr

/-! ## Transactions -/

/-- One transaction action (R82, R183). -/
structure Action where
  act : Nat
  gran : Bool
  addr : Nat
  operand : BitVec 64
  value : GData
deriving DecidableEq, Repr

/-- Where one hold of an attempt stands, seen from the coordinator and the crossbar (R190, R468). -/
inductive KeyState where
  | idle
  /-- The request travels to the channel or waits there. -/
  | requested
  /-- Granted at the channel, the grant travels. -/
  | grantSent
  | granted
  | refused
  | prepareSent
  | prepared
  | answered
  | wounded
  | committing
  | released
deriving DecidableEq, Repr

/-- Where the access of a transaction's granule stands in its channel's TXN input queue (R209). -/
inductive KeyAccess where
  | idle
  /-- The read of the old value waits since this moment. -/
  | readQueued (since : Nat)
  /-- The read is accepted; from accepted data (R213), or not. -/
  | readAccepted (fwd : Bool)
  /-- The write of a COMMITTED hold waits for acceptance (R186). -/
  | writeQueued (since : Nat)
deriving DecidableEq, Repr

/-- One granule of a transaction: its physical granule, its state, the decoded old value, and its final value. -/
structure Key where
  gran : Nat
  reads : Bool
  writes : Bool
  state : KeyState
  old : Option (Option GData)
  new : Option GData
  hpn : Nat
  /-- It waits at the page map behind a chunk being copied (R112); a release of its hold travels to the channel. -/
  atMap : Bool := false
  rel : Bool := false
  access : KeyAccess := .idle
  /-- It holds a tracker entry (R92), and the moment since which it asks for one. -/
  tracked : Bool := false
  since : Nat := 0
  /-- The moment at which its access entered a full TXN input queue (R209, R212); one issued later found room at once. -/
  entered : Nat := 0
deriving DecidableEq, Repr

/-- The stage of txn_run (R190). -/
inductive TxnPhase where
  | acquiring | preparing | logWait | committing | ending
deriving DecidableEq, Repr

/-- A transaction or a stage of a locked sequence in progress at a coordinator. -/
structure Txn where
  id : Nat
  port : Fin 4
  domain : Nat
  trk : Nat
  age : Nat
  /-- The sequence it is a stage of. -/
  lsid : Option Nat
  /-- The quarters' epochs at its translation (R107). -/
  epoch : Vector Bool 4
  actions : List Action
  ordered : Bool
  retries : Nat
  wounded : Bool
  phase : TxnPhase
  keys : List Key
deriving DecidableEq, Repr

/-- The states of a locked sequence (R194). -/
inductive SeqState where
  | openSeq | doomed | committing
deriving DecidableEq, Repr

/-- A locked-sequence context (R194 to R200). -/
structure LSeq where
  id : Nat
  port : Fin 4
  lsid : Nat
  domain : Nat
  lease : Nat
  state : SeqState
  actions : Nat
  /-- Packets that wait for the previous one (R194): opcode, header, tracker entry. -/
  waiting : List (Nat × ReqHdr × Nat) := []
deriving DecidableEq, Repr

/-- A commit record (R191). -/
structure CommitRec where
  id : Nat
  writes : List (Nat × GData)
deriving DecidableEq, Repr

/-- One transaction coordinator. -/
structure Coord where
  txns : List Txn := []
  seqs : List LSeq := []
  log : List CommitRec := []
deriving DecidableEq, Repr

/-- The registers of a REGION (R440). -/
structure Region where
  arbBase : BitVec 10 := 0x1AA
  arbBasePending : Option (BitVec 10) := none
  qlHigh : Nat := 552
  qlLow : Nat := 368
  clkPhaseBeat : BitVec 64 := 0
  coord : Coord := {}
  /-- Ready queues in the order in which they became ready, each with the PRIORITY it had then (R155, R170). -/
  ready : List (Nat × Nat) := []
deriving DecidableEq, Repr

/-! ## Umpire -/

/-- An umpire log entry (R299). -/
structure LogEntry where
  seq : Nat
  code : Nat
  cls : Nat
  origCls : Nat
  raiseCause : Nat
  scopeType : Nat
  ackRequired : Bool
  acked : Bool
  ackSource : Nat
  scopeIndex : Nat
  beat : BitVec 64
  detail : BitVec 64
  count : Nat
  raisedBy : Nat
  lastDelta : Nat
  /-- The model's own: time of the entry, for the 1 ms merge of request events (R294). -/
  at_ : Nat
  /-- The shot clock runs (R296): its set time in ms. -/
  clock : Option Nat
deriving DecidableEq, Repr

/-- The umpire (R284 to R302). -/
structure Umpire where
  nextSeq : Nat := 1
  shotClock2 : Nat := 100
  shotClock3 : Nat := 1000
  alertMin : Nat := 1
  benchLow : Nat := 16384
  /-- The log, oldest first, at most 64 entries. -/
  log : List LogEntry := []
  overflow : Option LogEntry := none
  /-- A class-4 fault since the last warm reset; a class-5 fault since power-on (R286). -/
  class4 : Bool := false
  class5 : Bool := false
  alertN : Bool := true
deriving DecidableEq, Repr

/-! ## Beat -/

/-- Beat-capture states (R257). -/
inductive BeatState where
  | acquiring | locked | freeRun | markWait
deriving DecidableEq, Repr

/-- A pending BEAT_SET_NUMBER load (R260). -/
structure BeatLoad where
  /-- `none`: NEXT; `some n`: AT the mark numbered n. -/
  at_ : Option (BitVec 64)
  number : BitVec 64
  via : Via
  tag : Nat
  seq : Nat
  /-- When it was accepted, in ns. -/
  since : Nat := 0
deriving DecidableEq, Repr

/-- A changeover set (R264). -/
structure CoSet where
  enable : Bool := true
  period : Nat := 32
  phase : Nat := 0
  limit : Nat := 10
deriving DecidableEq, Repr

/-- The beat capture and the changeover settings (R256 to R268). -/
structure Beat where
  state : BeatState := .acquiring
  /-- The state MARK_WAIT came from. -/
  waitFrom : BeatState := .acquiring
  number : BitVec 64 := 0
  /-- P in 0.1 ns; zero before the first lock. -/
  period : Nat := 0
  freerunNs : Nat := 1000
  uncertain : Bool := false
  /-- The last intervals in 0.1 ns, newest first, at most 8. -/
  intervals : List Nat := []
  /-- Consecutive intervals outside ±1 % of P. -/
  bad : Nat := 0
  load : Option BeatLoad := none
  co : CoSet := {}
  coPending : Option CoSet := none
  refreshMode : Bool := false
  /-- The number in force at the last valid edge (R263). -/
  edgeNumber : BitVec 64 := 0
  /-- Beats that the internal beat has counted since the last valid edge (R263). -/
  sinceEdge : Nat := 0
  /-- Beats counted since the last window's beat (R265). -/
  sinceWindow : Nat := 2
  /-- Beat number of the last window, and whether a window's block awaits its beat. -/
  lastWindow : Option (BitVec 64) := none
  windowOpen : Bool := false
  lockReported : Bool := false
  snapshotBeat : BitVec 64 := 0
deriving DecidableEq, Repr

/-! ## Housekeeping, power and start -/

/-- Housekeeping (R334 to R346): readings in 0.1 °C, `none` invalid. -/
structure Therm where
  sensors : Vector (Option Int) 42 := Vector.replicate 42 none
  /-- Sensors already reported invalid. -/
  reported : List Nat := []
  eff : Vector (Option Int) 18 := Vector.replicate 18 none
  own : Vector (Option Int) 18 := Vector.replicate 18 none
  /-- The base die's effective temperature of the previous round (R337). -/
  basePrev : Option Int := none
  prevIn : Vector Int 19 := Vector.replicate 19 0
  implausible : BitVec 17 := 0
  /-- P_L in 10 mW of layers 1 to 17. -/
  power : Vector Nat 17 := Vector.replicate 17 0
  powerEst : Nat := 0
  powerLimit : Nat := 750
  /-- Warning, throttle, shutdown of the base die, then of the core dies, in °C. -/
  levels : Vector Nat 6 := #v[100, 105, 115, 88, 95, 105]
  warn : BitVec 18 := 0
  steps : Vector Nat 19 := Vector.replicate 19 0
  creditAllow : Nat := 4096
  vmon : Vector Nat 22 := Vector.replicate 22 0
  vOut : Vector Nat 22 := Vector.replicate 22 0
  /-- Activates of the round by layer (R336). -/
  acts : Vector Nat 18 := Vector.replicate 18 0
  /-- The round's activity counts of the crossbar, the atomic units and the movers (R342). -/
  xbarActs : Nat := 0
  atomicActs : Nat := 0
  moverActs : Nat := 0
  shutdown : Bool := false
  thermtripN : Bool := true
  /-- Times of the last shutdowns, newest first; a refused restart. -/
  shutdownTimes : List Nat := []
  restartRefused : Bool := false
  /-- Rounds in a row with every monitor in range (R414). -/
  vGood : Nat := 0
deriving DecidableEq, Repr

/-- How far a start has come (R409, R421). -/
inductive Stage where
  /-- Rails out of range. -/
  | off
  /-- Rails in range, RESET_N asserted since power-on. -/
  | inReset
  /-- HOLD (R414), with GLOBAL.HOLD_REASON. -/
  | hold
  /-- The boot ROM accepts boot blocks (step 8). -/
  | boot
  /-- Firmware runs; fill, erase or warm-reset steps run before data-ready. -/
  | starting
  /-- Warm reset held at step 5 by RESET_N. -/
  | heldReset
  /-- Data-ready. -/
  | ready
  /-- Thermal shutdown (R343). -/
  | shutdown
  /-- Step 6 of a power-up: the erase sequencer runs before the ports train (R377, R379). -/
  | erasing
  /-- SCRAPPED: only IDENTIFY and GET_STATUS (R379). -/
  | scrapped
deriving DecidableEq, Repr

/-- Power, clocks and start (R406 to R427, R347). -/
structure Power where
  stage : Stage := .off
  everReady : Bool := false
  addrSel : Fin 4 := 0
  resetN : Bool := false
  refclk : Bool := true
  pllHold : Bool := false
  holdReason : Nat := 0
  /-- The stage that HOLD for a rail interrupted (R414). -/
  holdStage : Stage := .off
  resetCause : Nat := 0
  bootSource : Nat := 7
  dataReadyUs : Nat := 0
  fwActivateFailed : Bool := false
  lastResetBeat : BitVec 64 := 0
  layers : Vector Nat 17 := Vector.replicate 17 0
  layerCalTemp : Vector Int 17 := Vector.replicate 17 0
  srRequest : Bool := false
  selfRefresh : Bool := false
  changeoversRun : Bool := false
  /-- Ranks in self-refresh under class 4 or a reset. -/
  ranksAsleep : Bool := false
  configReject : Bool := false
  configRejectAddr : Nat := 0
  enginePoolLimit : Nat := 1024
  holdWaitLimit : Nat := 2000
  /-- GLOBAL.COPIER_BW as written; each copier takes it at its own next chunk boundary (R111, `Copier.bw`). -/
  copierBw : Nat := 4
  compareOnRead : Bool := false
  maintReserve : Nat := 40
  moversLatTarget : Nat := 0
  moversMinBw : Nat := 0
  regFloor : Nat := 0
  regScale : Nat := 65536
  /-- GUARANTEE_SCALED merging (R254): the 100 microsecond timer runs, a change awaits it, causes collected. -/
  regTimer : Bool := false
  regChanged : Bool := false
  regCauses : Nat := 0
  /-- The maintenance reserve of the last recomputation. -/
  flReserve : Nat := 40
  calDeltaT : Nat := 4
  repairOtpLeft : Nat := 48
  /-- A warm reset waits for boot blocks, or in HOLD for REFCLK: it goes on with the restore copy (R421, R423). -/
  warmStart : Bool := false
  /-- Events that are logged once firmware runs (R303, R321, R344): code, scope type, scope index, DETAIL. -/
  deferred : List (Nat × Nat × Nat × Nat) := []
deriving DecidableEq, Repr

/-! ## Life cycle, firmware, attestation -/

/-- The condition of an identity slot (R357). -/
inductive IdSlot where
  | empty | generated | certified | destroyed
deriving DecidableEq, Repr

/-- An identity slot in OTP (R357): whether it holds a key, the bits of the wrapped key (their number is a DESIGN CHOICE, log 75), the
certificates in its certificate area, and the DESTROYED fuse; with it the public key that belongs to the key, which the engine can
compute from it. -/
structure SlotFuses where
  keyed : Bool := false
  wrapped : BitVec 512 := 0
  publicKey : BitVec 776 := 0
  certs : Option (List Byte × List Byte) := none
  destroyed : Bool := false
deriving DecidableEq, Repr

/-- A firmware image as loaded: its bytes (R367), and what the cryptographic checks of it found (R368). -/
structure Firmware where
  bytes : List Byte
  found : Image
deriving DecidableEq, Repr

/-- An owner slot of a FIELD period (R361). -/
structure OwnerSlot where
  digest : BitVec 384
  countersign : Bool
  killed : Bool
deriving DecidableEq, Repr

/-- A repair-record copy (R303): generation, repairs as (unit, repair), and CRC-32C over both, which fits the empty record at first
(log 77). -/
structure RepairCopy where
  generation : BitVec 16 := 0
  repairs : List (Nat × Nat) := []
  crc : BitVec 32 := 0xF16177D2
deriving DecidableEq, Repr

/-- An SPDM connection (R371, R373): what is negotiated, whether a request is in progress (never, since an answer leaves in the step
of its request, log 15), and the transcript: the requests and responses since GET_VERSION, and those of GET_MEASUREMENTS since the
last other request, as (code, value). -/
structure Spdm where
  version : Bool := false
  capabilities : Bool := false
  algorithms : Bool := false
  busy : Bool := false
  transcript : List (Nat × Nat) := []
  measured : List (Nat × Nat) := []
deriving DecidableEq, Repr

/-- One-time-programmable memory and the security state (R352 to R382). -/
structure Life where
  /-- The two copies of the thermometer, the SCRAPPED pair (R354), and the Kamond root key's digest in the boot ROM (R356). -/
  thermA : BitVec 24 := 0
  thermB : BitVec 24 := 0
  scrapA : Bool := false
  scrapB : Bool := false
  rootDigest : BitVec 384 := 0
  recovered : Bool := false
  corrupt : Bool := false
  slots : Vector SlotFuses 12 := Vector.replicate 12 {}
  slotInUse : Option (Fin 12) := none
  owners : List OwnerSlot := []
  svnFused : Nat := 0
  serial : BitVec 64 := 0
  repairA : RepairCopy := {}
  repairB : RepairCopy := {}
  eraseLatch : Bool := false
  keygenClosed : Bool := false
  eraseGranules : Nat := 0
  /-- A SERVICE entry or a scrapping is running (R374, R379): the target state. -/
  transition : Option Nat := none
  transitionOp : Nat := 0
  zeroizing : Bool := false
  zeroizeOp : Nat := 0
  /-- The signing engine's key register: the slot whose key it holds (R358); NONCE, and the state of the DRBG (R363, R374). -/
  keyReg : Option (Fin 12) := none
  nonce : BitVec 256 := 0
  drbg : BitVec 384 := 0
  authRun : Nat := 0
  lockout : Bool := false
  ownerPort : Option (Fin 4) := none
  /-- Firmware: whether it runs, the image that runs, and the image in the retained store (R413). -/
  fwRunning : Bool := false
  running : Option Firmware := none
  image : Option Firmware := none
  spdmInband : Spdm := {}
  spdmI3c : Spdm := {}
deriving DecidableEq, Repr

/-! ## Management -/

/-- A reply (R389): transport, TAG, opcode, SEQ, STATUS, FRAG_ACK, FRAG, OP_ID, payload bytes. -/
structure Reply where
  via : Via
  tag : Nat
  opcode : Nat
  seq : Nat
  status : Nat
  fragAck : Bool := false
  frag : Nat := 0
  opId : Nat := 0
  payload : List Byte := []
deriving DecidableEq, Repr

/-- An operation of R395. -/
structure Operation where
  id : Nat
  opcode : Nat
  /-- 0 waiting, 1 running, 2 done, 3 DISCARDED. -/
  state : Nat
  final : Nat
deriving DecidableEq, Repr

/-- A fragment assembly (R388). -/
structure Assembly where
  opcode : Nat
  seq : Nat
  bodyLen : Nat
  paramLen : Nat
  signed : Bool
  next : Nat
  got : Nat
deriving DecidableEq, Repr

/-- A maintenance activity (R270 to R274). -/
structure Activity where
  id : Nat
  /-- 1 SUBSTITUTION to 10 IST_TSV, in the order of Table 7 of chapter 10. -/
  kind : Nat
  targetType : Nat
  target : Nat
  /-- 0 waiting, 1 running, 2 done, 3 aborted, 4 preempted. -/
  state : Nat
  result : BitVec 32
  beat : Nat
  byFirmware : Bool
  /-- The moment at which it was asked for, and later that at which it took its claim. -/
  at_ : Nat := 0
  /-- The layer's temperature at the end of gathering of the unit of a LAYER_CAL that completed last (R319). -/
  temp : Option Int := none
  /-- The failing rows that a BIST counted, by slice and bank (R331). -/
  rows : List (Nat × Nat × Nat) := []
deriving DecidableEq, Repr

/-- In-service test of one target (R275 to R277): the next scheduled unit; when each unit not yet done came due, in ns, the oldest first;
and the units brought forward (R318). Of the unit in progress: the visits or steps made, the first granule that failed (R328), the
bonds that failed, each with whether only at reduced drive (R329), and the end of the last step. -/
structure Ist where
  unit : Nat := 0
  due : List Int := []
  preempted : Bool := false
  forward : List Nat := []
  done : Nat := 0
  failed : Option Nat := none
  bonds : List (Nat × Bool) := []
  busyUntil : Nat := 0
deriving DecidableEq, Repr

/-- The firmware staging buffer (R403): claim, image length, the bytes it holds, and the image once verified. -/
structure Staging where
  claim : Option Via := none
  len : Nat := 0
  bytes : List Byte := []
  verified : Option Firmware := none
deriving DecidableEq, Repr

/-- The boot load (R410 to R412): claim, image length, the bytes of the staging buffer, and what INIT chose. -/
structure BootLoad where
  claim : Option Via := none
  len : Nat := 0
  bytes : List Byte := []
  layoutImage : Bool := false
  fillMapped : Bool := false
deriving DecidableEq, Repr

/-- The 64-bit register latches of R430: (source, register address, value). -/
structure Latch where
  src : RegSrc
  addr : Nat
  value : BitVec 32
deriving DecidableEq, Repr

/-- Management (R383 to R405), maintenance and register latches. -/
structure Mgr where
  asmInband : Option Assembly := none
  asmI3c : Option Assembly := none
  ops : List Operation := []
  nextOp : Nat := 1
  /-- Parked commands (R394): transport, TAG, opcode, SEQ. -/
  parked : List (Via × Nat × Nat × Nat) := []
  /-- Replies handed to the I3C transport, oldest first. -/
  i3cOut : List Reply := []
  running : List Activity := []
  ended : List Activity := []
  nextActivity : Nat := 1
  ist : Vector Ist 25 := Vector.replicate 25 {}
  staging : Staging := {}
  bootLoad : BootLoad := {}
  latches : List Latch := []
deriving DecidableEq, Repr

/-- The I3C target, MCTP endpoint and test access port (R332, R385, R386). -/
structure Side where
  dynAddr : Option (BitVec 7) := none
  events : BitVec 8 := 0
  rstAction : BitVec 8 := 0
  eid : BitVec 8 := 0
  /-- Answers to CCCs, MCTP control and SPDM over I3C, oldest first: (item, value). -/
  answers : List (Nat × Nat) := []
  /-- Test access: 0 BYPASS, 1 IDCODE, 2 SAMPLE/PRELOAD, 3 EXTEST, 4 CLAMP, 5 HIGHZ. -/
  tapInstr : Nat := 1
  boundary : BitVec 64 := 0
  /-- What drives the signal balls: 0 the stack's logic, 1 the boundary register (EXTEST, CLAMP), 2 nothing (HIGHZ); and the data
  register that IDCODE or BYPASS selects. -/
  pinDrive : Nat := 0
  tapData : Nat := 0
deriving DecidableEq, Repr

/-! ## The whole -/

/-- Everything of the stack but its DRAM: registers, tables, buffers, queues and pins. -/
structure Ctl where
  power : Power := {}
  ports : Vector Port 4 := Vector.replicate 4 {}
  regions : Vector Region 4 := Vector.replicate 4 {}
  movers : Vector Mover 16 := Vector.replicate 16 {}
  chans : Vector Chan 32 := Vector.replicate 32 {}
  /-- The request tracker, oldest first. -/
  trk : List Trk := []
  /-- The identifier with which each holder was last granted a pool entry: PORT_0 to PORT_3, then the engines (R92). -/
  poolGrants : Vector Nat 5 := Vector.replicate 5 0
  queues : List (Nat × Queue) := []
  pm : PageMap := {}
  umpire : Umpire := {}
  beat : Beat := {}
  therm : Therm := {}
  life : Life := {}
  mgr : Mgr := {}
  side : Side := {}
  /-- The scorecard: live counters by index that are not zero, and the snapshot (R445, R446). -/
  score : List (Nat × Nat) := []
  snapshot : List (Nat × Nat) := []
  /-- The model's own clock in ns, draw counter and next identifier. -/
  now : Nat := 0
  draws : Nat := 0
  nextId : Nat := 0
deriving DecidableEq, Repr

/-- The stack. -/
structure State where
  ctl : Ctl := {}
  /-- DRAM: byte 40 × (2,048 × PPN + granule) + k; k from 32 is a check byte. An unlisted byte reads as zero. -/
  dram : List Host.Cell := []
  /-- Commands that wait, first in first out. -/
  pending : List Instr := []
deriving DecidableEq, Repr

/-- The stack right after power-on reset: every field at its Reset value (R8, R435 to R442), nothing listed in DRAM, no
command waiting. The first command is POWER_ON (R407). -/
def State.reset : State := {}

end Sys2Proof.Machine
end

