-- ==== Sys2Proof/Machine/Ops.lean ====
section
/-! DEFINITION. The named operations over the stack's state: parts of the state, the scorecard, DRAM, page map tables, the
packets a port sends, and the end of a request. -/

namespace Sys2Proof.Machine

open Sys2Proof

/-! ## Parts of the state -/

/-- An outcome that only changes the control state. -/
def onCtl (f : Ctl → Ctl) (s : State) : Host.Outcome State Fault Refusal := .next { s with ctl := f s.ctl }

/-- An outcome that changes the control state and reads DRAM. -/
def onCtlMem (f : List Host.Cell → Ctl → Ctl) (s : State) : Host.Outcome State Fault Refusal :=
  .next { s with ctl := f s.dram s.ctl }

/-- An outcome that changes the control state and DRAM. -/
def onBoth (f : List Host.Cell → Ctl → List Host.Cell × Ctl) (s : State) : Host.Outcome State Fault Refusal :=
  .next { s with dram := (f s.dram s.ctl).1, ctl := (f s.dram s.ctl).2 }

def modPort (p : Fin 4) (f : Port → Port) (c : Ctl) : Ctl := { c with ports := c.ports.set p (f c.ports[p]) }
def modRegion (r : Fin 4) (f : Region → Region) (c : Ctl) : Ctl := { c with regions := c.regions.set r (f c.regions[r]) }
def modMover (m : Fin 16) (f : Mover → Mover) (c : Ctl) : Ctl := { c with movers := c.movers.set m (f c.movers[m]) }
def modChan (ch : Fin 32) (f : Chan → Chan) (c : Ctl) : Ctl := { c with chans := c.chans.set ch (f c.chans[ch]) }
def modPower (f : Power → Power) (c : Ctl) : Ctl := { c with power := f c.power }
def modPm (f : PageMap → PageMap) (c : Ctl) : Ctl := { c with pm := f c.pm }
def modUmpire (f : Umpire → Umpire) (c : Ctl) : Ctl := { c with umpire := f c.umpire }
def modBeat (f : Beat → Beat) (c : Ctl) : Ctl := { c with beat := f c.beat }
def modTherm (f : Therm → Therm) (c : Ctl) : Ctl := { c with therm := f c.therm }
def modLife (f : Life → Life) (c : Ctl) : Ctl := { c with life := f c.life }
def modMgr (f : Mgr → Mgr) (c : Ctl) : Ctl := { c with mgr := f c.mgr }
def modSide (f : Side → Side) (c : Ctl) : Ctl := { c with side := f c.side }

/-- The ports, regions, movers and channels by number. -/
def allPorts : List (Fin 4) := List.finRange 4
def allRegions : List (Fin 4) := List.finRange 4
def allMovers : List (Fin 16) := List.finRange 16
def allChans : List (Fin 32) := List.finRange 32

/-- An element of a list sorted by a measure, behind its equals. -/
def insertBy {α : Type} (f : α → Nat) (a : α) : List α → List α
  | [] => [a]
  | b :: l => if f a < f b then a :: b :: l else b :: insertBy f a l

/-- An operation done for each of a list, in order. -/
def forEach {α : Type} (l : List α) (f : α → Ctl → Ctl) (c : Ctl) : Ctl := l.foldl (fun c a => f a c) c

/-- A fresh identifier of the model's own. -/
def freshId (c : Ctl) : Nat × Ctl := (c.nextId, { c with nextId := c.nextId + 1 })

/-! ## The scorecard (R445) -/

def gIdx (n : Nat) : Nat := n
def pIdx (p : Fin 4) (n : Nat) : Nat := 0x100 + p.val * 0x40 + n
def laneIdx (p : Fin 4) (l n : Nat) : Nat := 0x200 + (p.val * 17 + l) * 4 + n
def rIdx (r : Fin 4) (n : Nat) : Nat := 0x400 + r.val * 0x20 + n
def mIdx (m : Fin 16) (n : Nat) : Nat := 0x500 + m.val * 0x10 + n
def cIdx (ch : Fin 32) (n : Nat) : Nat := 0x1000 + ch.val * 0x40 + n

/-- Widths of the counters of each group by number, from the owning chapters. -/
def gWidths : List Nat :=
  [32, 32, 32, 16, 48, 32, 32, 32, 16, 16, 48, 16, 16, 32, 32, 16] ++ List.replicate 6 32 ++
    [32, 8, 8, 32, 32, 16, 32, 32, 16, 16, 16, 32, 16] ++ List.replicate 17 16 ++ List.replicate 19 48
def pWidths : List Nat :=
  [48, 32, 16, 16, 32, 32, 16, 16, 32, 32, 32, 32, 32, 32, 32, 32, 32, 16, 48, 48, 48, 48, 16, 32, 32, 16, 48, 32, 32,
    48, 32, 32]
def laneWidths : List Nat := [32, 16, 16, 32]
def rWidths : List Nat := [48, 16, 32, 48, 48, 32, 16, 16, 48, 32, 32, 32, 32, 32, 48, 32, 32, 32, 32]
def mWidths : List Nat := [48, 32, 32, 32, 32, 32, 48, 48, 48]
def cWidths : List Nat :=
  [48, 48, 32, 32, 32, 32, 48, 48] ++ List.replicate 14 48 ++ [32, 32, 48, 48, 16, 16, 48, 48, 48, 48, 32, 32, 32, 32,
    48, 32, 32] ++ List.replicate 5 48 ++ [48, 32, 32, 48, 48, 32, 16] ++ List.replicate 5 32 ++ [16, 32, 8, 4]

/-- The width of the counter an index names, `none` where it names none (Table 11 of chapter 17). -/
def counterWidth (i : Nat) : Option Nat :=
  if i < 0x100 then gWidths[i]?
  else if i < 0x200 then pWidths[(i - 0x100) % 0x40]?
  else if i < 0x400 then (if i < 0x200 + 4 * 68 then laneWidths[i % 4]? else none)
  else if i < 0x500 then (if i < 0x480 then rWidths[(i - 0x400) % 0x20]? else none)
  else if i < 0x1000 then (if i < 0x600 then mWidths[(i - 0x500) % 0x10]? else none)
  else if i < 0x1800 then cWidths[(i - 0x1000) % 0x40]?
  else none

/-- The counters that SC_CLEAR skips because their chapter declares them RO (R447): THERMAL_SHUTDOWN_COUNT,
FW_RECHECK_COUNT, AUTH_FAIL_COUNT and WARM_RESET_COUNT. -/
def counterRo (i : Nat) : Bool := i = 24 || i = 26 || i = 27 || i = 34

/-- A live counter's value. -/
def scoreGet (c : Ctl) (i : Nat) : Nat := sparseGet (fun _ => 0) c.score i

/-- A live counter at a value, saturating at its width (R64). -/
def scoreSet (i v : Nat) (c : Ctl) : Ctl :=
  match counterWidth i with
  | some w => { c with score := sparsePut (fun _ => 0) c.score i (Nat.min v (2 ^ w - 1)) }
  | none => c

/-- A live counter raised by `n`, saturating. -/
def bumpBy (i n : Nat) (c : Ctl) : Ctl := scoreSet i (scoreGet c i + n) c
def bump (i : Nat) (c : Ctl) : Ctl := bumpBy i 1 c
/-- A live running maximum after the sample `v`. -/
def bumpMax (i v : Nat) (c : Ctl) : Ctl := scoreSet i (Nat.max (scoreGet c i) v) c

/-! ## Places in the stack (R17 to R24) -/

/-- The channel of a slice index: `slice mod 32` for ranks 0 to 3, channel 4i for the spare slice 128 + i (R21). -/
def sliceChan (s : Nat) : Fin 32 := if s < 128 then Fin.ofNat 32 s else Fin.ofNat 32 (4 * (s - 128))
def sliceRank (s : Nat) : Nat := if s < 128 then s / 32 else 4
/-- The layer that holds a slice (R17). -/
def sliceLayer (s : Nat) : Nat := if s < 128 then 4 * (s / 32) + 1 + s % 4 else 17
/-- The slice of a channel at a rank. -/
def sliceOf (ch : Fin 32) (rank : Nat) : Nat := if rank < 4 then rank * 32 + ch.val else 128 + ch.val / 4
/-- The ranks a channel has: channels 0, 4, ..., 28 have five (R18). -/
def chanRanks (ch : Fin 32) : List Nat := if ch.val % 4 = 0 then [0, 1, 2, 3, 4] else [0, 1, 2, 3]
def chanRegion (ch : Fin 32) : Fin 4 := Fin.ofNat 4 (ch.val / 8)
def moverRegion (m : Fin 16) : Fin 4 := Fin.ofNat 4 (m.val / 4)
/-- Slice, page-within-slice and channel of a physical page (R21). -/
def ppnSlice (ppn : Nat) : Nat := ppn / 16384
def ppnChan (ppn : Nat) : Fin 32 := sliceChan (ppnSlice ppn)
def ppnRank (ppn : Nat) : Nat := sliceRank (ppnSlice ppn)
/-- The key of a granule of a physical page. -/
def granKey (ppn g : Nat) : Nat := 2048 * ppn + g
def keyPpn (k : Nat) : Nat := k / 2048
def keyGran (k : Nat) : Nat := k % 2048
def keyChan (k : Nat) : Fin 32 := ppnChan (keyPpn k)
/-- Pseudo-channel, bank and row of a granule (R22). -/
def keyPc (k : Nat) : Nat := k % 2
def keyBank (k : Nat) : Nat := bitsOf (keyGran k) 1 4
def keyRow (k : Nat) : Nat := 2 * (keyPpn k % 16384) + bitsOf (keyGran k) 10 1
def keyRank (k : Nat) : Nat := ppnRank (keyPpn k)
/-- The key of a granule's bank in its channel: rank × 32 + bank × 2 + pseudo-channel. -/
def bankKey (k : Nat) : Nat := keyRank k * 32 + keyBank k * 2 + keyPc k

/-! ## DRAM -/

/-- What an unlisted byte of DRAM reads as (log 3). -/
def dramDefault (_ : Nat) : Byte := 0

/-- One byte of DRAM. -/
def readByte (m : List Host.Cell) (a : Nat) : Byte := sparseGet dramDefault m a

/-- The canonical form of DRAM. -/
def Memory.wf (m : List Host.Cell) : Bool := sparseWf dramDefault m

/-- A stored granule of 40 bytes: 32 of data and 8 of check bits. -/
def dramRead (m : List Host.Cell) (key : Nat) : BitVec 320 :=
  BitVec.ofNat 320 (ofBytes ((List.range 40).map fun k => readByte m (40 * key + k)))

/-- DRAM with a stored granule written. -/
def dramWrite (m : List Host.Cell) (key : Nat) (v : BitVec 320) : List Host.Cell :=
  sparsePutRange dramDefault (fun a => v.extractLsb' (8 * (a - 40 * key)) 8) (40 * key) 40 m

/-- DRAM with every granule of a list of writes stored, in order. -/
def dramWrites (m : List Host.Cell) : List (Nat × BitVec 320) → List Host.Cell
  | [] => m
  | (k, v) :: t => dramWrites (dramWrite m k v) t

/-- DRAM without the bytes from `lo` up to `hi - 1`: they read as zero again. -/
def dramErase (m : List Host.Cell) (lo hi : Nat) : List Host.Cell := m.filter fun c => c.1 < lo || hi ≤ c.1

/-- DRAM without the granules of the physical pages that `hit` names: they read as zero data with correct check bits. -/
def dramClear (m : List Host.Cell) (hit : Nat → Bool) : List Host.Cell := m.filter fun c => !hit (c.1 / 81920)

/-! ## Page map tables (R98 to R128) -/

def unmappedEntry : PmEntry := { ppn := 0, domain := 0, mirrored := false, shared := false, state := .unmapped }

/-- The entry a layout gives host page h (R23). -/
def layoutEntry (l : Layout) (h : Nat) : PmEntry :=
  match l with
  | .blank | .image _ => unmappedEntry
  | .default =>
    { ppn := ((h / 32) % 4 * 32 + h % 32) * 16384 + h / 128, domain := 0, mirrored := false, shared := false,
      state := .normal }

/-- The use a layout gives a physical page. -/
def layoutUse (l : Layout) (ppn : Nat) : Use :=
  match l with
  | .blank => .clearing
  | .image filled => if ppn < 2097152 then (if filled then .unused else .clearing) else .bench
  | .default => if ppn < 2097152 then .mapped else .bench

def pmGet (c : Ctl) (h : Nat) : PmEntry := sparseGet (layoutEntry c.pm.layout) c.pm.entries h

/-- A write to an entry reaches the working and the restore copy (R100). -/
def pmPut (h : Nat) (e : PmEntry) : Ctl → Ctl :=
  modPm fun pm =>
    { pm with
      entries := sparsePut (layoutEntry pm.layout) pm.entries h e
      restore := sparsePut (layoutEntry pm.restoreLayout) pm.restore h e }

def useGet (c : Ctl) (ppn : Nat) : Use := sparseGet (layoutUse c.pm.layout) c.pm.uses ppn
/-- A write to the physical page table reaches the working and the restore copy (R100). -/
def usePut (ppn : Nat) (u : Use) : Ctl → Ctl :=
  modPm fun pm =>
    { pm with
      uses := sparsePut (layoutUse pm.layout) pm.uses ppn u
      restoreUses := sparsePut (layoutUse pm.restoreLayout) pm.restoreUses ppn u }

/-- The mirror of a host page, with its index. -/
def mirrorOf (c : Ctl) (h : Nat) : Option (Nat × Mirror) := c.pm.mirrors.find? fun m => m.2.hpn = h
/-- A mirror-table entry as the restore copy holds it: without the count of pending shadow writes, which is no field of the
entry (Table 5 of chapter 4). -/
def restoreMirror (x : Nat × Mirror) : Nat × Mirror := (x.1, { x.2 with pending := [] })
/-- A change of the mirror table is made to the working and to the restore copy (R100). -/
def modMirrors (f : List (Nat × Mirror) → List (Nat × Mirror)) : Ctl → Ctl :=
  modPm fun pm => { pm with mirrors := f pm.mirrors, restoreMirrors := (f pm.mirrors).map restoreMirror }
def mirrorSetEntry (i : Nat) (m : Mirror) : Ctl → Ctl := modMirrors fun l => (l.filter fun x => x.1 ≠ i) ++ [(i, m)]
def mirrorDrop (h : Nat) : Ctl → Ctl := modMirrors fun l => l.filter fun x => x.2.hpn ≠ h

/-- A slice is out of service, or is being vacated or queued to be (R124, R125). -/
def sliceIsOut (c : Ctl) (s : Nat) : Bool := c.chans[sliceChan s].sliceOut.getLsbD (sliceRank s)
def sliceVacated (c : Ctl) (s : Nat) : Bool := c.pm.substSlice = some s || c.pm.substQueue.contains s

/-- A bench page that may be taken: its slice neither out of service nor being vacated (R124). -/
def benchOk (c : Ctl) (avoid : Option (Fin 32)) (ppn : Nat) : Bool :=
  useGet c ppn = .bench && !sliceIsOut c (ppnSlice ppn) && !sliceVacated c (ppnSlice ppn) && (avoid ≠ some (ppnChan ppn))

/-- The lowest number from `lo` that satisfies `p`, among `n`. -/
def firstFrom (p : Nat → Bool) (lo : Nat) : Nat → Option Nat
  | 0 => none
  | n + 1 => if p lo then some lo else firstFrom p (lo + 1) n

/-- The next bench page in ascending PPN order, skipping a channel when asked (R124): the lowest among the listed pages
and, under the default layout, the spare slices. -/
def nextBench (c : Ctl) (avoid : Option (Fin 32)) : Option Nat :=
  let listed := (c.pm.uses.map (·.1)).find? (benchOk c avoid)
  let spare := if c.pm.layout ≠ .blank then firstFrom (benchOk c avoid) 2097152 131072 else none
  match listed, spare with
  | some a, some b => some (Nat.min a b)
  | some a, none => some a
  | none, b => b

/-- GLOBAL.BENCH_FREE (R124). -/
def benchFree (c : Ctl) : Nat :=
  let listed := c.pm.uses.countP fun u => u.2 = .bench
  let gone := c.pm.uses.countP fun u => 2097152 ≤ u.1 && decide (u.1 < 2228224)
  match c.pm.layout with
  | .blank => listed
  | _ => 131072 - gone + listed

/-- GLOBAL.LOST_PAGES. -/
def lostPages (c : Ctl) : Nat := c.pm.entries.countP fun e => e.2.state = .lost

/-- A page enters CLEARING (R102) and joins the copiers' work in arrival order. -/
def startClearing (ppn : Nat) (toBench : Bool) (c : Ctl) : Ctl :=
  modPm (fun pm => { pm with jobs := pm.jobs ++ [{ kind := .clearing toBench, hpn := 0, src := ppn, dst := ppn }] }) (usePut ppn .clearing c)

/-! ## Packets the stack sends (R69, R76, R83 to R85, R94) -/

/-- The virtual channel of an opcode (Table 6 of chapter 3). -/
def vcOf (opcode : Nat) : Fin 3 :=
  if opcode = 0x40 || opcode = 0x44 || opcode = 0x88 || opcode = 0x89 then 2
  else if opcode = 0x80 || opcode = 0x81 || opcode = 0x82 then 1
  else 0

/-- The virtual channel of a received packet's header. -/
def rxVc (hd : Slot) : Fin 3 := vcOf (hd.toNat % 256)

/-- A request header slot of Table 5 of chapter 3, with the data slots behind it (R78). -/
def hdrOf (p : Fin 4) (hd : Slot) (data : List Slot) : ReqHdr :=
  let x := hd.toNat
  { port := p, tag := bitsOf x 8 11, domain := bitsOf x 19 6, tc := bitOf x 25, cmpl := bitOf x 26, release := bitOf x 27
    param := hd.extractLsb' 32 32, addr := bitsOf x 64 37, len := bitsOf x 104 8, slots := data, pmEcc := 0 }

/-- Whether a received packet spells a request: its OPCODE and every field of its header and data (R78). -/
def isPacket (op : Nat) (h : ReqHdr) (pkt : List Slot) : Bool :=
  match pkt with
  | hd :: data => decide (hd.toNat % 256 = op) && decide ({ hdrOf h.port hd data with pmEcc := h.pmEcc } = h)
  | [] => false

/-- The response header slot (Table 10 of chapter 3). -/
def respHeader (k : OutPkt) : Slot :=
  BitVec.ofNat 128 (k.opcode + 2 ^ 8 * k.tag + 2 ^ 19 * k.status + 2 ^ 32 * k.info.toNat + 2 ^ 64 * k.addr +
    2 ^ 104 * k.data.length)

/-- The slots of a packet. -/
def pktSlots (k : OutPkt) : List Slot := respHeader k :: k.data

/-- Slots cut into flit payloads of four, the last filled with NULL slots (R69). -/
def flitPayloads : List Slot → List (List Slot)
  | [] => []
  | [a] => [[a, 0, 0, 0]]
  | [a, b] => [[a, b, 0, 0]]
  | [a, b, d] => [[a, b, d, 0]]
  | a :: b :: d :: e :: t => [a, b, d, e] :: flitPayloads t

/-- tx_new (R73): flits take the next sequence numbers, are stored for replay and join the flit stream; those that find 512
stored wait. -/
def txFlits : List (List Slot) → Port → Port
  | [], p => p
  | f :: t, p =>
    if p.replay.length < 512 then
      txFlits t { p with
        replay := p.replay ++ [(p.nextSeq, f)], nextSeq := (p.nextSeq + 1) % 4096
        line := { p.line with queue := p.line.queue ++ [(p.nextSeq, f)] } }
    else { p with line := { p.line with rest := f :: t } }

/-- Credit for a packet of `n` slots (can_send of R76). -/
def canSend (p : Port) (vc : Fin 3) (n : Nat) : Bool :=
  (p.adv[vc] : Int) - (((p.used[vc] + 16384 - p.ret[vc]) % 16384 : Nat) : Int) ≥ n

/-- Whether a port's transmitter may start packets: link ACTIVE, transmitter awake and no SLEEP_REQ unanswered (R56). -/
def txOpen (p : Port) : Bool :=
  p.link = .active && !p.retraining && p.txSleep = .active && p.sleepReqOut.isNone

/-- Whether a port has its link: ACTIVE, or in a retrain, which is no link loss (R51). -/
def linkUp (p : Port) : Bool := p.link = .active || p.retraining

/-- The flits of the packet begun go on when the replay buffer has room again (R73). -/
def resumeFlits (p : Port) : Port :=
  if txOpen p then txFlits p.line.rest { p with line := { p.line with rest := [] } } else p

/-- One packet starts on the link (on_send of R76), when credit allows, the packet before it has all its flits and the replay
buffer of 512 flits has room. -/
def sendPkt (k : OutPkt) (p : Port) : Option Port :=
  let slots := pktSlots k
  let vc := vcOf k.opcode
  if txOpen p && canSend p vc slots.length && p.line.rest.isEmpty && decide (p.replay.length < 512) then
    some (txFlits (flitPayloads slots) { p with used := p.used.set vc ((p.used[vc] + slots.length) % 16384) })
  else none

/-- Packets of one queue leave in order while they can; the queue that is left, and the port. -/
def drainQueue : List OutPkt → Port → List OutPkt × Port
  | [], p => ([], p)
  | k :: t, p =>
    match sendPkt k p with
    | some p' => drainQueue t p'
    | none => (k :: t, p)

/-- The tracker entries of the packets within the first 4,096 slots of the response buffer are released (R94); the others
keep theirs. The list of released entries and the queue. -/
def settleQueue (room : Nat) : List OutPkt → List Nat × List OutPkt
  | [] => ([], [])
  | k :: t =>
    let n := k.data.length + 1
    if n ≤ room then
      let r := settleQueue (room - n) t
      ((match k.trk with | some i => i :: r.1 | none => r.1), { k with trk := none } :: r.2)
    else ([], k :: t)

/-- The nanoseconds of the preamble of DEEP_SLEEP: 24 TS_WAKE frames at 56 GBd or 12 at 28 GBd (R60). -/
def wakePreamble : Nat := 3511

/-- The nanoseconds from the decision to wake until the STREAM_START marker (R60, Tables 8 and 9 of chapter 2). -/
def wakeTime (from_ : SleepState) : Nat := if from_ = .deep then 1000 + wakePreamble else 166

/-- A sleeping transmitter with something to send wakes (R59): at once, or when the minimum sleep ends. STREAM_START follows
its preamble (R60). -/
def wakeTx (p : Port) : Port :=
  if p.txSleep = .active then p
  else if p.sleepMinimum then { p with wakeDecided := true }
  else { p with
    txSleep := .active, wakeUnacked := true, wakeDecided := false
    line := { p.line with
      start := true, hold := wakeTime p.txSleep, deepWake := p.txSleep = .deep, budget := 0, frames := 0, val := 0, len := 0 } }

/-- A transmitter stalled for credits or acknowledgements that the sleeping opposite direction carries sends WAKE_REQ, once for the
stall (R59). -/
def askWake (p : Port) : Port :=
  let waits := !(p.respQ.isEmpty && p.mgmtQ.isEmpty && p.notifyQ.isEmpty && p.line.rest.isEmpty)
  if waits && txOpen p && p.rxSleep ≠ .active && !p.line.wakeAsked then
    { p with sleepOut := p.sleepOut ++ [(0x23, 0)], line := { p.line with wakeAsked := true } }
  else p

/-- The responses with STATUS POISONED among those sent (R151). -/
def poisonedSent (l : List OutPkt) : Nat := l.countP fun k => k.status = 1

/-- A port sends what it can: responses, then management replies, then NOTIFY packets (log 8), and the response buffer
takes completed requests into its room. -/
def pumpPort (p : Fin 4) (c : Ctl) : Ctl :=
  let q := c.ports[p]
  let q := resumeFlits (if q.respQ.isEmpty && q.mgmtQ.isEmpty && q.notifyQ.isEmpty then q else wakeTx q)
  let r1 := drainQueue q.respQ q
  let r2 := drainQueue q.mgmtQ r1.2
  let r3 := if r2.1.isEmpty then drainQueue q.notifyQ r2.2 else (q.notifyQ, r2.2)
  let st := settleQueue 4096 r1.1
  let c := bumpBy (pIdx p 27) (poisonedSent (q.respQ.take (q.respQ.length - r1.1.length))) c
  { c with
    ports := c.ports.set p (askWake { r3.2 with respQ := st.2, mgmtQ := r2.1, notifyQ := r3.1 })
    trk := c.trk.filter fun t => !st.1.contains t.id }

/-- A response joins its port's response buffer (R94) and leaves when it can; that of a request accepted over a lost link is
discarded and releases its tracker entry (R51). -/
def pushResp (p : Fin 4) (k : OutPkt) (c : Ctl) : Ctl :=
  if c.ports[p].mute then { c with trk := c.trk.filter fun t => k.trk ≠ some t.id }
  else
    pumpPort p (modPort p (fun q => { q with respQ := q.respQ ++ [k] }) c)

/-- A NOTIFY joins its port's queue of 64 packets, or is dropped and counted (R85). -/
def pushNotify (p : Fin 4) (kind : Nat) (event : Nat) (c : Ctl) : Ctl :=
  if c.ports[p].notifyQ.length < 64 then
    let k : OutPkt :=
      { opcode := 0x88, tag := 0, status := 0, info := 0, addr := 0, data := [BitVec.ofNat 128 (kind + 2 ^ 8 * event)]
        trk := none }
    pumpPort p (modPort p (fun q => { q with notifyQ := q.notifyQ ++ [k] }) c)
  else bump (pIdx p 25) c

/-! ## The tracker and the end of a request (R26, R83, R84, R90, R92) -/

def srcIsPort (p : Fin 4) (t : Trk) : Bool := t.src = .port p
def srcIsEngine (t : Trk) : Bool := match t.src with | .port _ => false | .mover _ _ => true

/-- Entries that a port's requests hold. -/
def portUse (c : Ctl) (p : Fin 4) : Nat := c.trk.countP (srcIsPort p)

/-- The tracker entries of an access: one for each granule access of an element or of a port's, and one for an access of a mover's bulk
path, whose element numbers are above every COUNT (R162, R163, R181). -/
def accessEntries (s : Src) (n : Nat) : Nat :=
  match s with
  | .mover _ e => if e < 2 ^ 32 then n else 1
  | .port _ => n

/-- Tracker entries that movers' accesses in flight hold (R163). -/
def moverUse (c : Ctl) : Nat := ((c.trk.filter srcIsEngine).map fun t => accessEntries t.src t.grans.length).sum

/-- A coordinator's access is in flight: its hold or its old value has not reached it (R26). -/
def keyInFlight (k : Key) : Bool :=
  match k.state with
  | .requested | .grantSent | .refused => true
  | .granted => k.reads && k.old.isNone
  | _ => false

/-- The coordinators' accesses that hold a tracker entry, as (transaction, granule). -/
def coordAccesses (c : Ctl) : List (Nat × Nat) :=
  c.regions.toList.flatMap fun r => r.coord.txns.flatMap fun t =>
    (t.keys.filter fun k => keyInFlight k && k.tracked).map fun k => (t.id, k.gran)

/-- Pool entries that the ports hold above their guarantees. -/
def portsPool (c : Ctl) : Nat := (allPorts.map fun p => portUse c p - 1024).sum

/-- Entries that the engines may hold now (R92). -/
def engineCap (c : Ctl) : Nat := 1024 + Nat.min c.power.enginePoolLimit (3072 - portsPool c)

/-- Tracker entries in use by a holder. -/
def inUse (c : Ctl) : Holder → Nat
  | .port p => portUse c p
  | .engine => moverUse c + (coordAccesses c).length

/-- Whether a coordinator's access has its entry: one that cannot allocate waits at its issue stage (R92). -/
def accessAllocated (c : Ctl) (id gran : Nat) : Bool := (coordAccesses c).contains (id, gran)

def poolPart (c : Ctl) (h : Holder) : Nat := inUse c h - 1024

/-- GLOBAL.TRACKER_POOL_IN_USE (R97). -/
def poolInUse (c : Ctl) : Nat := portsPool c + poolPart c .engine

def poolLimitOf (c : Ctl) : Holder → Nat
  | .port p => c.ports[p].poolLimit
  | .engine => c.power.enginePoolLimit

/-- Whether a holder can allocate an entry now (R92). -/
def canAllocate (c : Ctl) (h : Holder) : Bool :=
  inUse c h < 1024 || (poolPart c h < poolLimitOf c h && poolInUse c < 3072)

/-- The number of a tracker holder: a port's, or 4 for the engines. -/
def holderIdx : Holder → Fin 5
  | .port p => ⟨p.val, by omega⟩
  | .engine => 4

/-- The moments since which the first accesses of movers and of coordinators stand at allocation without an entry (R92). -/
def engineWaits (c : Ctl) : List Nat :=
  c.movers.toList.filterMap (·.allocSince)
    ++ c.regions.toList.flatMap fun r => r.coord.txns.flatMap fun t => (t.keys.filter fun k => keyInFlight k && !k.tracked).map (·.since)

/-- The moment since which a holder's first request stands at allocation without an entry (R92, R93). -/
def allocSince (c : Ctl) : Holder → Option Nat
  | .port p => (c.ports[p].waiting.head?).bind (·.allocSince)
  | .engine => if (engineWaits c).isEmpty then none else some (minOf 0 (engineWaits c))

def allHolders : List Holder := [.port 0, .port 1, .port 2, .port 3, .engine]

/-- Whether a holder comes before another at the pool: its request reached allocation earlier, or in the same clock with the less
recent grant (R92). -/
def poolBefore (c : Ctl) (a b : Holder) : Bool :=
  a ≠ b && 1024 ≤ inUse c a && poolPart c a < poolLimitOf c a &&
    match allocSince c a with
    | some n =>
      let mine := (allocSince c b).getD c.now
      n < mine || (n = mine && c.poolGrants[holderIdx a] < c.poolGrants[holderIdx b])
    | none => false

/-- Whether a holder that can allocate may do so now: pool entries are granted in the order of R92. -/
def mayAllocate (c : Ctl) (h : Holder) : Bool :=
  canAllocate c h && (inUse c h < 1024 || allHolders.countP (fun a => poolBefore c a h) < 3072 - poolInUse c)

/-- Whether an engine access that has stood at allocation since a moment may take an entry now: none of another mover or coordinator came
before it (R92). -/
def mayIssueSince (c : Ctl) (since : Nat) : Bool := mayAllocate c .engine && (engineWaits c).all fun n => since ≤ n

/-- How many granules of an element's access may take their entries at once: those of the guarantee, and one of the pool at a time, in the
order in which requests reach it (R92). -/
def entriesAtOnce (c : Ctl) : Nat := Nat.max 1 (1024 - inUse c .engine)

/-- A holder takes an entry: a grant from the pool is remembered (R92). -/
def notePool (h : Holder) (c : Ctl) : Ctl :=
  if 1024 ≤ inUse c h then { c with poolGrants := c.poolGrants.set (holderIdx h) c.nextId } else c

/-- Whether an opcode's response on success is CMPL only when asked for (R90). -/
def cmplOnRequest (opcode : Nat) : Bool := (0x18 ≤ opcode && opcode ≤ 0x1C) || opcode = 0x20 || opcode = 0x38

/-- The response of a port's request (R79, R83, R84, R90): `ret` is the RET bit of an ATOMIC; none when the request ends
OK and asked for none. -/
def respPkt (opcode tag addr status : Nat) (ret cmpl : Bool) (info : BitVec 32) (data : List Slot) (id : Option Nat) :
    Option OutPkt :=
  let rd : OutPkt := { opcode := 0x80, tag, status, info, addr, data, trk := id }
  let cm : OutPkt := { opcode := 0x81, tag, status, info := 0, addr, data := [], trk := id }
  let tx : OutPkt := { opcode := 0x82, tag, status, info, addr := 0, data, trk := id }
  if 0x10 ≤ opcode && opcode ≤ 0x13 then some rd
  else if opcode = 0x20 && ret then some rd
  else if opcode = 0x28 || opcode = 0x31 || opcode = 0x32 then some tx
  else if cmplOnRequest opcode then (if cmpl || status ≠ 0 then some cm else none)
  else some cm

/-- The RET bit of a request (R80). -/
def retOf : Op → Bool
  | .atomic _ _ ret _ _ => ret
  | _ => false

/-- A granule's two slots. -/
def granSlots (d : GData) : List Slot := [d.extractLsb' 0 128, d.extractLsb' 128 128]

/-- The status of a request from its granules: the lowest failing granule's, poison last (R84). -/
def statusOfGrans (gs : List Gran) : Nat :=
  match gs.find? fun g => g.status ≠ 0 && g.status ≠ 1 with
  | some g => g.status
  | none => if gs.any fun g => g.status = 1 then 1 else 0

/-- POISON_MASK of a read (R83). -/
def poisonMask (gs : List Gran) : Nat := packBits 1 (gs.map fun g => b2n (g.status = 1))

/-- The data slots of a read or an atomic's old value (R84). -/
def dataSlots (t : Trk) (status : Nat) : List Slot :=
  match t.op with
  | .read => if status ≤ 1 then t.grans.flatMap fun g => granSlots (if g.status = 1 then 0 else g.data) else []
  | .atomic _ w8 ret _ _ =>
    if ret && (status = 0 || status = 9) then
      match t.grans with
      | g :: _ => [BitVec.ofNat 128 (if w8 then g.data.toNat % 2 ^ 64 else g.data.toNat % 2 ^ 32)]
      | [] => []
    else []
  | _ => []

/-- A tracker entry changed. -/
def modTrk (id : Nat) (f : Trk → Trk) (c : Ctl) : Ctl := { c with trk := mapIf (fun t => t.id = id) f c.trk }

/-- A request ends with a status, the INFO field and data: a port's leaves the tracker with its response (R26, R51, R84);
a mover's access waits there for ELEMENT_RESULT. -/
def finishWith (st : Nat) (info : BitVec 32) (data : List Slot) (t : Trk) (c : Ctl) : Ctl :=
  match t.src with
  | .mover _ _ => c
  | .port p =>
    if t.ended then c
    else match if t.orphan then none else respPkt t.opcode t.tag t.addr st (retOf t.op) t.cmpl info data (some t.id) with
    | some k => pushResp p k (modTrk t.id (fun x => { x with ended := true }) c)
    | none => { c with trk := c.trk.filter fun x => x.id ≠ t.id }

/-- A request whose granules have all ended ends with their status. -/
def finishTrk (t : Trk) (c : Ctl) : Ctl :=
  let st := statusOfGrans t.grans
  let info : BitVec 32 := match t.op with | .read => BitVec.ofNat 32 (poisonMask t.grans) | _ => 0
  finishWith st info (dataSlots t st) t c

/-- The request with this identifier ends if every granule has. -/
def finishIfDone (id : Nat) (c : Ctl) : Ctl :=
  match c.trk.find? fun t => t.id = id with
  | some t => if t.grans.all fun g => g.phase = .done then finishTrk t c else c
  | none => c

/-- A granule of a request changed. -/
def modGran (id idx : Nat) (f : Gran → Gran) : Ctl → Ctl := modTrk id fun t => { t with grans := listModify f t.grans idx }

/-- A granule of a request ends with a status and data, and the request with it when it was the last. -/
def endGran (id idx status : Nat) (data : GData) (c : Ctl) : Ctl :=
  finishIfDone id (modGran id idx (fun g => { g with phase := .done, status := status, data := data, epoch := none }) c)

/-- A request ends at once with one status, an INFO field and data. -/
def endTrkWith (id status : Nat) (info : BitVec 32) (data : List Slot) (c : Ctl) : Ctl :=
  match c.trk.find? fun t => t.id = id with
  | none => c
  | some t =>
    let t := { t with grans := t.grans.map fun g => if g.phase = .done then g else { g with phase := .done, status := status, epoch := none } }
    finishWith status info data t { c with trk := mapIf (fun x => x.id = id) (fun _ => t) c.trk }

/-- A request ends at once with one status. -/
def endTrk (id status : Nat) : Ctl → Ctl := endTrkWith id status 0 []

/-- A request refused before it has a granule: its response, for which alone it takes a tracker entry (R26, R79, R90). -/
def refuseReq (opcode : Nat) (h : ReqHdr) (status : Nat) (c : Ctl) : Ctl :=
  let ret := opcode = 0x20 && bitOf h.param.toNat 5
  let t : Trk :=
    { id := c.nextId, src := .port h.port, opcode := opcode, op := .read, tag := h.tag, domain := h.domain, addr := h.addr
      tc1 := h.tc, marked := false, cmpl := h.cmpl, release := none, ended := true, grans := [], since := c.now }
  match respPkt opcode h.tag h.addr status ret h.cmpl 0 [] (some t.id) with
  | some k => pushResp h.port k { c with trk := c.trk ++ [t], nextId := c.nextId + 1 }
  | none => c

end Sys2Proof.Machine
end

