-- ==== Sys2Proof/Machine/Line.lean ====
section
/-! DEFINITION. What a port's transmitter sends: flits with their CRET and CRC, link-control slots, SKIP flits, code words and
alignment markers (R44 to R47, R52, R53, R55, R58, R59, R65 to R71, R73, R74). -/

namespace Sys2Proof.Machine

open Sys2Proof

/-! ## Flits and link-control slots (R65, R67, R70) -/

/-- A flit of Table 1 with its CRC-32C. -/
def flitWord (kind seq cretKind cretValue : Nat) (slots : List Slot) : Flit :=
  let x := kind + 2 ^ 4 * seq + 2 ^ 16 * cretKind + 2 ^ 18 * cretValue + 2 ^ 32 * packBits 128 (slots.map (·.toNat))
  BitVec.ofNat 576 (x + 2 ^ 544 * crc32c 68 x)

/-- A link-control slot (Table 3 of chapter 3) but for INIT's credits. -/
def linkSlot (code arg seq : Nat) : Slot := BitVec.ofNat 128 (code + 2 ^ 8 * arg + 2 ^ 16 * seq)

/-- Slots the stack advertises by virtual channel (R71). -/
def advertised (vc : Fin 3) : Nat := if vc = 0 then 4096 else if vc = 1 then 0 else 128

/-- The sequence number that an acknowledgement of the stack reports (R72). -/
def ackNow (p : Port) : Nat := (p.expSeq + 4095) % 4096

/-- The INIT slot the stack sends (R71): RESUME and the last flit received in order after a retrain, else 4,095. -/
def initSlot (p : Port) : Slot :=
  BitVec.ofNat 128 (1 + 2 ^ 8 * b2n p.resumeSent + 2 ^ 16 * (if p.resumeSent then ackNow p else 4095)
    + 2 ^ 32 * advertised 0 + 2 ^ 48 * advertised 1 + 2 ^ 64 * advertised 2)

/-! ## Credit returns and acknowledgements (R59, R68, R76) -/

/-- The total that CRET reports for a virtual channel (R76): slots freed, less those held back under a throttle (R341). -/
def cretOf (p : Port) (vc : Fin 3) : Nat := (p.freed[vc] + 16384 - (if vc = 0 then p.withheld else 0)) % 16384

/-- CRET_KIND and CRET_VALUE of the next flit: the rotation ACK, VC0, ACK, VC2 (R68). -/
def currentCret (p : Port) : Nat × Nat :=
  if p.line.cretTurn = 1 then (0, cretOf p 0) else if p.line.cretTurn = 3 then (2, cretOf p 2) else (3, ackNow p)

/-- Freed slots of a virtual channel that no CRET has returned yet. -/
def owedCredit (p : Port) (vc : Fin 3) : Nat := (cretOf p vc + 16384 - p.line.cretSent[vc]) % 16384

/-- Received flits that no CRET has acknowledged yet. -/
def owedAcks (p : Port) : Nat := (ackNow p + 4096 - p.line.ackSent) % 4096

/-- Whether the transmitter owes an acknowledgement or a credit return (R56). -/
def owes (p : Port) : Bool := owedAcks p ≠ 0 || owedCredit p 0 ≠ 0 || owedCredit p 2 ≠ 0

/-- What a sleeping transmitter owes makes it wake (R59): 256 flits unacknowledged, or more than a quarter of the credits
advertised for a virtual channel. -/
def mustWake (p : Port) : Bool :=
  256 ≤ owedAcks p || advertised 0 < 4 * owedCredit p 0 || advertised 2 < 4 * owedCredit p 2

/-! ## The flit stream (R53, R65 to R68, R71, R73) -/

/-- A flit is laid behind the bits of the stream. -/
def layFlit (f : Flit) (l : TxLine) : TxLine := { l with last := some f, val := l.val + f.toNat * 2 ^ l.len, len := l.len + 576 }

/-- A flit other than SKIP is sent with the current CRET (R68, R74). -/
def lay (kind seq : Nat) (slots : List Slot) (p : Port) : Port :=
  let cr := currentCret p
  { p with
    sinceSkip := p.sinceSkip + 1
    line := { layFlit (flitWord kind seq cr.1 cr.2 slots) p.line with
      cretTurn := (p.line.cretTurn + 1) % 4
      ackSent := if cr.1 = 3 then cr.2 else p.line.ackSent
      cretSent := if cr.1 = 0 then p.line.cretSent.set 0 cr.2 else if cr.1 = 2 then p.line.cretSent.set 2 cr.2 else p.line.cretSent } }

/-- A SKIP flit is sent (R52), and the count since the last one restarts (R53). -/
def laySkip (p : Port) : Port := { p with sinceSkip := 0, line := layFlit (flitWord 15 0 0 0 []) p.line }

/-- A SKIP flit is sent when 2,047 flits have followed the last (R53). -/
def skipDue (p : Port) : Port := if 2047 ≤ p.sinceSkip then laySkip p else p

/-- A CTRL flit with the NAK and sleep slots that wait, as many as have room behind `first` (R66, R70). The spec gives the waiting
slots no order and does not say whether several NAK slots share a flit: NAK slots come first, oldest first, then the sleep messages,
and they fill the flit (R70; DESIGN CHOICE, log 71). -/
def layCtrl (first : List Slot) (p : Port) : Port :=
  let p := skipDue p
  let room := 4 - first.length
  let naks := p.nakQueue.take room
  let msgs := p.sleepOut.take (room - naks.length)
  let p' := { p with
    nakQueue := p.nakQueue.drop naks.length, sleepOut := p.sleepOut.drop msgs.length
    line := { p.line with naks := p.line.naks + naks.length } }
  lay 2 0 (first ++ naks.map (linkSlot 0x10 0) ++ msgs.map fun m => linkSlot m.1 m.2 0) p'

/-- A CTRL flit of LINK_INIT: INIT in slot 0, and INIT_DONE in slot 1 once a valid INIT has come (R71). -/
def layInit (p : Port) : Port := layCtrl [initSlot p, if p.initRecv then linkSlot 2 0 0 else 0] p

/-- A stored PKT flit leaves: for the first time, or again after a replay (R73, R97). -/
def notePkt (seq : Nat) (l : TxLine) : TxLine :=
  if seq = l.fresh then { l with fresh := (l.fresh + 1) % 4096 } else { l with again := l.again + 1 }

/-- The next flit of the stream: a SKIP flit when 2,047 flits have followed the last (R53), link-control slots, a PKT flit, or
an IDLE flit (R68). -/
def layNext (p : Port) : Port :=
  if 2047 ≤ p.sinceSkip then laySkip p
  else if p.link = .linkInit then layInit p
  else if !(p.nakQueue.isEmpty && p.sleepOut.isEmpty) then layCtrl [] p
  else
    match p.line.queue with
    | x :: t => lay 1 x.1 x.2 { p with line := notePkt x.1 { p.line with queue := t } }
    | [] => lay 0 0 [] p

/-- Flits are sent until they fill a code word's message. -/
def fillWord : Nat → Port → Port
  | 0, p => p
  | n + 1, p => if 5140 ≤ p.line.len then p else fillWord n (layNext p)

/-! ## Code words and markers (R44, R46, R47) -/

/-- The code word of the first 5,140 bits of the stream is sent. -/
def sendWord (l : TxLine) : TxLine :=
  { l with word := some (rsEncode (BitVec.ofNat 5140 l.val)), val := l.val >>> 5140, len := l.len - 5140, cw := l.cw + 1 }

/-- Alignment markers of an EVENT are sent on every active lane; AM_COUNT counts from the last STREAM_START. -/
def sendMarker (event : Nat) (l : TxLine) : TxLine :=
  let n := if event = 1 then 0 else (l.amCount + 1) % 65536
  { l with marker := some (n, event), amCount := n, cw := 0 }

/-- WIDTH as Table 2 of chapter 2 encodes it. -/
def widthCode (w : Nat) : Nat := if w = 16 then 0 else if w = 8 then 1 else if w = 4 then 2 else 3

/-- Whether the receiver is deskewed: every active lane has shown a marker in DESKEW. -/
def rxAligned (p : Port) : Bool :=
  p.link = .linkInit || p.link = .active || (p.link = .deskew && p.rx.toList.all fun l => l.state ≠ .active || l.amSeen)

/-- The marker block last sent on a physical transmit lane (Table 4 of chapter 2); none when none was sent or the lane is not
active. -/
def amBlock (p : Port) (lane : Fin 17) : Option Block :=
  match p.line.marker with
  | none => none
  | some (n, event) =>
    if p.tx[lane].state ≠ .active then none
    else
      let x := 0x5A3CC3A5 + 2 ^ 32 * lane.val + 2 ^ 40 * p.tx[lane].logicalPos + 2 ^ 44 * widthCode p.txMap.width
        + 2 ^ 47 * b2n (rxAligned p) + 2 ^ 48 * n + 2 ^ 64 * event
      some (BitVec.ofNat 128 (x + 2 ^ 80 * crc16 80 x + 2 ^ 96 * 0xA5C33C5A))

/-- Code words between markers (R46). -/
def markerInterval (p : Port) : Nat := if p.link = .deskew then 64 else 4096

/-- Lane bits that pass in a nanosecond on one lane (R31). -/
def laneRate (p : Port) : Nat := if p.rate = 2 then 112 else 56

/-- What the lanes have time for is sent: a STREAM_START marker that is owed, the marker of an interval, or a code word of the
flit stream, which in DESKEW is the fill stream of zeros (R44). -/
def sendNext (p : Port) : Port :=
  let l := p.line
  let am := 128 * p.txMap.width
  let spend := fun (n : Nat) (l : TxLine) => { l with budget := l.budget - n }
  if l.start then
    if am ≤ l.budget then { p with line := spend am { sendMarker 1 l with start := false, val := 0, len := 0 } } else p
  else if markerInterval p ≤ l.cw then (if am ≤ l.budget then { p with line := spend am (sendMarker 0 l) } else p)
  else if l.budget < 5440 then p
  else if p.link = .deskew then { p with line := spend 5440 (sendWord { l with val := 0, len := 5140 }) }
  else
    let q := fillWord 9 p
    { q with line := spend 5440 (sendWord q.line) }

/-- A transmitter follows its port into a new state of Table 3: LINK_INIT begins with a STREAM_START marker (R47). -/
def followState (p : Port) : Port :=
  if p.link = p.line.phase then p
  else
    let begins := (p.link = .linkInit || p.link = .active) && p.line.phase ≠ .linkInit
    let l := { p.line with phase := p.link }
    if p.link = .active && p.line.phase = .linkInit then { p with line := l }
    else { p with line := { l with start := begins, hold := 0, budget := 0, cw := 0, amCount := 0, frames := 0, ts := none } }

/-- A nanosecond of a transmitter's code-word stream: a sleeping one wakes for what it owes (R59); one that wakes waits for its
preamble (R60). -/
def sendLine (p : Port) : Port :=
  if !(p.link = .deskew || p.link = .linkInit || p.link = .active) then p
  else if p.txSleep ≠ .active then (if mustWake p then wakeTx p else p)
  else if p.line.hold ≠ 0 then { p with line := { p.line with hold := p.line.hold - 1 } }
  else sendNext { p with line := { p.line with budget := p.line.budget + p.txMap.width * laneRate p } }

/-! ## Going idle (R58) -/

/-- Link-control slots that wait are sent. -/
def flushCtrl : Nat → Port → Port
  | 0, p => p
  | n + 1, p => if p.nakQueue.isEmpty && p.sleepOut.isEmpty then p else flushCtrl n (layCtrl [] p)

/-- The code words that the stream fills are sent. -/
def flushWords : Nat → TxLine → TxLine
  | 0, l => l
  | n + 1, l => if l.len < 5140 then l else flushWords n (sendWord l)

/-- A transmitter goes idle (R58): replies that wait are sent, the code word in progress is filled with zeros after the last whole
flit, and the ENTER_LIGHT or ENTER_DEEP marker ends the stream. -/
def endStream (deep : Bool) (p : Port) : Port :=
  let p := flushCtrl (p.nakQueue.length + p.sleepOut.length) p
  let l := { p.line with len := (p.line.len + 5139) / 5140 * 5140 }
  { p with line := sendMarker (if deep then 3 else 2) (flushWords (l.len / 5140) l) }

end Sys2Proof.Machine
end

