-- ==== Sys2Proof/Machine/Maint.lean ====
section
/-! DEFINITION. Maintenance activities and their claims (R270 to R274). -/

namespace Sys2Proof.Machine

open Sys2Proof

/-- What an activity can claim (Table 7 of R270). -/
inductive Claim where
  | slice (s : Nat)
  | layer (l : Nat) (electrical : Bool)
  | chan (c : Nat)
  | port (p : Nat)
deriving DecidableEq, Repr

/-- Two claims overlap (R271). -/
def claimsOverlap : Claim → Claim → Bool
  | .slice a, .slice b => a = b
  | .layer a _, .layer b _ => a = b
  | .layer a e, .slice b => e && sliceLayer b = a
  | .slice b, .layer a e => e && sliceLayer b = a
  | .chan a, .slice b => (sliceChan b).val = a
  | .slice b, .chan a => (sliceChan b).val = a
  | .chan _, .layer _ _ => true
  | .layer _ _, .chan _ => true
  | .port a, .port b => a = b
  | _, _ => false

/-- The spare slice that a substitution takes pages from: that of the next bench page. -/
def benchSlice (c : Ctl) : List Claim :=
  match nextBench c none with
  | some p => [.slice (ppnSlice p)]
  | none => []

/-- The claims of an activity by KIND, TARGET_TYPE and TARGET_INDEX (Table 7 of R270). -/
def claimsOf (c : Ctl) (kind tt target : Nat) : List Claim :=
  match kind with
  | 1 => .slice target :: (match c.pm.substSpare with | some s => [.slice s] | none => benchSlice c)
  | 2 | 3 | 10 => [.layer target false]
  | 4 | 9 => [.slice target]
  | 5 => [.port target]
  | 6 | 7 => [.layer target true]
  | _ => if tt = 4 then [.chan target] else [.layer target true]

/-- Rank by KIND, and whether the activity can be preempted (Table 7 of R270). -/
def kindRank (kind : Nat) : Nat := if kind = 1 then 1 else if kind ≤ 8 then 2 else 3
def preemptible (kind : Nat) : Bool := kind = 9 || kind = 10

/-- The activities that hold claims. -/
def holders (c : Ctl) : List Activity := c.mgr.running.filter fun a => a.state = 1

/-- GLOBAL.MAINT_CLAIMS: claims held now. -/
def claimsHeld (c : Ctl) : Nat := ((holders c).map fun a => (claimsOf c a.kind a.targetType a.target).length).sum

/-- The holders whose claims overlap those of a new activity. -/
def overlapping (c : Ctl) (kind tt target : Nat) : List Activity :=
  (holders c).filter fun a =>
    (claimsOf c a.kind a.targetType a.target).any fun x => (claimsOf c kind tt target).any (claimsOverlap x)

/-- A holder gives way to a new activity (R272). -/
def givesWay (kind : Nat) (a : Activity) : Bool := preemptible a.kind && kindRank kind < kindRank a.kind

/-- The lowest-numbered overlapping holder that is not preempted (R272). -/
def blocker (c : Ctl) (kind tt target : Nat) : Option Activity :=
  let l := (overlapping c kind tt target).filter fun a => !givesWay kind a
  l.find? fun a => l.all fun b => a.id ≤ b.id

/-- The in-service test target of an activity: 0 to 7 the spare slices, 8 to 24 the layers (R277). -/
def istIndex (a : Activity) : Option (Fin 25) :=
  if a.kind = 9 then (if 128 ≤ a.target && a.target < 136 then some (Fin.ofNat 25 (a.target - 128)) else none)
  else if a.kind = 10 then (if 1 ≤ a.target && a.target ≤ 17 then some (Fin.ofNat 25 (a.target + 7)) else none)
  else none

/-- Periodic in-service test (R275): the units of a target and its period in ns, 24 hours for a spare slice, an hour for a layer. -/
def istUnits (i : Fin 25) : Nat := if i.val < 8 then 16384 else 32
def istPeriod (i : Fin 25) : Nat := if i.val < 8 then 86400000000000 else 3600000000000

def modIst (i : Fin 25) (f : Ist → Ist) : Ctl → Ctl := modMgr fun g => { g with ist := g.ist.set i (f g.ist[i]) }

/-- A target lags when its oldest unit not yet done came due more than 10 % of its period ago (R277). -/
def istLagging (c : Ctl) (i : Fin 25) : Bool :=
  match c.mgr.ist[i].due with
  | d :: _ => d + (istPeriod i / 10 : Nat) < (c.now : Int)
  | [] => false

/-- What has been found of the unit in progress is dropped. -/
def istClear (t : Ist) : Ist := { t with done := 0, failed := none, bonds := [] }

/-- In-service tests are preempted (R273): the unit in progress starts again later. -/
def preemptAll (l : List Activity) (c : Ctl) : Ctl :=
  let c := bumpBy (gIdx 13) l.length c
  let mark : Ctl → Activity → Ctl := fun c a =>
    match istIndex a with
    | some i => modIst i (fun t => { istClear t with preempted := true }) c
    | none => c
  let c := l.foldl mark c
  modMgr (fun g => { g with running := mapIf (fun a => l.any fun b => b.id = a.id) (fun a => { a with state := 4 }) g.running }) c

/-- Overlapping in-service tests give way to an activity. -/
def preemptOverlap (kind tt target : Nat) (c : Ctl) : Ctl :=
  preemptAll ((overlapping c kind tt target).filter (givesWay kind)) c

/-- The next free activity ID from `id` on (R270): 0x0001 to 0xFEFF, wrapping, skipping IDs in use. -/
def freeActivityId (used : List Nat) : Nat → Nat → Nat
  | 0, id => id
  | n + 1, id => if used.contains id then freeActivityId used n (if id = 0xFEFF then 1 else id + 1) else id

/-- A new activity joins the list, waiting or running; its ID and the state. -/
def addActivity (kind tt target state : Nat) (byFirmware : Bool) (c : Ctl) : Nat × Ctl :=
  let id := freeActivityId (c.mgr.running.map (·.id)) 96 c.mgr.nextActivity
  let a : Activity := { id, kind, targetType := tt, target, state, result := 0, beat := c.beat.number.toNat % 2 ^ 32, byFirmware, at_ := c.now }
  (id, modMgr (fun g => { g with running := g.running ++ [a], nextActivity := if id = 0xFEFF then 1 else id + 1 }) c)

/-- Whether a waiting activity can have its claim now (R272): nothing that does not give way overlaps it, and at most 64
claims are held. -/
def grantable (c : Ctl) (a : Activity) : Bool :=
  (blocker c a.kind a.targetType a.target).isNone && claimsHeld c + (claimsOf c a.kind a.targetType a.target).length ≤ 64

/-- A granted substitution holds the spare slice that it is taking pages from. -/
def holdSpare (kind : Nat) (c : Ctl) : Ctl :=
  if kind = 1 then modPm (fun pm => { pm with substSpare := (nextBench c none).map ppnSlice }) c else c

/-- Waiting activities take their claims in order: fault reactions first (R270, R272). -/
def grantWaiting (c : Ctl) : Ctl :=
  let waiting := c.mgr.running.filter fun a => a.state = 0
  let ordered := (waiting.filter fun a => a.kind = 1) ++ waiting.filter fun a => a.kind ≠ 1
  forEach ordered (fun a c =>
    if grantable c a then
      modMgr (fun g => { g with running := mapIf (fun x => x.id = a.id) (fun x => { x with state := 1, at_ := c.now }) g.running })
        (holdSpare a.kind (preemptOverlap a.kind a.targetType a.target c))
    else c) c

/-- An activity ends with a state and result; the last 32 are kept (R274), and its claims pass on. -/
def endActivity (id state : Nat) (result : BitVec 32) (c : Ctl) : Ctl :=
  match c.mgr.running.find? fun a => a.id = id with
  | none => c
  | some a =>
    let x := { a with state := state, result := result, beat := c.beat.number.toNat % 2 ^ 32 }
    let c := if a.kind = 1 then modPm (fun pm => { pm with substSpare := none }) c else c
    grantWaiting (modMgr (fun g =>
      let l := g.ended ++ [x]
      { g with running := g.running.filter (fun y => y.id ≠ id), ended := l.drop (l.length - 32) }) c)

/-- A fault reaction or firmware asks for an activity: it runs at once or waits for its claim (R272). -/
def askActivity (kind tt target : Nat) (c : Ctl) : Ctl := grantWaiting (addActivity kind tt target 0 true c).2

/-- The substitution goes on to another spare slice: a claim of its own, which preempts an in-service test and waits for any other
holder (R272). The answer is none while it waits. -/
def moveSpare (s : Nat) (c : Ctl) : Option Ctl :=
  if c.pm.substSpare = some s then some c
  else
    let hits := (holders c).filter fun a => a.kind ≠ 1 && (claimsOf c a.kind a.targetType a.target).any (claimsOverlap (.slice s))
    if hits.all (givesWay 1) then some (modPm (fun pm => { pm with substSpare := some s }) (preemptAll hits c)) else none

/-- The fixed activity of a test target (R270): kind, target type, target and ID. -/
def istActivity (i : Fin 25) : Nat × Nat × Nat × Nat :=
  if i.val < 8 then (9, 6, 128 + i.val, 0xFF00 + i.val) else (10, 5, i.val - 7, 0xFF10 + (i.val - 7))

/-- A target's test asks for its claim, unless it holds it or waits for it. -/
def askIst (i : Fin 25) (c : Ctl) : Ctl :=
  let a := istActivity i
  if c.mgr.running.any fun x => x.id = a.2.2.2 then c
  else
    let x : Activity := { id := a.2.2.2, kind := a.1, targetType := a.2.1, target := a.2.2.1, state := 0, result := 0, beat := c.beat.number.toNat % 2 ^ 32, byFirmware := true }
    grantWaiting (modMgr (fun g => { g with running := g.running ++ [x] }) c)

/-- The substitution of a slice holds its claim. -/
def substGranted (c : Ctl) (s : Nat) : Bool := c.mgr.running.any fun a => a.kind = 1 && a.target = s && a.state = 1

end Sys2Proof.Machine
end

