-- ==== Sys2Proof/Machine/Reply.lean ====
section
/-! DEFINITION. Management replies and operations (R387 to R395). -/

namespace Sys2Proof.Machine

open Sys2Proof

/-- A command in flight: transport, TAG, opcode and SEQ. -/
abbrev CmdRef := Via × Nat × Nat × Nat

/-- The reply header (Table 3 of R389) with its payload, as a number. -/
def replyBits (r : Reply) : Nat :=
  r.opcode + 2 ^ 16 * r.seq + 2 ^ 32 * r.status + 2 ^ 48 * r.payload.length + 2 ^ 64 * b2n r.fragAck + 2 ^ 65 * r.frag
    + 2 ^ 80 * r.opId + 2 ^ 128 * ofBytes r.payload

/-- A reply leaves on its transport: a MGMT_REPLY packet in-band, the I3C target's queue otherwise. -/
def sendReply (r : Reply) (c : Ctl) : Ctl :=
  match r.via with
  | .i3c => modMgr (fun g => { g with i3cOut := g.i3cOut ++ [r] }) c
  | .port p =>
    if !linkUp c.ports[p] then c
    else
      let k : OutPkt :=
        { opcode := 0x89, tag := r.tag, status := 0, info := 0, addr := 0
          data := slotsOf (1 + (r.payload.length + 15) / 16) (replyBits r), trk := none }
      pumpPort p (modPort p (fun q => { q with mgmtQ := q.mgmtQ ++ [k] }) c)

/-- The reply to a command: status, OP_ID and payload. -/
def replyTo (ref : CmdRef) (status opId : Nat) (payload : List Byte) : Ctl → Ctl :=
  sendReply { via := ref.1, tag := ref.2.1, opcode := ref.2.2.1, seq := ref.2.2.2, status := status, opId := opId, payload := payload }

/-- A reply without payload. -/
def replyStatus (ref : CmdRef) (status : Nat) : Ctl → Ctl := replyTo ref status 0 []

/-- A parked command's reply leaves when its work ends (R394), unless a link loss or a reset has dropped it (R396). -/
def replyParked (ref : CmdRef) (status : Nat) (payload : List Byte) (c : Ctl) : Ctl :=
  if c.mgr.parked.contains ref then replyTo ref status 0 payload (modMgr (fun g => { g with parked := g.parked.erase ref }) c)
  else c

/-- A command is parked (R394). -/
def park (ref : CmdRef) : Ctl → Ctl := modMgr fun g => { g with parked := g.parked ++ [ref] }

/-- OP_ID after `n`: it wraps from 0xFFFF to 1 (R395). -/
def nextOpOf (n : Nat) : Nat := if n = 0xFFFF then 1 else n + 1

/-- A command starts an operation; the 16 most recent are kept (R395). Its identifier and the state. -/
def startOperation (opcode : Nat) (c : Ctl) : Nat × Ctl :=
  let id := c.mgr.nextOp
  let l := c.mgr.ops ++ [{ id := id, opcode := opcode, state := 1, final := 0 }]
  (id, modMgr (fun g => { g with ops := l.drop (l.length - 16), nextOp := nextOpOf id }) c)

/-- An operation ends with a status (R395). -/
def endOperation (id status : Nat) : Ctl → Ctl :=
  modMgr fun g => { g with ops := mapIf (fun o => o.id = id) (fun o => { o with state := 2, final := status }) g.ops }

/-- A command replies IN_PROGRESS with a new operation. -/
def replyInProgress (ref : CmdRef) (c : Ctl) : Nat × Ctl :=
  let r := startOperation ref.2.2.1 c
  (r.1, replyTo ref 7 r.1 [] r.2)

/-- A parked command replies IN_PROGRESS with a new operation (R126), unless a link loss has dropped its reply (R396). -/
def parkedInProgress (ref : CmdRef) (c : Ctl) : Nat × Ctl :=
  if c.mgr.parked.contains ref then replyInProgress ref (modMgr (fun g => { g with parked := g.parked.erase ref }) c)
  else startOperation ref.2.2.1 c

end Sys2Proof.Machine
end

