-- ==== Sys2Proof/Machine/Writes.lean ====
section
/-! DEFINITION. The acceptance of whole-granule writes at a channel (R118, R134, R145, R210, R215, R220, R236): what the umpire's
reactions and the channel controller share. -/

namespace Sys2Proof.Machine

open Sys2Proof

/-- The stored value of the newest write to a granule in the write buffer. -/
def wbufFind (ch : Chan) (key : Nat) : Option (BitVec 320) := ((ch.wbuf.reverse.find? fun w => w.1 = key).map (·.2))

/-- Whether a slice is marked failed (R236). -/
def keyFailed (c : Ctl) (key : Nat) : Bool := c.chans[keyChan key].sliceFailed.getLsbD (keyRank key)

/-- A bank as it is after reset. -/
def emptyBank : Bank := {}
def bankGet (ch : Chan) (k : Nat) : Bank := sparseGet (fun _ => emptyBank) ch.banks k
def bankPut (k : Nat) (b : Bank) (ch : Chan) : Chan := { ch with banks := sparsePut (fun _ => emptyBank) ch.banks k b }

/-- The acceptance of a granule for another row of its bank closes the row that is open there (R215). -/
def closeOther (key : Nat) (ch : Chan) : Chan :=
  let b := bankGet ch (bankKey key)
  if b.openRow.any (fun r => r ≠ keyRow key) then bankPut (bankKey key) { b with openRow := none } ch else ch

/-- Whether a write to a granule of a mirrored page is shadowed: the mirror is synced, or the copy has passed its chunk
(R117, R118). -/
def shadowed (c : Ctl) (hpn g : Nat) : Bool :=
  match mirrorOf c hpn with
  | none => false
  | some (_, m) =>
    m.synced || c.pm.copiers.toList.any fun k =>
      match k.job with
      | some j => j.hpn = hpn && (match j.kind with | .mirrorCopy | .substMirror => true | _ => false) && g / 64 < k.cursor
      | none => false

/-- A shadow write joins the pending list of its mirror (R118), or of one that is being removed while writes translated before
are on their way (R117). -/
def pushShadow (who : Option (Nat × Nat)) (hpn g : Nat) (v : BitVec 320) (c : Ctl) : Ctl :=
  let push : Mirror → Mirror := fun m => { m with pending := m.pending ++ [(g, v, who)] }
  let here := shadowed c hpn g
  modPm (fun pm => { pm with
    mirrors := if here then mapIf (fun m => m.2.hpn = hpn) (fun m => (m.1, push m.2)) pm.mirrors else pm.mirrors
    leaving := mapIf (fun m => m.hpn = hpn) push pm.leaving }) c

/-- A whole-granule write is accepted: it joins the write buffer and replaces a value the atomic unit holds (R134, R220), and
the granule may be first found uncorrectable again (R145).
Writes to a failed slice are discarded (R236). `hpn` is the host page when the write must be shadowed. -/
def acceptWrite (key : Nat) (v : BitVec 320) (hpn : Option Nat) (c : Ctl) : Ctl :=
  let ch := keyChan key
  let c := match hpn with | some h => pushShadow none h (keyGran key) v c | none => c
  if keyFailed c key then c
  else
    modChan ch (fun x => { closeOther key x with
      wbuf := x.wbuf ++ [(key, v)]
      ueFound := x.ueFound.filter fun k => k ≠ key
      au := (mapIf (fun e => e.gran = key) (fun e => { e with replaced := true }) x.au).filter fun e => !(e.replaced && e.waiting.isEmpty) }) c

end Sys2Proof.Machine
end

