-- ==== Sys2Proof/Machine/Flags.lean ====
section
/-! DEFINITION. The umpire: events, classes, merging, escalation, reactions, the log, NOTIFY and ALERT_N (R284 to R302),
and what stops when the stack's class rises (R173, R202, R287, R288). -/

namespace Sys2Proof.Machine

open Sys2Proof

/-! ## Event codes (Table 4 of R289) -/

/-- The class of an event code. -/
def eventClass (code : Nat) : Nat :=
  if code < 0x20 then 0 else if code < 0x40 then 1 else if code < 0x60 then 2 else if code < 0x80 then 3
  else if code < 0xA0 then 4 else 5

/-- Request events (R284). -/
def isRequestEvent (code : Nat) : Bool := code = 0x28 || code = 0x29

/-- The codes whose scope is a slice that goes out of service (R291). -/
def isSliceCode (code : Nat) : Bool := code = 0x40 || code = 0x41 || code = 0x42

/-- An unacknowledged fault. -/
def isOpen (e : LogEntry) : Bool := e.ackRequired && !e.acked

/-- Every entry that counts: the log and the overflow entry. -/
def allEntries (u : Umpire) : List LogEntry := u.log ++ u.overflow.toList

/-- UMPIRE.STACK_CLASS (R286). -/
def stackClass (u : Umpire) : Nat :=
  if u.class5 then 5 else if u.class4 then 4
  else if (allEntries u).any fun e => isOpen e && e.cls = 3 then 3 else 0

/-- ALERT_N (R302): high when no unacknowledged fault of the class set, or above, remains; low in class 4 and 5. -/
def alertLevel (u : Umpire) : Bool :=
  !(4 ≤ stackClass u || (allEntries u).any fun e => isOpen e && u.alertMin ≤ e.cls)

/-- ALERT_N at its ball (Table 9 of R462): released while the rails are off, while RESET_N is asserted and in HOLD, unchanged in
thermal shutdown, asserted in class 5. -/
def alertBall (c : Ctl) : Bool :=
  if c.umpire.class5 then false
  else if c.power.stage = .shutdown then c.umpire.alertN
  else c.power.stage = .off || c.power.holdReason ≠ 0 || !c.power.resetN || alertLevel c.umpire

/-- ALERT_N takes its level. -/
def updateAlert (c : Ctl) : Ctl := modUmpire (fun u => { u with alertN := alertBall c }) c

/-! ## Stops -/

/-- A stop asked of a mover's descriptor: the state its queue takes afterwards, and whether DB_PENDING is set (R173). -/
def askStop (q : Nat) (db : Bool) (v : Mover) : Mover :=
  match v.curQueue, v.stop with
  | some _, none => { v with stop := some (q, db) }
  | _, _ => v

/-- Movers stop for class 3 at the next element boundary (Table 13 of R173). -/
def moversQuiesce (c : Ctl) : Ctl := { c with movers := c.movers.map (askStop 1 true) }

def queueGet (c : Ctl) (q : Nat) : Queue := sparseGet (fun _ => {}) c.queues q
def queuePut (q : Nat) (v : Queue) (c : Ctl) : Ctl := { c with queues := sparsePut (fun _ => {}) c.queues q v }

/-- The first element or granule that a descriptor stopped by class 4 or a warm reset issues again: the first not yet issued (R156). For a
stream R173 names the first element of the first unsent packet at a stop; at this one, which writes no record, R156 is followed
(DESIGN CHOICE, log 85). -/
def resumePoint (v : Mover) : Nat := v.nextElem

/-- A mover stops at once for class 4 (Table 13 of R173): its accesses not yet performed are dropped, no record is
written, and RESUME names the first element not yet issued (R156). A QUEUE_DISABLE that waits finds its queue DISABLED
(R155); any other keeps STATE RUNNING, with no mover, until the warm reset that R156 describes: DESIGN CHOICE (log 46). -/
def moverHalt (m : Fin 16) (c : Ctl) : Ctl :=
  let v := c.movers[m]
  match v.curQueue with
  | none => c
  | some q =>
    let x := queueGet c q
    let disabled := match v.stop with | some (0, _) => true | _ => false
    -- a record of a failed fetch is of no descriptor: HEAD's has not begun
    let ran := match v.phase with | .running => true | .record cause _ => cause ≠ 2 | _ => false
    let c := queuePut q { x with resume := if ran then resumePoint v else x.resume, state := if disabled then 0 else x.state } c
    let c := { c with trk := c.trk.filter fun t => match t.src with | .mover m' _ => m' ≠ m | .port _ => true }
    let c := match v.stopReply with | some r => replyParked r 0 [] c | none => c
    -- elements that had ended other than OK, and wait for their destination, are counted (R182)
    let c := bumpBy (mIdx m 1) (v.results.countP (fun r => r.2.1 ≠ 0) + v.inflight.countP fun e => e.ended.any fun st => st ≠ 0) c
    modMover m (fun v => { v with curQueue := none, phase := .free, inflight := [], stop := none, stopReply := none, results := [] }) c

/-- A transaction before its commit point (R192). -/
def txnUncommitted (t : Txn) : Bool := t.phase ≠ .committing

/-- The hold entries of an identifier leave every channel, and its waiting requests with them. -/
def dropHolds (id : Nat) (c : Ctl) : Ctl :=
  { c with chans := c.chans.map fun ch => { ch with holds := ch.holds.filter (fun h => h.id ≠ id), holdWaits := ch.holdWaits.filter fun w => w.id ≠ id } }

/-- A locked sequence ends without its COMMIT: staged values discarded, holds released, context freed, packets that wait
end with a status (R200, R201). One that ends as at expiry counts in LSEQ_EXPIRED (R205). -/
def endSeq (r : Fin 4) (q : LSeq) (status : Nat) (c : Ctl) : Ctl :=
  let c := dropHolds q.id (if q.state = .committing then c else bump (rIdx r 17) c)
  let stages := c.regions[r].coord.txns.filter fun t => t.lsid = some q.id
  let c := modRegion r (fun g => { g with coord := { g.coord with seqs := g.coord.seqs.filter (fun x => x.id ≠ q.id), txns := g.coord.txns.filter fun t => t.lsid ≠ some q.id } }) c
  let c := forEach stages (fun t c => endTrk t.trk status (dropHolds t.id c)) c
  forEach q.waiting (fun w c => endTrk w.2.2 status c) c

/-- What class 4 does to a coordinator: transactions before their commit point release their holds and end HALTED, open
and doomed sequences end as at expiry, a COMMIT that waits for the log ends HALTED, committed ones stay to complete (R186,
R202). -/
def coordHalt (r : Fin 4) (c : Ctl) : Ctl :=
  let ts := c.regions[r].coord.txns.filter fun t => txnUncommitted t && t.lsid.isNone
  let c := forEach ts (fun t c => endTrkWith t.trk 8 (BitVec.ofNat 32 (t.retries * 256)) [] (dropHolds t.id c)) c
  let c := modRegion r (fun g => { g with coord := { g.coord with txns := g.coord.txns.filter fun t => !(txnUncommitted t && t.lsid.isNone) } }) c
  let undone := fun (q : LSeq) => c.regions[r].coord.txns.any fun t => t.lsid = some q.id && txnUncommitted t
  forEach (c.regions[r].coord.seqs.filter fun q => q.state ≠ .committing || undone q) (fun q c => endSeq r q 8 c) c

/-- A committed granule is written (R186, R191): its write is accepted and its hold freed. -/
def finishKey (id : Nat) (k : Key) (c : Ctl) : Ctl :=
  let free : Chan → Chan := fun ch => { ch with holds := ch.holds.filter fun h => !(h.gran = k.gran && h.id = id) }
  if k.state = .committing then
    modChan (keyChan k.gran) free (acceptWrite k.gran (granEncode (k.new.getD 0)) (if (pmGet c k.hpn).mirrored then some k.hpn else none) c)
  else c

/-- Committed transactions and sequences of a coordinator complete before the ranks enter self-refresh (R29, R202): their writes
are accepted, their records and contexts freed. -/
def coordFinish (r : Fin 4) (c : Ctl) : Ctl :=
  let ts := c.regions[r].coord.txns
  let c := forEach ts (fun t c => forEach t.keys (finishKey (t.lsid.getD t.id)) c) c
  modRegion r (fun g => { g with coord := { g.coord with
    txns := [], log := []
    seqs := g.coord.seqs.filter fun q => !(ts.any fun t => t.lsid = some q.id && t.phase = .committing) } }) c

/-- Requests that end HALTED at class 4 (R287): those not yet accepted at their channel, and reads. -/
def haltsAt4 (t : Trk) : Bool :=
  match t.src with
  | .mover _ _ => false
  | .port _ => t.op = .read || t.op = .fence || (match t.op with | .doorbell _ => true | _ => false) || t.grans.any fun g => g.phase = .atMap || g.phase = .queued

/-- The stack leaves STACK_SELF_REFRESH (R349): changeovers run again, and the refresh timebases start
anew (R467). -/
def leaveSelfRefresh (c : Ctl) : Ctl :=
  if c.power.selfRefresh then
    let awake : Chan → Chan := fun ch => { ch with
      banks := (ch.banks.map fun b => (b.1, { b.2 with debt := 0, busyUntil := 0, visitDue := false })).filter fun b => b.2 ≠ {}
      rotation := Vector.replicate 5 1 }
    { c with power := { c.power with selfRefresh := false, changeoversRun := true }, chans := c.chans.map awake }
  else c

/-- The steps of class 4 (R287): requests end HALTED, movers stop, uncommitted transactions end, changeovers stop and
every rank enters self-refresh. -/
def enterHalt (c : Ctl) : Ctl :=
  let c := forEach allRegions (fun r c => coordFinish r (coordHalt r c)) (leaveSelfRefresh c)
  let c := forEach ((c.trk.filter haltsAt4).map (·.id)) (fun i c => endTrk i 8 c) c
  let c := forEach allMovers moverHalt c
  let c := { c with chans := c.chans.map fun ch => { ch with windowBlocked := none, windowRuns := false } }
  modBeat (fun b => { b with windowOpen := false }) (modPower (fun w => { w with ranksAsleep := true, changeoversRun := false }) c)

/-! ## Link loss (R51) -/

/-- MODE of the descriptor a mover runs (R157). -/
def descMode (d : BitVec 512) : Nat := bitsOf d.toNat 320 64
def descOpcode (d : BitVec 512) : Nat := d.toNat % 256

/-- Whether a mover runs a GATHER that streams to a port (R167). -/
def streamsTo (p : Fin 4) (v : Mover) : Bool :=
  v.curQueue.isSome && v.phase = .running && descOpcode v.desc = 3 && bitOf (descMode v.desc) 16 && bitsOf (descMode v.desc) 17 2 = p.val

/-- The OPEN and DOOMED sequences of a port end as at expiry (R201). -/
def endSeqsOf (p : Fin 4) (c : Ctl) : Ctl :=
  forEach (c.regions[p].coord.seqs.filter fun q => q.port = p && q.state ≠ .committing)
    (fun q c => endSeq p q 6 c) c

/-- Sequence numbers, credits, acknowledgements, the replay buffer and sleep as a bring-up from DETECT finds them (R71). -/
def resetLink (p : Port) : Port :=
  { p with
    txSleep := .active, rxSleep := .active, sleepReqOut := none, sleepMinimum := false, wakeDecided := false
    wakeUnacked := false, awaitStart := false, wakeBlocks := 0, sleepOut := [], expSeq := 0, nakOut := false, nakQueue := [], nextSeq := 0
    line := { p.line with
      rest := [], queue := [], cretTurn := 0, ackSent := 4095, cretSent := Vector.replicate 3 0, hold := 0, retryAt := 0, wakeAsked := false
      fresh := 0 }
    replay := [], replayRepeats := 0, replayLast := none, initRecv := false, initDoneRecv := false, resumeSent := false
    adv := Vector.replicate 3 0, used := Vector.replicate 3 0, ret := Vector.replicate 3 0
    recvd := Vector.replicate 3 0, freed := Vector.replicate 3 0, withheld := 0, asm := [], mapChanged := false }

/-- A port's link layer as the next LINK_INIT finds it (R51, R71): sequence numbers, credits, buffers and sleep start afresh.
Requests that wait, and those whole in the receive buffer, were accepted: they run to completion and their responses are
discarded; management packets not yet taken up are dropped with the in-band assembly (DESIGN CHOICE, log 59). NOTIFY packets
that wait stay queued for the next link, as the spec is silent on them (R85; DESIGN CHOICE, log 60). -/
def freshLink (n : Fin 4) (p : Port) : Port :=
  let whole := p.rxPkts.filter fun k => k.head?.map rxVc = some 0
  let left := p.waiting.foldl (fun (l : List (List Slot)) w => l.eraseP (isPacket w.opcode w.hdr)) whole
  let taken := left.map fun k => ({ opcode := (k.headD 0).toNat % 256, hdr := hdrOf n (k.headD 0) (k.drop 1), since := 0 } : Waiting)
  { resetLink p with
    rxPkts := [], waiting := (p.waiting ++ taken).map fun w => { w with orphan := true }
    respQ := [], mgmtQ := [], retraining := false }

/-- A port without a flit stream holds no part of one. -/
def noStream (p : Port) : Port :=
  { p with
    sinceSkip := 0, partialVal := 0, partialLen := 0, rxLine := [], rxFlits := [], ebOn := false, rxCw := 0
    line := { p.line with val := 0, len := 0, start := false } }

/-- Link loss (R51): accepted requests run on with their responses discarded, entries of completed ones are released, the
link layer starts afresh, sequences end, streams to the port are lost (R168), the owner port's partial assembly and the
replies of its parked commands are dropped (R396), and an eye scan of the port is aborted (R63). -/
def linkLoss (p : Fin 4) (c : Ctl) : Ctl :=
  let sent := (c.ports[p].respQ.filterMap (·.trk))
  let c : Ctl := { c with trk := mapIf (srcIsPort p) (fun t => { t with orphan := true }) (c.trk.filter fun t => !sent.contains t.id) }
  let c := modPort p (freshLink p) (bump (pIdx p 3) c)
  let c := endSeqsOf p c
  let c : Ctl := { c with movers := c.movers.map fun v => if streamsTo p v then { v with streamLost := true } else v }
  let c := bumpBy (gIdx 32) (c.mgr.parked.countP fun r => r.1 = .port p) c
  let c := modMgr (fun g => { g with parked := g.parked.filter fun r => r.1 ≠ .port p, asmInband := if c.life.ownerPort = some p then none else g.asmInband }) c
  match c.mgr.running.find? fun a => a.kind = 5 && a.target = p.val && a.state = 1 with
  | some a => endActivity a.id 3 0 c
  | none => c

/-- A response that class 5 finds unsent is discarded unless the hardware let it go first, which the spec leaves open
(R288, log 9): the free choice decides. -/
def discardUnsent (k : Nat) : List OutPkt → List OutPkt
  | [] => []
  | p :: t => if Config.leavesAtLockdown k then p :: discardUnsent (k + 1) t else discardUnsent (k + 1) t

/-- Class 5 turns a port's transmitters off (R288): of the responses not yet sent those that the free choice lets go first are sent,
the others are discarded, and a link that was up is lost (R51). -/
def portLockdown (p : Fin 4) (c : Ctl) : Ctl :=
  let c := if txOpen c.ports[p] then bumpBy (pIdx p 27) (poisonedSent (discardUnsent c.draws c.ports[p].respQ)) c else c
  let c := if linkUp c.ports[p] then linkLoss p c else c
  let off : Lane → Lane := fun l => { l with state := if l.failing then .failed else .off, logicalPos := 0 }
  modPort p (fun q => { noStream q with
    respQ := [], mgmtQ := [], notifyQ := [], link := .detect, retraining := false, rate := 0, txMap := {}, rxMap := {}
    rx := q.rx.map off, tx := q.tx.map off }) c

/-- The steps of class 5 (R288): those of class 4, transmitters off, responses not yet sent discarded, the management cores
in reset and the session state cleared. -/
def enterLockdown (c : Ctl) : Ctl :=
  let c := forEach allPorts portLockdown (enterHalt c)
  let c := { c with draws := c.draws + 1 }
  let c := modLife (fun l => { l with fwRunning := false, nonce := 0, drbg := 0, keyReg := none, spdmInband := {}, spdmI3c := {}, eraseLatch := false }) c
  modMgr (fun g => { g with asmInband := none, asmI3c := none, parked := [], staging := {}, latches := [] }) c

/-! ## Slices and pages out of service (R290 to R292) -/

/-- Substitution of a slice starts, or queues behind the one in progress (R126, R291), and asks for its claim (R272). -/
def startSubstitution (s : Nat) (c : Ctl) : Ctl :=
  if sliceVacated c s then c
  else
    let put : PageMap → PageMap := fun pm =>
      match pm.substSlice with
      | none => { pm with substSlice := some s, substNext := 0, substDone := 0 }
      | some _ => { pm with substQueue := pm.substQueue ++ [s] }
    askActivity 1 6 s (modPm put (leaveSelfRefresh c))

/-- A slice goes out of service (R291), and receives no further repairs from the tracker (R283). -/
def sliceOutOfService (s : Nat) (c : Ctl) : Ctl :=
  if sliceIsOut c s then c
  else
    let bit := BitVec.ofNat 5 (2 ^ sliceRank s)
    let c := modChan (sliceChan s) (fun ch => { ch with sliceOut := ch.sliceOut ||| bit, srrWaits := ch.srrWaits.filter fun k => keyRank k ≠ sliceRank s }) c
    startSubstitution s c

/-- CH.OUT_OF_SERVICE (R292). -/
def chanOut (c : Ctl) (ch : Fin 32) : Bool :=
  c.chans[ch].caOut || (chanRanks ch).all fun k => c.chans[ch].sliceOut.getLsbD k

/-- A class-1 fault of PAGE scope raised to class 2 (R290): its page is substituted alone, or retired on the bench; with an
empty bench the skip is counted. -/
def substitutePage (ppn : Nat) (c : Ctl) : Ctl :=
  match useGet c ppn with
  | .bench => usePut ppn .retired c
  | .mapped | .mirror =>
    match nextBench c none with
    | none => bump (gIdx 22) c
    | some d =>
      let isMirror := useGet c ppn = .mirror
      let h := if isMirror then ((c.pm.mirrors.find? fun m => m.2.secPpn = ppn).map (·.2.hpn)).getD 0
        else ((c.pm.entries.find? fun e => e.2.ppn = ppn && e.2.state ≠ .unmapped).map (·.1)).getD
          ((ppn % 16384) * 128 + (ppn / 16384 / 32) * 32 + ppn / 16384 % 32)
      let job : CopyJob := { kind := if isMirror then .substMirror else .single, hpn := h, src := ppn, dst := d }
      modPm (fun pm => { pm with jobs := pm.jobs ++ [job] }) (usePut d .target (leaveSelfRefresh c))
  | _ => c

/-! ## Reactions -/

/-- The reaction that a code of class 2 has beyond its class (Table 4 of R289). -/
def codeReaction (code idx detail : Nat) (c : Ctl) : Ctl :=
  if isSliceCode code then sliceOutOfService idx c
  else if code = 0x43 then
    let ch := Fin.ofNat 32 idx
    forEach (chanRanks ch) (fun k c => sliceOutOfService (sliceOf ch k) c) (modChan ch (fun x => { x with caOut := true }) c)
  else if code = 0x45 then usePut idx .retired c
  else if code = 0x4A then
    modMover (Fin.ofNat 16 idx) (fun v => askStop 1 true { v with enable := false, faulted := true }) c
  else if code = 0x4B then queuePut idx { queueGet c idx with state := 0 } c
  else if code = 0x44 && bitsOf detail 14 3 = 7 && !bitOf detail 13 then
    -- no spare left (ASSIGNED 7 of a signal column): the slices of the channel at or above the bond's layer, DETAIL[11:7]
    let ch := Fin.ofNat 32 idx
    forEach ((chanRanks ch).filter fun k => bitsOf detail 7 5 ≤ sliceLayer (sliceOf ch k)) (fun k c => sliceOutOfService (sliceOf ch k) c) c
  else c

/-- The reaction of class `k` to an event that arrived with class `orig` (R285, R290). -/
def classReaction (code orig scopeType idx detail k : Nat) (c : Ctl) : Ctl :=
  if k = 2 then
    if orig = 2 then codeReaction code idx detail c
    else if scopeType = 7 then substitutePage idx c
    else if scopeType = 6 then sliceOutOfService idx c
    else c
  else if k = 3 then moversQuiesce c
  else if k = 4 then
    if c.umpire.class4 || c.umpire.class5 then modUmpire (fun u => { u with class4 := true }) c
    else enterHalt (modUmpire (fun u => { u with class4 := true }) c)
  else if k = 5 then
    if c.umpire.class5 then c else enterLockdown (modUmpire (fun u => { u with class5 := true }) c)
  else c

/-! ## The log (R299, R300) -/

/-- SEQ after `s`: it wraps from 0xFFFF to 0x0001 (R299). -/
def nextSeqOf (s : Nat) : Nat := if s = 0xFFFF then 1 else s + 1

/-- The log with the oldest entry that is no unacknowledged fault taken out; none when every slot holds one. -/
def logRoom : List LogEntry → Option (List LogEntry)
  | [] => none
  | e :: t => if isOpen e then (logRoom t).map (e :: ·) else some t

/-- The log with one more entry, if it has or can make room (R299). -/
def logPlace (e : LogEntry) (l : List LogEntry) : Option (List LogEntry) :=
  if l.length < 64 then some (l ++ [e]) else (logRoom l).map (· ++ [e])

/-- A merge into an entry (R294). -/
def mergeInto (beat : BitVec 64) (e : LogEntry) : LogEntry :=
  { e with count := Nat.min 65535 (e.count + 1), lastDelta := Nat.min 0xFFFFFFFF (beat.toNat - e.beat.toNat) }

/-- Whether the codes carry the DETAIL of Table 7, which names a granule. -/
def isDataCode (code : Nat) : Bool := code = 0x20 || code = 0x21 || code = 0x40 || code = 0x45

/-- Whether an event merges into an entry (R294). -/
def mergesWith (code st idx detail now : Nat) (e : LogEntry) : Bool :=
  e.code = code && e.scopeType = st && e.scopeIndex = idx
    && (st ≠ 7 || bitsOf e.detail.toNat 22 11 = bitsOf detail 22 11)
    && (if isRequestEvent code then now ≤ e.at_ + 1000000 else isOpen e)

/-! ## NOTIFY (R301) -/

/-- The FAULT NOTIFY slot's EVENT_DATA (Table 8), bits [127:8] of the slot. -/
def faultEventData (c : Ctl) (e : LogEntry) (withDetail : Bool) : Nat :=
  e.seq + 2 ^ 16 * e.code + 2 ^ 24 * e.cls + 2 ^ 27 * e.origCls + 2 ^ 30 * e.raiseCause + 2 ^ 32 * e.scopeType
    + 2 ^ 36 * stackClass c.umpire + 2 ^ 40 * e.scopeIndex + (if withDetail then 2 ^ 64 * (e.detail.toNat % 2 ^ 56) else 0)

/-- The domain of the page that an entry's DETAIL names, when its HPN is known (Table 7). -/
def entryDomain (c : Ctl) (e : LogEntry) : Option Nat :=
  if isDataCode e.code && bitOf e.detail.toNat 21 then some (pmGet c (e.detail.toNat % 2 ^ 21)).domain else none

/-- Whether a port may receive an event at all: request events go to the port concerned and to the owner port (R301). -/
def notifyEligible (c : Ctl) (e : LogEntry) (p : Fin 4) : Bool :=
  c.ports[p].link = .active && c.ports[p].faultNotifyMin ≤ e.cls &&
    (!isRequestEvent e.code || c.life.ownerPort = some p
      || (e.scopeType = 1 && e.scopeIndex = p.val) || (e.scopeType = 9 && (queueGet c e.scopeIndex).notifyPort = p))

/-- Whether a port sees DETAIL (R301). -/
def seesDetail (c : Ctl) (e : LogEntry) (p : Fin 4) : Bool :=
  if e.scopeType = 7 || e.scopeType = 6 then
    c.life.ownerPort = some p || (match entryDomain c e with | some d => c.ports[p].domainMask.getLsbD d | none => false)
  else true

/-- The NOTIFY packets of an entry logged or raised (R301). -/
def notifyEntry (e : LogEntry) (c : Ctl) : Ctl :=
  forEach allPorts (fun p c => if notifyEligible c e p then pushNotify p 0x02 (faultEventData c e (seesDetail c e p)) c else c) c

/-! ## Raising -/

/-- The shot clock of an entry that enters class 2 or 3 (R296): set, when the stack has been data-ready and is below class
4. -/
def clockFor (c : Ctl) (cls : Nat) : Option Nat :=
  if c.power.everReady && stackClass c.umpire < 4 then
    (if cls = 2 then some c.umpire.shotClock2 else if cls = 3 then some c.umpire.shotClock3 else none)
  else none

/-- A new entry for an event, before it has its SEQ. -/
def newEntry (c : Ctl) (code cls st idx detail : Nat) : LogEntry :=
  { seq := c.umpire.nextSeq, code, cls, origCls := eventClass code, raiseCause := 0, scopeType := st,
    ackRequired := 1 ≤ cls && !isRequestEvent code, acked := false, ackSource := 0, scopeIndex := idx,
    beat := c.beat.number, detail := BitVec.ofNat 64 detail, count := 1, raisedBy := 0, lastDelta := 0, at_ := c.now,
    clock := none }

/-- How long ago a SEQ was assigned, in steps of the cycle of R299. -/
def seqAge (u : Umpire) (seq : Nat) : Nat := (u.nextSeq + 65535 - seq) % 65535

/-- The SEQ of the lowest-numbered unacknowledged fault of a class (R295), the numbers taken in their cycle. -/
def openOfClass (u : Umpire) (cls : Nat) : Option Nat :=
  (((allEntries u).filter fun e => isOpen e && e.cls = cls).map (·.seq)).foldl (fun best s =>
    match best with
    | some b => if seqAge u b < seqAge u s then some s else some b
    | none => some s) none

/-- An entry after the comparison of R295 with the unacknowledged faults of its class. -/
def escalate (c : Ctl) (e : LogEntry) : LogEntry :=
  match if 1 ≤ e.cls && e.cls ≤ 4 then openOfClass c.umpire e.cls else none with
  | some s => { e with cls := e.cls + 1, raiseCause := 1, raisedBy := s, clock := clockFor c (e.cls + 1) }
  | none => { e with clock := clockFor c e.cls }

/-- The reactions of a fault: its own class's, and the next one's when it was raised (R295). -/
def reactTo (e : LogEntry) (c : Ctl) : Ctl :=
  let r := classReaction e.code e.origCls e.scopeType e.scopeIndex e.detail.toNat
  let c := r e.origCls c
  if e.cls ≠ e.origCls then r e.cls c else c

/-- LOG_OVERFLOW (R300): the first unlogged fault raises it, later ones merge into its entry while it is open. -/
def raiseOverflow (c : Ctl) : Ctl :=
  match c.umpire.overflow with
  | some o =>
    if isOpen o then modUmpire (fun u => { u with overflow := some (mergeInto c.beat.number o) }) c
    else
      let e := escalate c (newEntry c 0x60 3 0 0 0)
      notifyEntry e (reactTo e (bump (gIdx 19) (modUmpire (fun u => { u with overflow := some e, nextSeq := nextSeqOf u.nextSeq }) c)))
  | none =>
    let e := escalate c (newEntry c 0x60 3 0 0 0)
    notifyEntry e (reactTo e (bump (gIdx 19) (modUmpire (fun u => { u with overflow := some e, nextSeq := nextSeqOf u.nextSeq }) c)))

/-- An event of class 0, or a request event, is logged when a slot can be had; it never fills the log (R299, R300). -/
def logPlain (e : LogEntry) (c : Ctl) : Ctl :=
  match logPlace e c.umpire.log with
  | some l => notifyEntry e (modUmpire (fun u => { u with log := l, nextSeq := nextSeqOf u.nextSeq }) c)
  | none => c

/-- A new fault is logged with its escalation, reacted to and notified; without a slot only its own reaction occurs and it
counts as lost (R295, R300). -/
def logFault (e : LogEntry) (c : Ctl) : Ctl :=
  let x := escalate c e
  match logPlace x c.umpire.log with
  | some l => notifyEntry x (reactTo x (modUmpire (fun u => { u with log := l, nextSeq := nextSeqOf u.nextSeq }) c))
  | none => raiseOverflow (reactTo e (bump (gIdx 22) c))

/-- The umpire records an event (R284 to R302): code, scope type and index, and DETAIL. -/
def recordEvent (code st idx detail : Nat) (c : Ctl) : Ctl :=
  let known := isSliceCode code && sliceIsOut c idx
  let sliceOpen := fun (e : LogEntry) => isOpen e && e.scopeType = 6 && e.scopeIndex = idx && isSliceCode e.code
  -- a report that merges still takes its class's reaction (R114)
  let again := fun (c : Ctl) => if 2 ≤ eventClass code then classReaction code (eventClass code) st idx detail (eventClass code) c else c
  let merged := fun (p : LogEntry → Bool) (c : Ctl) =>
    modUmpire (fun u => { u with log := mapIf p (mergeInto c.beat.number) u.log }) c
  let c' :=
    if known then
      -- a slice already out of service (R291)
      if c.umpire.log.any sliceOpen then merged sliceOpen (bump (gIdx (16 + eventClass code)) c)
      else logPlain { newEntry c code 0 st idx detail with origCls := 0, ackRequired := false } (bump (gIdx 16) c)
    else if code = 0x22 && c.umpire.log.any (fun e => e.code = 0x22 && e.scopeIndex = idx) then
      -- further losses are added into the slice's entry (R293)
      modUmpire (fun u => { u with log := mapIf (fun e => e.code = 0x22 && e.scopeIndex = idx) (fun e => mergeInto c.beat.number { e with detail := BitVec.ofNat 64 ((e.detail.toNat % 2 ^ 22 + detail % 2 ^ 22) % 2 ^ 22 + 2 ^ 22 * ((e.detail.toNat / 2 ^ 22 + detail / 2 ^ 22) % 2 ^ 16)) }) u.log }) (bump (gIdx 17) c)
    else
      let c := bump (gIdx (16 + eventClass code)) c
      if eventClass code ≠ 0 && c.umpire.log.any (mergesWith code st idx detail c.now) then
        again (merged (mergesWith code st idx detail c.now) c)
      else if eventClass code = 0 || isRequestEvent code then logPlain (newEntry c code (eventClass code) st idx detail) c
      else logFault (newEntry c code (eventClass code) st idx detail) c
  updateAlert c'

/-- BENCH_LOW (R289): recorded when a take from the bench brings it below UMPIRE.BENCH_LOW_LEVEL. -/
def benchCheck (before : Nat) (c : Ctl) : Ctl :=
  if c.umpire.benchLow ≤ before && benchFree c < c.umpire.benchLow then recordEvent 0x09 0 0 0 c else c

/-- The umpire records an event; the reaction to a fault of PAGE scope may take from the bench (R290). -/
def raiseEvent (code st idx detail : Nat) (c : Ctl) : Ctl :=
  if st = 7 && eventClass code ≠ 0 then benchCheck (benchFree c) (recordEvent code st idx detail c) else recordEvent code st idx detail c

/-- An entry's shot clock expires unacknowledged: it is raised one class (R296). -/
def raiseByClock (seq : Nat) (c : Ctl) : Ctl :=
  match (allEntries c.umpire).find? fun e => e.seq = seq && isOpen e && e.clock.isSome with
  | none => c
  | some e =>
    if 4 ≤ stackClass c.umpire then c
    else
      let x := { e with cls := e.cls + 1, raiseCause := 2, raisedBy := 0, clock := clockFor c (e.cls + 1) }
      let put := mapIf (fun (y : LogEntry) => y.seq = seq) fun _ => x
      let c := modUmpire (fun u => { u with log := put u.log, overflow := (put u.overflow.toList).head? }) c
      let before := benchFree c
      let c := updateAlert (notifyEntry x (classReaction x.code x.origCls x.scopeType x.scopeIndex x.detail.toNat x.cls c))
      if x.scopeType = 7 then benchCheck before c else c

/-- An entry is acknowledged (R297): passed over when it needs none or has it. -/
def ackEntry (source : Nat) (e : LogEntry) : LogEntry :=
  if isOpen e then { e with acked := true, ackSource := source, clock := none } else e

/-- The unacknowledged faults of a class (UMPIRE.UNACK_COUNT of R304). -/
def unackCount (u : Umpire) (cls : Nat) : Nat := (allEntries u).countP fun e => isOpen e && e.cls = cls

end Sys2Proof.Machine
end

