-- ==== Sys2Proof/Machine/Operands.lean ====
section
/-! DEFINITION. The operand forms of data-plane requests and their checks: opcodes, lengths, alignment, actions (R79 to R82,
R87), translation (R99, R103, R112), and a request's way into the tracker (R92, R93, R96, R143, R246). -/

namespace Sys2Proof.Machine

open Sys2Proof

/-! ## Forms (R78 to R82) -/

/-- Granules of a read or write opcode (Table 6 of chapter 3). -/
def granCount (opcode : Nat) : Nat := 2 ^ (opcode % 8 % 4)

/-- An action slot (Table 9 of chapter 3). -/
def parseAction (s : Slot) : Action :=
  { act := bitsOf s.toNat 0 4, gran := bitOf s.toNat 4, addr := bitsOf s.toNat 8 37
    operand := s.extractLsb' 64 64, value := 0 }

/-- Whether an action carries two slots of 32 bytes (R82). -/
def actionHasValue (a : Action) : Bool := a.gran && (a.act = 1 || a.act = 2 || a.act = 3)

/-- The actions of a TXN or LSEQ_STAGE: `n` of them that use exactly the slots given. -/
def parseActions : Nat → List Slot → Option (List Action)
  | 0, [] => some []
  | 0, _ :: _ => none
  | _ + 1, [] => none
  | n + 1, s :: t =>
    let a := parseAction s
    if actionHasValue a then
      match t with
      | lo :: hi :: r => (parseActions n r).map ({ a with value := hi ++ lo } :: ·)
      | _ => none
    else (parseActions n t).map (a :: ·)

/-- An action within its encoding and aligned to its word or granule (R87, R183). -/
def actionOk (a : Action) : Bool :=
  a.act ≤ 6 && !(a.gran && 4 ≤ a.act) && (if a.gran then a.addr % 32 = 0 else a.addr % 8 = 0)

/-- The actions of a well-formed TXN or LSEQ_STAGE. -/
def actionsOf (h : ReqHdr) : Option (List Action) :=
  let n := bitsOf h.param.toNat 0 4
  if 7 < n then none
  else match parseActions (n + 1) h.slots with
    | some l => if l.all actionOk then some l else none
    | none => none

/-- Whether an opcode is assigned to requests on VC0 (Table 6 of chapter 3). -/
def opcodeAssigned (op : Nat) : Bool :=
  (0x10 ≤ op && op ≤ 0x13) || (0x18 ≤ op && op ≤ 0x1C) || op = 0x20 || op = 0x28 || (0x30 ≤ op && op ≤ 0x33)
    || op = 0x38 || op = 0x3C

/-- Whether LEN agrees with Table 6 of chapter 3. -/
def lenOk (op : Nat) (h : ReqHdr) : Bool :=
  if 0x18 ≤ op && op ≤ 0x1B then h.len = 2 * granCount op
  else if op = 0x1C then h.len = 2
  else if op = 0x20 then h.len = 1
  else if op = 0x28 || op = 0x31 then 1 ≤ h.len && h.len ≤ 24
  else h.len = 0

/-- Every field within its encoding and ADDR aligned (R81, R82, R87, R130). -/
def fieldsOk (op : Nat) (h : ReqHdr) : Bool :=
  (!h.release || op = 0x20) &&
  (if (0x10 ≤ op && op ≤ 0x13) || (0x18 ≤ op && op ≤ 0x1B) then h.addr % (32 * granCount op) = 0
   else if op = 0x1C then h.addr % 32 = 0
   else if op = 0x20 then bitsOf h.param.toNat 0 4 ≤ 10 && h.addr % (if bitOf h.param.toNat 4 then 8 else 4) = 0
   else if op = 0x28 || op = 0x31 then (actionsOf h).isSome
   else if op = 0x30 then bitsOf h.param.toNat 16 13 ≤ 4096 && h.addr = 0
   else h.addr = 0)

/-- Whether every VC0 request ends RETRY_LATER now (R86, R147, R408): the stack is not data-ready, or ZEROIZE or the drain
of a SERVICE entry runs. -/
def notServing (c : Ctl) : Bool := c.power.stage ≠ .ready || c.life.zeroizing || c.life.transition.isSome

/-- The first check of R87 that fails, with its status; none when the request is admitted. -/
def admission (op : Nat) (h : ReqHdr) (c : Ctl) : Option Nat :=
  if notServing c then some 4
  else if !(opcodeAssigned op && lenOk op h && fieldsOk op h) then some 7
  else if !(c.ports[h.port].domainMask.getLsbD h.domain) then some 2
  else if 4 ≤ stackClass c.umpire then some 8
  else if stackClass c.umpire = 3 && !(op = 0x3C || op = 0x32 || op = 0x33) then some 4
  else none

/-! ## Translation (R99, R103, R112) -/

/-- What translation of one granule gives: its physical page, whether it must wait at a busy chunk, or a status. -/
inductive Xlate where
  | at (ppn : Nat) (busy mirrored : Bool)
  | fail (status : Nat)
deriving DecidableEq, Repr

/-- The copier that moves a host page's primary copy now, with its job. -/
def moverOf (c : Ctl) (hpn : Nat) : Option (Copier × CopyJob) :=
  c.pm.copiers.toList.findSome? fun k =>
    match k.job with
    | some j => if j.hpn = hpn && (match j.kind with | .migrate _ | .substitution | .single => true | _ => false) then some (k, j) else none
    | none => none

/-- The physical page that holds granule g of a host page's primary copy. -/
def primaryAt (c : Ctl) (hpn g : Nat) : Nat :=
  match if (pmGet c hpn).state = .migrating then moverOf c hpn else none with
  | some (k, j) => if g / 64 < k.cursor then j.dst else j.src
  | none => (pmGet c hpn).ppn

/-- Whether a chunk of a host page is being copied (R112, R113, R117): every request to it waits at the page map. -/
def mapBusy (c : Ctl) (hpn g : Nat) : Bool :=
  c.pm.copiers.toList.any fun k => k.busy = some (g / 64) &&
    (match k.job with
     | some j => j.hpn = hpn && (match j.kind with | .clearing _ => false | _ => true)
     | none => false)

/-- Translation of granule g of host page h for a domain: the checks of R103 in order, with the status a LOST page gives
(Table 3 of chapter 4). -/
def xlate (c : Ctl) (hpn g domain : Nat) (readType : Bool) (lost : Nat) : Xlate :=
  let e := pmGet c hpn
  if e.state = .unmapped then .fail 3
  else if !(e.domain = domain || (e.shared && readType)) then .fail 2
  else match e.state with
    | .lost => .fail lost
    | _ => .at (primaryAt c hpn g) (mapBusy c hpn g) e.mirrored

/-- The quarter of a host page (R24). -/
def quarterOf (hpn : Nat) : Fin 4 := Fin.ofNat 4 hpn

/-- A translation is counted, and what its check bits show is reported (R99, R128). -/
def countXlate (hpn ecc : Nat) (c : Ctl) : Ctl :=
  let r := quarterOf hpn
  let c := bump (rIdx r 0) c
  if ecc = 0 then c
  else if ecc = 3 then raiseEvent 0xA2 3 r 0 c
  else raiseEvent 0x04 3 r 0 (bump (rIdx r 1) c)

/-- A port's request ends ACCESS_DENIED: counted and reported with the port's scope (R87, R97, R289). -/
def deniedPort (p : Fin 4) (c : Ctl) : Ctl := raiseEvent 0x28 1 p 0 (bump (pIdx p 24) c)

/-- The counters and events of a request that ends with a status before it has a granule (R87, R97). -/
def refusalEffects (p : Fin 4) (status : Nat) (c : Ctl) : Ctl :=
  if status = 2 then deniedPort p c else if status = 7 then bump (pIdx p 23) c else c

/-! ## Release and fence bookkeeping (R95, R96, R143, R192) -/

/-- Whether a coordinator still works on a request before its commit point (R192). -/
def coordPending (c : Ctl) (id : Nat) : Bool :=
  c.regions.toList.any fun r =>
    (r.coord.txns.any fun t => t.trk = id && (t.phase = .acquiring || t.phase = .preparing || t.phase = .logWait))
      || r.coord.seqs.any fun q => q.waiting.any fun w => w.2.2 = id

/-- Whether a request is visible, or needs no visibility (R95, R192). -/
def trkVisible (c : Ctl) (t : Trk) : Bool :=
  match t.op with
  | .write | .masked _ | .atomic _ _ _ _ _ => t.grans.all fun g => g.phase = .accepted || g.phase = .done
  | .coord => !(t.opcode = 0x28 || t.opcode = 0x32) || !coordPending c t.id
  | .doorbell _ => t.ended
  | .read | .verify => true
  | .fence => true

/-- Whether a FENCE behind a request may complete as far as this request goes (R96). -/
def fencePassed (c : Ctl) (t : Trk) : Bool :=
  match t.op with
  | .read | .verify => t.grans.all fun g => g.phase = .done
  | _ => trkVisible c t

/-- A releasable request (R143). -/
def releasable (t : Trk) : Bool :=
  match t.op with
  | .write | .masked _ | .atomic _ _ _ _ _ => true
  | .coord => t.opcode = 0x28 || t.opcode = 0x32
  | _ => false

/-- Writes and atomics, which a DOORBELL waits for (R178). -/
def isWriteOp (t : Trk) : Bool :=
  match t.op with
  | .write | .masked _ | .atomic _ _ _ _ _ => true
  | _ => false

/-- The port's entries that satisfy `f` and are not yet visible. -/
def earlierIds (p : Fin 4) (f : Trk → Bool) (c : Ctl) : List Nat :=
  (c.trk.filter fun t => srcIsPort p t && f t && !trkVisible c t).map (·.id)

/-- Whether every recorded request has become visible or ended. -/
def waitsOver (c : Ctl) (ids : List Nat) : Bool :=
  ids.all fun i => match c.trk.find? fun t => t.id = i with | some t => trkVisible c t | none => true

/-! ## TC1 marking (R246) -/

/-- Bytes charged to the TC1 bucket. -/
def tc1Bytes (op : Nat) (h : ReqHdr) : Nat :=
  if op = 0x20 then 32
  else if op = 0x28 || op = 0x31 then 32 * (bitsOf h.param.toNat 0 4 + 1)
  else if op ≤ 0x1C && 0x10 ≤ op then (if op = 0x1C then 32 else 32 * granCount op)
  else 0

/-- The content of a port's TC1 bucket now (R246), in tenths of a byte: its rate limit in 0.1 GB/s is a tenth of a byte each
nanosecond for each unit. -/
def tc1Now (p : Port) (now : Nat) : Nat := Nat.min (10 * p.tc1Burst) (p.tc1Bucket + p.tc1Rate * (now - p.tc1At))

/-- Whether the request is marked capped-in, and the state after the charge or the count. -/
def tc1Mark (op : Nat) (h : ReqHdr) (c : Ctl) : Bool × Ctl :=
  let p := c.ports[h.port]
  if h.tc && p.realtime then
    if 10 * tc1Bytes op h ≤ tc1Now p c.now then
      (true, modPort h.port (fun p => { p with tc1Bucket := tc1Now p c.now - 10 * tc1Bytes op h, tc1At := c.now }) c)
    else (false, bump (pIdx h.port 31) c)
  else (false, c)

/-! ## From a header to a tracker entry -/

/-- What a data request asks of its granules (R80, R81, R136). -/
def opOf (op : Nat) (h : ReqHdr) : Op :=
  if 0x10 ≤ op && op ≤ 0x13 then .read
  else if 0x18 ≤ op && op ≤ 0x1B then .write
  else if op = 0x1C then (if h.param = 0xFFFFFFFF then .write else .masked h.param)
  else if op = 0x20 then
    let s := (h.slots.headD 0).toNat
    let w8 := bitOf h.param.toNat 4
    .atomic (bitsOf h.param.toNat 0 4) w8 (bitOf h.param.toNat 5) (BitVec.ofNat 64 (if w8 then s % 2 ^ 64 else s % 2 ^ 32))
      (BitVec.ofNat 64 (if w8 then s / 2 ^ 64 else s / 2 ^ 64 % 2 ^ 32))
  else if op = 0x38 then .doorbell (bitsOf h.param.toNat 0 15)
  else if op = 0x3C then .fence
  else .coord

/-- Whether an operation reads only (R103, R188). -/
def opReadType : Op → Bool
  | .read | .verify => true
  | _ => false

/-- The status of a LOST page for an opcode of a port (Table 3 of chapter 4, Table 4 of R147): OUT_OF_RANGE for full writes,
POISONED for everything else. A WRITE_MASKED_32 whose mask is full is performed as a WRITE_32 (R136) and yet ends POISONED
here: DESIGN CHOICE (log 44). -/
def opLost (op : Nat) : Nat := if 0x18 ≤ op && op ≤ 0x1B then 3 else 1

/-- Data slots of a granule of a request. -/
def slotPair (l : List Slot) (i : Nat) : GData := (l.getD (2 * i + 1) 0) ++ (l.getD (2 * i) 0)

/-- Granule i of a request at an address, as translation leaves it; a refused or LOST granule is done at once. -/
def granAt (c : Ctl) (addr i domain : Nat) (op : Op) (lost : Nat) (data : GData) : Gran :=
  let a := addr + 32 * i
  let hpn := a / 65536
  let g := a % 65536 / 32
  match xlate c hpn g domain (opReadType op) lost with
  | .at ppn busy mirrored =>
    { g := g, ppn := ppn, epoch := some c.pm.epoch[quarterOf hpn], mirrored := mirrored
      phase := if busy then .atMap else .queued, data := data, entered := c.now }
  | .fail st => { g := g, phase := .done, status := st }

/-- The master of a request: 0 to 3 a port, 4 the movers. -/
def masterOf (t : Trk) : Fin 5 :=
  match t.src with
  | .port p => ⟨p.val, by omega⟩
  | .mover _ _ => 4

/-- Whether a request has a granule in a channel's input queue. -/
def waitsAt (ch : Fin 32) (t : Trk) : Bool := t.grans.any fun g => g.phase = .queued && !g.staged && ppnChan g.ppn = ch

/-- Whether a request has a granule that the crossbar holds back from a channel. -/
def stagedAt (ch : Fin 32) (t : Trk) : Bool := t.grans.any fun g => g.phase = .queued && g.staged && ppnChan g.ppn = ch

/-- Requests of a master in its input queue at a channel (R209), and in the crossbar before it (R248). -/
def queueLen (c : Ctl) (m : Fin 5) (ch : Fin 32) : Nat := c.trk.countP fun t => masterOf t = m && waitsAt ch t
def stagedLen (c : Ctl) (m : Fin 5) (ch : Fin 32) : Nat := c.trk.countP fun t => masterOf t = m && stagedAt ch t

/-- Whether a request that now reaches a channel's crossbar port is held back there: its master is withheld (R248), its queue of
128 is full (R209), or an earlier request of the master still stands there. -/
def heldBack (c : Ctl) (m : Fin 5) (ch : Fin 32) : Bool :=
  c.chans[ch].masters[m].withheld || 128 ≤ queueLen c m ch || stagedLen c m ch ≠ 0

/-- A granule enters its channel's input queue, or is held back in the crossbar. -/
def stageGran (c : Ctl) (m : Fin 5) (g : Gran) : Gran := { g with staged := g.phase = .queued && heldBack c m (ppnChan g.ppn) }

/-- Whether a request must wait at its source: the staging of 16 requests for its master and one of its channels is full
(R248). -/
def stagingFull (c : Ctl) (m : Fin 5) (gs : List Gran) : Bool :=
  gs.any fun g => g.phase = .queued && 16 ≤ stagedLen c m (ppnChan g.ppn)

/-- Held-back granules of requests of one master enter a channel's queue, oldest first, while it has credit and room. -/
def unstageList (c : Ctl) (ch : Fin 32) (room : Fin 5 → Nat) : List Trk → List Trk
  | [] => []
  | t :: l =>
    let m := masterOf t
    let go := stagedAt ch t && !c.chans[ch].masters[m].withheld && (0 < room m || waitsAt ch t)
    let free : Gran → Gran := fun g => if g.staged && ppnChan g.ppn = ch then { g with staged := false, entered := c.now } else g
    if go then
      { t with grans := t.grans.map free } :: unstageList c ch (fun n => if n = m && !waitsAt ch t then room n - 1 else room n) l
    else t :: unstageList c ch (fun n => if n = m && stagedAt ch t then 0 else room n) l

/-- A granule that waited at the map goes on once its chunk is no longer being copied and the staging before its channel has room
(R112, R248); otherwise it waits where it is. -/
def mapGran (c : Ctl) (t : Trk) (g : Gran) : Gran :=
  let hpn := t.addr / 65536
  if g.phase = .atMap && !mapBusy c hpn g.g then
    let x : Gran := { g with ppn := primaryAt c hpn g.g, phase := .queued, entered := c.now }
    if heldBack c (masterOf t) (ppnChan x.ppn) && !stagedAt (ppnChan x.ppn) t && stagingFull c (masterOf t) [x] then g else stageGran c (masterOf t) x
  else g

/-- The granules of one request that waited at the map go on. -/
def mapRequest (id : Nat) (c : Ctl) : Ctl := { c with trk := mapIf (fun t => t.id = id) (fun t => { t with grans := t.grans.map (mapGran c t) }) c.trk }

/-- Every request that waits at the map goes on as far as it can, each in its order. -/
def mapRequests (c : Ctl) : Ctl := forEach ((c.trk.filter fun t => t.grans.any fun g => g.phase = .atMap).map (·.id)) mapRequest c

/-- A channel's input queues take what the crossbar holds back for them (R209, R248), and the staging what waits at the map. -/
def unstageAt (ch : Fin 32) (c : Ctl) : Ctl := mapRequests { c with trk := unstageList c ch (fun m => 128 - queueLen c m ch) c.trk }

/-- A port as a regulated master (R240). -/
def portMaster (p : Fin 4) : Fin 5 := ⟨p.val, by omega⟩

/-- The granules of a data request as translation leaves them. -/
def requestGrans (op : Nat) (h : ReqHdr) (c : Ctl) : List Gran :=
  let o := opOf op h
  let n := if op = 0x1C || op = 0x20 then 1 else granCount op
  (List.range n).map fun i => granAt c h.addr i h.domain o (opLost op) (slotPair h.slots i)

/-- A data request enters the tracker and its channels' queues, or ends at the page map. -/
def enterData (op : Nat) (h : ReqHdr) (marked : Bool) (c : Ctl) : Ctl :=
  let o := opOf op h
  let c := countXlate (h.addr / 65536) h.pmEcc c
  if h.pmEcc = 3 then refuseReq op h 8 c
  else
    let gs := (requestGrans op h c).map (stageGran c (portMaster h.port))
    let rel := if h.release then some (earlierIds h.port releasable c) else none
    let t : Trk :=
      { id := c.nextId, src := .port h.port, opcode := op, op := o, tag := h.tag, domain := h.domain, addr := h.addr
        tc1 := h.tc, marked := marked, cmpl := h.cmpl, release := rel, grans := gs, since := c.now }
    let c := { c with trk := c.trk ++ [t], nextId := c.nextId + 1 }
    let c := if gs.any (fun g => g.status = 2) then deniedPort h.port c else c
    if gs.all (fun g => g.phase = .done) then finishIfDone t.id c else c

/-- A DOORBELL or FENCE enters the tracker and waits for what precedes it (R96, R178). -/
def enterWaiter (op : Nat) (h : ReqHdr) (c : Ctl) : Ctl :=
  let ids := if op = 0x3C then (c.trk.filter fun t => srcIsPort h.port t).map (·.id) else earlierIds h.port isWriteOp c
  let t : Trk :=
    { id := c.nextId, src := .port h.port, opcode := op, op := opOf op h, tag := h.tag, domain := h.domain, addr := h.addr
      tc1 := h.tc, marked := false, cmpl := h.cmpl, release := some ids, grans := [], since := c.now }
  { c with trk := c.trk ++ [t], nextId := c.nextId + 1 }

/-- A request of the coordinator takes its tracker entry; its identifier and the state. -/
def enterCoordTrk (op : Nat) (h : ReqHdr) (c : Ctl) : Nat × Ctl :=
  let t : Trk :=
    { id := c.nextId, src := .port h.port, opcode := op, op := .coord, tag := h.tag, domain := h.domain, addr := h.addr
      tc1 := h.tc, marked := false, cmpl := h.cmpl, release := none, grans := [], since := c.now }
  (c.nextId, { c with trk := c.trk ++ [t], nextId := c.nextId + 1 })

/-- The first packet of a virtual channel in the receive buffers leaves them when `want` says it is the one that a command
names, and its slots are freed (R76). -/
def takeFirst (vc : Fin 3) (want : Slot → List Slot → Bool) (p : Port) : Port :=
  let isVc : List Slot → Bool := fun k => match k with | hd :: _ => rxVc hd = vc | [] => false
  match p.rxPkts.findIdx? isVc with
  | none => p
  | some i =>
    match p.rxPkts[i]? with
    | some (hd :: data) =>
      if want hd data then
        { p with
          rxPkts := p.rxPkts.eraseIdx i, freed := p.freed.set vc ((p.freed[vc] + 1 + data.length) % 16384)
          withheld := if vc = 0 then Nat.min p.holdBack (p.withheld + 1 + data.length) else p.withheld }
      else p
    | _ => p

/-- A request's packet, when the flit path has brought it, leaves its port's VC0 receive buffer. -/
def takePacket (op : Nat) (h : ReqHdr) (p : Port) : Port := takeFirst 0 (fun hd data => isPacket op h (hd :: data)) p

/-- A management packet leaves its port's VC2 receive buffer, when its header and the command header in its first data slot (R86,
R387) are those of the command. -/
def takeMgmt (op tag : Nat) (cmd : Slot → Bool) (p : Port) : Port :=
  takeFirst 2 (fun hd data => hd.toNat % 256 = op && bitsOf hd.toNat 8 11 = tag && cmd (data.headD 0)) p

end Sys2Proof.Machine
end

