-- ==== Sys2Proof/Machine/Link.lean ====
section
/-! DEFINITION. The link layer of a port: link loss and retrain (R48 to R51), flits, acknowledgement, replay, credits and
sleep messages (R52 to R62, R65 to R77). -/

namespace Sys2Proof.Machine

open Sys2Proof

/-! ## DETECT and retrain -/

/-- Whether bring-up runs at 56 Gb/s: the rate in force or chosen in SPEED, or before the choice a fallback or MAX_RATE (R38,
R39). -/
def slowAttempt (p : Port) : Bool :=
  p.rate = 1 || (p.rate = 0 && (p.rateSel = 1 || (p.rateSel = 0 && (p.fallback56 || p.maxRate = 1))))

/-- Whether a port's receiver takes flits. -/
def rxOpen (p : Port) : Bool := p.link = .active && p.rxSleep = .active

/-- RX_ADAPT of a lane (R62): free while an ACTIVE receiver adapts continuously, an idle spare too (DESIGN CHOICE, log 55), else what
was stored last. -/
def adaptNow (p : Fin 4) (lane : Fin 17) (c : Ctl) : BitVec 16 :=
  let q := c.ports[p]
  if rxOpen q && (q.rx[lane].state = .active || q.rx[lane].state = .spareIdle) then Config.rxAdapt p.val lane.val c.now
  else q.rx[lane].rxAdapt

/-- The receive lanes with the adaptation state they have now (R49, R58, R62). -/
def adaptedLanes (p : Fin 4) (c : Ctl) : Vector Lane 17 := Vector.ofFn fun l => { c.ports[p].rx[l] with rxAdapt := adaptNow p l c }

/-- A port's lanes once it is down (R41): every lane OFF or FAILED. -/
def downLane (l : Lane) : Lane := { l with state := if l.failing then .failed else .off, logicalPos := 0 }

/-- A port returns to DETECT (R35): from ACTIVE or a retrain it loses its link; from a bring-up at 56 Gb/s it has failed an
attempt, which after four in succession raises PORT_DOWN once and holds DETECT for 10 ms (R39). -/
def toDetect (p : Fin 4) (c : Ctl) : Ctl :=
  let q := c.ports[p]
  let lost := linkUp q
  let failed := !lost && q.link ≠ .detect && slowAttempt q && q.enable
  let n := if failed then q.failedAttempts + 1 else q.failedAttempts
  let rx := adaptedLanes p c
  let c := if lost then linkLoss p c else modPort p resetLink c
  let c := modPort p (fun q => { noStream q with
    link := .detect, retraining := false, rate := 0, txMap := {}, rxMap := {}, failedAttempts := n
    holdoff := q.holdoff || (failed && 4 ≤ n), rx := rx.map downLane, tx := q.tx.map downLane }) c
  if failed && 4 ≤ n && !q.portDownSent then
    raiseEvent 0x49 1 p.val 0 (modPort p (fun q => { q with portDownSent := true }) c)
  else c

/-- A lane enters TRAIN of a retrain: an active lane or the idle spare is judged anew, any other is bad (R48, R49). -/
def retrainLane (l : Lane) : Lane :=
  { l with judged := if (l.state = .active || l.state = .spareIdle) && !l.failing then none else some false
           amMissed := 0, amSeen := false, symErrs := [] }

/-- A retrain starts in ACTIVE or sleep (R48, R49), unless more than 16 began within the last second (R50): then the port
goes to DETECT. The code-word stream stops; stored flits are replayed after the retrain (R71). -/
def startRetrain (p : Fin 4) (c : Ctl) : Ctl :=
  if c.ports[p].link ≠ .active then c
  else
    let recent := c.ports[p].retrainTimes.filter fun t => c.now < t + 1000000000
    if 16 < recent.length then toDetect p c
    else modPort p (fun q => { q with
      link := .train, retraining := true, retrainTimes := recent ++ [c.now], rx := (adaptedLanes p c).map retrainLane
      doneSent := 0, doneRecv := 0, tsTime := none, mapMatches := 0, alignedMarkers := 0, tsSeen := [], mapChanged := false
      line := { q.line with queue := [], val := 0, len := 0, wakeAsked := false }, rxLine := [], ebOn := false
      initRecv := false, initDoneRecv := false, resumeSent := true
      txSleep := .active, rxSleep := .active, sleepReqOut := none, sleepMinimum := false, wakeDecided := false
      wakeUnacked := false, awaitStart := false, wakeBlocks := 0, sleepOut := [] }) c

/-! ## Flits (R65 to R67) -/

def flitType (f : Flit) : Nat := f.toNat % 16
def flitSeq (f : Flit) : Nat := bitsOf f.toNat 4 12
def flitCretKind (f : Flit) : Nat := bitsOf f.toNat 16 2
def flitCretValue (f : Flit) : Nat := bitsOf f.toNat 18 14
def flitSlots (f : Flit) : List Slot := [f.extractLsb' 32 128, f.extractLsb' 160 128, f.extractLsb' 288 128, f.extractLsb' 416 128]
/-- A flit's CRC-32C passes (R67). -/
def flitCrcOk (f : Flit) : Bool := crc32c 68 f.toNat = bitsOf f.toNat 544 32

/-! ## The transmitter (R73 to R76) -/

/-- The oldest unacknowledged sequence number. -/
def oldestSeq (p : Port) : Nat := (p.nextSeq + 4096 - p.replay.length) % 4096

/-- on_ack (R73): an acknowledgement of the first flit also completes a wake (R60). The spec does not say how a wake completes whose
first flits carry no sequence number, so that nothing acknowledges them: here only the acknowledgement of a PKT flit completes it, and
without one the 10 microseconds of R60 end in a retrain (R60; DESIGN CHOICE, log 72). -/
def onAck (a : Nat) (p : Port) : Port :=
  let d := (a + 4096 - oldestSeq p) % 4096
  if d < p.replay.length then
    let left := p.replay.drop (d + 1)
    { p with
      replay := left, replayRepeats := 0, wakeUnacked := false
      line := { p.line with queue := p.line.queue.filter fun x => left.any fun y => y.1 = x.1 } }
  else p

/-- on_cret of a credit (R76). -/
def onCret (vc : Fin 3) (total : Nat) (p : Port) : Port :=
  let d := (total + 16384 - p.ret[vc]) % 16384
  if 0 < d && d < 8192 then { p with ret := p.ret.set vc total } else p

/-- Whether a replay from flit `s` starts (R73): the flit is unacknowledged and no replay from it began in the last 500 ns. -/
def replayStarts (p : Fin 4) (s : Nat) (c : Ctl) : Bool :=
  let q := c.ports[p]
  let recent := match q.replayLast with | some (x, t) => x = s && c.now < t + 500 | none => false
  !recent && (s + 4096 - oldestSeq q) % 4096 < q.replay.length

/-- A replay from flit `s`: its stored flits are sent again in order before any new one; the fourth from one oldest flit without progress starts a retrain (R73 to R75). -/
def replayFrom (p : Fin 4) (s : Nat) (c : Ctl) : Ctl :=
  let q := c.ports[p]
  if !replayStarts p s c then c
  else
    let again := q.replay.drop ((s + 4096 - oldestSeq q) % 4096)
    let c := modPort p (fun q => { q with replayRepeats := q.replayRepeats + 1, replayLast := some (s, c.now), line := { q.line with queue := again } }) c
    if q.replayRepeats + 1 = 4 then startRetrain p c else c

/-- What the CRET field of a good IDLE, PKT or CTRL flit returns: credit of a virtual channel, or an acknowledgement (R66, R68,
R73, R76). -/
def cretPort (cret : BitVec 16) : Port → Port :=
  let value := cret.toNat / 4
  match cret.toNat % 4 with
  | 0 => onCret 0 value
  | 1 => onCret 1 value
  | 2 => onCret 2 value
  | _ => onAck (value % 4096)

/-- A CRET field is applied, and what waited for it leaves. -/
def applyCret (p : Fin 4) (cret : BitVec 16) (c : Ctl) : Ctl := pumpPort p (modPort p (cretPort cret) c)

/-! ## The receiver (R54, R69, R72, R76, R77) -/

/-- send_nak (R72). -/
def sendNak (p : Fin 4) (c : Ctl) : Ctl :=
  if c.ports[p].nakOut then c
  else modPort p (fun q => { q with nakQueue := q.nakQueue ++ [q.expSeq], nakOut := true }) c

/-- One slot of the slot stream (R69): a NULL slot is padding; a header opens a packet; the last slot closes it. -/
def rxSlot (s : Slot) (p : Port) : Port :=
  match p.asm with
  | [] => if s.toNat % 256 = 0 then p
    else
      let vc := rxVc s
      let p := { p with recvd := p.recvd.set vc ((p.recvd[vc] + 1) % 16384) }
      if bitsOf s.toNat 104 8 = 0 then { p with rxPkts := p.rxPkts ++ [[s]] } else { p with asm := [s] }
  | hd :: t =>
    let vc := rxVc hd
    let p := { p with recvd := p.recvd.set vc ((p.recvd[vc] + 1) % 16384) }
    let a := hd :: (t ++ [s])
    if bitsOf hd.toNat 104 8 + 1 = a.length then { p with asm := [], rxPkts := p.rxPkts ++ [a] } else { p with asm := a }

/-- Whether a port's host has sent more slots than advertised, or any packet on VC1 (R77). -/
def overrun (p : Port) : Bool :=
  (List.finRange 3).any fun vc => advertised vc < (p.recvd[vc] + 16384 - cretOf p vc) % 16384

/-- The slots of an accepted PKT flit pass to the packet layer; a credit overrun is link loss (R77). -/
def rxAccept (p : Fin 4) (f : Flit) (c : Ctl) : Ctl :=
  let c := modPort p (fun q => (flitSlots f).foldl (fun q s => rxSlot s q) { q with expSeq := (q.expSeq + 1) % 4096, nakOut := false }) c
  if overrun c.ports[p] then toDetect p (raiseEvent 0x07 1 p.val 0 (bump (pIdx p 22) c)) else c

/-- rx_flit (R72). -/
def rxFlit (p : Fin 4) (f : Flit) (c : Ctl) : Ctl :=
  let e := c.ports[p].expSeq
  if flitSeq f = e then rxAccept p f c
  else if (e + 4096 - flitSeq f) % 4096 ≤ 2048 then bump (pIdx p 13) c
  else sendNak p (bump (pIdx p 13) c)

/-- rx_bad (R72): counted by cause. -/
def rxBad (p : Fin 4) (byBuffer : Bool) (c : Ctl) : Ctl :=
  sendNak p (bump (if byBuffer then pIdx p 6 else pIdx p 12) c)

/-- Whether a port's receiver has a flit stream: ACTIVE, or the exchange of LINK_INIT (R71). -/
def rxStream (p : Port) : Bool := rxOpen p || (p.link = .linkInit && p.rxSleep = .active)

/-- A flit that the FEC has delivered reaches the elastic buffer of 16 (R54): a good SKIP flit above a fill of 10 is deleted, an
arrival at a full buffer is dropped and lost to the link layer. The buffer passes flits on once it has its target fill. -/
def ebIn (p : Fin 4) (f : Flit) (c : Ctl) : Ctl :=
  let n := c.ports[p].rxFlits.length
  if 10 < n && flitType f = 15 && flitCrcOk f then bump (pIdx p 4) c
  else if 16 ≤ n then rxBad p true c
  else modPort p (fun q => { q with rxFlits := q.rxFlits ++ [f], ebOn := q.ebOn || decide (8 ≤ n + 1) }) c

/-- The next flit on its way to the elastic buffer reaches it. -/
def ebNext (p : Fin 4) (c : Ctl) : Ctl :=
  match c.ports[p].rxLine with
  | f :: t => ebIn p f (modPort p (fun q => { q with rxLine := t }) c)
  | [] => c

/-- A flit leaves the elastic buffer for the link layer while one reaches it; below a fill of 6 the buffer also puts out a SKIP
flit, while another arrives (R54). -/
def ebOut (p : Fin 4) (f : Flit) (c : Ctl) : Ctl :=
  let c := ebNext p c
  if c.ports[p].ebOn && c.ports[p].rxFlits.head? = some f then
    let c := modPort p (fun q => { q with rxFlits := q.rxFlits.drop 1 }) c
    if c.ports[p].rxFlits.length < 6 then ebNext p (bump (pIdx p 5) c) else c
  else c

/-! ## Link initialisation (R71) -/

/-- A port completes LINK_INIT and is ACTIVE (R35, R50, R71); after a retrain its stored flits are sent again. The spec leaves
open whether that replay counts toward the fourth of R75 and whether the count restarts: it neither counts nor restarts it
(R75; DESIGN CHOICE, log 61). -/
def goActive (p : Fin 4) (c : Ctl) : Ctl :=
  let q := c.ports[p]
  let c := modPort p (fun q => { q with
    link := .active, retraining := false, failedAttempts := 0, portDownSent := false, resumeSent := false
    line := { q.line with queue := q.replay } }) c
  let c := if q.retraining then bump (pIdx p 2) c else c
  pumpPort p (if q.retraining && !q.mapChanged then raiseEvent 0x06 1 p.val 0 c else c)

/-- An INIT slot is valid (R71). -/
def initValid (s : Slot) : Bool :=
  let v0 := bitsOf s.toNat 32 14
  let v1 := bitsOf s.toNat 48 14
  let v2 := bitsOf s.toNat 64 14
  v0 ≤ 8191 && 512 ≤ v1 && v1 ≤ 8191 && 80 ≤ v2 && v2 ≤ 8191

/-- The partner's advertisement. -/
def initCredits (s : Slot) : Vector Nat 3 := #v[bitsOf s.toNat 32 14, bitsOf s.toNat 48 14, bitsOf s.toNat 64 14]

/-- An INIT slot in LINK_INIT (R71): RESUME replays from the flit after its SEQ; RESUME clear after a retrain is link
loss, and LINK_INIT goes on with fresh state. The spec does not say what an INIT with RESUME set does outside a retrain: it is
ignored, and the exchange waits for its timeout (R71; DESIGN CHOICE, log 62). -/
def onInit (p : Fin 4) (s : Slot) (c : Ctl) : Ctl :=
  let q := c.ports[p]
  if q.link ≠ .linkInit || s.toNat % 256 ≠ 1 || !initValid s then c
  else if bitOf s.toNat 8 then
    if q.retraining then modPort p (fun q => { onAck (bitsOf s.toNat 16 12) q with initRecv := true }) c else c
  else
    let c := if q.retraining then linkLoss p c else c
    modPort p (fun q => { q with adv := initCredits s, initRecv := true }) c

/-- A CTRL flit with a good CRC arrives (R66): its CRET is applied, then its slot acts. -/
def ctrlFlit (p : Fin 4) (x : CtrlSlot) (code : Nat) (act : Ctl → Ctl) (c : Ctl) : Ctl :=
  if rxStream c.ports[p] && x.slot.toNat % 256 = code then act (applyCret p x.cret c) else c

def execInit (p : Fin 4) (x : CtrlSlot) (s : State) : Host.Outcome State Fault Refusal :=
  onCtl (ctrlFlit p x 0x01 (onInit p x.slot)) s

/-- An operation on a port is done n times. -/
def repeatPort (f : Port → Port) : Nat → Port → Port
  | 0, p => p
  | n + 1, p => repeatPort f n (f p)

/-- The flits sent again and the NAK slots sent since the last look are counted (R97). -/
def noteSent (p : Fin 4) (c : Ctl) : Ctl :=
  let l := c.ports[p].line
  let c := if l.again = 0 then c else bumpBy (pIdx p 16) l.again c
  let c := if l.naks = 0 then c else bumpBy (pIdx p 14) l.naks c
  if l.again = 0 && l.naks = 0 then c else modPort p (fun q => { q with line := { q.line with again := 0, naks := 0 } }) c

/-- INIT_DONE: the side sends 8 more CTRL flits and completes the exchange (R71). -/
def onInitDone (p : Fin 4) (c : Ctl) : Ctl :=
  let q := c.ports[p]
  if q.link = .linkInit && q.initRecv then goActive p (noteSent p (modPort p (fun q => repeatPort layInit 8 { q with initDoneRecv := true }) c)) else c

def execInitDone (x : PortCtrl) (s : State) : Host.Outcome State Fault Refusal :=
  onCtl (ctrlFlit x.port x.ctrl 0x02 (onInitDone x.port)) s

/-! ## Flits arrive -/

/-- The CRET field of a flit (R65). -/
def flitCret (f : Flit) : BitVec 16 := f.extractLsb' 16 16

/-- A PKT flit (R72); a good one that arrives after the partner's INIT counts as INIT_DONE (R71). -/
def onPktFlit (p : Fin 4) (f : Flit) (c : Ctl) : Ctl :=
  if !rxStream c.ports[p] then c
  else
    let c := ebOut p f c
    if !flitCrcOk f then rxBad p false c
    else if flitType f = 1 then
      let c := onInitDone p c
      if rxOpen c.ports[p] then rxFlit p f (applyCret p (flitCret f) c) else c
    else c

def execPktFlit (p : Fin 4) (f : Flit) (s : State) : Host.Outcome State Fault Refusal := onCtl (onPktFlit p f) s

/-- An IDLE flit (R76). -/
def onIdleFlit (p : Fin 4) (f : Flit) (c : Ctl) : Ctl :=
  if !rxStream c.ports[p] then c
  else
    let c := ebOut p f c
    if !flitCrcOk f then rxBad p false c else if flitType f = 0 then applyCret p (flitCret f) c else c

def execIdleFlit (p : Fin 4) (f : Flit) (s : State) : Host.Outcome State Fault Refusal := onCtl (onIdleFlit p f) s

def execBadFlit (p : Fin 4) (byBuffer : Bool) (s : State) : Host.Outcome State Fault Refusal :=
  onCtl (fun c => if rxStream c.ports[p] then rxBad p byBuffer c else c) s

/-- A SKIP flit (R54): deleted by the elastic buffer above a fill of 10, otherwise discarded by the link layer. -/
def onSkipFlit (p : Fin 4) (f : Flit) (c : Ctl) : Ctl :=
  if !rxStream c.ports[p] then c
  else if c.ports[p].rxFlits.head? = some f then ebOut p f c
  else if flitType f = 15 && flitCrcOk f && 10 < c.ports[p].rxFlits.length then bump (pIdx p 4) c
  else c

def execSkipFlit (p : Fin 4) (f : Flit) (s : State) : Host.Outcome State Fault Refusal := onCtl (onSkipFlit p f) s

/-- A SKIP flit leaves and the count since the last one restarts (R53). -/
def execSkipSend (p : Fin 4) (s : State) : Host.Outcome State Fault Refusal :=
  onCtl (fun c => if c.ports[p].link = .active && c.ports[p].txSleep = .active then modPort p laySkip c else c) s

/-- A NAK slot (R73): it acknowledges every flit before its SEQ and asks for a replay from it. -/
def onNak (p : Fin 4) (slot : Slot) (c : Ctl) : Ctl :=
  if !rxOpen c.ports[p] then c
  else
    let n := bitsOf slot.toNat 16 12
    pumpPort p (replayFrom p n (modPort p (onAck ((n + 4095) % 4096)) (bump (pIdx p 15) c)))

def execNak (p : Fin 4) (x : CtrlSlot) (s : State) : Host.Outcome State Fault Refusal :=
  onCtl (ctrlFlit p x 0x10 (onNak p x.slot)) s

/-- The NAK is queued again while it is outstanding (R72). -/
def onNakRepeat (p : Fin 4) (c : Ctl) : Ctl :=
  if c.ports[p].nakOut then modPort p (fun q => { q with nakQueue := q.nakQueue ++ [q.expSeq] }) c else c

def execNakRepeat (p : Fin 4) (s : State) : Host.Outcome State Fault Refusal := onCtl (onNakRepeat p) s

/-- on_timer (R73); frozen while the opposite direction sleeps or wakes (R74). A replay that starts is counted. -/
def onReplayTimeout (p : Fin 4) (c : Ctl) : Ctl :=
  let q := c.ports[p]
  if rxOpen q && !q.awaitStart && replayStarts p (oldestSeq q) c then replayFrom p (oldestSeq q) (bump (pIdx p 17) c) else c

def execReplayTimeout (p : Fin 4) (s : State) : Host.Outcome State Fault Refusal := onCtl (onReplayTimeout p) s

/-- Whether the first packet on VC2 in a port's receive buffer begins with this header. -/
def firstVc2 (slot : Slot) (p : Port) : Bool :=
  match p.rxPkts.find? fun k => k.head?.map rxVc = some 2 with
  | some k => k.head? = some slot
  | none => false

/-- A header on VC2 that is neither MGMT_CMD nor BOOT (R79): its packet is discarded without a response and counted. -/
def onDiscardedHeader (p : Fin 4) (slot : Slot) (c : Ctl) : Ctl :=
  let op := slot.toNat % 256
  if linkUp c.ports[p] && firstVc2 slot c.ports[p] && op ≠ 0x40 && op ≠ 0x44 then
    bump (pIdx p 23) (modPort p (takeFirst 2 (fun hd _ => hd = slot)) c)
  else c

def execDiscardedVc2Header (p : Fin 4) (slot : Slot) (s : State) : Host.Outcome State Fault Refusal :=
  onCtl (onDiscardedHeader p slot) s

/-! ## Sleep (R55 to R62) -/

/-- Whether PORT.SLEEP_ALLOW allows a target: 1 LIGHT_SLEEP, 2 DEEP_SLEEP. -/
def sleepAllowed (p : Port) (target : Nat) : Bool := (target = 1 && p.sleepLight) || (target = 2 && p.sleepDeep)

/-- The reply to a SLEEP_REQ (R57). -/
def sleepReply (p : Port) (target : Nat) : Nat × Nat :=
  if !sleepAllowed p target then (0x22, 1)
  else if p.retraining then (0x22, 2)
  else if p.nakOut then (0x22, 3)
  else (0x21, target)

/-- A SLEEP_REQ arrives: the reply is queued, and a sleeping transmitter wakes to send it (R57). -/
def onSleepReq (p : Fin 4) (target : Nat) (c : Ctl) : Ctl :=
  modPort p (fun q => wakeTx { q with sleepOut := q.sleepOut ++ [sleepReply q target] }) c

def execSleepReq (p : Fin 4) (x : CtrlSlot) (s : State) : Host.Outcome State Fault Refusal :=
  onCtl (ctrlFlit p x 0x20 (onSleepReq p (bitsOf x.slot.toNat 8 8))) s

/-- Whether a transmitter has a packet to send. -/
def hasPackets (p : Port) : Bool :=
  !(p.respQ.isEmpty && p.mgmtQ.isEmpty && p.notifyQ.isEmpty && p.line.rest.isEmpty && p.line.queue.isEmpty)

/-- A SLEEP_ACK arrives (R58): the transmitter resumes, or sends what it still has to reply and the ENTER marker, and goes idle. -/
def onSleepAck (p : Fin 4) (sleepNow : Bool) (c : Ctl) : Ctl :=
  match c.ports[p].sleepReqOut with
  | none => c
  | some t =>
    if sleepNow && !hasPackets c.ports[p] then
      bump (if t = 2 then pIdx p 10 else pIdx p 8) (noteSent p
        (modPort p (fun q => endStream (t = 2)
          { q with sleepReqOut := none, txSleep := if t = 2 then .deep else .light, sleepMinimum := true, wakeDecided := false }) c))
    else pumpPort p (modPort p (fun q => { q with sleepReqOut := none }) c)

def execSleepAck (x : PortCtrl) (sleepNow : Bool) (s : State) : Host.Outcome State Fault Refusal :=
  onCtl (ctrlFlit x.port x.ctrl 0x21 (onSleepAck x.port sleepNow)) s

/-- The transmitter stays ACTIVE after a SLEEP_NAK (R57). -/
def stayAwake (p : Fin 4) (c : Ctl) : Ctl := pumpPort p (modPort p (fun q => { q with sleepReqOut := none }) c)

def execSleepNak (p : Fin 4) (x : CtrlSlot) (s : State) : Host.Outcome State Fault Refusal :=
  onCtl (ctrlFlit p x 0x22 fun c => if c.ports[p].sleepReqOut.isSome then stayAwake p c else c) s

/-- No reply came within 2 microseconds (R57): the transmitter stays ACTIVE and asks again after 10 microseconds at the
earliest. -/
def noSleepReply (p : Fin 4) (c : Ctl) : Ctl :=
  if c.ports[p].sleepReqOut.isSome then
    stayAwake p (bump (pIdx p 7) (modPort p (fun q => { q with line := { q.line with retryAt := c.now + 10000 } }) c))
  else c

def execSleepReplyTimeout (p : Fin 4) (s : State) : Host.Outcome State Fault Refusal := onCtl (noSleepReply p) s

/-- A sleeping transmitter wakes (R59) and sends what waited. -/
def wakePort (p : Fin 4) (c : Ctl) : Ctl := if linkUp c.ports[p] then pumpPort p (modPort p wakeTx c) else c

def execWakeReq (x : PortCtrl) (s : State) : Host.Outcome State Fault Refusal :=
  onCtl (ctrlFlit x.port x.ctrl 0x23 (wakePort x.port)) s

def execOwedAckTimeout (p : Fin 4) (s : State) : Host.Outcome State Fault Refusal :=
  onCtl (fun c => if c.ports[p].txSleep ≠ .active && owes c.ports[p] then wakePort p c else c) s

/-- A transmitter may request sleep (R56, R57): ACTIVE, nothing to send, every flit acknowledged, no acknowledgement or credit
return owed, and 10 microseconds past a request without reply. -/
def sleepReady (now : Nat) (p : Port) : Bool :=
  p.link = .active && p.txSleep = .active && p.sleepReqOut.isNone && !hasPackets p && p.replay.isEmpty && !owes p
    && p.line.retryAt ≤ now

/-- A SLEEP_REQ for a target leaves (R55, R56). -/
def requestSleep (now target : Nat) (p : Port) : Port :=
  if sleepReady now p && sleepAllowed p target then { p with sleepReqOut := some target, sleepOut := p.sleepOut ++ [(0x20, target)] } else p

def execTxLightIdle (p : Fin 4) (s : State) : Host.Outcome State Fault Refusal := onCtl (fun c => modPort p (requestSleep c.now 1) c) s

/-- DEEP_SLEEP is requested unless PORT.TX_DEEP_IDLE is zero (R61); a direction in LIGHT_SLEEP wakes first (R56). -/
def deepIdle (now : Nat) (p : Port) : Port :=
  if p.txDeepIdle = 0 || !p.sleepDeep then p
  else if p.txSleep = .light && !p.sleepMinimum then requestSleep now 2 (wakeTx p)
  else requestSleep now 2 p

def execTxDeepIdle (p : Fin 4) (s : State) : Host.Outcome State Fault Refusal := onCtl (fun c => modPort p (deepIdle c.now) c) s

/-- The minimum sleep ends (R59): a wake decided during it starts. -/
def onSleepMinimumEnd (p : Fin 4) (c : Ctl) : Ctl :=
  let q := c.ports[p]
  if !q.sleepMinimum then c
  else
    let c := modPort p (fun q => { q with sleepMinimum := false }) c
    if q.wakeDecided then wakePort p c else c

def execSleepMinimumEnd (p : Fin 4) (s : State) : Host.Outcome State Fault Refusal := onCtl (onSleepMinimumEnd p) s

def execWakeAckTimeout (p : Fin 4) (s : State) : Host.Outcome State Fault Refusal :=
  onCtl (fun c => if c.ports[p].wakeUnacked then startRetrain p c else c) s

def execStreamStartTimeout (p : Fin 4) (s : State) : Host.Outcome State Fault Refusal :=
  onCtl (fun c => if c.ports[p].awaitStart then startRetrain p c else c) s

/-- Signal above squelch at a sleeping receiver (R60): its CDR is released or powered and it waits for STREAM_START. -/
def execSquelchDetect (p : Fin 4) (s : State) : Host.Outcome State Fault Refusal :=
  onCtl (fun c => if c.ports[p].link = .active && c.ports[p].rxSleep ≠ .active then modPort p (fun q => { q with awaitStart := true, wakeBlocks := 0 }) c else c) s

/-- A partial flit that the receiver holds is discarded (R47). -/
def dropPartial (p : Port) : Port := { p with partialVal := 0, partialLen := 0 }

/-- The receiver freezes its state at an ENTER_LIGHT marker, or stores it at ENTER_DEEP (R58, R62); a transmitter already stalled for
what the direction carries asks it to wake (R59). -/
def enterSleep (p : Fin 4) (deep : Bool) (c : Ctl) : Ctl :=
  if !rxOpen c.ports[p] then c
  else
    bump (if deep then pIdx p 11 else pIdx p 9) (modPort p (fun q => askWake (dropPartial { q with
      rxSleep := if deep then .deep else .light, rx := adaptedLanes p c })) c)

def execEnterLight (p : Fin 4) (s : State) : Host.Outcome State Fault Refusal := onCtl (enterSleep p false) s
def execEnterDeep (p : Fin 4) (s : State) : Host.Outcome State Fault Refusal := onCtl (enterSleep p true) s

end Sys2Proof.Machine
end

