-- ==== Sys2Proof/Machine/Lanes.lean ====
section
/-! DEFINITION. The lanes of a port: training blocks, bring-up, lane map, alignment markers, the FEC stream and retrain
triggers (R30 to R54, R60, R61). -/

namespace Sys2Proof.Machine

open Sys2Proof

/-! ## Training blocks (R33, R34, Table 2 of chapter 2) -/

def tsSyncTrue : Nat := 0xB4D2781E
def tsSyncInverted : Nat := 0xE1872D4B

/-- A received TS block after polarity correction, with whether the lane is inverted; none when TS_SYNC or TS_CRC does not let it
be used (R34). -/
def tsBlock (b : Block) : Option (Nat × Bool) :=
  let use := fun (x : Nat) => x % 2 ^ 32 = tsSyncTrue && bitsOf x 96 16 = crc16 96 x
  if b.toNat % 2 ^ 32 = tsSyncTrue then (if use b.toNat then some (b.toNat, false) else none)
  else if b.toNat % 2 ^ 32 = tsSyncInverted then
    (if use (invertPolarity b).toNat then some ((invertPolarity b).toNat, true) else none)
  else none

def tsType (x : Nat) : Nat := bitsOf x 32 4
def tsDone (x : Nat) : Bool := bitOf x 36
def tsRole (x : Nat) : Nat := bitsOf x 38 2
def tsLaneId (x : Nat) : Nat := bitsOf x 40 5
def tsWidth (x : Nat) : Nat := bitsOf x 45 3
def tsRateCap (x : Nat) : Nat := bitsOf x 48 2
def tsSpareFor (x : Nat) : Nat := bitsOf x 52 5
def tsGroup (x : Nat) : Nat := bitsOf x 57 3
def tsRxGood (x : Nat) : BitVec 17 := BitVec.ofNat 17 (bitsOf x 60 17)

def tsCountOf (x : Nat) : Nat := bitsOf x 80 16

/-- A usable block is the first of its block time: all lanes of one block time carry the same TS_COUNT, so the block of any lane whose
TS_CRC passes counts the time once (R34, log 11). -/
def newTime (p : Port) (x : Nat) : Bool := p.tsTime ≠ some (tsCountOf x)

/-! ## What the transmitters send in bring-up (R34 to R37) -/

/-- TS_TYPE of the frames that a transmitter sends: those of a bring-up state (Table 3 of chapter 2), or the preamble of a wake from
DEEP_SLEEP (R60); none where it sends no frames. -/
def tsKind (p : Port) : Option Nat :=
  match p.link with
  | .speed => some 1
  | .train => some 2
  | .laneMap => some 3
  | .active => if p.line.deepWake && p.txSleep = .active && p.line.hold ≠ 0 && p.line.hold ≤ wakePreamble then some 4 else none
  | _ => none

/-! ## DETECT and SPEED (R35, R36) -/

/-- Whether the ports run at all: rails up, start reached the ports, neither LOCKDOWN nor thermal shutdown. -/
def portsRun (c : Ctl) : Bool :=
  (c.power.stage = .boot || c.power.stage = .starting || c.power.stage = .ready) && !c.umpire.class5

/-- A lane at the start of a bring-up from DETECT. -/
def bringupLane (l : Lane) : Lane :=
  { l with laneId := none, tsCount := 0, judged := none, failing := false, polarityInv := false, amMissed := 0, amSeen := false
           symErrs := [], state := .off, logicalPos := 0 }

/-- Signal on at least 4 receive lanes for 10 microseconds ends DETECT (R35), after the hold of R39. -/
def onSignalDetect (p : Fin 4) (lanes : Nat) (c : Ctl) : Ctl :=
  let q := c.ports[p]
  if q.enable && q.link = .detect && !q.holdoff && 4 ≤ lanes && portsRun c then
    modPort p (fun q => { q with
      link := .speed, rate := 0, badRole := false, rateSel := 0, initRecv := false, initDoneRecv := false
      adv := Vector.replicate 3 0, doneSent := 0, doneRecv := 0, tsTime := none, mapMatches := 0, alignedMarkers := 0
      rx := q.rx.map bringupLane }) c
  else c

def execSignalDetect (p : Fin 4) (lanes : Nat) (s : State) : Host.Outcome State Fault Refusal := onCtl (onSignalDetect p lanes) s

/-- The chosen rate (R36): the highest in both RATE_CAPs that MAX_RATE and a fallback allow; zero when there is none. -/
def chosenRate (p : Port) (cap : Nat) : Nat :=
  if bitOf cap 1 && p.maxRate = 2 && !p.fallback56 then 2 else if bitOf cap 0 then 1 else 0

/-- A lane after a block in SPEED (R36). -/
def speedLane (b : Option (Nat × Bool)) (l : Lane) : Lane :=
  match b with
  | some (x, inv) => if tsType x = 1 then { l with laneId := some (tsLaneId x), tsCount := l.tsCount + 1, polarityInv := inv } else { l with tsCount := 0 }
  | none => { l with tsCount := 0 }

/-- SPEED ends (R36): with a rate chosen after 8 consecutive valid blocks on at least 4 lanes, 16 blocks sent with DONE, and DONE
received. -/
def speedExit (p : Port) : Port :=
  if p.rateSel ≠ 0 && !p.badRole && 16 ≤ p.doneSent && 1 ≤ p.doneRecv then
    { p with link := .train, rate := p.rateSel, doneSent := 0, doneRecv := 0, tsTime := none }
  else p

/-- A block in SPEED (R36): the lane's run of valid blocks, its LANE_ID and polarity; the rate is chosen once 4 lanes have 8. -/
def speedStep (lane : Fin 17) (blk : Block) (p : Port) : Port :=
  let b := tsBlock blk
  let p := { p with rx := p.rx.set lane (speedLane b p.rx[lane]) }
  match b with
  | some (x, _) =>
    if tsType x ≠ 1 then p
    else
      let bad := p.badRole || tsRole x ≠ 2
      let ready := 4 ≤ (List.finRange 17).countP fun l => 8 ≤ p.rx[l].tsCount
      let r := chosenRate p (tsRateCap x)
      speedExit { p with
        badRole := bad, rateSel := if ready && !bad then r else p.rateSel
        doneRecv := if tsDone x then p.doneRecv + 1 else p.doneRecv }
  | none => p

/-! ## Lane map (R40 to R43) -/

/-- lane_map for one group: the spare it needs, when it can run (R41). -/
def groupSpare (good : BitVec 17) (w grp : Nat) : Option (Option Nat) :=
  match (List.range w).filter fun i => !good.getLsbD (grp * w + i) with
  | [] => some none
  | [b] => if good.getLsbD 16 then some (some (grp * w + b)) else none
  | _ => none

/-- The first group from `grp` on that can run. -/
def groupFrom (good : BitVec 17) (w grp : Nat) : Nat → Option DirMap
  | 0 => none
  | n + 1 =>
    match groupSpare good w grp with
    | some sp => some { width := w, group := grp, spare := sp }
    | none => groupFrom good w (grp + 1) n

/-- lane_map (R41), over the widths up to `most`: a direction never widens during a retrain (R43). -/
def laneMap (most : Nat) (good : BitVec 17) : Option DirMap :=
  match if 16 ≤ most then groupFrom good 16 0 1 else none with
  | some m => some m
  | none =>
    match if 8 ≤ most then groupFrom good 8 0 2 else none with
    | some m => some m
    | none => groupFrom good 4 0 4

/-- The greatest width that a direction with this map may take now (R43). -/
def widthBound (p : Port) (m : DirMap) : Nat := if p.retraining then m.width else 16

/-- Whether every lane has been judged (R37). -/
def allJudged (p : Port) : Bool := p.rx.toList.all fun l => l.judged.isSome

/-- A good lane whose LANE_ID fits the straight or the reversed pattern (R40). -/
def fitsStraight (p : Port) (l : Fin 17) : Bool := p.rx[l].laneId = some l.val
def fitsReversed (p : Port) (l : Fin 17) : Bool := p.rx[l].laneId = some (16 - l.val)

/-- The wiring pattern of the good lanes (R40): true when reversed, none when they disagree. -/
def wiring (p : Port) : Option Bool :=
  let good := (List.finRange 17).filter fun l => p.rx[l].judged = some true && (fitsStraight p l || fitsReversed p l)
  if good.all (fitsStraight p) then some false else if good.all (fitsReversed p) then some true else none

/-- The physical receive lane that carries the partner's transmit lane i. -/
def rxLaneOf (reversed : Bool) (i : Nat) : Fin 17 := Fin.ofNat 17 (if reversed then 16 - i else i)

/-- RX_GOOD of the stack's receiver: bit i for the partner's transmit lane i. -/
def localGood (p : Port) (reversed : Bool) : BitVec 17 :=
  BitVec.ofNat 17 (packBits 1 ((List.range 17).map fun i =>
    let l := rxLaneOf reversed i
    b2n (p.rx[l].judged = some true && p.rx[l].laneId = some i)))

/-- The state of the lane that carries transmit lane i of a direction (R42, R439). -/
def laneIn (m : DirMap) (good : BitVec 17) (i : Nat) (l : Lane) : Lane :=
  let lo := m.group * m.width
  if i = 16 then
    match m.spare with
    | some s => { l with state := .active, logicalPos := s - lo }
    | none => { l with state := if good.getLsbD 16 then .spareIdle else .failed, logicalPos := 0 }
  else if !good.getLsbD i then { l with state := .failed, logicalPos := 0 }
  else if lo ≤ i && i < lo + m.width then { l with state := .active, logicalPos := i - lo }
  else { l with state := .off, logicalPos := 0 }

/-- The events of a change of spare use or width (R43): WIDTH_DEGRADED when the width narrows, otherwise LANE_SPARED. A
port that was down is compared with a full direction. -/
def mapEvent (p : Fin 4) (dir : Nat) (old new : DirMap) (c : Ctl) : Ctl :=
  let w := if old.width = 0 then 16 else old.width
  if new.width < w then raiseEvent 0x47 1 p.val 0 (modPort p (fun q => { q with mapChanged := true }) c)
  else if new.width = w && new.spare ≠ old.spare then
    let i := (new.spare.orElse fun _ => old.spare).getD 16
    let l := if dir = 1 then (rxLaneOf c.ports[p].reversed i).val else i
    raiseEvent 0x46 2 (p.val * 64 + dir * 32 + l) 0 (modPort p (fun q => { q with mapChanged := true }) c)
  else c

/-- A lane_map that fails sends the port down with PORT_DOWN (R43), reported again only after ACTIVE (R39). -/
def mapFails (p : Fin 4) (c : Ctl) : Ctl :=
  let sent := c.ports[p].portDownSent
  let c := toDetect p (modPort p (fun q => { q with portDownSent := true }) c)
  if sent then c else raiseEvent 0x49 1 p.val 0 c

/-- TRAIN ends (R35): both sides' results give the map of each direction, and LANE_MAP begins. -/
def enterLaneMap (p : Fin 4) (c : Ctl) : Ctl :=
  let q := c.ports[p]
  match wiring q with
  | none => toDetect p c
  | some rev =>
    match laneMap (widthBound q q.rxMap) (localGood q rev), laneMap (widthBound q q.txMap) q.partnerGood with
    | some rm, some tm =>
      let c := modPort p (fun q => { q with link := .laneMap, reversed := rev, rxMap := rm, txMap := tm, doneSent := 0, doneRecv := 0, tsTime := none, mapMatches := 0 }) c
      mapEvent p 0 q.txMap tm (mapEvent p 1 q.rxMap rm c)
    | _, _ => mapFails p c

/-! ## TRAIN (R37, R48, R49) -/

/-- TRAIN is left once every lane is judged and blocks with DONE were received and sent 16 times (R35). -/
def trainExit (p : Fin 4) (c : Ctl) : Ctl :=
  let q := c.ports[p]
  if q.link = .train && allJudged q && 16 ≤ q.doneRecv && 16 ≤ q.doneSent then enterLaneMap p c else c

/-- A TS_TRAIN block in TRAIN: its RX_GOOD is taken and its block time counted when it carries DONE. -/
def trainStep (p : Fin 4) (x : Nat) (c : Ctl) : Ctl :=
  trainExit p (modPort p (fun q =>
    let done := tsDone x
    { q with
      partnerGood := if done then tsRxGood x else q.partnerGood
      doneRecv := if done && newTime q x then q.doneRecv + 1 else q.doneRecv
      tsTime := some (tsCountOf x) }) c)

/-- The whole nanoseconds of a training frame at the port's rate: 146.3 or 292.6 ns. -/
def frameTime (p : Port) : Nat := if p.rate = 2 then 146 else 292

/-- TS blocks found in ACTIVE on at least half of the active lanes within one frame time start a retrain (R48). -/
def tsInActive (p : Fin 4) (lane : Fin 17) (c : Ctl) : Ctl :=
  let q := c.ports[p]
  if q.rx[lane].state ≠ .active then c
  else
    let seen := (q.tsSeen.filter fun x => x.1 ≠ lane.val && decide (c.now ≤ x.2 + frameTime q)) ++ [(lane.val, c.now)]
    let c := modPort p (fun q => { q with tsSeen := seen }) c
    if q.rxMap.width ≤ 2 * seen.length then startRetrain p c else c

/-- A usable TS block on a port in ACTIVE: in the preamble of a sleeping direction any but TS_WAKE enters the retrain (R49, R61);
awake it counts toward one (R48). -/
def tsOnActive (p : Fin 4) (lane : Fin 17) (x : Nat) (c : Ctl) : Ctl :=
  if c.ports[p].link ≠ .active then c
  else if c.ports[p].rxSleep ≠ .active then (if tsType x ≠ 4 then startRetrain p c else c)
  else tsInActive p lane c

/-- A TS_SPEED block (R36). -/
def onTsSpeed (p : Fin 4) (lane : Fin 17) (blk : Block) (c : Ctl) : Ctl :=
  if c.ports[p].link = .speed then modPort p (speedStep lane blk) c
  else match tsBlock blk with
    | some (x, _) => tsOnActive p lane x c
    | none => c

def execTsSpeed (p : Fin 4) (lane : Fin 17) (blk : Block) (s : State) : Host.Outcome State Fault Refusal := onCtl (onTsSpeed p lane blk) s

/-- A received TS_TRAIN block: a polarity that disagrees with SPEED sends the port to DETECT (R33); in ACTIVE or sleep it
counts toward a retrain (R48, R49). The spec is silent on a lane that gave no valid block in SPEED: it counts as decided true, so that
an inverted TS_TRAIN block on it is a disagreement (R33; DESIGN CHOICE, log 73). -/
def onTsTrain (p : Fin 4) (lane : Fin 17) (blk : Block) (c : Ctl) : Ctl :=
  match tsBlock blk with
  | none => c
  | some (x, inv) =>
    let q := c.ports[p]
    if q.link = .train then
      if tsType x ≠ 2 then c
      else if inv != q.rx[lane].polarityInv then toDetect p c
      else trainStep p x c
    else tsOnActive p lane x c

def execTsTrain (p : Fin 4) (lane : Fin 17) (blk : Block) (s : State) : Host.Outcome State Fault Refusal := onCtl (onTsTrain p lane blk) s

/-- The error window of a lane ends (R37): it is judged in TRAIN; on an idle spare its errors add up (R64) and an excess marks it
bad until the next bring-up from DETECT (R42). The adapted equaliser state is a free value. -/
def onPrbs (p : Fin 4) (lane : Fin 17) (errs : Nat) (cdrLock tsOk : Bool) (c : Ctl) : Ctl :=
  let q := c.ports[p]
  if q.link = .train then
    let l := q.rx[lane]
    let good := errs ≤ 16 && cdrLock && tsOk && !l.failing && l.judged ≠ some false
    let x := { l with judged := some good, rxAdapt := BitVec.ofNat 16 (Config.freeNat c.draws) }
    scoreSet (laneIdx p lane.val 3) errs { modPort p (fun q => { q with rx := q.rx.set lane x }) c with draws := c.draws + 1 }
  else if q.link = .active && q.rx[lane].state = .spareIdle then
    let x := if 16 < errs then { q.rx[lane] with failing := true, state := .failed } else q.rx[lane]
    bumpBy (laneIdx p lane.val 3) errs (modPort p (fun q => { q with rx := q.rx.set lane x }) c)
  else c

def execPrbsCheckComplete (p : Fin 4) (lane : Fin 17) (errs : Nat) (cdrLock tsOk : Bool) (s : State) : Host.Outcome State Fault Refusal :=
  onCtl (onPrbs p lane errs cdrLock tsOk) s

/-! ## LANE_MAP and DESKEW (R35, R41, R46, R47) -/

/-- A TS_MAP block's WIDTH, GROUP and SPARE_FOR equal the local result for the partner's direction. -/
def mapMatches (m : DirMap) (x : Nat) : Bool :=
  tsWidth x = widthCode m.width && tsGroup x = m.group && tsSpareFor x = m.spare.getD 31

/-- The partner's transmit lane that arrives on a physical receive lane. -/
def partnerLane (p : Port) (l : Fin 17) : Nat := if p.reversed then 16 - l.val else l.val

/-- A lane's state in a new map (R42); a lane that was off stays off through a retrain, in which it is not judged. -/
def placeLane (p : Port) (m : DirMap) (good : BitVec 17) (i : Nat) (l : Lane) : Lane :=
  let l := { l with amMissed := 0, amSeen := false, amGot := false, amGood := false }
  if p.retraining && l.state = .off && !l.failing then { l with logicalPos := 0 } else laneIn m good i l

/-- DESKEW begins: the lanes take their states (R42). -/
def enterDeskew (p : Port) : Port :=
  { p with
    link := .deskew, alignedMarkers := 0, rxCw := 0
    rx := Vector.ofFn fun l => placeLane p p.rxMap (localGood p p.reversed) (partnerLane p l) p.rx[l]
    tx := Vector.ofFn fun l => placeLane p p.txMap p.partnerGood l.val p.tx[l] }

/-- LANE_MAP is left after 16 consecutive matching block times received and 16 frames sent (R35). -/
def mapExit (p : Port) : Port := if p.link = .laneMap && 16 ≤ p.mapMatches && 16 ≤ p.doneSent then enterDeskew p else p

/-- A TS_MAP block (R35, R41): the first of its block time gives the transmit map with its RX_GOOD and is compared with the local
result. -/
def onTsMap (p : Fin 4) (lane : Fin 17) (blk : Block) (c : Ctl) : Ctl :=
  match tsBlock blk with
  | none => c
  | some (x, inv) =>
    let q := c.ports[p]
    if q.link = .active then tsOnActive p lane x c
    else if q.link ≠ .laneMap || tsType x ≠ 3 || inv != q.rx[lane].polarityInv || !newTime q x then c
    else
      match laneMap (widthBound q q.txMap) (tsRxGood x) with
      | none => mapFails p c
      | some tm =>
        let n := if mapMatches q.rxMap x then q.mapMatches + 1 else 0
        let c := modPort p (fun q => { q with partnerGood := tsRxGood x, txMap := tm, mapMatches := n, tsTime := some (tsCountOf x) }) c
        let c := if tm ≠ q.txMap then mapEvent p 0 q.txMap tm c else c
        modPort p mapExit c

def execTsMap (p : Fin 4) (lane : Fin 17) (blk : Block) (s : State) : Host.Outcome State Fault Refusal := onCtl (onTsMap p lane blk) s

/-- A TS_WAKE block in a DEEP_SLEEP preamble (R60): checked for polarity and counted; any other TS block starts a retrain
(R61). -/
def onTsWake (p : Fin 4) (lane : Fin 17) (blk : Block) (c : Ctl) : Ctl :=
  match tsBlock blk with
  | none => c
  | some (x, inv) =>
    let q := c.ports[p]
    if q.link ≠ .active || q.rxSleep = .active || tsType x ≠ 4 then tsOnActive p lane x c
    else if inv != q.rx[lane].polarityInv then c
    else modPort p (fun q => { q with wakeBlocks := q.wakeBlocks + 1 }) c

def execTsWake (p : Fin 4) (lane : Fin 17) (blk : Block) (s : State) : Host.Outcome State Fault Refusal := onCtl (onTsWake p lane blk) s

/-- A marker block after the polarity correction of its lane (R33); none when it is missed, or a sync word or AM_CRC fails
(R46). -/
def amRead (l : Lane) (b : Option Block) : Option Nat :=
  match b with
  | none => none
  | some b =>
    let x := (if l.polarityInv then invertPolarity b else b).toNat
    if x % 2 ^ 32 = 0x5A3CC3A5 && bitsOf x 80 16 = crc16 80 x && bitsOf x 96 32 = 0xA5C33C5A then some x else none

/-- A marker's LANE_ID, LOGICAL_POS and WIDTH are those of the lane that receives it. One whose fields name another place is passed
over, which the spec leaves open: it aligns nothing, and the boundary finds the lane without a marker (R46; DESIGN CHOICE,
log 57). -/
def amFits (p : Port) (lane : Fin 17) (x : Nat) : Bool :=
  bitsOf x 32 5 = partnerLane p lane && bitsOf x 40 4 = p.rx[lane].logicalPos && bitsOf x 44 3 = widthCode p.rxMap.width

/-- A lane marked failing starts a retrain (R48). -/
def laneFails (p : Fin 4) (lane : Fin 17) (c : Ctl) : Ctl :=
  startRetrain p (modPort p (fun q => { q with rx := q.rx.set lane { q.rx[lane] with failing := true } }) c)

/-- The lowest active receive lane: its markers count marker times. -/
def lowActive (p : Port) : Option (Fin 17) := (List.finRange 17).find? fun l => p.rx[l].state = .active

/-- DESKEW ends for a receiver (R35): every active lane is aligned and 4 markers with RX_ALIGNED have come. -/
def deskewDone (p : Port) : Bool := 4 ≤ p.alignedMarkers && rxAligned p

/-- STREAM_START (R47): the flit stream begins again and the marker interval counts anew; DESKEW ends when its exit condition
holds, a retrain or a wake ends, and the elastic buffer restarts at its target fill (R54). -/
def onStreamStart (p : Fin 4) (c : Ctl) : Ctl :=
  let q := c.ports[p]
  if (q.link = .deskew && deskewDone q) || q.link = .linkInit || q.link = .active then
    modPort p (fun q => { dropPartial q with
      link := if q.link = .deskew then .linkInit else q.link
      rxSleep := .active, awaitStart := false, rxLine := [], rxFlits := [], ebOn := false, rxCw := 0
      line := { q.line with wakeAsked := false } }) c
  else c

def execStreamStart (p : Fin 4) (s : State) : Host.Outcome State Fault Refusal := onCtl (onStreamStart p) s

/-- A lane misses a marker or receives a corrupt one (R46, R64): the third in succession marks it failing (R48). -/
def markerMissed (p : Fin 4) (lane : Fin 17) (c : Ctl) : Ctl :=
  let l := c.ports[p].rx[lane]
  let c := bump (laneIdx p lane.val 2) (modPort p (fun q => { q with rx := q.rx.set lane { l with amMissed := l.amMissed + 1, amGot := true } }) c)
  if rxOpen c.ports[p] && 3 ≤ l.amMissed + 1 then laneFails p lane c else c

/-- The EVENT of a marker acts once, with the marker of the lowest active lane (R46, R47, R58). -/
def markerEvent (p : Fin 4) (lane : Fin 17) (x : Nat) (c : Ctl) : Ctl :=
  if lowActive c.ports[p] ≠ some lane then c
  else if bitsOf x 64 4 = 1 then onStreamStart p c
  else if bitsOf x 64 4 = 2 then enterSleep p false c
  else if bitsOf x 64 4 = 3 then enterSleep p true c
  else c

/-- A marker of one lane (R46): in DESKEW it aligns the lane, measures its deskew offset, which is a free value (R47), and counts
RX_ALIGNED; four aligned markers with every active lane aligned end DESKEW. In ACTIVE three missed or corrupt ones mark the
lane failing (R48). -/
def onMarker (p : Fin 4) (lane : Fin 17) (blk : Option Block) (c : Ctl) : Ctl :=
  let q := c.ports[p]
  let l := q.rx[lane]
  let put := fun (x : Lane) (c : Ctl) => modPort p (fun q => { q with rx := q.rx.set lane x }) c
  let live : Bool := q.link = .deskew || q.link = .linkInit || q.link = .active
  if l.state ≠ .active || !live || (q.rxSleep ≠ .active && !q.awaitStart) then c
  else match amRead l blk with
    | none => if q.rxSleep = .active then markerMissed p lane c else c
    | some x =>
      if !amFits q lane x then c
      else if q.link = .deskew then
        let c := put { l with amSeen := true, amGot := true, amGood := true, amMissed := 0, deskew := if l.amSeen then l.deskew else Config.freeNat c.draws % 1025 } { c with draws := c.draws + 1 }
        let c := if bitOf x 47 && lowActive q = some lane then modPort p (fun q => { q with alignedMarkers := q.alignedMarkers + 1 }) c else c
        let c := if deskewDone c.ports[p] then modPort p (fun q => { q with link := .linkInit }) c else c
        markerEvent p lane x c
      else markerEvent p lane x (put { l with amMissed := 0, amGot := true, amGood := true } c)

def execAlignmentMarker (p : Fin 4) (lane : Fin 17) (blk : Option Block) (s : State) : Host.Outcome State Fault Refusal :=
  onCtl (onMarker p lane blk) s

/-! ## The FEC stream (R44, R45, R48, R54) -/

/-- Flits cut from a bit string of `len` bits: whole flits of 576 bits and what is left. -/
def cutFlits : Nat → Nat → Nat → List Flit × Nat × Nat
  | 0, v, len => ([], v, len)
  | n + 1, v, len =>
    if len < 576 then ([], v, len)
    else
      let r := cutFlits n (v >>> 576) (len - 576)
      (BitVec.ofNat 576 v :: r.1, r.2.1, r.2.2)

/-- The physical receive lane of a symbol of a code word (R45). -/
def symbolLane (p : Port) (k : Nat) : Option (Fin 17) :=
  (List.finRange 17).find? fun l => p.rx[l].state = .active && p.rx[l].logicalPos = k % (Nat.max 1 p.rxMap.width)

/-- Symbols corrected on one lane (R48, R64): counted, and an excess within 100 microseconds marks the lane failing. -/
def laneSymbols (p : Fin 4) (lane : Fin 17) (n : Nat) (c : Ctl) : Ctl :=
  if n = 0 then c
  else
    let l := c.ports[p].rx[lane]
    let recent := (l.symErrs.filter fun x => c.now < x.1 + 100000) ++ [(c.now, n)]
    let c := bumpBy (laneIdx p lane.val 0) n (modPort p (fun q => { q with rx := q.rx.set lane { l with symErrs := recent } }) c)
    if rxOpen c.ports[p] && c.ports[p].laneFailThreshold < (recent.map (·.2)).sum then laneFails p lane c else c

/-- The first code word behind a marker boundary: no lane has shown the next marker yet. -/
def firstWord (p : Port) : Port := { p with rxCw := 1, rx := p.rx.map fun l => { l with amGot := false, amGood := false } }

/-- Lanes that have shown no marker at a marker boundary that has passed have missed it (R46, R48). When no active lane has shown a
good one, AM lock is lost on the direction, which starts a retrain at once (R48; what loses AM lock is a DESIGN CHOICE, log 63). -/
def passBoundary (p : Fin 4) (c : Ctl) : Ctl :=
  let q := c.ports[p]
  if q.rxCw = 0 then modPort p firstWord c
  else if q.rxCw < (if q.link = .deskew then 64 else 4096) then modPort p (fun q => { q with rxCw := q.rxCw + 1 }) c
  else
    let active := (List.finRange 17).filter fun l => q.rx[l].state = .active
    let c := forEach (active.filter fun l => !q.rx[l].amGot) (markerMissed p) c
    let c := modPort p firstWord c
    if (active.all fun l => !q.rx[l].amGood) && q.link = .active then startRetrain p c else c

/-- Symbols in error of a code word (R44, R48, R64): up to 15 are corrected and attributed to their lanes; an uncorrectable word
counts, and in ACTIVE too many of those within 1,024 start a retrain. -/
def wordErrors (p : Fin 4) (found : Option (List Nat)) (c : Ctl) : Ctl :=
  let q := c.ports[p]
  match found with
  | some [] => c
  | some errs =>
    forEach (List.finRange 17) (fun l c => laneSymbols p l (errs.countP fun k => symbolLane q k = some l) c) (bump (pIdx p 0) c)
  | none =>
    let c := bump (pIdx p 1) (modPort p (fun q => { q with uncorrAt := q.uncorrAt ++ [q.cwCount - 1] }) c)
    if q.uncorrRetrainLimit < c.ports[p].uncorrAt.length then startRetrain p c else c

/-- A code word (R44 to R48): it is decoded, its errors are counted, and its message bits carry flits to the elastic buffer, which
has taken those of the word before; in DESKEW it is fill. -/
def onCodeWord (p : Fin 4) (word : BitVec 5440) (c : Ctl) : Ctl :=
  let q := c.ports[p]
  if !(rxStream q || q.link = .deskew) then c
  else
    let d := rsDecode word
    let c := forEach q.rxLine (fun _ => ebNext p) (passBoundary p c)
    let c := modPort p (fun q => { q with cwCount := q.cwCount + 1, uncorrAt := q.uncorrAt.filter fun k => q.cwCount < k + 1024 }) c
    let c := wordErrors p (d.map (·.1)) c
    let q := c.ports[p]
    if !rxStream q then c
    else
      let msg := match d with | some x => x.2 | none => word.setWidth 5140
      let r := cutFlits 10 (q.partialVal + msg.toNat * 2 ^ q.partialLen) (q.partialLen + 5140)
      modPort p (fun q => { q with partialVal := r.2.1, partialLen := r.2.2, rxLine := q.rxLine ++ r.1 }) c

/-- A code word arrives: 514 message symbols, the first lowest, then 30 check symbols. -/
def execFecCodeWord (p : Fin 4) (check : BitVec 300) (msg : BitVec 5140) (s : State) : Host.Outcome State Fault Refusal :=
  onCtl (onCodeWord p (check ++ msg)) s

/-- A lane's CDR loses lock: it is counted (R64), and in ACTIVE the lane is failing (R48). -/
def onCdrLoss (p : Fin 4) (lane : Fin 17) (c : Ctl) : Ctl :=
  let q := c.ports[p]
  let c := bump (laneIdx p lane.val 1) c
  if rxOpen q && (q.rx[lane].state = .active || q.rx[lane].state = .spareIdle) then laneFails p lane c else c

def execCdrLockLost (p : Fin 4) (lane : Fin 17) (s : State) : Host.Outcome State Fault Refusal := onCtl (onCdrLoss p lane) s

/-! ## Training frames sent (R34 to R37, R49) -/

/-- DONE of the blocks a side sends: in SPEED with a chosen rate, in TRAIN with every lane judged. -/
def sendsDone (p : Port) : Bool :=
  match p.link with
  | .speed => p.rateSel ≠ 0
  | .train => allJudged p
  | _ => false

/-- The TS block (Table 2 of chapter 2) that the stack sends on a physical lane in its bring-up state or preamble. RATE_CAP says what
the sender supports: whether it also shows the limit of PORT.MAX_RATE or of a fallback the spec does not say, and here it does not
(R36; DESIGN CHOICE, log 74). -/
def ownBlock (p : Port) (kind lane : Nat) : Block :=
  let map := p.link = .laneMap
  let good := if map || sendsDone p then (localGood p ((wiring p).getD p.reversed)).toNat else 0
  let x := tsSyncTrue + 2 ^ 32 * kind + 2 ^ 36 * b2n (sendsDone p) + 2 ^ 38 * 1 + 2 ^ 40 * lane
    + 2 ^ 45 * (if map then widthCode p.txMap.width else 0) + 2 ^ 48 * 3
    + 2 ^ 50 * (if p.link = .speed then p.rateSel else p.rate)
    + 2 ^ 52 * (if map then p.txMap.spare.getD 31 else 0) + 2 ^ 57 * (if map then p.txMap.group else 0)
    + 2 ^ 60 * (if p.link = .speed then 0 else good) + 2 ^ 80 * (p.line.frames % 65536)
  BitVec.ofNat 128 (x + 2 ^ 96 * crc16 96 x + 2 ^ 112 * 0x0FF0)

/-- A nanosecond of a transmitter that sends frames of 16,384 bits on each lane: a frame that is complete shows its block as lane
0 carries it, and counts toward the exit of its state when it carries DONE or a lane map (R35, R36). -/
def sendFrames (p : Port) : Port :=
  match tsKind p with
  | none => p
  | some k =>
    let b := p.line.budget + laneRate p
    if b < 16384 then { p with line := { p.line with budget := b } }
    else { p with line := { p.line with budget := b - 16384, frames := p.line.frames + 1, ts := some (ownBlock p k 0) },
                    doneSent := if k = 3 || sendsDone p then p.doneSent + 1 else p.doneSent }

/-- A nanosecond of a port's transmitters. -/
def sendPort (p : Port) : Port := sendLine (sendFrames (followState p))

/-- A port leaves a bring-up state of frames when what it waited for has been sent (R35, R36). -/
def bringupExit (p : Fin 4) (c : Ctl) : Ctl :=
  match c.ports[p].link with
  | .speed => modPort p speedExit c
  | .train => trainExit p c
  | .laneMap => modPort p mapExit c
  | _ => c

/-! ## Timeouts (R35, R38, R39, R49) -/

/-- A bring-up state's timeout (R35): TRAIN at 112 Gb/s falls back to 56 Gb/s (R38). Whether the timeouts of Table 3 also apply
inside a retrain the spec leaves open: the 1 ms of R49 alone bounds a retrain here (DESIGN CHOICE, log 64). -/
def onBringupTimeout (p : Fin 4) (c : Ctl) : Ctl :=
  let q := c.ports[p]
  if q.link = .detect || q.link = .active || q.retraining then c
  else if q.link = .train && q.rate = 2 then
    raiseEvent 0x48 1 p.val 0 (toDetect p (modPort p (fun q => { q with fallback56 := true }) c))
  else toDetect p c

def execBringupTimeout (p : Fin 4) (s : State) : Host.Outcome State Fault Refusal := onCtl (onBringupTimeout p) s

def execDetectHoldoffExpiry (p : Fin 4) (s : State) : Host.Outcome State Fault Refusal :=
  onCtl (modPort p fun q => { q with holdoff := false }) s

def execRetrainTimeout (p : Fin 4) (s : State) : Host.Outcome State Fault Refusal :=
  onCtl (fun c => if c.ports[p].retraining then toDetect p c else c) s

/-! ## Register writes of a port (R35, R38, R43, R48, R51) -/

/-- PORT.ENABLE is written (R35, R39, R51). -/
def setPortEnable (p : Fin 4) (on : Bool) (c : Ctl) : Ctl :=
  let c := modPort p (fun q => { q with enable := on, failedAttempts := 0, holdoff := false }) c
  if on then c else toDetect p c

def execPortEnableSet (p : Fin 4) (s : State) : Host.Outcome State Fault Refusal := onCtl (setPortEnable p true) s
def execPortEnableClear (p : Fin 4) (s : State) : Host.Outcome State Fault Refusal := onCtl (setPortEnable p false) s

/-- PORT.RETRAIN is written (R43, R48); outside ACTIVE it has no effect (R438). -/
def writeRetrain (p : Fin 4) (full : Bool) (c : Ctl) : Ctl :=
  if c.ports[p].link ≠ .active then c else if full then toDetect p c else startRetrain p c

def execPortRetrain (p : Fin 4) (s : State) : Host.Outcome State Fault Refusal := onCtl (writeRetrain p false) s
def execPortRetrainFull (p : Fin 4) (s : State) : Host.Outcome State Fault Refusal := onCtl (writeRetrain p true) s

/-- CONFIG_REJECT with the address of the register whose STATIC field kept its value (R432). -/
def rejectConfig (addr : Nat) : Ctl → Ctl :=
  modPower fun w => { w with configReject := true, configRejectAddr := if w.configReject then w.configRejectAddr else addr }

/-- PORT.MAX_RATE is written (R38, R432): a change while PORT.ENABLE is set is rejected; otherwise the cap holds and a fallback
ends. Unassigned values keep the field (R431). -/
def writeMaxRate (p : Fin 4) (rate : Nat) (c : Ctl) : Ctl :=
  if !(rate = 1 || rate = 2) then c
  else if c.ports[p].enable && rate ≠ c.ports[p].maxRate then rejectConfig (0x10000 + p.val * 0x1000) c
  else modPort p (fun q => { q with maxRate := rate, fallback56 := false }) c

def execPortMaxRate (p : Fin 4) (rate : Nat) (s : State) : Host.Outcome State Fault Refusal := onCtl (writeMaxRate p rate) s

end Sys2Proof.Machine
end

