-- ==== Sys2Proof/Machine/Alu.lean ====
section
/-! DEFINITION. The arithmetic of atomics and transaction actions (R139, R140, R183). -/

namespace Sys2Proof.Machine

open Sys2Proof

/-- An IEEE 754 binary format: exponent and fraction widths. -/
structure FloatFormat where
  ebits : Nat
  mbits : Nat
deriving DecidableEq, Repr

def binary32 : FloatFormat := { ebits := 8, mbits := 23 }
def binary64 : FloatFormat := { ebits := 11, mbits := 52 }

def fpWidth (f : FloatFormat) : Nat := 1 + f.ebits + f.mbits
def fpExpMax (f : FloatFormat) : Nat := 2 ^ f.ebits - 1
def fpSign (f : FloatFormat) (x : Nat) : Bool := bitOf x (f.ebits + f.mbits)
def fpExp (f : FloatFormat) (x : Nat) : Nat := bitsOf x f.mbits f.ebits
def fpFrac (f : FloatFormat) (x : Nat) : Nat := x % 2 ^ f.mbits
def fpIsNan (f : FloatFormat) (x : Nat) : Bool := fpExp f x = fpExpMax f && fpFrac f x ≠ 0
def fpIsInf (f : FloatFormat) (x : Nat) : Bool := fpExp f x = fpExpMax f && fpFrac f x = 0
/-- A NaN with its quiet bit set (R140). -/
def fpQuiet (f : FloatFormat) (x : Nat) : Nat := Nat.lor x (2 ^ (f.mbits - 1))
/-- The default quiet NaN (R140). -/
def fpDefaultNan (f : FloatFormat) : Nat := fpExpMax f * 2 ^ f.mbits + 2 ^ (f.mbits - 1)
def fpSignBit (f : FloatFormat) (s : Bool) : Nat := if s then 2 ^ (f.ebits + f.mbits) else 0
def fpInf (f : FloatFormat) (s : Bool) : Nat := fpSignBit f s + fpExpMax f * 2 ^ f.mbits

/-- A finite value as an integer multiple of the format's smallest subnormal. -/
def fpScaled (f : FloatFormat) (x : Nat) : Int :=
  let e := fpExp f x
  let m : Int := if e = 0 then fpFrac f x else ((fpFrac f x + 2 ^ f.mbits) * 2 ^ (e - 1) : Nat)
  if fpSign f x then -m else m

/-- A magnitude in multiples of the smallest subnormal, rounded to nearest with ties to even (R140). -/
def fpRound (f : FloatFormat) (s : Bool) (m : Nat) : Nat :=
  let k := Nat.log2 m - f.mbits
  let q := m >>> k
  let r := m - q <<< k
  let half := if k = 0 then 0 else 2 ^ (k - 1)
  let q' := if k = 0 then q else if half < r || (r = half && q % 2 = 1) then q + 1 else q
  -- q' carries the hidden bit when the value is normal: the encoding is then linear in it
  let v := k * 2 ^ f.mbits + q'
  if fpExpMax f * 2 ^ f.mbits ≤ v then fpInf f s else fpSignBit f s + v

/-- V + X in a binary format (R140). -/
def fpAdd (f : FloatFormat) (v x : Nat) : Nat :=
  if fpIsNan f v then fpQuiet f v
  else if fpIsNan f x then fpQuiet f x
  else if fpIsInf f v then (if fpIsInf f x && fpSign f v != fpSign f x then fpDefaultNan f else v)
  else if fpIsInf f x then x
  else
    let t := fpScaled f v + fpScaled f x
    if t = 0 then (if fpSign f v && fpSign f x then fpSignBit f true else 0)
    else fpRound f (t < 0) t.natAbs

/-- The new value of an atomic (Table 2 of R139) on operands of `n` bits; CAS takes the compare value. -/
def atomicValue (aop n v x cmp : Nat) : Nat :=
  match aop with
  | 0 => (v + x) % 2 ^ n
  | 1 => fpAdd (if n = 32 then binary32 else binary64) v x
  | 2 => if toSigned n v ≤ toSigned n x then v else x
  | 3 => if toSigned n v ≤ toSigned n x then x else v
  | 4 => Nat.min v x
  | 5 => Nat.max v x
  | 6 => Nat.land v x
  | 7 => Nat.lor v x
  | 8 => Nat.xor v x
  | 9 => x
  | 10 => if v = cmp then x else v
  | _ => v

/-- A granule with `n` bits at bit `lo` replaced. -/
def granReplace (d : GData) (lo n v : Nat) : GData :=
  BitVec.ofNat 256 (d.toNat - bitsOf d.toNat lo n * 2 ^ lo + v % 2 ^ n * 2 ^ lo)

/-- A masked write's merge (R136): byte i is taken from `new` when bit i of the mask is set. -/
def granMerge (mask : BitVec 32) (old new : GData) : GData :=
  (List.range 32).foldl (fun d i =>
    if mask.getLsbD i then granReplace d (8 * i) 8 (bitsOf new.toNat (8 * i) 8) else d) old

end Sys2Proof.Machine
end

