-- ==== Sys2Proof/Machine/Channel.lean ====
section
/-! DEFINITION. The channel controller: acceptance, the write buffer, the atomic unit, the arbiter, decoding and row
disturbance (R131 to R148, R188, R206 to R221, R229 to R231, R241, R243, R282, R283). -/

namespace Sys2Proof.Machine

open Sys2Proof

/-! ## What a channel holds of a granule -/

/-- The atomic unit's live entry for a granule: one that no later full write has replaced (R220). -/
def auFind (ch : Chan) (key : Nat) : Option AuEntry := ch.au.find? fun e => e.gran = key && !e.replaced

/-- The hold entry of a granule, order markers apart. -/
def holdAt (ch : Chan) (key : Nat) : Option Hold := ch.holds.find? fun h => h.gran = key && h.state ≠ .orderMarker

/-- The stored value that a read of a granule meets: the write buffer's, or DRAM's. -/
def storedAt (m : List Host.Cell) (c : Ctl) (key : Nat) : BitVec 320 :=
  (wbufFind c.chans[keyChan key] key).getD (dramRead m key)

/-- The committed value of a granule as a reader sees it, decoded: a COMMITTED hold's value, the atomic unit's, or the
stored one (R133, R188). -/
def granView (m : List Host.Cell) (c : Ctl) (key : Nat) : GranRead :=
  let ch := c.chans[keyChan key]
  let held := match holdAt ch key with
    | some h => if h.state = .committed then h.stage else none
    | none => none
  if keyFailed c key then { data := 0, poisoned := false, uncorrectable := true, ce1 := 0, ce2 := 0, word := 0 }
  else match held, (auFind ch key).bind (·.value) with
    | some d, _ => { data := d, poisoned := false, uncorrectable := false, ce1 := 0, ce2 := 0, word := 0 }
    | none, some d => { data := d, poisoned := false, uncorrectable := false, ce1 := 0, ce2 := 0, word := 0 }
    | none, none => granDecode (storedAt m c key)

/-! ## Row disturbance (R229 to R231) -/

/-- The lowest-numbered entry with the lowest counter. -/
def lowestEntry : List (Nat × Nat) → Nat
  | [] => 0
  | l => (l.findIdx? fun e => e.2 = minOf 0 (l.map (·.2))).getD 0

/-- Space-saving counting of an activate of row r (R229): the table afterwards and the entry's counter. -/
def countActivate (r : Nat) (t : List (Nat × Nat)) : List (Nat × Nat) × Nat :=
  let sat := fun n => Nat.min 65535 (n + 1)
  match t.findIdx? fun e => e.1 = r with
  | some i => (listModify (fun e => (e.1, sat e.2)) t i, sat (t.getD i (0, 0)).2)
  | none =>
    if t.length < 16 then (t ++ [(r, 1)], 1)
    else
      let i := lowestEntry t
      let n := sat (t.getD i (0, 0)).2
      (listModify (fun _ => (r, n)) t i, n)

/-- The oldest pending row not yet due becomes due at the must level (R231). -/
def dueOldest : List (Nat × Nat × Bool) → List (Nat × Nat × Bool)
  | [] => []
  | x :: t => if x.2.2 then x :: dueOldest t else (x.1, x.2.1, true) :: t

/-- The pending list after an activate of row r that leaves its counter at n (R230, R231). It has four places; a row due at the
must level has left its place for its targeted refresh, and stays listed until that is issued. -/
def pendAfter (alert must r n : Nat) (stepped : Bool) (l : List (Nat × Nat × Bool)) : List (Nat × Nat × Bool) :=
  let due := l.map fun x => if x.1 = r && x.2.1 + (must - alert) ≤ n then (x.1, x.2.1, true) else x
  if stepped && n % alert = 0 then
    if due.any (fun x => x.1 = r) then due.map fun x => if x.1 = r then (x.1, x.2.1, true) else x
    else (if due.countP (fun x => !x.2.2) < 4 then due else dueOldest due) ++ [(r, n, decide (must ≤ alert))]
  else due

/-- Activates counted for a layer's power (R336). -/
def addActs (slice n : Nat) (c : Ctl) : Ctl :=
  modTherm (fun t => { t with acts := t.acts.set! (sliceLayer slice) (t.acts.toList.getD (sliceLayer slice) 0 + n) }) c

/-- An operation whose commands are issued on a pseudo-channel takes the next sequence number (R235). The 16 that the numbers can
name are kept for each pseudo-channel. -/
def caIssue (pc : Nat) (o : CaOp) (x : Chan) : Chan :=
  { x with
    caIssued := (if (x.caIssued.countP fun y => y.1 = pc) < 16 then x.caIssued else x.caIssued.eraseP fun y => y.1 = pc) ++ [(pc, o)]
    caSeq := x.caSeq.set! pc (x.caSeq.toList.getD pc 0 + 1) }

/-- One activate issued for a request, copier or test access (R229). -/
def activate (key : Nat) (c : Ctl) : Ctl :=
  let ch := keyChan key
  modChan ch (fun x =>
    let x := caIssue (keyPc key) (.access key) x
    let b := bankGet x (bankKey key)
    let r := keyRow key
    let old := match b.disturb.table.find? fun e => e.1 = r with
      | some e => e.2
      | none => if b.disturb.table.length < 16 then 0 else minOf 0 (b.disturb.table.map (·.2))
    let t := countActivate r b.disturb.table
    let p := pendAfter x.actAlert x.actMust r t.2 (old < 65535) b.disturb.pending
    bankPut (bankKey key) { b with disturb := { table := t.1, pending := p }, openRow := if x.adaptive then some r else none } x)
    (bump (cIdx ch 6) (addActs (ppnSlice (keyPpn key)) 1 c))

/-- An access to a row: a row hit under the adaptive policy, otherwise an activate (R214, R215). A failed slice gets no
command (R236). -/
def openRowFor (key : Nat) (c : Ctl) : Ctl :=
  let ch := c.chans[keyChan key]
  if keyFailed c key then c
  else if ch.adaptive && (bankGet ch (bankKey key)).openRow = some (keyRow key) then bump (cIdx (keyChan key) 7) c
  else activate key c

/-! ## Writes are accepted (R134, R135, R145, R220) -/

/-- The descriptor whose write this is: the mover's queue and the descriptors it has completed. -/
def shadowBy (c : Ctl) (t : Trk) : Option (Nat × Nat) :=
  match t.src with
  | .mover m _ => (c.movers[m]).curQueue.map fun q => (q, (sparseGet (fun _ => {}) c.queues q : Queue).descCompleted)
  | .port _ => none

/-- Room in a channel's write buffer of 128 entries (R210). -/
def wbufRoom (c : Ctl) (key : Nat) : Bool := c.chans[keyChan key].wbuf.length < 128

/-- A granule is stored as poison (R145). -/
def storePoison (key : Nat) (hpn : Option Nat) (c : Ctl) : Ctl :=
  acceptWrite key granPoison hpn (if keyFailed c key then c else bump (cIdx (keyChan key) 33) c)

/-! ## Reports of the decoder (R146, R282, R283) -/

/-- DETAIL of the data codes (Table 7 of chapter 11). -/
def dataDetail (hpn : Option Nat) (key word source port : Nat) : Nat :=
  hpn.getD 0 + 2 ^ 21 * b2n hpn.isSome + 2 ^ 22 * keyGran key + 2 ^ 33 * word + 2 ^ 35 * source + 2 ^ 38 * port
    + 2 ^ 40 * keyPpn key

/-- Two granules lie in one row. -/
def sameRow (a b : Nat) : Bool := ppnSlice (keyPpn a) = ppnSlice (keyPpn b) && bankKey a = bankKey b && keyRow a = keyRow b

/-- Firmware asks for soft row repair of a granule's row (R234, R283); while another repair runs, the row waits. -/
def requestSrr (key : Nat) (c : Ctl) : Ctl :=
  let ch := keyChan key
  if c.chans[ch].srrStatus = 1 then
    modChan ch (fun x => if x.srrWaits.any (sameRow key) then x else { x with srrWaits := x.srrWaits ++ [key] }) c
  else modChan ch (fun x => { x with
    srrRank := keyRank key, srrPc := keyPc key, srrBank := keyBank key, srrRow := keyRow key, srrStatus := 1, srrSince := c.now, srrAccesses := 0, srrOut := [], srrBuf := [] }) c

/-- The key of a row in the row-error tracker: rank, pseudo-channel, bank, row. -/
def rowKey (key : Nat) : Nat := keyRank key * 1048576 + keyPc key * 524288 + keyBank key * 32768 + keyRow key

/-- The row-error tracker after `n` is added for a row (R283), and that row's count. -/
def rowErrAdd (row n : Nat) (l : List (Option (Nat × Nat))) : List (Option (Nat × Nat)) × Nat :=
  let put : Nat → Nat → List (Option (Nat × Nat)) := fun i k => listModify (fun _ => some (row, k)) l i
  let at_ : Nat → Nat := fun i => ((l.getD i none).map (·.2)).getD 0
  match l.findIdx? fun e => e.any fun x => x.1 = row with
  | some i => (put i (at_ i + n), at_ i + n)
  | none =>
    match l.findIdx? (·.isNone) with
    | some i => (put i n, n)
    | none =>
      if l.length < 32 then (l ++ [some (row, n)], n)
      else
        let i := lowestEntry (l.map fun e => e.getD (0, 0))
        (put i (at_ i + n), at_ i + n)

/-- The count of a row in the tracker. -/
def rowErrOf (row : Nat) (l : List (Option (Nat × Nat))) : Nat := ((l.findSome? fun e => e.filter fun x => x.1 = row).map (·.2)).getD 0

/-- The entries that `hit` names are free again. -/
def rowErrDrop (hit : Nat → Bool) (l : List (Option (Nat × Nat))) : List (Option (Nat × Nat)) := l.map fun e => e.filter fun x => !hit x.1

/-- Corrected words are counted and tracked; at CH.ROW_CE_LIMIT the umpire logs CE_ROW and firmware repairs the row, unless its
slice is out of service (R283). -/
def reportCorrected (key ce1 ce2 : Nat) (c : Ctl) : Ctl :=
  let ch := keyChan key
  if ce1 + ce2 = 0 then c
  else
    let c := bumpBy (cIdx ch 47) ce1 (bumpBy (cIdx ch 48) ce2 c)
    let before := rowErrOf (rowKey key) c.chans[ch].rowErrs
    let r := rowErrAdd (rowKey key) (ce1 + 4 * ce2) c.chans[ch].rowErrs
    let c := modChan ch (fun x => { x with rowErrs := r.1 }) c
    if before < c.chans[ch].rowCeLimit && c.chans[ch].rowCeLimit ≤ r.2 then
      let c := bump (cIdx ch 50) (raiseEvent 0x01 6 (ppnSlice (keyPpn key)) 0 c)
      if sliceIsOut c (ppnSlice (keyPpn key)) then c else requestSrr key c
    else c

/-- Stored poison met by a reader (R146), which CH.POISON_RETURNED counts once for each request (R151): `first` when the request
has met none before. -/
def reportPoison (first : Bool) (hpn : Option Nat) (key word source port : Nat) (c : Ctl) : Ctl :=
  raiseEvent 0x20 7 (keyPpn key) (dataDetail hpn key word source port) (if first then bump (cIdx (keyChan key) 34) c else c)

/-- Whether a granule has been found uncorrectable and not been written whole since. -/
def ueKnown (c : Ctl) (key : Nat) : Bool := c.chans[keyChan key].ueFound.contains key

/-- A granule found uncorrectable: the first detection is counted, and its row repaired (R145, R283). `stale` when a later write
to the granule has been accepted, so that what was found stands no longer. -/
def countUe (stale : Bool) (key : Nat) (c : Ctl) : Ctl :=
  if ueKnown c key then c
  else
    let c := if stale then c else modChan (keyChan key) (fun x => { x with ueFound := x.ueFound ++ [key] }) c
    let c := if sliceIsOut c (ppnSlice (keyPpn key)) then c else requestSrr key c
    bump (cIdx (keyChan key) 49) c

/-- UE_DATA is raised for a granule (R289). -/
def raiseUe (hpn : Option Nat) (key word source port : Nat) : Ctl → Ctl :=
  raiseEvent 0x40 6 (ppnSlice (keyPpn key)) (dataDetail hpn key word source port)

/-- The first detection of an uncorrectable granule is counted and reported (R145). -/
def reportUe (stale : Bool) (hpn : Option Nat) (key word source port : Nat) (c : Ctl) : Ctl :=
  if ueKnown c key then c else raiseUe hpn key word source port (countUe stale key c)

/-! ## Regulation inputs of the arbiter (R242 to R244) -/

def masterTarget (c : Ctl) (m : Fin 5) : Nat :=
  if h : m.val < 4 then c.ports[m.val].latTarget else c.power.moversLatTarget
def masterMin (c : Ctl) (m : Fin 5) : Nat := if h : m.val < 4 then c.ports[m.val].minBw else c.power.moversMinBw

/-- An operation of the atomic unit (R210). -/
def isAuOp : Op → Bool
  | .masked _ | .atomic _ _ _ _ _ => true
  | _ => false

/-- The cost of a granule in tokens (R244). -/
def tokenCost (o : Op) : Nat :=
  match o with
  | .atomic _ _ _ _ _ | .masked _ => 3
  | _ => 1

/-- The base priority of a master at a channel's region (R216). -/
def basePrio (c : Ctl) (ch : Fin 32) (m : Fin 5) : Nat := bitsOf c.regions[chanRegion ch].arbBase.toNat (2 * m.val) 2

/-! ### The token buckets (R244, R250, R251) -/

/-- Channel bandwidth left after refresh in 0.1 GB/s (Table 5 of R228). -/
def bandLeft (changeover hot : Bool) : Nat := if changeover then (if hot then 630 else 699) else (if hot then 705 else 737)

/-- A channel's floor as last recomputed. -/
def floorUsed (c : Ctl) (ch : Fin 32) : Nat :=
  let x := c.chans[ch]
  if x.flActive then bandLeft x.flMode x.flHot * x.flFactor - c.power.flReserve * 256 else 0

def floorUsedSum (c : Ctl) : Nat := (allChans.map (floorUsed c)).sum

/-- rate_c(m) of R251 as a fraction of 0.1 GB/s: numerator and denominator. -/
def rateOf (c : Ctl) (ch : Fin 32) (m : Fin 5) : Nat × Nat :=
  (c.power.regScale * masterMin c m * floorUsed c ch, 65536 * Nat.max 1 (floorUsedSum c))

/-- The bucket after `n` nanoseconds at a rate (R244): tokens in units of 1/65,536, of which 0.1 GB/s gives 204.8 each nanosecond,
at most those of 2 microseconds, and never fewer than eight. -/
def fillBucket (rate : Nat × Nat) (n b : Nat) : Nat :=
  Nat.min (Nat.max (8 * 65536) (rate.1 * 409600 / rate.2)) (b + rate.1 * 1024 * n / (5 * rate.2))

/-- A master's tokens at a channel now. -/
def bucketNow (c : Ctl) (ch : Fin 32) (m : Fin 5) : Nat :=
  let x := c.chans[ch].masters[m]
  fillBucket (rateOf c ch m) (c.now - x.bucketAt) x.bucket

/-- In profile (R243): the bucket holds the candidate's cost. -/
def inProfile (c : Ctl) (ch : Fin 32) (m : Fin 5) (o : Op) : Bool :=
  c.chans[ch].masters[m].fallback && tokenCost o * 65536 ≤ bucketNow c ch m

/-- The effective priority of a candidate (Table 3 of R216, with the boost of R242 and R243). -/
def effPrio (c : Ctl) (ch : Fin 32) (t : Trk) : Nat :=
  let m := masterOf t
  let x := c.chans[ch].masters[m]
  let base := basePrio c ch m
  let boost := if x.fallback then (if inProfile c ch m t.op then 7 - base else 0) else x.boost
  if t.marked then 8
  else if t.tc1 then Nat.min 7 (base + boost + 1)
  else base + boost

/-! ## Eligibility (R188, R193, R211) -/

/-- Whether an earlier transaction of the request's port and domain names the granule and has not ended (R193). -/
def txnBefore (c : Ctl) (t : Trk) (key : Nat) : Bool :=
  match t.src with
  | .mover _ _ => false
  | .port p => c.regions.toList.any fun r => r.coord.txns.any fun x =>
      x.port = p && x.domain = t.domain && x.trk < t.id && x.lsid.isNone && x.keys.any fun k => k.gran = key && k.state ≠ .released

/-- Whether a hold blocks a request (Table 4 of R188). -/
def holdBlocks (c : Ctl) (t : Trk) (key : Nat) : Bool :=
  txnBefore c t key ||
  match holdAt c.chans[keyChan key] key with
  | none => false
  | some h => if opReadType t.op then h.state = .prepared else true

/-- A request's granule that has been accepted and whose own read is on its way to a DRAM bank or back: no read that waits
behind the atomic unit's value, and none served from accepted data (R213, R220). -/
def granReading (t : Trk) (g : Gran) : Bool := g.phase = .accepted && opReadType t.op && !g.viaAu && !g.fwd

/-- A coordinator's old value is being read from DRAM. -/
def keyReading (k : Key) : Bool := k.access = .readAccepted false && k.old.isNone

/-- The keys of every transaction. -/
def allKeys (c : Ctl) : List Key := c.regions.toList.flatMap fun r => r.coord.txns.flatMap (·.keys)

/-- The physical granules with an accepted read on its way to DRAM or back: a request's, a coordinator's, a copier's or the soft row
repair's. -/
def readsOut (c : Ctl) : List Nat :=
  (c.trk.flatMap fun t => (t.grans.filter (granReading t)).map fun g => granKey g.ppn g.g) ++ ((allKeys c).filter keyReading).map (·.gran)
    ++ c.pm.copiers.toList.flatMap (fun k => (k.out.filter fun x => !x.2).map (·.1)) ++ c.chans.toList.flatMap (·.srrOut)

/-- The physical granules that have an accepted access in a bank's queue: reads on their way and buffered writes (R210). -/
def bankQueue (c : Ctl) (ch : Fin 32) (k : Nat) : List Nat :=
  (readsOut c ++ c.chans[ch].wbuf.map (·.1)).filter fun x => keyChan x = ch && bankKey x = k

/-- Accepted granules in a granule's bank queue. -/
def bankLoad (c : Ctl) (key : Nat) : Nat := (bankQueue c (keyChan key) (bankKey key)).length

/-- Accepted granules of a bank that are not finished: its queue, and the granules that the atomic unit holds (R225, R232). -/
def bankBusy (c : Ctl) (ch : Fin 32) (k : Nat) : Bool :=
  !(bankQueue c ch k).isEmpty || c.chans[ch].au.any fun e => bankKey e.gran = k

/-- A row of a bank is due at the must level (R231). -/
def mustDue (ch : Chan) (k : Nat) : Bool := (bankGet ch k).disturb.pending.any fun x => x.2.2

/-- The banks of a rank, in the order of the rotation of R225. -/
def rankBanks (rank : Nat) : List Nat := (List.range 32).map fun i => rank * 32 + i

/-- Whether refresh or targeted refresh blocks a bank (R211, R225, R227, R231): one runs, a visit of the rotation waits for the
accepted granules, a row is due at the must level, or a debt has reached 8 in the bank or, under CHANGEOVER refresh, in its
slice. -/
def bankBlocked (c : Ctl) (ch : Fin 32) (k : Nat) : Bool :=
  let x := c.chans[ch]
  let b := bankGet x k
  c.now < b.busyUntil || b.visitDue || 8 ≤ b.debt || mustDue x k
    || (x.refreshMode && (rankBanks (k / 32)).any fun i => 8 ≤ (bankGet x i).debt)

/-- Whether a request's granule is served from accepted data without a bank-queue place (R213). -/
def forwards (c : Ctl) (key : Nat) : Bool :=
  !keyFailed c key &&
  ((wbufFind c.chans[keyChan key] key).isSome || (auFind c.chans[keyChan key] key).isSome
    || (match holdAt c.chans[keyChan key] key with | some h => h.state = .committed | none => false))

/-- Whether a later write than an atomic-unit read of a granule has been accepted (R132, R220). -/
def laterWrite (c : Ctl) (key : Nat) : Bool :=
  (wbufFind c.chans[keyChan key] key).isSome
    || (match holdAt c.chans[keyChan key] key with | some h => h.state = .committed | none => false)

/-- A row under soft row repair (R234). -/
def rowInRepair (ch : Chan) (key : Nat) : Bool :=
  ch.srrStatus = 1 && ch.srrRank = keyRank key && ch.srrPc = keyPc key && ch.srrBank = keyBank key && ch.srrRow = keyRow key

/-- Whether a changeover window blocks a granule's slice: one that batches refresh blocks all of the channel's. -/
def windowBlocks (ch : Chan) : Bool := ch.windowBlocked.isSome && ch.refreshMode

/-- Whether a BIST runs on a slice: requests to its target wait in their input queues (R330). -/
def underBist (c : Ctl) (ch : Fin 32) (rank : Nat) : Bool :=
  (holders c).any fun a => a.kind = 8 && (if a.targetType = 4 then a.target = ch.val else a.target = sliceLayer (sliceOf ch rank))

/-- Whether a granule's bank cannot take it for a requester's sake: its slice drained, under test or in a changeover window, its row
under repair, or its bank blocked. -/
def sliceBlocked (c : Ctl) (key : Nat) : Bool :=
  let ch := c.chans[keyChan key]
  ch.sliceDrain.getLsbD (keyRank key) || underBist c (keyChan key) (keyRank key) || windowBlocks ch || rowInRepair ch key || bankBlocked c (keyChan key) (bankKey key)

/-- Room for an operation where it goes on acceptance (R210, R211, R213). -/
def hasRoom (c : Ctl) (o : Op) (key : Nat) : Bool :=
  let ch := c.chans[keyChan key]
  match o with
  | .read | .verify => forwards c key || bankLoad c key < 2
  | .write => ch.wbuf.length < 128 && bankLoad c key < 2
  | .masked _ | .atomic _ _ _ _ _ =>
    ((auFind ch key).isSome || ch.au.countP (fun e => keyPc e.gran = keyPc key) < 32) && bankLoad c key < 2
  | _ => true

/-- Whether an earlier request waits under R143 for a granule: an ATOMIC with RELEASE whose requests are not over, or a request of
its port and domain behind such a one. -/
def waitsRelease (c : Ctl) (x : Trk) (key : Nat) : Bool :=
  c.trk.any fun y => y.id ≤ x.id && masterOf y = masterOf x && y.domain = x.domain
    && (match y.op, y.release with | .atomic _ _ _ _ _, some ids => !waitsOver c ids | _, _ => false)
    && y.grans.any fun g => (g.phase = .queued || g.phase = .atMap) && granKey g.ppn g.g = key

/-- Whether a queued granule of a request may be accepted now (R211). A later request of the same requester to the granule waits
behind an earlier one, but for one that waits under R143 in another domain, which it passes. -/
def eligible (c : Ctl) (ch : Fin 32) (t : Trk) (g : Gran) : Bool :=
  let key := granKey g.ppn g.g
  g.phase = .queued && !g.staged && keyChan key = ch && !sliceBlocked c key && hasRoom c t.op key
    && (match t.op, t.release with | .atomic _ _ _ _ _, some ids => waitsOver c ids | _, _ => true)
    && !holdBlocks c t key
    && !(c.trk.any fun x => x.id < t.id && masterOf x = masterOf t && (x.grans.any fun y => (y.phase = .queued || y.phase = .atMap) && granKey y.ppn y.g = key)
      && !(x.domain ≠ t.domain && waitsRelease c x key))

/-- The first eligible granule of a request at a channel, on a pseudo-channel when one is asked for. -/
def firstEligible (c : Ctl) (ch : Fin 32) (t : Trk) (pc : Option Nat) : Option Nat :=
  t.grans.findIdx? fun g => eligible c ch t g && (pc.isNone || pc = some (g.g % 2))

/-- The smallest element of a list under a measure; the first among equals. -/
def leastBy {α : Type} (f : α → Nat) : List α → Option α
  | [] => none
  | a :: l =>
    match leastBy f l with
    | none => some a
    | some b => if f b < f a then some b else some a

/-- The moment since which a request has waited in a channel's input queue (R212). -/
def queuedSince (ch : Fin 32) (t : Trk) : Nat :=
  minOf 0 ((t.grans.filter fun g => g.phase = .queued && !g.staged && ppnChan g.ppn = ch).map (·.entered))

/-- A master's candidate (R212): the oldest eligible request, TC1 ahead of TC0. -/
def candidate (c : Ctl) (ch : Fin 32) (m : Fin 5) : Option Trk :=
  let mine := c.trk.filter fun t => masterOf t = m && (firstEligible c ch t none).isSome
  match leastBy (queuedSince ch) (mine.filter (·.tc1)) with
  | some t => some t
  | none => leastBy (queuedSince ch) mine

/-! ## Latency samples (R241, R310) -/

/-- Whether a granule's time in its channel overlapped a changeover window, a drain, or a deadline guard's refresh of its
bank. -/
def sampleSpoilt (c : Ctl) (ch : Fin 32) (g : Gran) : Bool :=
  let x := c.chans[ch]
  x.windowBlocked.isSome || x.windowRuns || x.sliceDrain ≠ 0 || g.entered < x.windowEnd || g.entered < x.drainEnd
    || g.entered < (bankGet x (bankKey (granKey g.ppn g.g))).guardEnd

/-- One latency sample of a master at a channel, unless it is spoilt. -/
def latSample (ch : Fin 32) (t : Trk) (g : Gran) (c : Ctl) : Ctl :=
  if sampleSpoilt c ch g then c
  else modChan ch (fun x => { x with masters := x.masters.set (masterOf t) (
    let m := x.masters[masterOf t]
    { m with lat := ((m.lat : Int) + ((65536 * (c.now - g.entered) : Nat) - (m.lat : Int)) / 16).toNat }) }) c

/-! ## Atomic unit (R136 to R142, R220) -/

/-- The effect of one operation on a decoded value: new value, status, and the old operand it returns. -/
def auApply (o : Op) (addr : Nat) (old data : GData) : GData × Nat × GData :=
  match o with
  | .masked mask => (granMerge mask old data, 0, 0)
  | .atomic aop w8 _ x cmp =>
    let n := if w8 then 64 else 32
    let lo := 8 * (addr % 32)
    let v := bitsOf old.toNat lo n
    if aop = 10 && v ≠ cmp.toNat then (old, 9, BitVec.ofNat 256 v)
    else (granReplace old lo n (atomicValue aop n v x.toNat cmp.toNat), 0, BitVec.ofNat 256 v)
  | _ => (old, 0, 0)

/-- Counters of one operation performed (R151). -/
def auCount (ch : Fin 32) (t : Trk) (status : Nat) (chained : Bool) (c : Ctl) : Ctl :=
  match t.op with
  | .masked _ => if status = 0 then bump (cIdx ch 30) c else c
  | .atomic _ _ _ _ _ =>
    let c := modTherm (fun t => { t with atomicActs := t.atomicActs + 1 }) c
    let c := bump (cIdx ch 28) (if chained then bump (cIdx ch 29) c else c)
    match t.src, status with
    | .port p, 9 => bump (pIdx p 28) c
    | _, _ => c
  | _ => c

/-- The host page of a request's granule when its writes may need shadowing. -/
def granHpn (t : Trk) (g : Gran) : Option Nat := if g.mirrored then some (t.addr / 65536) else none

/-- Whether a read served from accepted data is judged with its mirror's secondary: by a VERIFY, or by compare-on-read, which takes
in the read-type requests (R120, R166). -/
def comparesFwd (c : Ctl) (t : Trk) (g : Gran) : Bool := (t.op = .verify || (c.power.compareOnRead && !t.writeType)) && g.mirrored

/-- A read takes the value of accepted data (R133): it ends, or waits for the comparison with its secondary. -/
def serveRead (key : Nat) (t : Trk) (idx : Nat) (g : Gran) (v : GData) (c : Ctl) : Ctl :=
  let ch := keyChan key
  let c := bump (cIdx ch 31) c
  if comparesFwd c t g then modGran t.id idx (fun g => { g with phase := .accepted, epoch := none, viaAu := false, fwd := true, fwdValue := granEncode v }) c
  else endGran t.id idx 0 v (latSample ch t g c)

/-- A held value takes one operation: the request's granule ends, and the value of the live entry is the new one; it is
shadow-written when its page is mirrored (R118, R142). A value that a full write has replaced is not: that write's own shadow
write came first and stands for both. A read that waited takes the value that the operations before it have left (R133, R148). -/
def auStep (key : Nat) (chained replaced : Bool) (op : AuOp) (v : GData) (c : Ctl) : GData × Ctl :=
  match c.trk.find? fun t => t.id = op.id with
  | none => (v, c)
  | some t =>
    match t.grans[op.idx]? with
    | none => (v, c)
    | some g =>
      if opReadType t.op then (v, serveRead key t op.idx g v c) else
      let r := auApply t.op t.addr v g.data
      let c := auCount (keyChan key) t r.2.1 chained c
      let c := match granHpn t g with
        | some h => if r.2.1 = 0 && !replaced then pushShadow (shadowBy c t) h (keyGran key) (granEncode r.1) c else c
        | none => c
      (r.1, endGran op.id op.idx r.2.1 r.2.2 (latSample (keyChan key) t g c))

/-- Waiting operations are applied in acceptance order; all after the first are chained (R138). -/
def auRun (key : Nat) (chained replaced : Bool) : List AuOp → GData → Ctl → GData × Ctl
  | [], v, c => (v, c)
  | o :: t, v, c =>
    let r := auStep key chained replaced o v c
    auRun key true replaced t r.1 r.2

/-- The entry's decoded value is ready: operations and the reads among them run in the order of their acceptance, and the value is
held for write-back unless a full write has replaced it (R220). -/
def auValue (key : Nat) (v : GData) (c : Ctl) : Ctl :=
  let ch := keyChan key
  match c.chans[ch].au.find? fun e => e.gran = key && e.value.isNone with
  | none => c
  | some e =>
    let r := auRun key false e.replaced e.waiting v c
    modChan ch (fun x => { x with au := (mapIf (fun y => y.gran = key && y.value.isNone) (fun y => { y with value := some r.1, waiting := [] }) x.au).filter fun y => !(y.gran = key && y.replaced) }) r.2

/-- A request that meets stored poison, counted and reported (R146). -/
def notePoison (key word : Nat) (t : Trk) (c : Ctl) : Ctl :=
  modTrk t.id (fun x => { x with metPoison := true })
    (reportPoison (!t.metPoison) (some (t.addr / 65536)) key word (if srcIsEngine t then 1 else 0) (if srcIsEngine t then 0 else (masterOf t).val) c)

/-- The entry's granule is poisoned or uncorrectable: its operations end POISONED and write nothing, and reads that waited
behind it end POISONED too (R137, R142). The first operation's decode has reported what it met; the others each meet stored
poison when that is what it was (R146). -/
def auPoisoned (key word : Nat) (stored : Bool) (c : Ctl) : Ctl :=
  let ch := keyChan key
  match c.chans[ch].au.find? fun e => e.gran = key && e.value.isNone with
  | none => c
  | some e =>
    let first := e.waiting.head?.map (·.id)
    let c := forEach e.waiting (fun o c =>
      match c.trk.find? fun t => t.id = o.id with
      | some t =>
        let c := if stored && first ≠ some o.id then notePoison key word t c else c
        let c := match t.grans[o.idx]? with | some g => latSample ch t g c | none => c
        endGran o.id o.idx 1 0 (auCount ch t 1 false c)
      | none => c) c
    modChan ch (fun x => { x with au := x.au.filter fun y => !(y.gran = key && y.value.isNone) }) c

/-- An ATOMIC or WRITE_MASKED_32 is accepted by the atomic unit (R136, R138, R220). -/
def acceptAu (key : Nat) (t : Trk) (idx : Nat) (c : Ctl) : Ctl :=
  let ch := keyChan key
  let op : AuOp := { id := t.id, idx := idx }
  let emptyMask : Bool := match t.op with | .masked m => m = 0 | _ => false
  if emptyMask then endGran t.id idx 0 0 (match t.grans[idx]? with | some g => latSample ch t g c | none => c)
  else match auFind c.chans[ch] key with
    | some e =>
      match e.value with
      | some v =>
        let r := auStep key true false op v c
        modChan ch (fun x => { x with au := mapIf (fun y => y.gran = key && !y.replaced) (fun y => { y with value := some r.1 }) x.au }) r.2
      | none => modChan ch (fun x => { x with au := mapIf (fun y => y.gran = key && !y.replaced) (fun y => { y with waiting := y.waiting ++ [op] }) x.au }) c
    | none =>
      match wbufFind c.chans[ch] key with
      | some w =>
        -- the write buffer holds the granule: its value is taken without a DRAM read (R133). The buffered write makes its own burst,
        -- and the unit's write follows it under an activate of its own (R214)
        let c := openRowFor key c
        let d := granDecode w
        if d.poisoned || d.uncorrectable then
          let c := match t.grans[idx]? with | some g => latSample ch t g c | none => c
          endGran t.id idx 1 0 (auCount ch t 1 false (notePoison key d.word t c))
        else
          let r := auStep key false false op d.data c
          modChan ch (fun x => { x with au := x.au ++ [{ gran := key, value := some r.1, waiting := [] }] }) r.2
      | none => openRowFor key (modChan ch (fun x => { x with au := x.au ++ [{ gran := key, value := none, waiting := [op] }] }) c)

/-! ## Acceptance (R210, R213) -/

/-- The tokens of an accepted granule (R244, R247). -/
def chargeTokens (ch : Fin 32) (t : Trk) (c : Ctl) : Ctl :=
  let cost := tokenCost t.op
  let left := bucketNow c ch (masterOf t) - (if inProfile c ch (masterOf t) t.op then cost * 65536 else 0)
  modChan ch (fun x => { x with masters := x.masters.set (masterOf t) (
    let m := x.masters[masterOf t]
    { m with bucket := left, bucketAt := c.now, accepted := m.accepted + cost }) }) c

/-- One granule of a request is accepted: a read joins its bank's queue or is served from accepted data, a full write
joins the write buffer, an ATOMIC or WRITE_MASKED_32 the atomic unit (R210). A read that a mirror's secondary is compared with takes
its value here, and ends with the comparison (R120, R148, R166). -/
def acceptGran (id idx : Nat) (c : Ctl) : Ctl :=
  match c.trk.find? fun t => t.id = id with
  | none => c
  | some t =>
    match t.grans[idx]? with
    | none => c
    | some g =>
      let key := granKey g.ppn g.g
      let ch := keyChan key
      let c := chargeTokens ch t c
      match t.op with
      | .write =>
        let v := if g.kind = 3 then granPoison else granEncode g.data
        let c := if g.kind = 3 then bump (cIdx ch 33) c else c
        let c := match granHpn t g with | some h => pushShadow (shadowBy c t) h (keyGran key) v c | none => c
        endGran id idx 0 0 (latSample ch t g (acceptWrite key v none c))
      | .masked _ | .atomic _ _ _ _ _ =>
        acceptAu key t idx (modGran id idx (fun g => { g with phase := .accepted, epoch := none }) c)
      | _ =>
        let take : Bool → Ctl → Ctl := fun au => modGran id idx (fun g => { g with phase := .accepted, epoch := none, viaAu := au })
        let held : Option GData := (holdAt c.chans[ch] key).bind fun h => if h.state = HoldState.committed then h.stage else none
        -- what is compared with the secondary is judged when the data returns (R120, R166)
        if !forwards c key then openRowFor key (take false c)
        else match held, auFind c.chans[ch] key, wbufFind c.chans[ch] key with
        | some d, _, _ => serveRead key t idx g d c
        | none, some { value := some d, .. }, _ => serveRead key t idx g d c
        | none, some { value := none, .. }, _ =>
          modChan ch (fun x => { x with au := mapIf (fun y => y.gran = key && !y.replaced) (fun y => { y with waiting := y.waiting ++ [{ id := id, idx := idx }] }) x.au })
            (take true c)
        | none, none, some w =>
          let d := granDecode w
          if !d.poisoned then serveRead key t idx g d.data c
          else endGran id idx 1 0 (notePoison key d.word t (latSample ch t g (bump (cIdx ch 31) c)))
        | none, none, none => openRowFor key (take false c)

/-- The winner's granules of one burst slot: at most one for each pseudo-channel (R210). -/
def acceptSlot (ch : Fin 32) (t : Trk) (c : Ctl) : Ctl :=
  match firstEligible c ch t none with
  | none => c
  | some i =>
    let pc := match t.grans[i]? with | some g => g.g % 2 | none => 0
    let c := acceptGran t.id i c
    match c.trk.find? fun x => x.id = t.id with
    | none => c
    | some t' =>
      match firstEligible c ch t' (some (1 - pc)) with
      | some j => acceptGran t.id j c
      | none => c

/-! ## The write buffer and DRAM (R210, R213, R236) -/

/-- Whether an accepted read of a granule, a request's or the atomic unit's, has not yet returned from DRAM: a later write to
the granule stays behind it. -/
def readOutstanding (c : Ctl) (key : Nat) : Bool :=
  (c.chans[keyChan key].au.any fun e => e.gran = key && e.value.isNone) || (readsOut c).contains key

/-- The writes that leave the write buffer for DRAM, oldest first: at most `n`, none past a granule still being read. -/
def drainSplit (c : Ctl) : Nat → List (Nat × BitVec 320) → List (Nat × BitVec 320) × List (Nat × BitVec 320)
  | 0, l => ([], l)
  | _ + 1, [] => ([], [])
  | n + 1, w :: t => if readOutstanding c w.1 then ([], w :: t) else ((w :: (drainSplit c n t).1), (drainSplit c n t).2)

/-- Of some writes to DRAM, those that replace a poisoned granule with clean data (CH.POISON_CLEARED of R151). -/
def poisonCleared (m : List Host.Cell) : List (Nat × BitVec 320) → Nat
  | [] => 0
  | w :: t =>
    b2n ((granDecode (dramRead m w.1)).poisoned && !(granDecode w.2).poisoned) + poisonCleared (dramWrite m w.1 w.2) t

/-- Whether a channel controller serves requests: enabled, its stack neither asleep nor halted (R287, R348, R444). -/
def chanServes (c : Ctl) (ch : Fin 32) : Bool :=
  c.chans[ch].enable && !c.power.ranksAsleep && !c.power.selfRefresh

/-- The coordinators have nothing left to write for a granule that an identifier holds. -/
def dropKey (gran id : Nat) (c : Ctl) : Ctl :=
  let key : Key → Key := fun k => if k.gran = gran then { k with state := .idle } else k
  let txn : Txn → Txn := fun t => if t.lsid.getD t.id = id then { t with keys := t.keys.map key } else t
  { c with regions := c.regions.map fun g => { g with coord := { g.coord with txns := g.coord.txns.map txn } } }

/-- A pending value of a channel is lost (R292): its granule is stored as poison, and no other. A value without its address puts the
channel out of service at the next warm reset. -/
def loseValue (ch : Fin 32) (l : SoftLoss) (c : Ctl) : Ctl :=
  let x := c.chans[ch]
  match l with
  | .writeBuffer i => modChan ch (fun x => { x with wbuf := listModify (fun w => (w.1, granPoison)) x.wbuf i }) (if i < x.wbuf.length then bump (cIdx ch 33) c else c)
  | .atomicUnit i =>
    match x.au[i]? with
    | some e => if e.replaced || e.value.isNone then c else storePoison e.gran none (modChan ch (fun x => { x with au := x.au.eraseIdx i }) c)
    | none => c
  | .hold i =>
    match x.holds[i]? with
    | some h =>
      if h.state = .committed then storePoison h.gran none (dropKey h.gran h.id (modChan ch (fun x => { x with holds := x.holds.eraseIdx i }) c))
      else c
    | none => c
  | .noValue => c
  | .noAddress => modChan ch (fun x => { x with outAtReset := true }) c

/-- The values that the atomic units of some channels hold for DRAM. -/
def auHeld (c : Ctl) (l : List (Fin 32)) : List (Nat × BitVec 320) :=
  l.flatMap fun ch => c.chans[ch].au.filterMap fun e =>
    match e.value with
    | some v => if e.replaced || keyFailed c e.gran then none else some (e.gran, granEncode v)
    | none => none

/-- Before the ranks of a channel with CHANNEL_LOGIC sleep, its pending values are completed in DRAM (R292). -/
def completeChan (ch : Fin 32) (m : List Host.Cell) (c : Ctl) : List Host.Cell × Ctl :=
  let w := c.chans[ch].wbuf ++ auHeld c [ch]
  (dramWrites m w, modChan ch (fun x => { x with wbuf := [], au := x.au.filter fun e => e.value.isNone }) (bumpBy (cIdx ch 35) (poisonCleared m w) c))

/-! ## Decoded read data (R119, R120, R132, R145, R282) -/

/-- A write-back of a read (R132): dropped when a write to the granule was accepted after the read. -/
def writeBack (key : Nat) (v : BitVec 320) (hpn : Option Nat) (c : Ctl) : Ctl :=
  if forwards c key then bump (cIdx (keyChan key) 32) c else acceptWrite key v hpn c

/-- What a reader of a primary granule gets once mirrors are applied: status, data, KIND of R166, and whether it must wait
for shadow writes, or for room in the write buffer, first. -/
structure ReadEnd where
  status : Nat
  data : GData
  kind : Nat
  wait : Bool := false

/-- Who reads a granule: the host page, when it has one, whether that is mirrored, SOURCE and PORT of the reports (Table 7 of
chapter 11), and how it reads. -/
structure Reader where
  hpn : Option Nat
  mirrored : Bool
  source : Nat
  port : Nat
  /-- A VERIFY: single-bit corrections are written back too, and it compares for itself (R166). -/
  all : Bool := false
  /-- A read-type request, which compare-on-read takes in (R120). -/
  cmp : Bool := true
  /-- The read of an atomic-unit entry: the unit's own write takes the place of a write-back (R220). -/
  own : Bool := false
  /-- The request has met no stored poison before (R151). -/
  first : Bool := true

/-- A reader whose store finds the write buffer full waits (R210). -/
def readWaits : ReadEnd := { status := 0, data := 0, kind := 0, wait := true }

/-- A granule found uncorrectable that no mirror copy replaces is stored as poison, unless a later write has been accepted
(R132, R145). -/
def readPoisons (key : Nat) (x : Reader) (stale : Bool) (word : Nat) (c : Ctl) : ReadEnd × Ctl :=
  if !stale && !wbufRoom c key then (readWaits, c)
  else
    ({ status := 1, data := 0, kind := 2 }, reportUe stale x.hpn key word x.source x.port (
      if stale then bump (cIdx (keyChan key) 32) c else storePoison key (if x.mirrored then x.hpn else none) c))

/-- A read of the other copy of a granule: accepted data serves it, or it pays an activate (R213, R214, R229). -/
def readOther (key : Nat) (c : Ctl) : Ctl := if forwards c key then bump (cIdx (keyChan key) 31) c else openRowFor key c

/-- Whether the secondary cannot be read now: shadow writes to it are pending (R119), or its slice is drained (R310). -/
def secondaryWaits (c : Ctl) (mir : Mirror) (key : Nat) : Bool :=
  !mir.pending.isEmpty || c.chans[keyChan key].sliceDrain.getLsbD (keyRank key)

/-- The mirror's copy of an uncorrectable primary granule (R119). MIRROR_FALLBACK_COUNT counts every granule that the secondary
serves (R128 says reads; DESIGN CHOICE, log 79). -/
def readSecondary (m : List Host.Cell) (key : Nat) (x : Reader) (mir : Mirror) (stale : Bool) (word : Nat) (c : Ctl) : ReadEnd × Ctl :=
  let sk := granKey mir.secPpn (keyGran key)
  let sec := granView m c sk
  let ue : Ctl → Ctl := fun c => reportUe stale x.hpn key word x.source x.port (readOther sk c)
  if secondaryWaits c mir sk then (readWaits, c)
  else if sec.poisoned then readPoisons key x stale word (readOther sk c)
  else if sec.uncorrectable then ({ status := 1, data := 0, kind := 2 }, ue c)
  else if !x.own && !stale && !wbufRoom c key then (readWaits, c)
  else
    ({ status := 0, data := sec.data, kind := 5 }, bump (gIdx 2) (if x.own then ue c else writeBack key (granEncode sec.data) none (ue c)))

/-- The comparison of a decoded primary granule with its synced secondary (R120, R166). MIRROR_COMPARE_SKIPPED counts every granule
of a read that was not compared (R128 says reads; DESIGN CHOICE, log 79). -/
def readCompare (m : List Host.Cell) (key : Nat) (x : Reader) (mir : Mirror) (d : GData) (k : Nat) (c : Ctl) : ReadEnd × Ctl :=
  if !mir.pending.isEmpty then
    (if x.all then (readWaits, c) else ({ status := 0, data := d, kind := k }, bump (gIdx 1) c))
  else
    let sk := granKey mir.secPpn (keyGran key)
    let sec := granView m c sk
    if secondaryWaits c mir sk then (readWaits, c)
    else if !sec.poisoned && !sec.uncorrectable && sec.data ≠ d then
      ({ status := 0, data := d, kind := if k = 1 then 6 else 4 },
        raiseEvent 0x21 7 (keyPpn key) (dataDetail x.hpn key 0 x.source x.port) (bump (gIdx 0) (readOther sk c)))
    else ({ status := 0, data := d, kind := k }, readOther sk c)

/-- The decoded granule `d` of a read: corrections are counted and written back, poison and uncorrectable granules take
R119, R145 and R146. -/
def readEnd (m : List Host.Cell) (key : Nat) (x : Reader) (d : GranRead) (c : Ctl) : ReadEnd × Ctl :=
  let c := reportCorrected key d.ce1 d.ce2 c
  let mir := ((if x.mirrored then x.hpn.bind (mirrorOf c) else none).map (·.2)).filter (·.synced)
  let stale := if x.own then laterWrite c key else forwards c key
  if d.poisoned then ({ status := 1, data := 0, kind := 3 }, reportPoison x.first x.hpn key d.word x.source x.port c)
  else if d.uncorrectable then
    match mir with
    | some y => readSecondary m key x y stale d.word c
    | none => readPoisons key x stale d.word c
  else
    let back := !x.own && (d.ce2 ≠ 0 || (x.all && d.ce1 ≠ 0))
    if back && !stale && !wbufRoom c key then (readWaits, c)
    else
      let c := if back then writeBack key (granEncode d.data) none c else c
      let k := if d.ce1 + d.ce2 ≠ 0 then 1 else 0
      match if x.cmp && (x.all || c.power.compareOnRead) then mir else none with
      | some y => readCompare m key x y d.data k c
      | none => ({ status := 0, data := d.data, kind := k }, c)

/-- The decoder's outcome for a granule read from DRAM with some bits in error; a failed slice gives none (R236). -/
def dramDecode (m : List Host.Cell) (c : Ctl) (key : Nat) (noise : BitVec 320) : GranRead :=
  if keyFailed c key then { data := 0, poisoned := false, uncorrectable := true, ce1 := 0, ce2 := 0, word := 0 }
  else granDecode (dramRead m key ^^^ noise)

/-- Read data returns for granule `idx` of request `id`: a read's own, or the value an atomic-unit entry waits for. -/
def readData (ch : Fin 32) (id idx : Nat) (noise : BitVec 320) (m : List Host.Cell) (c : Ctl) : Ctl :=
  match c.trk.find? fun t => t.id = id with
  | none => c
  | some t =>
    match t.grans[idx]? with
    | none => c
    | some g =>
      let key := granKey g.ppn g.g
      if g.phase ≠ .accepted || g.viaAu || keyChan key ≠ ch then c
      else
        let x : Reader :=
          { hpn := some (t.addr / 65536), mirrored := g.mirrored, source := if t.op = .verify then 4 else if srcIsEngine t then 1 else 0
            port := if srcIsEngine t then 0 else (masterOf t).val, all := t.op = .verify, cmp := opReadType t.op && !t.writeType, own := !opReadType t.op
            first := !t.metPoison }
        -- a granule accepted over accepted data is judged by that, and not by what DRAM holds beneath it
        let d := if g.fwd then granDecode g.fwdValue else dramDecode m c key noise
        let r := readEnd m key x d c
        let c' := if r.1.kind = 3 then modTrk id (fun t => { t with metPoison := true }) r.2 else r.2
        if r.1.wait then c
        else match t.op with
          | .masked _ | .atomic _ _ _ _ _ =>
            if c.chans[ch].au.any fun e => e.gran = key && e.value.isNone then
              (if r.1.status = 1 then auPoisoned key d.word (r.1.kind = 3) c' else auValue key r.1.data c')
            else c
          | _ => endGran id idx r.1.status r.1.data (latSample ch t g (modGran id idx (fun g => { g with kind := r.1.kind }) c'))

def execReadDataDecode (c : Fin 32) (id idx : Nat) (noise : BitVec 320) (s : State) : Host.Outcome State Fault Refusal :=
  onCtlMem (readData c id idx noise) s

/-- Whether a further operation of the atomic unit on a granule waits in an input queue (R220). -/
def auWaiting (c : Ctl) (key : Nat) : Bool :=
  c.trk.any fun t => isAuOp t.op && t.grans.any fun g => g.phase = .queued && !g.staged && granKey g.ppn g.g = key

/-- The atomic unit writes a held value back (R220), behind a write of the granule accepted before it: it leaves for DRAM, its row is precharged, and its entry is free, unless a
further operation waits: then the unit holds the value just written again, without a read, under a row activated anew (the new
activate is DEDUCED, log 69). -/
def auWriteBack (ch : Fin 32) (gran : Nat) (m : List Host.Cell) (c : Ctl) : List Host.Cell × Ctl :=
  match auFind c.chans[ch] gran with
  | some { value := some v, .. } =>
    if keyChan gran ≠ ch || readOutstanding c gran || (wbufFind c.chans[ch] gran).isSome then (m, c)
    else
      let again := auWaiting c gran
      let c' := modChan ch (fun x => { bankPut (bankKey gran) { bankGet x (bankKey gran) with openRow := none } x with
        au := if again then x.au else x.au.filter fun e => !(e.gran = gran && !e.replaced) }) c
      (dramWrite m gran (granEncode v), if again then openRowFor gran c' else c')
  | _ => (m, c)

def execAtomicWriteback (c : Fin 32) (gran : Nat) (s : State) : Host.Outcome State Fault Refusal :=
  onBoth (auWriteBack c gran) s

/-- The adaptive policy's timeout closes an open row (R215); `slot` is the bank's key. -/
def closeRow (ch : Fin 32) (slot : Nat) (c : Ctl) : Ctl :=
  modChan ch (fun x => bankPut slot { bankGet x slot with openRow := none } x) c

def execOpenPageTimeout (c : Fin 32) (slot : Nat) (s : State) : Host.Outcome State Fault Refusal := onCtl (closeRow c slot) s

end Sys2Proof.Machine
end

