-- ==== Sys2Proof/Machine/Copy.lean ====
section
/-! DEFINITION. The copiers: migration, mirror copies, substitution and clearing (R102, R110 to R127), the drain of a
page-map update (R107) and shadow writes (R118). -/

namespace Sys2Proof.Machine

open Sys2Proof

/-- Zero data with correct check bits (R102). -/
def zeroGran : BitVec 320 := granEncode 0

/-- Whether a hold covers a chunk of a physical page (R113). -/
def chunkHeld (c : Ctl) (ppn chunk : Nat) : Bool :=
  c.chans[ppnChan ppn].holds.any fun h => h.state ≠ .orderMarker && keyPpn h.gran = ppn && keyGran h.gran / 64 = chunk

/-- Whether a hold covers any granule of a physical page (R107). -/
def pageHeld (c : Ctl) (ppn : Nat) : Bool := c.chans[ppnChan ppn].holds.any fun h => h.state ≠ .orderMarker && keyPpn h.gran = ppn

/-- slot.inflight[k] (R113): requests translated to a chunk of a host page that have not reached their channel. -/
def chunkInflight (c : Ctl) (hpn chunk : Nat) : Bool :=
  (c.trk.any fun t => t.addr / 65536 = hpn && t.grans.any fun g => g.phase = .queued && g.g / 64 = chunk) ||
  (c.regions.toList.any fun r => r.coord.txns.any fun t => t.keys.any fun k =>
    !k.atMap && (k.state = .idle || k.state = .requested) && k.hpn = hpn && keyGran k.gran / 64 = chunk)

/-- Reads of a chunk that have not yet returned: a copier's write stays behind them. -/
def chunkReading (c : Ctl) (ppn chunk : Nat) : Bool :=
  c.trk.any fun t => t.grans.any fun g => g.phase = .accepted && g.ppn = ppn && g.g / 64 = chunk

/-- An operation that the atomic unit has accepted for a chunk and not yet performed: a copy of the chunk stays behind it. -/
def chunkComputing (c : Ctl) (ppn chunk : Nat) : Bool :=
  c.chans[ppnChan ppn].au.any fun e => e.value.isNone && !e.replaced && keyPpn e.gran = ppn && keyGran e.gran / 64 = chunk

/-- The mirror that holds another copy of the page a job copies, when it is synced (R114, R125). -/
def otherCopy (c : Ctl) (j : CopyJob) : Option Mirror :=
  match j.kind with
  | .migrate _ | .substitution | .single | .substMirror =>
    match mirrorOf c j.hpn with
    | some (_, x) => if x.synced then some x else none
    | none => none
  | _ => none

/-- The other copy of granule g: the secondary, or, for a secondary that is copied, the primary. -/
def otherPage (c : Ctl) (j : CopyJob) (x : Mirror) (g : Nat) : Nat :=
  match j.kind with
  | .substMirror => primaryAt c j.hpn g
  | _ => x.secPpn

/-- copy_granule (R114): the destination's stored value, with the reports of what the decoder found. A copy reports every
uncorrectable granule that it finds. -/
def copyValue (m : List Host.Cell) (j : CopyJob) (g : Nat) (c : Ctl) : BitVec 320 × Ctl :=
  let key := granKey j.src g
  let hpn := match j.kind with | .substMirror => none | _ => some j.hpn
  let d := granView m c key
  let c := reportCorrected key d.ce1 d.ce2 c
  if d.poisoned then (granPoison, reportPoison true hpn key d.word 3 0 c)
  else if d.uncorrectable then
    let alt := (otherCopy c j).map fun x => granKey (otherPage c j x g) g
    let c := raiseUe hpn key d.word 3 0 (countUe false key c)
    match alt with
    | some k =>
      let s := granView m c k
      (if s.poisoned || s.uncorrectable then granPoison else granEncode s.data, readOther k c)
    | none => (granPoison, c)
  else (granEncode d.data, c)

/-- The count of a granule stored as poison (R145). -/
def countPoison (key : Nat) (v : BitVec 320) (c : Ctl) : Ctl := if v = granPoison then bump (cIdx (keyChan key) 33) c else c

/-- A page whose slice is out of service or being vacated. -/
def pageDoomed (c : Ctl) (ppn : Nat) : Bool := sliceIsOut c (ppnSlice ppn) || sliceVacated c (ppnSlice ppn)

/-- A page of a vacated slice is RETIRED and counted. -/
def retire (ppn : Nat) (c : Ctl) : Ctl :=
  let c := if c.pm.substSlice = some (ppnSlice ppn) && useGet c ppn ≠ .retired then modPm (fun pm => { pm with substDone := pm.substDone + 1 }) c else c
  usePut ppn .retired c

/-- The reply or operation of a finished job (R106, R117, R395). -/
def jobDone (j : CopyJob) (c : Ctl) : Ctl :=
  let c := if j.op = 0 then c else endOperation j.op 0 c
  match j.reply with
  | some r => replyParked r 0 [] c
  | none => c

/-- The mirror of a host page changed. -/
def modMirror (h : Nat) (f : Mirror → Mirror) : Ctl → Ctl := modMirrors (mapIf (fun x => x.2.hpn = h) fun x => (x.1, f x.2))

/-- The end of copy_page (R113): the entry or mirror is updated and the source handled by its kind. -/
def copyComplete (j : CopyJob) (c : Ctl) : Ctl :=
  let e := pmGet c j.hpn
  match j.kind with
  | .migrate _ =>
    let c := usePut j.dst .mapped (pmPut j.hpn { e with ppn := j.dst, state := .normal } c)
    jobDone j (if pageDoomed c j.src then retire j.src c else startClearing j.src false c)
  | .substitution | .single =>
    jobDone j (retire j.src (usePut j.dst .mapped (pmPut j.hpn { e with ppn := j.dst, state := .normal } c)))
  | .mirrorCopy =>
    jobDone j (usePut j.dst .mirror (modMirror j.hpn (fun x => { x with synced := true }) c))
  | .substMirror =>
    jobDone j (retire j.src (usePut j.dst .mirror (modMirror j.hpn (fun x => { x with secPpn := j.dst }) c)))
  | .clearing _ => c

def modCopier (k : Fin 4) (f : Copier → Copier) : Ctl → Ctl := modPm fun pm => { pm with copiers := pm.copiers.set k (f pm.copiers[k]) }

/-- The physical page on which a job's requests and holds stand: the primary's, also when its secondary is copied. -/
def heldPage (c : Ctl) (j : CopyJob) (g : Nat) : Nat :=
  match j.kind with
  | .substMirror => primaryAt c j.hpn g
  | _ => j.src

/-- The copier sets its next chunk busy when no hold covers it, otherwise it tries again in 1 microsecond (R113). It stands at a
chunk boundary and takes GLOBAL.COPIER_BW (R111). -/
def setBusy (k : Fin 4) (c : Ctl) : Ctl :=
  let x := c.pm.copiers[k]
  match x.job with
  | none => c
  | some j =>
    let held := match j.kind with | .clearing _ => false | _ => chunkHeld c (heldPage c j (64 * x.cursor)) x.cursor
    modCopier k (fun x => { x with
      busy := if held then none else some x.cursor, retry := held, since := c.now, reads := 0, writes := 0, bw := c.power.copierBw, out := [], buf := [] }) c

/-- Requests that waited at the map for a chunk of a host page go to the primary copy, each in its order (R112, R113): to the
destination once the cursor has passed the chunk. -/
def releaseChunk (hpn chunk : Nat) (c : Ctl) : Ctl :=
  let dst := primaryAt c hpn (64 * chunk)
  let c := mapRequests c
  let key : Key → Key := fun k => if k.atMap && k.hpn = hpn && keyGran k.gran / 64 = chunk then { k with gran := granKey dst (keyGran k.gran), atMap := false } else k
  let txn : Txn → Txn := fun t => { t with keys := t.keys.map key }
  let region : Region → Region := fun r => { r with coord := { r.coord with txns := r.coord.txns.map txn } }
  { c with regions := c.regions.map region }

/-! ## Substitution (R125 to R127) -/

/-- The host page whose entry names a physical page. -/
def hpnOf (c : Ctl) (ppn : Nat) : Nat :=
  ((c.pm.entries.find? fun e => e.2.ppn = ppn && e.2.state ≠ .unmapped).map (·.1)).getD
    ((ppn % 16384) * 128 + (ppn / 16384 / 32) * 32 + ppn / 16384 % 32)

/-- Whether a copier or a queued job works on a physical page. -/
def pageInWork (c : Ctl) (ppn : Nat) : Bool :=
  (c.pm.copiers.toList.any fun k => match k.job with | some j => j.src = ppn || j.dst = ppn | none => false)
    || (c.pm.jobs.any fun j => (j.src = ppn || j.dst = ppn) && (match j.kind with | .clearing _ => false | _ => true))
    || c.pm.drains.toList.any fun l => l.any fun d => d.secondaries.contains ppn || d.oldPages.any fun x => x.1 = ppn

/-- An update is in its drain phase in a quarter: the next update of the quarter waits for the end of it, and not for an earlier
update's hold wait (R107, R108). -/
def draining (c : Ctl) (q : Fin 4) : Bool := (c.pm.drains[q]).any fun d => !d.drained

/-- The new values stand and the quarter's epoch turns (R107): the drain begins. -/
def beginDrain (q : Fin 4) (hpns : List Nat) (old : List (Nat × Use)) (secs : List Nat) (reply : Option CmdRef) (payload : List Byte)
    (c : Ctl) : Ctl :=
  let e := c.pm.epoch[q]
  let d : Drain := { epoch := e, oldPages := old, secondaries := secs, hpns := hpns, reply := reply, payload := payload, since := c.now }
  modPm (fun pm => { pm with epoch := pm.epoch.set q (!e), drains := pm.drains.set q (pm.drains[q] ++ [d]) }) c

/-- A host page's mirror entry is removed; the shadow writes of requests translated before complete (R117). -/
def mirrorLeave (h : Nat) (c : Ctl) : Ctl :=
  match mirrorOf c h with
  | some (_, x) => modPm (fun pm => { pm with leaving := pm.leaving ++ [x] }) (mirrorDrop h c)
  | none => c

/-- A page of the vacated slice without a bench page to go to (R127): its entry is LOST, or moves onto its synced
secondary, epoch-fenced (R107); a mirror's secondary is dropped. The state with the count of LOST pages and of dropped
mirrors. -/
def loseePage (ppn : Nat) (c : Ctl) : Ctl × Nat × Nat :=
  match useGet c ppn with
  | .mapped =>
    let h := hpnOf c ppn
    let e := pmGet c h
    match if e.mirrored then mirrorOf c h else none with
    | some (_, x) =>
      if x.synced then
        let c := usePut x.secPpn .mapped (mirrorDrop h (pmPut h { e with ppn := x.secPpn, mirrored := false, state := .normal } c))
        (beginDrain (quarterOf h) [h] [(ppn, .retired)] [] none [] c, 0, 1)
      else
        let c := retire ppn (mirrorLeave h (pmPut h { e with mirrored := false, state := .lost } c))
        (beginDrain (quarterOf h) [h] [] [x.secPpn] none [] c, 1, 0)
    | none => (retire ppn (if e.state = .lost then c else pmPut h { e with state := .lost } c), if e.state = .lost then 0 else 1, 0)
  | .mirror =>
    let h := ((c.pm.mirrors.find? fun x => x.2.secPpn = ppn).map (·.2.hpn)).getD 0
    (retire ppn (mirrorDrop h (pmPut h { pmGet c h with mirrored := false } c)), 0, 1)
  | _ => (retire ppn c, 0, 0)

/-- Whether nothing is on the way to a physical page or held in its channel, so that its synced mirror holds all of it. -/
def pageQuiet (c : Ctl) (ppn : Nat) : Bool :=
  !pageHeld c ppn
    && !(c.trk.any fun t => t.grans.any fun g => g.ppn = ppn && g.phase ≠ .done)
    && !(c.regions.toList.any fun r => r.coord.txns.any fun t => t.keys.any fun k => keyPpn k.gran = ppn && k.state ≠ .released)
    && !(c.chans[ppnChan ppn].au.any fun e => keyPpn e.gran = ppn)

/-- Whether a mirrored page without a bench page to go to still waits: for an update that drains in its quarter (R107), and, when
it is to move onto its synced secondary, for its shadow writes. It waits for the writes on their way to it as well, so that no
later write overtakes them at the secondary: DESIGN CHOICE (log 48). -/
def awaitsQuiet (c : Ctl) (ppn : Nat) : Bool :=
  useGet c ppn = .mapped && (pmGet c (hpnOf c ppn)).mirrored &&
    (match mirrorOf c (hpnOf c ppn) with
     | some (_, x) => draining c (quarterOf (hpnOf c ppn)) || (x.synced && (!x.pending.isEmpty || !pageQuiet c ppn))
     | none => false)

/-- A mirror copy of a page that only waits for a copier, and so has not started, is given up with the page (R127): its command
ends RESOURCE_EXHAUSTED, as a MIRROR_SET without a bench page does (DESIGN CHOICE, log 49). -/
def dropWaiting (ppn : Nat) (c : Ctl) : Ctl :=
  let mine : CopyJob → Bool := fun j => j.src = ppn && j.kind = .mirrorCopy
  let stop : CopyJob → Ctl → Ctl := fun j c =>
    let c := if j.op = 0 then c else endOperation j.op 9 c
    match j.reply with
    | some r => replyParked r 9 [] c
    | none => c
  forEach (c.pm.jobs.filter mine) stop (modPm (fun pm => { pm with jobs := pm.jobs.filter fun j => !mine j }) c)

/-- Every page of the slice from `p` on that no copier has started is handled without copy (R127). A page that waits for a
host's migration has its destination already, and is not one that needs the bench (Table 6). -/
def loseAll (s p : Nat) : Nat → Ctl → Ctl × Nat × Nat
  | 0, c => (c, 0, 0)
  | n + 1, c =>
    let ppn := s * 16384 + p
    if useGet c ppn = .retired || awaitsQuiet c ppn || pageInWork (dropWaiting ppn c) ppn then loseAll s (p + 1) n c
    else
      let r := loseePage ppn (dropWaiting ppn c)
      let q := loseAll s (p + 1) n r.1
      (q.1, r.2.1 + q.2.1, r.2.2 + q.2.2)

/-- The clearing of a page stops, whether it waits or a copier has it (Table 6 of R125). -/
def stopClearing (ppn : Nat) : Ctl → Ctl :=
  let hit : Copier → Bool := fun k => match k.job with | some j => j.dst = ppn | none => false
  let drop : CopyJob → Bool := fun j => !(j.dst = ppn && (match j.kind with | .clearing _ => true | _ => false))
  let free : Copier := { job := none }
  modPm fun pm => { pm with jobs := pm.jobs.filter drop, copiers := pm.copiers.map fun k => if hit k then free else k }

/-- The first page of the slice, from `p`, that must be copied: pages free of data are RETIRED on the way (Table 6 of
R125), and one taken from the bench may leave it low (R124). -/
def substScan (s p : Nat) : Nat → Ctl → Option Nat × Ctl
  | 0, c => (none, c)
  | n + 1, c =>
    let ppn := s * 16384 + p
    if useGet c ppn = .clearing then substScan s (p + 1) n (retire ppn (stopClearing ppn c))
    else if pageInWork c ppn then substScan s (p + 1) n c
    else match useGet c ppn with
      | .retired | .target | .clearing => substScan s (p + 1) n c
      | .bench =>
        let free := benchFree c
        substScan s (p + 1) n (benchCheck free (retire ppn c))
      | .unused => substScan s (p + 1) n (retire ppn c)
      | .mapped => if (pmGet c (hpnOf c ppn)).state = .lost then substScan s (p + 1) n (retire ppn c) else (some ppn, c)
      | .mirror => (some ppn, c)

/-- Whether every page of a slice is RETIRED: none is in work and a scan finds none to copy. -/
def sliceRetired (c : Ctl) (s : Nat) : Bool := c.pm.substDone = 16384 || (firstFrom (fun p => useGet c (s * 16384 + p) ≠ .retired) 0 16384).isNone

/-- The substitution ends when its slice is RETIRED whole, and the next slice's begins (R125, R126). -/
def substAdvance (c : Ctl) : Ctl :=
  match c.pm.substSlice with
  | none => c
  | some s =>
    if sliceRetired c s then
      let done : Ctl → Ctl := fun c => match c.mgr.running.find? fun a => a.kind = 1 && a.target = s with
        | some a => endActivity a.id 2 0 c
        | none => c
      done <| modPm (fun pm => match pm.substQueue with
        | [] => { pm with substSlice := none, substNext := 0, substDone := 0 }
        | n :: t => { pm with substSlice := some n, substQueue := t, substNext := 0, substDone := 0 }) c
    else c

/-- The next page copy of the substitution in progress, or the losses of an empty bench (R125, R127). -/
def substJob (c : Ctl) : Option CopyJob × Ctl :=
  match c.pm.substSlice with
  | none => (none, c)
  | some s =>
    if !substGranted c s then (none, c) else
    let r := substScan s 0 16384 c
    match r.1 with
    | none => (none, substAdvance r.2)
    | some ppn =>
      let c := r.2
      match nextBench c none with
      | none =>
        let q := loseAll s 0 16384 c
        let n := q.2.1 + 2 ^ 22 * q.2.2
        (none, substAdvance (if n = 0 then q.1 else raiseEvent 0x22 6 s n q.1))
      | some d =>
        match moveSpare (ppnSlice d) c with
        | none => (none, c)
        | some c =>
        let free := benchFree c
        let c := usePut d .target c
        if useGet c ppn = .mirror then
          let h := ((c.pm.mirrors.find? fun x => x.2.secPpn = ppn).map (·.2.hpn)).getD 0
          (some { kind := .substMirror, hpn := h, src := ppn, dst := d }, benchCheck free c)
        else
          let h := hpnOf c ppn
          (some { kind := .substitution, hpn := h, src := ppn, dst := d }, benchCheck free (pmPut h { pmGet c h with state := .migrating } c))

/-- The first job of the list that satisfies `p`, and the list without it. -/
def takeJob (p : CopyJob → Bool) (l : List CopyJob) : Option (CopyJob × List CopyJob) :=
  match l.findIdx? p with
  | some i => (l[i]?).map fun j => (j, l.eraseIdx i)
  | none => none

def isClearing (j : CopyJob) : Bool := match j.kind with | .clearing _ => true | _ => false

/-- The clearings that initialisation leaves (R418): the lowest CLEARING page that no job names. -/
def initialClearing (c : Ctl) : Option CopyJob :=
  match c.pm.layout with
  | .default | .image true => none
  | _ =>
    (firstFrom (fun p => useGet c p = .clearing && !(c.pm.jobs.any fun j => j.dst = p) && !(c.pm.copiers.toList.any fun k => match k.job with | some j => j.dst = p | none => false)) 0 2228224).map
      fun p => { kind := .clearing false, hpn := 0, src := p, dst := p }

/-- The next work of a free copier, in the order of R126. Where an unnamed clearing came first, a migration second and a clearing
that a later command names third, the orders that R126 gives form a circle: the named clearing is taken first, then the others
in their order (DESIGN CHOICE, log 47). -/
def nextWork (c : Ctl) : Option CopyJob × Ctl :=
  let pick := fun (r : CopyJob × List CopyJob) => (some r.1, modPm (fun pm => { pm with jobs := r.2 }) c)
  match takeJob (fun j => j.kind = .single || j.kind = .substMirror) c.pm.jobs with
  | some r => pick r
  | none =>
    let s := substJob c
    match s.1 with
    | some j => (some j, s.2)
    | none =>
      let c := s.2
      let pick := fun (r : CopyJob × List CopyJob) => (some r.1, modPm (fun pm => { pm with jobs := r.2 }) c)
      match c.pm.jobs.head? with
      | some j =>
        if !isClearing j && (initialClearing c).isNone then (match takeJob (fun _ => true) c.pm.jobs with | some r => pick r | none => (none, c))
        else match takeJob (fun j => isClearing j && j.named) c.pm.jobs with
          | some r => pick r
          | none =>
            match initialClearing c with
            | some j => (some j, c)
            | none => (match takeJob (fun _ => true) c.pm.jobs with | some r => pick r | none => (none, c))
      | none => (initialClearing c, c)

/-- Whether copiers run: data-ready, or warm-reset step 9 onward; class 3 does not stop them (R285). -/
def copiersRun (c : Ctl) : Bool := c.power.stage = .ready && !c.power.ranksAsleep && !c.power.selfRefresh

/-- A free copier takes the next work and sets its first chunk busy (R113, R126). -/
def copierStart (k : Fin 4) (c : Ctl) : Ctl :=
  let c := if c.pm.substSlice.isSome then leaveSelfRefresh c else c
  if !copiersRun c || c.pm.copiers[k].job.isSome then c
  else
    let r := nextWork c
    match r.1 with
    | none => r.2
    | some j =>
      let c := match j.kind with
        | .single => pmPut j.hpn { pmGet r.2 j.hpn with state := .migrating } r.2
        | _ => r.2
      setBusy k (modCopier k (fun _ => { job := some j }) c)

/-- Whether a busy chunk may be read (R113, R114): its earlier requests have reached their channel, operations accepted there are
performed, and the pending shadow writes of a synced mirror are done. -/
def chunkReady (c : Ctl) (j : CopyJob) (n : Nat) : Bool :=
  match j.kind with
  | .clearing _ => !chunkReading c j.dst n
  | _ =>
    let shadowWait := match otherCopy c j with | some y => !y.pending.isEmpty | none => false
    !chunkInflight c j.hpn n && !chunkComputing c j.src n && !chunkReading c j.dst n && !shadowWait

/-- Whether a hold has been granted on a busy chunk since it became busy, by a request translated before: its chunk is not copied
until released (R202). -/
def chunkBlocked (c : Ctl) (j : CopyJob) (n : Nat) : Bool :=
  match j.kind with
  | .clearing _ => false
  | _ => chunkHeld c (heldPage c j (64 * n)) n

/-- Source reads of a chunk that a copier makes: none for a clearing. -/
def chunkReads (j : CopyJob) : Nat := if isClearing j then 0 else 64

/-- A copier finishes its busy chunk (R113): the destination's channel has accepted every write of it (R111). When a hold has come over
the chunk, the copier gives it free and tries again. -/
def chunkCopy (k : Fin 4) (c : Ctl) : Ctl :=
  let x := c.pm.copiers[k]
  match x.job, x.busy with
  | some j, some n =>
    if !copiersRun c || !chunkReady c j n then c
    else if chunkBlocked c j n then releaseChunk j.hpn n (setBusy k c)
    else if x.writes < 64 then c
    else
      let c := modCopier k (fun x => { x with cursor := n + 1, busy := none, reads := 0, writes := 0, out := [], buf := [] }) c
      let c := if isClearing j then c else releaseChunk j.hpn n c
      if n + 1 < 32 then setBusy k c
      else if isClearing j then c
      else substAdvance (copyComplete j (modCopier k (fun _ => {}) c))
  | _, _ => c

def execChunkCopy (k : Fin 4) (s : State) : Host.Outcome State Fault Refusal := onCtl (chunkCopy k) s

/-- A copier's accepted reads of a channel return (R114): copy_granule gives each the value that its write will store. -/
def copyReturn (ch : Fin 32) (m : List Host.Cell) (k : Fin 4) (c : Ctl) : Ctl :=
  let x := c.pm.copiers[k]
  match x.job with
  | none => c
  | some j =>
    let put : Nat × Bool → Ctl → Ctl := fun o c =>
      let r := copyValue m j (keyGran o.1) c
      modCopier k (fun x => { x with buf := x.buf ++ [r.1] }) r.2
    let mine : Nat × Bool → Bool := fun o => keyChan o.1 = ch
    forEach (x.out.filter mine) put (modCopier k (fun x => { x with out := x.out.filter fun o => !mine o }) c)

def execChunkHoldRetry (k : Fin 4) (s : State) : Host.Outcome State Fault Refusal :=
  onCtl (fun c => if c.pm.copiers[k].retry then setBusy k c else c) s

/-- Copies and clearings that a warm reset interrupted go on: at the chunk of their cursor (R115, R424). -/
def resumeCopiers (c : Ctl) : Ctl := forEach (List.finRange 4) setBusy c

/-! ## Shadow writes (R118) -/

/-- The page that takes a secondary's place, where a copier has passed the granule's chunk (R125). -/
def shadowExtra (c : Ctl) (hpn g : Nat) : Option Nat :=
  (c.pm.copiers.toList.findSome? fun k => match k.job with
    | some j => if j.hpn = hpn && j.kind = .substMirror && g / 64 < k.cursor then some j.dst else none
    | none => none)

/-- The oldest pending shadow write of a mirrored page is accepted at its secondary, and at the page that replaces it; a mirror
that is being removed has its own (R117). -/
def shadowPut (hpn : Nat) (c : Ctl) : Ctl :=
  let popOf : Mirror → Mirror := fun y => { y with pending := y.pending.tail }
  let put : Mirror → Ctl → Ctl := fun x c =>
    match x.pending with
    | (g, v, _) :: _ =>
      let extra := shadowExtra c hpn g
      let c := acceptWrite (granKey x.secPpn g) v none c
      match extra with
      | some d => acceptWrite (granKey d g) v none c
      | none => c
    | [] => c
  match (mirrorOf c hpn).filter (fun x => !x.2.pending.isEmpty), c.pm.leaving.find? (fun x => x.hpn = hpn && !x.pending.isEmpty) with
  | some (_, x), _ => put x (modMirror hpn popOf c)
  | none, some x => put x (modPm (fun pm => { pm with leaving := mapIf (fun y => y.hpn = hpn && y.secPpn = x.secPpn) popOf pm.leaving }) c)
  | none, none => c

/-- The secondaries that the next shadow write of a page goes to. -/
def shadowKeys (c : Ctl) (hpn : Nat) : List Nat :=
  let keys : Mirror → List Nat := fun x =>
    match x.pending with
    | (g, _, _) :: _ => granKey x.secPpn g :: (shadowExtra c hpn g).toList.map fun d => granKey d g
    | [] => []
  ((mirrorOf c hpn).toList.flatMap fun x => keys x.2) ++ (c.pm.leaving.filter fun x => x.hpn = hpn).flatMap keys

/-- Whether a channel can accept some shadow writes: their banks take them (R211, R310), and its write buffer and bank queues have room
for all of them. -/
def shadowRoom (c : Ctl) (l : List Nat) : Bool :=
  l.all fun k => !sliceBlocked c k
    && c.chans[keyChan k].wbuf.length + (l.countP fun x => keyChan x = keyChan k) ≤ 128
    && bankLoad c k + (l.countP fun x => keyChan x = keyChan k && bankKey x = bankKey k) ≤ 2

/-- A shadow write leaves when the write buffers and the banks it goes to have room (R118, R210, R211). Table 2 of R209 names no requester
for it, nor for a decoder's write-back: it joins the write buffer without a requester's queue, turn or burst slot (DESIGN CHOICE,
log 81). -/
def shadowWrite (hpn : Nat) (c : Ctl) : Ctl := if shadowRoom c (shadowKeys c hpn) then shadowPut hpn c else c

def execShadowWrite (hpn : Nat) (s : State) : Host.Outcome State Fault Refusal := onCtl (shadowWrite hpn) s

/-! ## The drain of an update (R107) -/

/-- q.inflight[e] (R107) is not zero: a request or transaction translated in the quarter under the epoch. -/
def epochBusy (c : Ctl) (q : Fin 4) (e : Bool) : Bool :=
  (c.trk.any fun t => quarterOf (t.addr / 65536) = q && t.grans.any fun g => g.epoch = some e && (g.phase = .queued || g.phase = .atMap)) ||
  (c.regions.toList.any fun r => r.coord.txns.any fun t => t.epoch[q] = e && t.phase ≠ .committing && t.phase ≠ .ending && t.keys.any fun k => quarterOf k.hpn = q)

/-- What becomes of an old page after its drain: cleared, moved to the bench, or RETIRED (R107, R123). -/
def settleOld (x : Nat × Use) (c : Ctl) : Ctl :=
  match x.2 with
  | .clearing => if useGet c x.1 = .retired then c else if pageDoomed c x.1 then retire x.1 c else startClearing x.1 false c
  | .bench => if pageDoomed c x.1 then retire x.1 c else usePut x.1 .bench c
  | .retired => retire x.1 c
  | u => usePut x.1 u c

/-- A cleared mirror's secondary is zeroed and returns to the bench (R117), or is RETIRED with its slice. -/
def settleSecondary (p : Nat) (c : Ctl) : Ctl :=
  if useGet c p = .retired then c else if pageDoomed c p then retire p c else startClearing p true c

/-- The drain phase of a quarter's update ends when no request of its epoch is counted any more (R107), and
REGION.UPDATE_DRAIN_NS shows the longest (R128). -/
def drainPhaseEnd (q : Fin 4) (c : Ctl) : Ctl :=
  match (c.pm.drains[q]).find? fun d => !d.drained && !epochBusy c q d.epoch with
  | none => c
  | some d =>
    bumpMax (rIdx q 2) (c.now - d.since)
      (modPm (fun pm => { pm with drains := pm.drains.set q (mapIf (fun x => x = d) (fun x => { x with drained := true }) pm.drains[q]) }) c)

/-- An update is done once it has drained, no hold covers an old page of it (R107), and the shadow writes of the mirrors that it
removed have completed (R117). -/
def drainReady (c : Ctl) (d : Drain) : Bool :=
  d.drained && !(d.oldPages.any fun x => pageHeld c x.1) && !(c.pm.leaving.any fun x => d.secondaries.contains x.secPpn && !x.pending.isEmpty)

/-- The old pages of an update are settled and its command replies (R107). -/
def drainSettle (q : Fin 4) (d : Drain) (c : Ctl) : Ctl :=
  let mine : Mirror → Bool := fun x => d.secondaries.contains x.secPpn
  let c := modPm (fun pm => { pm with drains := pm.drains.set q (pm.drains[q].erase d), leaving := pm.leaving.filter fun x => !mine x }) c
  let c := forEach d.oldPages settleOld c
  let c := forEach d.secondaries settleSecondary c
  let joined := d.oldPages.countP fun x => x.2 = .bench && !pageDoomed c x.1
  let pay := if d.payload.isEmpty then [] else toBytes 4 (ofBytes d.payload + joined)
  match d.reply with
  | none => c
  | some r =>
    -- a command that works in several quarters replies when the last of them has drained (R123)
    match allRegions.find? fun i => c.pm.drains[i].any fun x => x.reply = some r with
    | some i =>
      let add : Drain → Drain := fun x => { x with payload := if x.payload.isEmpty then [] else toBytes 4 (ofBytes x.payload + ofBytes pay) }
      let upd : List Drain → List Drain := mapIf (fun x => x.reply = some r) add
      modPm (fun pm => { pm with drains := pm.drains.set i (upd pm.drains[i]) }) c
    | none => replyParked r 0 pay c

/-- The first update of a quarter that is done settles. -/
def drainNext (q : Fin 4) (c : Ctl) : Ctl :=
  match (c.pm.drains[q]).find? (drainReady c) with
  | some d => drainSettle q d c
  | none => c

/-- The drain phase of a quarter's update ends when it can, and every update of the quarter that is done settles (R107). -/
def drainEnd (q : Fin 4) (c : Ctl) : Ctl :=
  let c := drainPhaseEnd q c
  forEach (List.range (c.pm.drains[q]).length) (fun _ => drainNext q) c

end Sys2Proof.Machine
end

