-- ==== Sys2Proof/Machine/Txn.lean ====
section
/-! DEFINITION. Transactions and locked sequences: actions, the coordinator, holds at the channels, the commit log and
sequence contexts (R183 to R205, R468). -/

namespace Sys2Proof.Machine

open Sys2Proof

/-! ## Actions (R183, R184) -/

/-- Whether an action needs the old value of its granule (Table 1 of R183). -/
def actionReads (a : Action) : Bool := !(a.act = 3 && a.gran)
def actionWrites (a : Action) : Bool := 3 ≤ a.act
def actionIsCompare (a : Action) : Bool := a.act = 1 || a.act = 2
/-- Whether an action is read-type at the page map (R103). -/
def actionReadType (a : Action) : Bool := a.act ≤ 2
def actionHpn (a : Action) : Nat := a.addr / 65536
def actionGran (a : Action) : Nat := a.addr % 65536 / 32

/-- The word an action names within a granule's value. -/
def actionWord (a : Action) (d : GData) : Nat := bitsOf d.toNat (8 * (a.addr % 32)) 64

/-- Whether a compare is true on an old value. -/
def compareTrue (a : Action) (v : GData) : Bool :=
  let eq : Bool := if a.gran then v = a.value else actionWord a v = a.operand.toNat
  if a.act = 1 then eq else !eq

/-- A write action applied to the value that the actions before it leave (Table 1 of R183). -/
def applyAction (a : Action) (v : GData) : GData :=
  if a.gran then (if a.act = 3 then a.value else v)
  else
    let w := actionWord a v
    let x := a.operand.toNat
    let r := match a.act with
      | 3 => x
      | 4 => (w + x) % 2 ^ 64
      | 5 => Nat.land w x
      | _ => Nat.lor w x
    granReplace v (8 * (a.addr % 32)) 64 r

/-- The final value of one granule: its write actions in order (R184). -/
def finalValue (l : List Action) (hpn g : Nat) (old : GData) : GData :=
  (l.filter fun a => actionWrites a && actionHpn a = hpn && actionGran a = g).foldl (fun v a => applyAction a v) old

/-- The data slots of a read action (R84). -/
def readSlots (a : Action) (v : GData) : List Slot :=
  if a.gran then granSlots v else [BitVec.ofNat 128 (actionWord a v)]

/-! ## Transactions in the coordinators -/

/-- The identifier under which a transaction's or stage's holds stand. -/
def holdIdOf (t : Txn) : Nat := t.lsid.getD t.id

def findTxn (c : Ctl) (id : Nat) : Option (Fin 4 × Txn) :=
  allRegions.findSome? fun r => (c.regions[r].coord.txns.find? fun t => t.id = id).map fun t => (r, t)

def modTxn (r : Fin 4) (id : Nat) (f : Txn → Txn) : Ctl → Ctl :=
  modRegion r fun g => { g with coord := { g.coord with txns := mapIf (fun t => t.id = id) f g.coord.txns } }

def dropTxn (r : Fin 4) (id : Nat) : Ctl → Ctl :=
  modRegion r fun g => { g with coord := { g.coord with txns := g.coord.txns.filter fun t => t.id ≠ id } }

def modSeq (r : Fin 4) (id : Nat) (f : LSeq → LSeq) : Ctl → Ctl :=
  modRegion r fun g => { g with coord := { g.coord with seqs := mapIf (fun q => q.id = id) f g.coord.seqs } }

/-- One key of a transaction changed. -/
def modKey (gran : Nat) (f : Key → Key) (t : Txn) : Txn := { t with keys := mapIf (fun k => k.gran = gran) f t.keys }

def keyOf (t : Txn) (gran : Nat) : Option Key := t.keys.find? fun k => k.gran = gran

/-- The key that holds an action's granule. -/
def keyOfAction (t : Txn) (a : Action) : Option Key := t.keys.find? fun k => k.hpn = actionHpn a && keyGran k.gran = actionGran a

/-- The decoded old value of an action's granule, zero when it has none. -/
def oldOf (t : Txn) (a : Action) : GData := (((keyOfAction t a).bind (·.old)).getD none).getD 0

/-- Keys in ascending (channel, address) order (R190). -/
def keyBefore (a b : Key) : Bool :=
  (keyChan a.gran).val < (keyChan b.gran).val || (keyChan a.gran = keyChan b.gran && a.gran ≤ b.gran)

/-- A key inserted in order. -/
def insertKey (k : Key) : List Key → List Key
  | [] => [k]
  | x :: t => if keyBefore k x then k :: x :: t else x :: insertKey k t

/-- The keys of translated actions: one for each granule (R190). -/
def addKey (l : List Key) (a : Action) (ppn : Nat) (busy : Bool) : List Key :=
  let gran := granKey ppn (actionGran a)
  match l.find? fun k => k.gran = gran with
  | some _ => mapIf (fun k => k.gran = gran) (fun k => { k with reads := k.reads || actionReads a, writes := k.writes || actionWrites a }) l
  | none => insertKey { gran := gran, reads := actionReads a, writes := actionWrites a, state := .idle, old := none, new := none, hpn := actionHpn a, atMap := busy } l

/-- Keys in order again: a chunk that a copier has moved since may have given some another channel (R113). -/
def sortKeys (l : List Key) : List Key := l.foldr insertKey []

/-- The keys of a packet's actions, or the status of the first failing one (R103, R104). -/
def translateActions (c : Ctl) (domain : Nat) : List Action → List Key → Except Nat (List Key)
  | [], l => .ok l
  | a :: t, l =>
    match xlate c (actionHpn a) (actionGran a) domain (actionReadType a) 1 with
    | .fail st => .error st
    | .at ppn busy _ => translateActions c domain t (addKey l a ppn busy)

/-- Old and final values: what PASS, data slots and new values an attempt gives (R184, R185). -/
def passMask (t : Txn) (all : Bool) : Nat :=
  packBits 1 (t.actions.map fun a => b2n (if actionIsCompare a then compareTrue a (oldOf t a) else all))

def comparesTrue (t : Txn) : Bool := t.actions.all fun a => !actionIsCompare a || compareTrue a (oldOf t a)
def anyPoisoned (t : Txn) : Bool := t.keys.any fun k => k.reads && k.old = some none
def readData' (t : Txn) : List Slot := t.actions.flatMap fun a => if a.act = 0 then readSlots a (oldOf t a) else []

/-- INFO of a TXN_RESULT (R83). -/
def txnInfo (pass retries : Nat) : BitVec 32 := BitVec.ofNat 32 (pass % 256 + 256 * retries)

/-! ## Holds at a channel (R186, R188) -/

def dropHoldAt (gran id : Nat) : Ctl → Ctl :=
  modChan (keyChan gran) fun ch => { ch with holds := ch.holds.filter fun h => !(h.gran = gran && h.id = id) }

/-- A hold becomes an order marker (R190). -/
def markHoldAt (gran id : Nat) : Ctl → Ctl :=
  modChan (keyChan gran) fun ch => { ch with holds := mapIf (fun h => h.gran = gran && h.id = id) (fun h => { h with state := .orderMarker, stage := none }) ch.holds }

def modHoldAt (gran id : Nat) (f : Hold → Hold) : Ctl → Ctl :=
  modChan (keyChan gran) fun ch => { ch with holds := mapIf (fun h => h.gran = gran && h.id = id && h.state ≠ .orderMarker) f ch.holds }

def dropWait (gran id : Nat) : Ctl → Ctl :=
  modChan (keyChan gran) fun ch => { ch with holdWaits := ch.holdWaits.filter fun w => !(w.gran = gran && w.id = id) }

/-- Every order marker and waiting request of a transaction leaves the channels. -/
def dropMarkers (id : Nat) (c : Ctl) : Ctl :=
  { c with chans := c.chans.map fun ch => { ch with holds := ch.holds.filter (fun h => !(h.id = id && h.state = .orderMarker)), holdWaits := ch.holdWaits.filter fun w => w.id ≠ id } }

/-- Whether a release is still to be delivered for a key: it is, or may be, held. -/
def heldKey (k : Key) : Bool :=
  match k.state with
  | .grantSent | .granted | .prepareSent | .prepared | .answered => true
  | _ => false

/-- The keys of an attempt that lets go: releases travel (R468), requests not yet granted are withdrawn. -/
def letGo (t : Txn) : Txn :=
  { t with keys := t.keys.map fun k => { k with
    state := .released, rel := k.rel || heldKey k, old := none, new := none, access := .idle, tracked := false } }

/-- A transaction is over once its releases have been delivered. -/
def reapTxn (r : Fin 4) (id : Nat) (c : Ctl) : Ctl :=
  match c.regions[r].coord.txns.find? fun t => t.id = id with
  | some t => if t.phase = .ending && t.keys.all (fun k => !k.rel) then dropTxn r id (dropMarkers id c) else c
  | none => c

/-- A transaction ends without committing: its holds are released and its TXN_RESULT leaves (R185). -/
def endTxn (r : Fin 4) (t : Txn) (status pass : Nat) (data : List Slot) (c : Ctl) : Ctl :=
  let c := modTxn r t.id (fun t => { letGo t with phase := .ending }) (dropMarkers t.id c)
  reapTxn r t.id (endTrkWith t.trk status (txnInfo pass t.retries) data c)

/-- The first key, in order, that an ordered attempt has not yet asked for is asked for (R190). -/
def askNext (now : Nat) : List Key → List Key
  | [] => []
  | k :: t =>
    if k.state = .idle then { k with state := .requested, since := now } :: t
    else if k.state = .granted then k :: askNext now t
    else k :: t

/-! ## Tracker entries of a coordinator's accesses (R92) -/

/-- The staged value that a stage's own hold keeps of a granule (R196). -/
def ownStage (c : Ctl) (t : Txn) (gran : Nat) : Option GData :=
  if t.lsid.isSome then (c.chans[keyChan gran].holds.find? fun h => h.gran = gran && h.id = holdIdOf t).bind (·.stage) else none

/-- The read of an old value joins the TXN input queue of its channel (R209), when the key has one to make. -/
def queueRead (c : Ctl) (t : Txn) (k : Key) : Key :=
  if k.reads && k.old.isNone && (ownStage c t k.gran).isNone then { k with access := .readQueued c.now } else k

/-- An access takes its tracker entry and is issued (R92): the read of a granule whose hold its sequence has goes to the channel at
once. -/
def issueKey (c : Ctl) (t : Txn) (k : Key) : Key :=
  if k.state = .granted then { queueRead c t k with tracked := true } else { k with tracked := true }

/-- The access of a coordinator that has waited longest for its tracker entry. -/
def issueNext (c : Ctl) (r : Fin 4) : Option (Txn × Key) :=
  leastBy (fun x => x.2.since) (c.regions[r].coord.txns.flatMap fun t => (t.keys.filter fun k => keyInFlight k && !k.tracked).map fun k => (t, k))

/-- A coordinator's accesses are issued in order while the engines can allocate: one that cannot waits, and every later one
behind it (R92). -/
def issueAccesses (r : Fin 4) : Nat → Ctl → Ctl
  | 0, c => c
  | n + 1, c =>
    match issueNext c r with
    | none => c
    | some (t, k) =>
      if mayIssueSince c k.since then issueAccesses r n (modTxn r t.id (modKey k.gran (issueKey c t)) (notePool .engine c)) else c

/-- The accesses of a coordinator that ask for a tracker entry. -/
def issueCoord (r : Fin 4) (c : Ctl) : Ctl :=
  issueAccesses r ((c.regions[r].coord.txns.map fun t => t.keys.length).sum) c

/-- retry of txn_run (R190): `limit` when the cause is the hold-wait limit, `wound` when it is a wound. -/
def retryTxn (r : Fin 4) (t : Txn) (limit wound : Bool) (c : Ctl) : Ctl :=
  let c := if wound then bump (rIdx r 11) c else c
  if limit then endTxn r t 4 0 [] (bump (rIdx r 13) c)
  else if t.retries = 16 then endTxn r t 5 0 [] (bump (rIdx r 12) c)
  else
    let next : Txn → Txn := fun t =>
      let l := letGo t
      { l with ordered := true, retries := t.retries + 1, wounded := false, phase := .acquiring
               keys := askNext c.now (sortKeys (l.keys.map fun k => { k with state := .idle })) }
    let quiet : Chan → Chan := fun ch => { ch with holdWaits := ch.holdWaits.filter fun w => w.id ≠ t.id }
    let c : Ctl := { c with chans := c.chans.map quiet }
    issueCoord r (modTxn r t.id next (bump (rIdx r 10) c))

/-! ## The commit point (R191, R198) -/

/-- The granules a transaction writes with their new values. -/
def txnWrites (t : Txn) : List (Nat × GData) := t.keys.filterMap fun k => if k.writes then some (k.gran, k.new.getD 0) else none

/-- A sequence whose commit completes leaves its context (R198). -/
def freeSeq (r : Fin 4) (id : Nat) : Ctl → Ctl :=
  modRegion r fun g => { g with coord := { g.coord with seqs := g.coord.seqs.filter fun q => q.id ≠ id } }

/-- The commit point: the record is written when the transaction writes, holds only read are released, COMMIT is sent to the
others, and the TXN_RESULT leaves (R190, R191, R198). -/
def commitNow (r : Fin 4) (t : Txn) (c : Ctl) : Ctl :=
  let w := txnWrites t
  let c := if w.isEmpty then c else modRegion r (fun g => { g with coord := { g.coord with log := g.coord.log ++ [{ id := t.id, writes := w }] } }) c
  let c := modTxn r t.id (fun t => { t with
    phase := if w.isEmpty then .ending else .committing
    keys := t.keys.map fun k => if k.writes then { k with state := .committing } else { k with state := .released, rel := heldKey k } }) c
  let settle : Nat → Chan → Chan := fun q ch => { ch with holds := ch.holds.filter fun h => !(h.id = q && h.isSeq && h.stage.isNone) }
  let c : Ctl := match t.lsid with | some q => { c with chans := c.chans.map (settle q) } | none => c
  let c := match t.lsid with
    | none => endTrkWith t.trk 0 (txnInfo (passMask t true) t.retries) (readData' t) (bump (rIdx r 8) c)
    | some _ => endTrkWith t.trk 0 0 [] (bump (rIdx r 15) c)
  if w.isEmpty then
    reapTxn r t.id (match t.lsid with | some q => freeSeq r q c | none => c)
  else c

/-- The commit step waits for a place in the log of 128 records (R191). -/
def tryCommit (r : Fin 4) (t : Txn) (c : Ctl) : Ctl :=
  if !(txnWrites t).isEmpty && 128 ≤ c.regions[r].coord.log.length then modTxn r t.id (fun t => { t with phase := .logWait }) c
  else commitNow r t c

/-! ## Locked sequences (R194 to R201) -/

def lsidOf (h : ReqHdr) : Nat := bitsOf h.param.toNat 8 8

/-- The context of a port's sequence by LSID. -/
def seqOf (c : Ctl) (r p : Fin 4) (lsid : Nat) : Option LSeq := c.regions[r].coord.seqs.find? fun q => q.port = p && q.lsid = lsid

/-- A sequence is doomed (R197): every staged value discarded, every hold released. -/
def doomSeq (r : Fin 4) (q : LSeq) (c : Ctl) : Ctl :=
  if q.state ≠ .openSeq then c
  else bump (rIdx r 16) (modSeq r q.id (fun q => { q with state := .doomed }) (dropHolds q.id c))

/-- A stage ends with a status other than OK and dooms its sequence (R197). -/
def failStage (r : Fin 4) (q : LSeq) (trk status pass : Nat) (data : List Slot) (c : Ctl) : Ctl :=
  endTrkWith trk status (txnInfo pass 0) data (doomSeq r q c)

/-- The holds of a sequence at every channel, by granule. -/
def seqHolds (c : Ctl) (id : Nat) : List Hold :=
  c.chans.toList.flatMap fun ch => ch.holds.filter fun h => h.id = id && h.isSeq

/-- Evaluation of a stage whose granules are all held and decoded (R196): writes become staged values. -/
def finishStage (r : Fin 4) (q : LSeq) (t : Txn) (c : Ctl) : Ctl :=
  let c := dropTxn r t.id c
  if anyPoisoned t then failStage r q t.trk 1 0 [] c
  else if !comparesTrue t then failStage r q t.trk 9 (passMask t false) (readData' t) c
  else
    let put := fun (k : Key) (c : Ctl) =>
      if k.writes then modHoldAt k.gran q.id (fun h => { h with stage := some (finalValue t.actions k.hpn (keyGran k.gran) (((k.old.getD none).orElse fun _ => h.stage).getD 0)) }) c else c
    endTrkWith t.trk 0 (txnInfo (passMask t true) 0) (readData' t) (forEach t.keys put c)

/-- LSEQ_COMMIT taken up (R198). -/
def takeCommit (r : Fin 4) (q : LSeq) (trk : Nat) (c : Ctl) : Ctl :=
  match q.state with
  | .committing => endTrk trk 6 c
  | .doomed => endTrk trk 9 (freeSeq r q.id c)
  | .openSeq =>
    let hs := (seqHolds c q.id).filter fun h => h.stage.isSome
    let prep : Hold → Hold := fun h => { h with state := .prepared }
    let settle : Chan → Chan := fun ch => { ch with holds := mapIf (fun h => h.id = q.id && h.isSeq && h.stage.isSome) prep ch.holds }
    let c : Ctl := { c with chans := c.chans.map settle }
    let host := fun (h : Hold) => ((c.pm.entries.find? fun e => e.2.ppn = keyPpn h.gran && e.2.state ≠ .unmapped).map (·.1)).getD (hpnOf c (keyPpn h.gran))
    let t : Txn :=
      { id := c.nextId, port := q.port, domain := q.domain, trk := trk, age := c.now, lsid := some q.id, epoch := c.pm.epoch
        actions := [], ordered := true, retries := 0, wounded := false, phase := .preparing
        keys := hs.map fun h => { gran := h.gran, reads := false, writes := true, state := .answered, old := none, new := h.stage, hpn := host h } }
    let c := modSeq r q.id (fun q => { q with state := .committing }) { c with nextId := c.nextId + 1 }
    tryCommit r t (modRegion r (fun g => { g with coord := { g.coord with txns := g.coord.txns ++ [t] } }) c)

/-- The translations of a packet's actions are counted, each with what its entry's check bits show: digit i of PM_ECC to the
base 4 for action i (R99, R128). -/
def countActions (h : ReqHdr) (l : List Action) (c : Ctl) : Ctl :=
  forEach l.zipIdx (fun x c => countXlate (actionHpn x.1) (bitsOf h.pmEcc (2 * x.2) 2) c) c

/-- An entry that is lost in both copies stops its packet: the class-5 fault ends it HALTED (R99, R287). -/
def lostActions (h : ReqHdr) (l : List Action) : Bool := l.zipIdx.any fun x => bitsOf h.pmEcc (2 * x.2) 2 = 3

/-- LSEQ_STAGE taken up (R196, R197). -/
def takeStage (r : Fin 4) (q : LSeq) (h : ReqHdr) (trk : Nat) (c : Ctl) : Ctl :=
  match q.state, actionsOf h with
  | .committing, _ => endTrk trk 6 c
  | .doomed, _ => endTrk trk 9 c
  | .openSeq, none => failStage r q trk 7 0 [] (bump (pIdx q.port 23) c)
  | .openSeq, some l =>
    if 64 < q.actions + l.length then failStage r q trk 7 0 [] (bump (pIdx q.port 23) c)
    else if h.domain ≠ q.domain then failStage r q trk 2 0 [] (deniedPort q.port c)
    else
      let c := countActions h l c
      if lostActions h l then failStage r q trk 8 0 [] c else
      match translateActions c h.domain l [] with
      | .error st => failStage r q trk st 0 [] (if st = 2 then deniedPort q.port c else c)
      | .ok keys =>
        let mine := (seqHolds c q.id).map (·.gran)
        let t : Txn :=
          { id := c.nextId, port := q.port, domain := q.domain, trk := trk, age := c.now, lsid := some q.id, epoch := c.pm.epoch
            actions := l, ordered := true, retries := 0, wounded := false, phase := .acquiring
            keys := askNext c.now (keys.map fun k => if mine.contains k.gran then { k with state := .granted, since := c.now } else k) }
        let c := modSeq r q.id (fun q => { q with actions := q.actions + l.length }) { c with nextId := c.nextId + 1 }
        let c := modRegion r (fun g => { g with coord := { g.coord with txns := g.coord.txns ++ [t] } }) c
        if t.keys.all fun k => k.state = .granted && !k.reads then finishStage r q t c else issueCoord r c

/-- LSEQ_ABORT taken up (R199). -/
def takeAbort (r : Fin 4) (q : LSeq) (trk : Nat) (c : Ctl) : Ctl :=
  match q.state with
  | .committing => endTrk trk 6 c
  | _ => endTrk trk 0 (freeSeq r q.id (dropHolds q.id c))

/-- A packet of a sequence, or the doom that a refused stage left in its place (operation zero), is taken up; a packet
ends LEASE_EXPIRED when no sequence of its port has its LSID (R194, R201). -/
def takeUp (r : Fin 4) (op : Nat) (h : ReqHdr) (trk : Nat) (c : Ctl) : Ctl :=
  match seqOf c r h.port (lsidOf h) with
  | none => endTrk trk 6 c
  | some q =>
    if op = 0x31 then takeStage r q h trk c
    else if op = 0x32 then takeCommit r q trk c
    else if op = 0x33 then takeAbort r q trk c
    else doomSeq r q c

/-- Whether a sequence still works on a packet: its response has not been produced (R194). -/
def seqBusy (c : Ctl) (r : Fin 4) (q : LSeq) : Bool :=
  c.regions[r].coord.txns.any fun t => t.lsid = some q.id && (t.phase = .acquiring || t.phase = .preparing || t.phase = .logWait)

/-- Waiting packets of a sequence are taken up in arrival order, each once the one before it has ended (R194). -/
def seqAdvance (r p : Fin 4) (lsid : Nat) : Nat → List (Nat × ReqHdr × Nat) → Ctl → Ctl
  | 0, _, c => c
  | n + 1, orphaned, c =>
    match seqOf c r p lsid with
    | none => forEach orphaned (fun w c => endTrk w.2.2 6 c) c
    | some q =>
      if seqBusy c r q then c
      else
        match q.waiting with
        | [] => c
        | w :: t => seqAdvance r p lsid n t (takeUp r w.1 w.2.1 w.2.2 (modSeq r q.id (fun q => { q with waiting := t }) c))

/-- The packets that wait behind the one that just ended are taken up. -/
def advanceSeq (r p : Fin 4) (lsid : Nat) (c : Ctl) : Ctl :=
  match seqOf c r p lsid with
  | some q => seqAdvance r p lsid (q.waiting.length + 1) q.waiting c
  | none => c

/-- A freed record lets the first waiting transaction commit; the packets behind a sequence's COMMIT are then taken up
(R191, R194). -/
def logFreed (r : Fin 4) (c : Ctl) : Ctl :=
  match c.regions[r].coord.txns.find? fun t => t.phase = .logWait with
  | some t =>
    if c.regions[r].coord.log.length < 128 then
      let c := commitNow r t c
      match t.lsid.bind fun i => c.regions[r].coord.seqs.find? fun q => q.id = i with
      | some q => advanceSeq r q.port q.lsid c
      | none => c
    else c
  | none => c

/-- An LSEQ_STAGE, LSEQ_COMMIT or LSEQ_ABORT reaches its coordinator (R194). -/
def lseqPacket (op : Nat) (h : ReqHdr) (c : Ctl) : Ctl :=
  let r := h.port
  let e := enterCoordTrk op h c
  match seqOf e.2 r h.port (lsidOf h) with
  | some q =>
    if seqBusy e.2 r q || !q.waiting.isEmpty then modSeq r q.id (fun q => { q with waiting := q.waiting ++ [(op, h, e.1)] }) e.2
    else takeUp r op h e.1 e.2
  | none => takeUp r op h e.1 e.2

/-- LSEQ_BEGIN (R195): UNSUPPORTED for an LSID that is open at the port, tested before RETRY_LATER for want of a context, as the spec
orders the two nowhere (DESIGN CHOICE, log 86). -/
def lseqBegin (h : ReqHdr) (c : Ctl) : Ctl :=
  let r := h.port
  let e := enterCoordTrk 0x30 h c
  let c := e.2
  if (seqOf c r h.port (lsidOf h)).isSome then endTrk e.1 7 (bump (pIdx h.port 23) c)
  else if 64 ≤ c.regions[r].coord.seqs.length then endTrk e.1 4 c
  else
    let lease := bitsOf h.param.toNat 16 13
    let q : LSeq := { id := c.nextId, port := h.port, lsid := lsidOf h, domain := h.domain, lease := if lease = 0 then 64 else lease, state := .openSeq, actions := 0 }
    endTrk e.1 0 (modRegion r (fun g => { g with coord := { g.coord with seqs := g.coord.seqs ++ [q] } }) { c with nextId := c.nextId + 1 })

/-- A stage refused by R87 dooms its sequence, behind the packets of the sequence that came before it (R194, R197). -/
def refusedStage (h : ReqHdr) (c : Ctl) : Ctl :=
  match seqOf c h.port h.port (lsidOf h) with
  | some q =>
    if seqBusy c h.port q || !q.waiting.isEmpty then
      modSeq h.port q.id (fun q => { q with waiting := q.waiting ++ [(0, h, c.nextId)] }) { c with nextId := c.nextId + 1 }
    else doomSeq h.port q c
  | none => c

/-! ## txn_run (R190) -/

/-- A TXN reaches its coordinator: translated, then every hold is asked for at once. -/
def enterTxn (h : ReqHdr) (c : Ctl) : Ctl :=
  let r := h.port
  let e := enterCoordTrk 0x28 h c
  let l := (actionsOf h).getD []
  let c := countActions h l e.2
  if lostActions h l then endTrk e.1 8 c
  else
    match translateActions c h.domain l [] with
    | .error st => endTrk e.1 st (if st = 2 then deniedPort h.port c else c)
    | .ok keys =>
      let t : Txn :=
        { id := c.nextId, port := h.port, domain := h.domain, trk := e.1, age := c.now, lsid := none, epoch := c.pm.epoch
          actions := l, ordered := false, retries := 0, wounded := false, phase := .acquiring
          keys := keys.map fun k => { k with state := .requested, since := c.now } }
      issueCoord r (modRegion r (fun g => { g with coord := { g.coord with txns := g.coord.txns ++ [t] } }) { c with nextId := c.nextId + 1 })

/-- The attempt holds every granule and has every old value it needs. -/
def readyToEvaluate (t : Txn) : Bool := t.phase = .acquiring && t.keys.all fun k => k.state = .granted && (!k.reads || k.old.isSome)

/-- Evaluation: new values are computed and PREPARE goes to every hold; a stage ends instead (R190, R196). -/
def evaluate (r : Fin 4) (id : Nat) (c : Ctl) : Ctl :=
  match c.regions[r].coord.txns.find? fun t => t.id = id with
  | none => c
  | some t =>
    if !readyToEvaluate t then c
    else
      match t.lsid with
      | some sid =>
        match c.regions[r].coord.seqs.find? fun q => q.id = sid with
        | some q => advanceSeq r q.port q.lsid (finishStage r q t c)
        | none => dropTxn r id c
      | none =>
        modTxn r id (fun t => { t with
          phase := .preparing
          keys := t.keys.map fun k => { k with
            state := .prepareSent
            new := if k.writes then some (finalValue t.actions k.hpn (keyGran k.gran) ((k.old.getD none).getD 0)) else none } }) c

/-- Whether a request of the holder's port and domain for a granule stands before a hold request (R193). -/
def earlierAt (c : Ctl) (t : Txn) (gran : Nat) : Bool :=
  (c.trk.any fun x => srcIsPort t.port x && x.domain = t.domain && x.id < t.trk && x.grans.any fun g => (g.phase = .queued || g.phase = .atMap) && granKey g.ppn g.g = gran) ||
  c.regions.toList.any fun r => r.coord.txns.any fun x => x.port = t.port && x.domain = t.domain && x.trk < t.trk && x.lsid.isNone && x.id ≠ t.id && x.keys.any fun k => k.gran = gran && k.state ≠ .released

/-- What a hold request meets (Table 4 of R188). -/
inductive HoldOutcome where
  | grant | refuse | wait
  | wound (victim : Nat)
deriving DecidableEq, Repr

/-- Whether a transaction is older than a hold's (R190): by the clock at which its coordinator received it, then by region, and,
for two that one coordinator received within the model's nanosecond, by arrival (DESIGN CHOICE, log 50). -/
def olderThan (t : Txn) (h : Hold) : Bool :=
  t.age < h.age || (t.age = h.age && (t.port.val < h.port.val || (t.port = h.port && t.id < h.id)))

/-- The outcome of a hold request at its channel (Table 4 of R188). -/
def holdOutcome (c : Ctl) (t : Txn) (gran : Nat) : HoldOutcome :=
  let ch := c.chans[keyChan gran]
  let own := ch.holds.any fun h => h.gran = gran && h.id = holdIdOf t && h.state = .orderMarker
  match holdAt ch gran with
  | none => if ch.holds.length < 128 || own then .grant else if t.lsid.isNone && !t.ordered then .refuse else .wait
  | some h =>
    if h.id = holdIdOf t then .grant
    else if t.lsid.isSome then .wait
    else if !t.ordered then .refuse
    else if h.isSeq then .wait
    else if h.state = .acquired && olderThan t h then .wound h.id
    else .wait

/-- A hold entry is taken for a transaction or a sequence. -/
def takeHold (t : Txn) (gran : Nat) (c : Ctl) : Ctl :=
  let c := dropWait gran t.id c
  if (holdAt c.chans[keyChan gran] gran).any fun h => h.id = holdIdOf t then c
  else
    let h : Hold := { gran := gran, id := holdIdOf t, isSeq := t.lsid.isSome, port := t.port, domain := t.domain, age := t.age, stage := none, state := .acquired }
    modChan (keyChan gran) (fun ch => { ch with holds := ch.holds.filter (fun x => !(x.gran = gran && x.id = holdIdOf t)) ++ [h] }) c

/-- A release of an earlier attempt reaches the channel: the entry is freed, or left as an order marker between attempts
(R190). -/
def deliverRelease (r : Fin 4) (t : Txn) (gran : Nat) (c : Ctl) : Ctl :=
  let read := (c.trk.map fun x => x.grans.countP fun g => g.phase = .queued && opReadType x.op && granKey g.ppn g.g = gran).sum
  let wasPrepared := (holdAt c.chans[keyChan gran] gran).any fun h => h.id = t.id && h.state = .prepared
  let c := if wasPrepared then bumpBy (cIdx (keyChan gran) 38) read c else c
  let c := if t.phase = .ending || t.phase = .committing then dropHoldAt gran t.id c else markHoldAt gran t.id c
  reapTxn r t.id (modTxn r t.id (modKey gran fun k => { k with rel := false }) c)

/-- A hold request reaches its channel (R188, R190, R193, R468). -/
def holdRequest (ch : Fin 32) (id gran : Nat) (c : Ctl) : Ctl :=
  match findTxn c id with
  | none => c
  | some (r, t) =>
    match keyOf t gran with
    | none => c
    | some k =>
      if k.state ≠ .requested || k.atMap || keyChan gran ≠ ch || earlierAt c t gran || !accessAllocated c id gran then c
      else
        let c := if k.rel then deliverRelease r t gran c else c
        match holdOutcome c t gran with
        | .grant => modTxn r id (modKey gran fun k => { queueRead c t k with state := .grantSent }) (takeHold t gran c)
        | .refuse => modTxn r id (modKey gran fun k => { k with state := .refused }) c
        | .wound v =>
          -- the holder learns of it from the notice, or from the answer to its PREPARE (R468)
          let c := dropHoldAt gran v c
          let hit := fun (x : Txn) => if x.id = v then { x with wounded := true } else x
          let region := fun (g : Region) => { g with coord := { g.coord with txns := g.coord.txns.map hit } }
          let c : Ctl := { c with regions := c.regions.map region }
          modTxn r id (modKey gran fun k => { queueRead c t k with state := .grantSent }) (takeHold t gran c)
        | .wait =>
          if c.chans[ch].holdWaits.any fun w => w.gran = gran && w.id = id then c
          else modChan ch (fun x => { x with holdWaits := x.holdWaits ++ [{ gran := gran, id := id, since := c.now }] }) c

def execHoldRequest (c : Fin 32) (id gran : Nat) (s : State) : Host.Outcome State Fault Refusal := onCtl (holdRequest c id gran) s

/-- A grant, or a refusal, reaches the coordinator (R190): the next key is asked for, or the attempt retries. -/
def holdGrant (id gran : Nat) (c : Ctl) : Ctl :=
  match findTxn c id with
  | none => c
  | some (r, t) =>
    match keyOf t gran with
    | none => c
    | some k =>
      match k.state with
      | .refused => retryTxn r t false false c
      | .grantSent =>
        let next := fun (t : Txn) =>
          let t := modKey gran (fun k => { k with state := .granted }) t
          if t.ordered then { t with keys := askNext c.now t.keys } else t
        evaluate r id (issueCoord r (modTxn r id next c))
      | _ => c

def execHoldGrant (id gran : Nat) (s : State) : Host.Outcome State Fault Refusal := onCtl (holdGrant id gran) s

/-- A wound notice reaches the coordinator (R468): the attempt goes to retry at once. -/
def woundNotice (id : Nat) (c : Ctl) : Ctl :=
  match findTxn c id with
  | none => c
  | some (r, t) => if t.wounded && (t.phase = .acquiring || t.phase = .preparing) then retryTxn r t false true c else c

def execWoundNotice (id : Nat) (s : State) : Host.Outcome State Fault Refusal := onCtl (woundNotice id) s

/-- Who reads an old value: the coordinator, for a transaction or stage that meets stored poison once (R120, R146, R151). -/
def oldReader (c : Ctl) (t : Txn) (k : Key) : Reader :=
  { hpn := some k.hpn, mirrored := (pmGet c k.hpn).mirrored, source := 2, port := 0
    cmp := t.actions.any fun a => actionReadType a && actionHpn a = k.hpn && actionGran a = keyGran k.gran
    first := !(c.trk.any fun x => x.id = t.trk && x.metPoison) }

/-- A decoded old value reaches the coordinator (R184, R190, R196): a sequence's own staged value, otherwise the committed one, as
accepted data or DRAM gives it (R213), with R119 and R145 applied. -/
def oldValue (id gran : Nat) (noise : BitVec 320) (m : List Host.Cell) (c : Ctl) : Ctl :=
  match findTxn c id with
  | none => c
  | some (r, t) =>
    match keyOf t gran with
    | none => c
    | some k =>
      if !(k.state = .granted || k.state = .grantSent) || !k.reads || k.old.isSome then c
      else
        let set := fun (v : Option GData) (c : Ctl) => evaluate r id (modTxn r id (modKey gran fun k => { k with old := some v, access := .idle }) c)
        match ownStage c t gran, k.access with
        | some v, _ => set (some v) c
        | none, .readAccepted fwd =>
          if fwd && (auFind c.chans[keyChan gran] gran).any (fun e => e.value.isNone) then c
          else
            let e := readEnd m gran (oldReader c t k) (if fwd then granView m c gran else dramDecode m c gran noise) c
            let c' := if e.1.kind = 3 then modTrk t.trk (fun x => { x with metPoison := true }) e.2 else e.2
            if e.1.wait then c else set (if e.1.status = 0 then some e.1.data else none) c'
        | none, _ => c

def execOldValue (id gran : Nat) (noise : BitVec 320) (s : State) : Host.Outcome State Fault Refusal := onCtlMem (oldValue id gran noise) s

/-- PREPARE reaches a channel (R186, R468): an ACQUIRED hold of the attempt becomes PREPARED with its final value; one that was
wounded is answered WOUNDED and nothing changes. -/
def prepareHold (ch : Fin 32) (id gran : Nat) (c : Ctl) : Ctl :=
  match findTxn c id with
  | none => c
  | some (r, t) =>
    match keyOf t gran with
    | none => c
    | some k =>
      if k.state ≠ .prepareSent || keyChan gran ≠ ch then c
      else
        let mine := (holdAt c.chans[ch] gran).any fun h => h.id = holdIdOf t
        let c := modHoldAt gran (holdIdOf t) (fun h => { h with state := .prepared, stage := k.new }) c
        modTxn r id (modKey gran fun k => { k with state := if mine then .prepared else .wounded }) c

def execPrepare (c : Fin 32) (id gran : Nat) (s : State) : Host.Outcome State Fault Refusal := onCtl (prepareHold c id gran) s

/-- The outcome once every PREPARE is answered (R185, R190). -/
def decide' (r : Fin 4) (t : Txn) (c : Ctl) : Ctl :=
  if anyPoisoned t then endTxn r t 1 0 [] c
  else if !comparesTrue t then endTxn r t 9 (passMask t false) (readData' t) (bump (rIdx r 9) c)
  else tryCommit r t c

/-- A PREPARE answer reaches the coordinator (R190). -/
def prepareAnswer (id gran : Nat) (c : Ctl) : Ctl :=
  match findTxn c id with
  | none => c
  | some (r, t) =>
    match keyOf t gran with
    | none => c
    | some k =>
      match k.state with
      | .wounded => if t.phase = .preparing then retryTxn r t false true c else c
      | .prepared =>
        let t' := modKey gran (fun k => { k with state := .answered }) t
        let c := modTxn r id (fun _ => t') c
        if t'.keys.all fun k => k.state = .answered then decide' r t' c else c
      | _ => c

def execPrepareAnswer (id gran : Nat) (s : State) : Host.Outcome State Fault Refusal := onCtl (prepareAnswer id gran) s

/-- COMMIT reaches a channel (R186, R191): the hold is COMMITTED with its value, and its write joins the TXN input queue
(R209). -/
def commitHold (ch : Fin 32) (id gran : Nat) (c : Ctl) : Ctl :=
  match findTxn c id with
  | none => c
  | some (r, t) =>
    match keyOf t gran with
    | none => c
    | some k =>
      if k.state ≠ .committing || k.access ≠ .idle || keyChan gran ≠ ch then c
      else
        let read := (c.trk.map fun x => x.grans.countP fun g => g.phase = .queued && opReadType x.op && granKey g.ppn g.g = gran).sum
        let c := if (holdAt c.chans[ch] gran).any fun h => h.state = .prepared then bumpBy (cIdx ch 38) read c else c
        modTxn r id (modKey gran fun k => { k with access := .writeQueued c.now })
          (modHoldAt gran (holdIdOf t) (fun h => { h with state := .committed, stage := k.new }) c)

/-- The channel accepts the write of a COMMITTED hold: the entry is freed, and the record with the last write (R186, R191). -/
def commitAccept (r : Fin 4) (t : Txn) (k : Key) (c : Ctl) : Ctl :=
  let hpn := if (pmGet c k.hpn).mirrored then some k.hpn else none
  let c := dropHoldAt k.gran (holdIdOf t) (acceptWrite k.gran (granEncode (k.new.getD 0)) hpn c)
  let c := modTxn r t.id (modKey k.gran fun k => { k with state := .released, access := .idle }) c
  match c.regions[r].coord.txns.find? fun x => x.id = t.id with
  | some t' =>
    if t'.keys.all fun k => k.state = .released then
      let c := modRegion r (fun g => { g with coord := { g.coord with log := g.coord.log.filter fun x => x.id ≠ t.id } }) c
      let c := match t'.lsid with | some q => freeSeq r q c | none => c
      logFreed r (reapTxn r t.id (modTxn r t.id (fun t => { t with phase := .ending }) c))
    else c
  | none => c

def execCommit (c : Fin 32) (id gran : Nat) (s : State) : Host.Outcome State Fault Refusal := onCtl (commitHold c id gran) s

/-- A hold release reaches a channel (R188, R190). -/
def holdRelease (ch : Fin 32) (id gran : Nat) (c : Ctl) : Ctl :=
  match findTxn c id with
  | none => c
  | some (r, t) =>
    match keyOf t gran with
    | none => c
    | some k => if k.rel && keyChan gran = ch then deliverRelease r t gran c else c

def execHoldRelease (c : Fin 32) (id gran : Nat) (s : State) : Host.Outcome State Fault Refusal := onCtl (holdRelease c id gran) s

/-- Whether a hold wait is bounded by the limit (Table 4 of R188): at a locked sequence's hold, or for a free entry. -/
def boundedWait (c : Ctl) (ch : Fin 32) (gran : Nat) : Bool :=
  match holdAt c.chans[ch] gran with
  | some h => h.isSeq
  | none => true

/-- Write-type granules of a request that wait at a hold of a channel end RETRY_LATER (Table 4 of R188). -/
def writeWaitEnds (ch : Fin 32) (id : Nat) (c : Ctl) : Ctl :=
  match c.trk.find? fun t => t.id = id with
  | none => c
  | some t =>
    if opReadType t.op then c
    else
      let hit := fun (i : Nat) => match t.grans[i]? with
        | some g => g.phase = .queued && keyChan (granKey g.ppn g.g) = ch && (holdAt c.chans[ch] (granKey g.ppn g.g)).isSome
        | none => false
      let l := (List.range t.grans.length).filter hit
      if l.isEmpty then c else forEach l (fun i c => endGran id i 4 0 c) (bump (cIdx ch 37) c)

/-- A wait at a hold passes the hold-wait limit (R188, R189). -/
def holdWaitTimeout (ch : Fin 32) (id : Nat) (c : Ctl) : Ctl :=
  match c.chans[ch].holdWaits.find? (fun w => w.id = id), findTxn c id with
  | some w, some (r, t) =>
    if !boundedWait c ch w.gran then c
    else
      let c := bump (cIdx ch 37) c
      match t.lsid with
      | none => retryTxn r t true false c
      | some sid =>
        match c.regions[r].coord.seqs.find? fun q => q.id = sid with
        | some q =>
          advanceSeq r q.port q.lsid (failStage r q t.trk 4 0 [] (dropWait w.gran id (dropTxn r id (bump (rIdx r 13) c))))
        | none => c
  | _, _ => writeWaitEnds ch id c

def execHoldWaitTimeout (c : Fin 32) (id : Nat) (s : State) : Host.Outcome State Fault Refusal := onCtl (holdWaitTimeout c id) s

/-- A sequence reaches its LEASE-th beat without COMMIT (R200). -/
def leaseExpiry (r p : Fin 4) (lsid : Nat) (c : Ctl) : Ctl :=
  match seqOf c r p lsid with
  | some q => if q.state ≠ .committing && q.lease = 0 then endSeq r q 6 c else c
  | none => c

def execLeaseExpiry (r port : Fin 4) (lsid : Nat) (s : State) : Host.Outcome State Fault Refusal := onCtl (leaseExpiry r port lsid) s

end Sys2Proof.Machine
end

