-- ==== Sys2Proof/Machine/Requests.lean ====
section
/-! DEFINITION. The requests a port receives (R78 to R96, R129 to R148, R178): admission, the tracker, and the doorbell and
fence when they take effect. -/

namespace Sys2Proof.Machine

open Sys2Proof

/-! ## Work-queue contexts (R152 to R154, R170) -/

def queueRegion (q : Nat) : Fin 4 := Fin.ofNat 4 (q / 8192)

/-- A queue that is IDLE or PARKED with DB_PENDING set is ready (R154). -/
def queueIsReady (x : Queue) : Bool := x.dbPending && (x.state = 1 || x.state = 3)

/-- A queue takes a new context and joins or leaves its region's ready queues (R154, R170). -/
def setQueue (q : Nat) (x : Queue) (c : Ctl) : Ctl :=
  let c := queuePut q x c
  modRegion (queueRegion q) (fun r => { r with
    ready := if queueIsReady x then (if r.ready.any (fun y => y.1 = q) then r.ready else r.ready ++ [(q, x.priority)]) else r.ready.filter fun y => y.1 ≠ q }) c

/-- A doorbell reaches its queue's context (Table 10 of R178): the status and the state afterwards. -/
def ringQueue (q domain : Nat) (p : Fin 4) (c : Ctl) : Nat × Ctl :=
  let x := queueGet c q
  if x.state = 0 then (3, c)
  else if x.domain ≠ domain then (2, deniedPort p c)
  else (0, setQueue q { x with dbPending := true } (bump (rIdx (queueRegion q) 4) c))

/-! ## Admission and the tracker -/

/-- Whether an admitted request must wait at the head of its port's receive buffer (R93, R248). -/
def mustWait (op : Nat) (h : ReqHdr) (c : Ctl) : Bool :=
  !mayAllocate c (.port h.port)
    || ((opOf op h matches .read | .write | .masked _ | .atomic _ _ _ _ _)
        && stagingFull c (portMaster h.port) (requestGrans op h c))

/-- An admitted request starts on its path (R25, R178, R190, R194). -/
def dispatchReq (op : Nat) (h : ReqHdr) (marked : Bool) (c : Ctl) : Ctl :=
  if op = 0x28 then enterTxn h c
  else if op = 0x30 then lseqBegin h c
  else if op = 0x31 || op = 0x32 || op = 0x33 then lseqPacket op h c
  else if op = 0x38 || op = 0x3C then enterWaiter op h c
  else enterData op h marked c

/-- A request's packet leaves its port's receive buffer, which a lost link has emptied (R51). -/
def takeHead (op : Nat) (h : ReqHdr) (c : Ctl) : Ctl := if c.ports[h.port].mute then c else modPort h.port (takePacket op h) c

/-- An admitted request leaves the head of its port's receive buffer, takes its tracker entry and starts (steps 4 on of R25).
Class 4 ends what has not been accepted at a channel (R287). -/
def startReq (op : Nat) (h : ReqHdr) (marked : Bool) (c : Ctl) : Ctl :=
  let c := takeHead op h (notePool (.port h.port) c)
  if 4 ≤ stackClass c.umpire then refuseReq op h 8 (if op = 0x31 then refusedStage h c else c) else dispatchReq op h marked c

/-- Step 3 of R25 refuses a request with a status: it leaves the receive buffer, and its response takes a tracker entry
(R26). -/
def denyReq (op : Nat) (h : ReqHdr) (st : Nat) (c : Ctl) : Ctl :=
  let c := takeHead op h (notePool (.port h.port) c)
  refuseReq op h st (refusalEffects h.port st (if op = 0x31 then refusedStage h c else c))

/-- A request that waits, with the moment since which it lacks a tracker entry (R92, R93). -/
def stillWaits (w : Waiting) (c : Ctl) : Waiting :=
  { w with allocSince := if mayAllocate c (.port w.hdr.port) then none else some (w.allocSince.getD c.now) }

/-- The checks of R87 once (step 3 of R25), and the path of a request when it need not wait (R93). -/
def tryReq (w : Waiting) (c : Ctl) : Option Waiting × Ctl :=
  match w.admitted with
  | some m => if mustWait w.opcode w.hdr c then (some (stillWaits w c), c) else (none, startReq w.opcode w.hdr m c)
  | none =>
    match admission w.opcode w.hdr c with
    | some st => if mayAllocate c (.port w.hdr.port) then (none, denyReq w.opcode w.hdr st c) else (some (stillWaits w c), c)
    | none =>
      let r := tc1Mark w.opcode w.hdr c
      if mustWait w.opcode w.hdr r.2 then (some (stillWaits { w with admitted := some r.1 } r.2), r.2) else (none, startReq w.opcode w.hdr r.1 r.2)

/-- The request at the head of a port's receive buffer goes as far as it can. The answer is the wait that is left of it. One
accepted over a lost link runs on with its response discarded (R51). -/
def headReq (w : Waiting) (c : Ctl) : Option Waiting × Ctl :=
  if w.orphan then
    let p := w.hdr.port
    let r := tryReq w (modPort p (fun q => { q with mute := true }) c)
    let mine : Trk → Bool := fun t => srcIsPort p t && decide (c.nextId ≤ t.id)
    (r.1, { modPort p (fun q => { q with mute := false }) r.2 with trk := mapIf mine (fun t => { t with orphan := true }) r.2.trk })
  else tryReq w c

/-- A request reaches the packet layer of its port (R78, R87, R93): behind a waiting one, or when it cannot allocate, it
waits. A stack in self-refresh leaves it (R349). -/
def request (op : Nat) (h : ReqHdr) (c : Ctl) : Ctl :=
  if !linkUp c.ports[h.port] then c
  else
    let c := leaveSelfRefresh c
    let w : Waiting := { opcode := op, hdr := h, since := c.now }
    let wait : Waiting → Ctl → Ctl := fun w => modPort h.port fun p => { p with waiting := p.waiting ++ [w] }
    if !c.ports[h.port].waiting.isEmpty then wait w c
    else match headReq w c with
      | (some w, c) => wait w c
      | (none, c) => c

def execRead32 (h : ReqHdr) (s : State) : Host.Outcome State Fault Refusal := onCtl (request 0x10 h) s
def execRead64 (h : ReqHdr) (s : State) : Host.Outcome State Fault Refusal := onCtl (request 0x11 h) s
def execRead128 (h : ReqHdr) (s : State) : Host.Outcome State Fault Refusal := onCtl (request 0x12 h) s
def execRead256 (h : ReqHdr) (s : State) : Host.Outcome State Fault Refusal := onCtl (request 0x13 h) s
def execWrite32 (h : ReqHdr) (s : State) : Host.Outcome State Fault Refusal := onCtl (request 0x18 h) s
def execWrite64 (h : ReqHdr) (s : State) : Host.Outcome State Fault Refusal := onCtl (request 0x19 h) s
def execWrite128 (h : ReqHdr) (s : State) : Host.Outcome State Fault Refusal := onCtl (request 0x1A h) s
def execWrite256 (h : ReqHdr) (s : State) : Host.Outcome State Fault Refusal := onCtl (request 0x1B h) s
def execWriteMasked32 (h : ReqHdr) (s : State) : Host.Outcome State Fault Refusal := onCtl (request 0x1C h) s
def execAtomic (h : ReqHdr) (s : State) : Host.Outcome State Fault Refusal := onCtl (request 0x20 h) s
def execTxn (h : ReqHdr) (s : State) : Host.Outcome State Fault Refusal := onCtl (request 0x28 h) s
def execLseqBegin (h : ReqHdr) (s : State) : Host.Outcome State Fault Refusal := onCtl (request 0x30 h) s
def execLseqStage (h : ReqHdr) (s : State) : Host.Outcome State Fault Refusal := onCtl (request 0x31 h) s
def execLseqCommit (h : ReqHdr) (s : State) : Host.Outcome State Fault Refusal := onCtl (request 0x32 h) s
def execLseqAbort (h : ReqHdr) (s : State) : Host.Outcome State Fault Refusal := onCtl (request 0x33 h) s
def execDoorbell (h : ReqHdr) (s : State) : Host.Outcome State Fault Refusal := onCtl (request 0x38 h) s
def execFence (h : ReqHdr) (s : State) : Host.Outcome State Fault Refusal := onCtl (request 0x3C h) s

/-- Whether an opcode may be assigned on no virtual channel: neither NULL nor a request, nor MGMT_CMD or BOOT (Table 6 of chapter
3). -/
def opcodeUnassigned (op : Nat) : Bool := op ≠ 0 && op < 256 && !opcodeAssigned op && vcOf op = 0

def execUnassignedOpcode (opcode : Nat) (h : ReqHdr) (s : State) : Host.Outcome State Fault Refusal :=
  onCtl (fun c => if opcodeUnassigned opcode then request opcode h c else c) s

/-! ## Doorbell and fence (R95, R96, R178) -/

/-- A DOORBELL takes effect once the writes and atomics before it are visible (R178). -/
def doorbellEffect (id : Nat) (c : Ctl) : Ctl :=
  match c.trk.find? fun t => t.id = id with
  | none => c
  | some t =>
    match t.op, t.release, t.src with
    | .doorbell q, some ids, .port p =>
      if !t.ended && waitsOver c ids then
        let r := ringQueue q t.domain p c
        endTrk id r.1 r.2
      else c
    | _, _, _ => c

def execDoorbellTakesEffect (id : Nat) (s : State) : Host.Outcome State Fault Refusal := onCtl (doorbellEffect id) s

/-- Whether every recorded request lets a FENCE complete. -/
def fenceOver (c : Ctl) (ids : List Nat) : Bool :=
  ids.all fun i => match c.trk.find? fun t => t.id = i with | some t => fencePassed c t | none => true

/-- A FENCE completes (R95, R96). -/
def fenceEffect (id : Nat) (c : Ctl) : Ctl :=
  match c.trk.find? fun t => t.id = id with
  | none => c
  | some t =>
    match t.op, t.release with
    | .fence, some ids => if !t.ended && fenceOver c ids then endTrk id 0 c else c
    | _, _ => c

def execFenceComplete (id : Nat) (s : State) : Host.Outcome State Fault Refusal := onCtl (fenceEffect id) s

end Sys2Proof.Machine
end

