-- ==== Sys2Proof/Machine/Movers.lean ====
section
/-! DEFINITION. Work queues on the data movers: run, descriptors, element accesses, port streams and records (R152 to R182).
Every access of a mover is a tracker entry whose element number says what it is for: an element's own, or one of the bulk path
(R181), which reads the index table, the packed side, descriptors and slots, and writes destinations, reports and records. -/

namespace Sys2Proof.Machine

open Sys2Proof

/-! ## Descriptor fields (R157 to R159) -/

def descField (d : BitVec 512) (lo n : Nat) : Nat := bitsOf d.toNat lo n
def descEnd (d : BitVec 512) : Bool := bitOf d.toNat 8
def descYield (d : BitVec 512) : Bool := bitOf d.toNat 9
def descBarrier (d : BitVec 512) : Bool := bitOf d.toNat 10
def descComplete (d : BitVec 512) : Bool := bitOf d.toNat 11
def descTag (d : BitVec 512) : Nat := descField d 16 16
def descCount (d : BitVec 512) : Nat := descField d 32 32
/-- NEXT of a descriptor: bits [36:6] of an address. What bits [69:64] hold is not looked at (DESIGN CHOICE, log 56). -/
def descNext (d : BitVec 512) : Nat := descField d 70 31
def descA (d : BitVec 512) : Nat := descField d 128 37
def descB (d : BitVec 512) : Nat := descField d 192 37
def descC (d : BitVec 512) : Nat := descField d 256 37
def descOperand (d : BitVec 512) : Nat := descField d 384 128
def idxSize (d : BitVec 512) : Nat := if bitOf (descMode d) 0 then 8 else 4
def elemLog (d : BitVec 512) : Nat := bitsOf (descMode d) 4 4
def elemSize (d : BitVec 512) : Nat := 2 ^ elemLog d
def scaleLog (d : BitVec 512) : Nat := bitsOf (descMode d) 8 5
def descStream (d : BitVec 512) : Bool := descOpcode d = 3 && bitOf (descMode d) 16
def streamPort (d : BitVec 512) : Fin 4 := Fin.ofNat 4 (bitsOf (descMode d) 17 2)
def streamTag (d : BitVec 512) : Nat := bitsOf (descMode d) 19 11
def descAop (d : BitVec 512) : Nat := bitsOf (descMode d) 32 4
def descUniform (d : BitVec 512) : Bool := descOpcode d = 5 && bitOf (descMode d) 36

/-- A range of `n` bytes from `a` that does not pass 0x1F_FFFF_FFFF. -/
def inSpace (a n : Nat) : Bool := a + n ≤ 2 ^ 37

/-- The checks of R160 on the descriptor itself. -/
def descFieldsOk (d : BitVec 512) : Bool :=
  let n := descCount d
  let a := descA d
  let b := descB d
  if descOpcode d = 1 then
    a % 32 = 0 && b % 32 = 0 && inSpace a (32 * n) && inSpace b (32 * n) && !(0 < n && a < b + 32 * n && b < a + 32 * n)
  else if descOpcode d = 2 then a % 32 = 0 && inSpace a (32 * n)
  else if descOpcode d = 3 || descOpcode d = 4 || descOpcode d = 5 then
    elemLog d ≤ 8 && scaleLog d ≤ 16 && a % idxSize d = 0 && b % elemSize d = 0 && inSpace a (n * idxSize d)
      && (descStream d || descUniform d || inSpace (descC d) (n * elemSize d))
      && (descOpcode d = 3 || !bitOf (descMode d) 16)
      && (descOpcode d ≠ 5 || ((elemLog d = 2 || elemLog d = 3) && descAop d ≤ 9))
  else if descOpcode d = 6 then
    a % 32 = 0 && inSpace a (32 * n) && (b = 0 || (b % 8 = 0 && inSpace b (8 * (descMode d % 65536))))
  else if descOpcode d = 7 || descOpcode d = 8 then n = 0
  else false

/-- What validation gives (R160): OK, UNSUPPORTED or ACCESS_DENIED. -/
def descStatus (c : Ctl) (domain : Nat) (d : BitVec 512) : Nat :=
  if !descFieldsOk d then 7
  else if descStream d && !c.ports[streamPort d].domainMask.getLsbD domain then 2
  else 0

/-! ## Queue NOTIFY (R177) -/

/-- A queue NOTIFY to the queue's NOTIFY_PORT, when its DOMAIN_MASK holds the queue's domain. -/
def queueNotify (q source status cause : Nat) (ringFailed : Bool) (tag value : Nat) (c : Ctl) : Ctl :=
  let x := queueGet c q
  if c.ports[x.notifyPort].domainMask.getLsbD x.domain then
    pushNotify x.notifyPort 0x01
      (q + 2 ^ 15 * source + 2 ^ 16 * status + 2 ^ 20 * cause + 2 ^ 23 * b2n ringFailed + 2 ^ 24 * tag + 2 ^ 40 * x.ringProduced
        + 2 ^ 72 * value) c
  else bump (rIdx (queueRegion q) 7) c

/-! ## Accesses (R26, R92, R163, R181) -/

/-- The class-1 event of a mover's refused access: the first of each descriptor run only (R164). -/
def deniedQueue (m : Fin 16) (c : Ctl) : Ctl :=
  let v := c.movers[m]
  match v.curQueue with
  | some q => if v.denied then c else raiseEvent 0x28 9 q 0 (modMover m (fun v => { v with denied := true }) c)
  | none => c

/-- Element numbers above every COUNT: a destination granule, a report entry, the completion record, the descriptor at HEAD, the
slot at RING_PRODUCED, and the 256-byte blocks of the index table and of the packed side. -/
def destElem (d : Nat) : Nat := 2 ^ 32 + d
def reportElem (i : Nat) : Nat := 2 ^ 33 + i
def recordElem : Nat := 2 ^ 34
def headElem : Nat := 2 ^ 34 + 1
def slotElem : Nat := 2 ^ 34 + 2
def indexElem (b : Nat) : Nat := 2 ^ 35 + b
def packedElem (b : Nat) : Nat := 2 ^ 36 + b

/-- The tracker entry of a mover's access. -/
def accessOf (c : Ctl) (m : Fin 16) (elem : Nat) : Option Trk := c.trk.find? fun t => t.src = .mover m elem

/-- The same once every granule of the access has ended. -/
def endedAccess (c : Ctl) (m : Fin 16) (elem : Nat) : Option Trk :=
  (accessOf c m elem).filter fun t => t.grans.all fun g => g.phase = .done

/-- An access's result reaches its mover: its entry is released (R26). -/
def dropAccess (id : Nat) (c : Ctl) : Ctl := { c with trk := c.trk.filter fun t => t.id ≠ id }

/-- An access as the mover asks for it. `strict` asks that the page's domain be the queue's own, as a write does: a packed source,
a slot, and a descriptor, for which SHARED does not suffice (R103, R157). `writeType` is a read that R103 counts among the write-type
accesses: of a packed source or a slot. -/
structure Access where
  op : Op
  opcode : Nat
  addr : Nat
  count : Nat
  data : Nat
  poison : Bool := false
  strict : Bool := false
  writeType : Bool := false
deriving DecidableEq, Repr

/-- The read of `n` granules on the bulk path. -/
def bulkAccess (addr n : Nat) (strict : Bool) : Access :=
  { op := .read, opcode := 0x10, addr := addr / 32 * 32, count := n, data := 0, strict := strict }

/-- The granules of an access as translation leaves them. -/
def accessGrans (c : Ctl) (domain : Nat) (a : Access) : List Gran :=
  (List.range a.count).map fun i =>
    { granAt c a.addr i domain (if a.strict then .write else a.op) 1 (BitVec.ofNat 256 (a.data >>> (256 * i))) with kind := if a.poison then 3 else 0 }

/-- Engine tracker entries for an access of a mover, in its turn (R92). -/
def entriesFor (c : Ctl) (m : Fin 16) (n : Nat) : Bool :=
  inUse c .engine + n ≤ engineCap c && mayIssueSince c (c.movers[m].allocSince.getD c.now)

/-- Room for an access: its entries, and the staging of a channel that withholds credit (R248). -/
def accessRoom (c : Ctl) (m : Fin 16) (elem domain : Nat) (a : Access) : Bool :=
  entriesFor c m (accessEntries (.mover m elem) a.count) && !stagingFull c 4 (accessGrans c domain a)

/-- An access that cannot be issued holds the mover's later ones back (R92). -/
def stallMover (m : Fin 16) (elem n : Nat) (c : Ctl) : Ctl :=
  let blocked := !entriesFor c m (accessEntries (.mover m elem) n)
  modMover m (fun v => { v with stalled := true, allocSince := if blocked then some (v.allocSince.getD c.now) else none }) c

/-- An access is issued: it joins the request path at step 5 (R25, R163). An entry that is uncorrectable in both copies is met
before any access is made (R99). -/
def addAccess (m : Fin 16) (elem domain : Nat) (a : Access) (c : Ctl) : Ctl :=
  let ecc := c.movers[m].entryEcc
  let c := countXlate (a.addr / 65536) ecc (modMover m (fun v => { v with entryEcc := 0 }) c)
  if ecc = 3 then c
  else
    let gs := (accessGrans c domain a).map (stageGran c 4)
    let t : Trk :=
      { id := c.nextId, src := .mover m elem, opcode := a.opcode, op := a.op, tag := 0, domain := domain, addr := a.addr, tc1 := false
        marked := false, cmpl := false, release := none, grans := gs, since := c.now, writeType := a.writeType }
    let c := modTherm (fun t => { t with moverActs := t.moverActs + 1 }) (modMover m (fun v => { v with allocSince := none }) (notePool .engine c))
    let c : Ctl := { c with trk := c.trk ++ [t], nextId := c.nextId + 1 }
    let c := if elem < 2 ^ 32 then bumpBy (mIdx m 0) a.count c else if elem = headElem && c.movers[m].phase = .tail then bump (mIdx m 5) c else c
    if gs.any (fun g => g.status = 2) then deniedQueue m c else c

/-- A bulk access is issued, or holds the later ones back. -/
def tryAccess (m : Fin 16) (elem domain : Nat) (a : Access) (c : Ctl) : Ctl :=
  if accessRoom c m elem domain a then addAccess m elem domain a c else stallMover m elem a.count c

/-- The data of granules as one number. -/
def gransData (gs : List Gran) : Nat := ofSlots (gs.flatMap fun g => granSlots g.data)

/-! ## Records (R174, R175) -/

/-- STATUS of the record (Table 8). -/
def recordStatus (v : Mover) : Nat :=
  match v.lowFail with
  | some (_, st) => st
  | none => if descOpcode v.desc = 6 && v.countB ≠ 0 then 1 else 0

/-- The completion record (Table 7). -/
def recordBits (v : Mover) (cause status : Nat) : Nat :=
  let plain : Bool := cause = 1 || cause = 2 || descOpcode v.desc = 7 || descOpcode v.desc = 8
  let low := match v.lowFail with | some (k, _) => k | none => 0xFFFFFFFF
  let a := if plain then 0 else v.countA
  let b := if plain then 0 else v.countB
  let l := if plain then 0 else if descOpcode v.desc = 6 && cause ≠ 4 then v.countC else low
  let id := if cause = 2 then 0 else descOpcode v.desc + 2 ^ 8 * descTag v.desc
  1 + 2 * cause + 2 ^ 4 * status + 2 ^ 8 * id + 2 ^ 32 * a + 2 ^ 64 * b + 2 ^ 96 * l

/-- The address of the record slot at RING_PRODUCED (R153). -/
def slotAddr (x : Queue) : Nat := 256 * x.ringBase + 16 * (x.ringProduced % 2 ^ x.ringLog2)

/-- The address of the head descriptor. -/
def headAddr (x : Queue) : Nat := 64 * x.head

/-- The access that a mover's place in run asks for (R171): the tail check, the slot check, the fetch, or the record's masked
write. -/
def runAccess (v : Mover) (x : Queue) : Option (Nat × Access) :=
  match v.phase with
  | .tail => some (headElem, bulkAccess (headAddr x) 1 true)
  | .fetch => some (headElem, bulkAccess (headAddr x) 2 true)
  | .slot => some (slotElem, { bulkAccess (slotAddr x) 1 true with writeType := true })
  | .fetchFail _ => if x.slotFree then none else some (slotElem, { bulkAccess (slotAddr x) 1 true with writeType := true })
  | .record cause status =>
    let a := slotAddr x
    some (recordElem, {
      op := .masked (BitVec.ofNat 32 (0xFFFF * 2 ^ (a % 32))), opcode := 0x1C, addr := a / 32 * 32, count := 1
      data := recordBits v cause status * 2 ^ (8 * (a % 32)) })
  | .free | .running => none

/-- That access is issued, unless it is in flight or, but for a record's, a stop has come first. -/
def issueRun (m : Fin 16) (q : Nat) (c : Ctl) : Ctl :=
  let v := c.movers[m]
  let x := queueGet c q
  match runAccess v x with
  | some (e, a) =>
    let halted := v.stop.isSome && (match v.phase with | .record _ _ | .fetchFail _ => false | _ => true)
    if (accessOf c m e).isSome || halted then c else tryAccess m e x.domain a c
  | none => c

/-! ## Elements (R162 to R166) -/

/-- Granule accesses of one element. -/
def elemGrans (d : BitVec 512) : Nat :=
  if descOpcode d = 3 || descOpcode d = 4 then (if elemSize d ≤ 32 then 1 else elemSize d / 32) else 1

/-- The granule at an address of a block, once it has reached the mover. -/
def blockGran (v : Mover) (block a : Nat) : Option Gran :=
  v.blocks.findSome? fun b => if b.1 = block then b.2.find? (fun g => g.g = a % 65536 / 32) else none

/-- The granule at an address of the index table or the packed side, once it has reached the mover. -/
def heldGran (v : Mover) (elem : Nat → Nat) (a : Nat) : Option Gran := blockGran v (elem (a / 256)) a

/-- `n` bytes at an address of the index table or the packed side: status and value, once they have reached the mover. -/
def heldBytes (v : Mover) (elem : Nat → Nat) (a n : Nat) : Option (Nat × Nat) :=
  let l := (List.range ((a % 32 + n + 31) / 32)).map fun i => heldGran v elem (a / 32 * 32 + 32 * i)
  let gs := l.filterMap id
  if gs.length = l.length then some (statusOfGrans gs, bitsOf (gransData gs) (8 * (a % 32)) (8 * n)) else none

/-- What a mover does for an element. -/
inductive Issue where
  /-- Its index or its packed bytes have not reached the mover. -/
  | wait
  /-- It ends without an access. -/
  | ends (status : Nat)
  /-- Its access goes to an address, with packed data that may be poison. -/
  | go (addr packed : Nat) (poison : Bool)
deriving DecidableEq, Repr

/-- The address of element k of an indexed descriptor, or the status with which the element ends (R162, R165). An index read that ends with a
status other than OK gives the element that status, also one other than POISONED, for which Table 14 gives none (DESIGN CHOICE,
log 82). -/
def indexedAddr (v : Mover) (k : Nat) : Option (Except Nat Nat) :=
  let d := v.desc
  (heldBytes v indexElem (descA d + k * idxSize d) (idxSize d)).map fun r =>
    let a := descB d + r.2 * 2 ^ scaleLog d
    if r.1 ≠ 0 then .error r.1 else if 2 ^ 37 ≤ a then .error 3 else if a % elemSize d ≠ 0 then .error 7 else .ok a

/-- What element k of the descriptor asks for (R158, R162, R164, R165). -/
def elemIssue (v : Mover) (k : Nat) : Issue :=
  let d := v.desc
  let op := descOpcode d
  if op = 1 || op = 2 || op = 6 then .go (descA d + 32 * k) 0 false
  else match indexedAddr v k with
    | none => .wait
    | some (.error st) => .ends st
    | some (.ok a) =>
      if op = 3 || (op = 5 && descUniform d) then .go a (descOperand d) false
      else match heldBytes v packedElem (descC d + k * elemSize d) (elemSize d) with
        | none => .wait
        | some (st, x) =>
          if op = 5 then (if st ≠ 0 then .ends st else .go a x false)
          else if 2 ≤ st || (st = 1 && elemSize d < 32) then .ends st
          else .go a x (st = 1)

/-- The write of a SCATTER element (R162, R165): whole granules, or a masked write within one. -/
def scatterAccess (d : BitVec 512) (a value : Nat) (poison : Bool) : Access :=
  let n := elemSize d
  if n < 32 then
    { op := .masked (BitVec.ofNat 32 ((2 ^ n - 1) * 2 ^ (a % 32))), opcode := 0x1C, addr := a / 32 * 32, count := 1, data := value * 2 ^ (8 * (a % 32)) }
  else { op := .write, opcode := 0x18, addr := a, count := n / 32, data := value, poison := poison }

/-- A COPY's destination write (R165). -/
def copyWrite (d : BitVec 512) (k data : Nat) (poison : Bool) : Access :=
  { op := .write, opcode := 0x18, addr := descB d + 32 * k, count := 1, data := data, poison := poison }

/-- The whole access that an element makes now. -/
def elemAccess (d : BitVec 512) (e : Elem) : Access :=
  let op := descOpcode d
  if op = 1 && e.writing then copyWrite d e.k e.packed e.packedPoison
  else if op = 2 then { op := .write, opcode := 0x18, addr := e.addr, count := 1, data := descOperand d + 2 ^ 128 * descOperand d }
  else if op = 6 then { op := .verify, opcode := 0x10, addr := e.addr, count := 1, data := 0 }
  else if op = 4 then scatterAccess d e.addr e.packed e.packedPoison
  else if op = 5 then
    { op := .atomic (descAop d) (elemLog d = 3) false (BitVec.ofNat 64 (e.packed % 2 ^ (8 * elemSize d))) 0, opcode := 0x20, addr := e.addr, count := 1, data := 0 }
  else { op := .read, opcode := 0x10, addr := e.addr, count := elemGrans d, data := 0 }

/-- Granule accesses of elements that a mover has in flight (R163). -/
def elemBusy (c : Ctl) (m : Fin 16) : Nat :=
  ((c.trk.filter fun t => match t.src with | .mover m' e => m' = m && e < 2 ^ 32 | .port _ => false).map fun t => t.grans.length).sum

/-- The next part of an element's access: as many of its granules as MAX_INFLIGHT lets be in flight; none when that is none. -/
def nextPart (c : Ctl) (m : Fin 16) (e : Elem) : Option Access :=
  let v := c.movers[m]
  let a := elemAccess v.desc e
  let n := Nat.min (Nat.min (a.count - e.got.length) (v.maxInflight - elemBusy c m)) (entriesAtOnce c)
  if n = 0 then none
  else some { a with addr := a.addr + 32 * e.got.length, count := n, data := a.data >>> (256 * e.got.length) }

/-- The first element of the run: RESUME (R171). -/
def runStart (c : Ctl) (v : Mover) : Nat := match v.curQueue with | some q => (queueGet c q).resume | none => 0

/-- Bytes of stream data gathered or on the way and not yet sent (R168). -/
def streamHeld (c : Ctl) (v : Mover) : Nat :=
  if v.nextElem ≤ runStart c v then 0 else (v.nextElem - runStart c v) * elemSize v.desc - 256 * v.streamSent

/-- Elements of the descriptor are still to be issued, and no stop forbids it (R168, R173). -/
def moreElems (v : Mover) : Bool := v.phase = .running && v.stop.isNone && !v.streamLost && v.nextElem < descCount v.desc

/-- Whether the mover may issue its next element (R163, R168, R173). -/
def mayIssue (c : Ctl) (v : Mover) : Bool :=
  moreElems v && !v.stalled && v.inflight.length < 512
    && (!descStream v.desc || streamHeld c v + elemSize v.desc ≤ 16384)

/-- An element whose access, or a part of it, is to be issued. -/
def toIssue (e : Elem) : Bool := e.trk.isNone && !e.waiting && e.ended.isNone

/-- A change to an element in flight. -/
def modElem (m : Fin 16) (k : Nat) (f : Elem → Elem) : Ctl → Ctl :=
  modMover m fun v => { v with inflight := mapIf (fun e => e.k = k) f v.inflight }

/-- Elements begun are issued on, in ascending order, while they can: at most `n` parts (R163). -/
def issueParts (m : Fin 16) (domain : Nat) : Nat → Ctl → Ctl
  | 0, c => c
  | n + 1, c =>
    let v := c.movers[m]
    match v.inflight.find? toIssue with
    | none => c
    | some e =>
      match nextPart c m e with
      | none => c
      | some a =>
        if v.stalled then c
        else if !accessRoom c m e.k domain a then stallMover m e.k a.count c
        else issueParts m domain n (addAccess m e.k domain a (modElem m e.k (fun y => { y with trk := some c.nextId }) c))

/-- New elements are issued in ascending order while they can: at most `n`. -/
def issueElems (m : Fin 16) (domain : Nat) : Nat → Ctl → Ctl
  | 0, c => c
  | n + 1, c =>
    let v := c.movers[m]
    if !mayIssue c v || v.inflight.any toIssue then c
    else
      let place : Elem → Ctl → Ctl := fun e => modMover m fun v => { v with inflight := v.inflight ++ [e], nextElem := v.nextElem + 1 }
      match elemIssue v v.nextElem with
      | .wait => c
      | .ends st => issueElems m domain n (place { k := v.nextElem, ended := some st } c)
      | .go addr packed poison =>
        let e : Elem := { k := v.nextElem, trk := some c.nextId, addr := addr, packed := packed, packedPoison := poison }
        match nextPart c m e with
        | none => c
        | some a =>
          if !accessRoom c m e.k domain a then stallMover m e.k a.count c
          else issueElems m domain n (addAccess m v.nextElem domain a (place e c))

/-! ## The index table and the packed side ahead of the elements (R162, R181) -/

/-- The blocks of 256 bytes that hold the bytes from `lo` up to `hi`, each with the read of its granules among them. -/
def tableBlocks (elem : Nat → Nat) (lo hi : Nat) (strict : Bool) : List (Nat × Access) :=
  (List.range ((hi + 255) / 256 - lo / 256)).map fun i =>
    let b := lo / 256 + i
    let first := Nat.max (lo / 32) (8 * b)
    (elem b, { bulkAccess (32 * first) (Nat.min ((hi + 31) / 32) (8 * b + 8) - first) strict with writeType := strict })

/-- Whether the descriptor reads the index table, and the packed side. -/
def usesIndex (d : BitVec 512) : Bool := descOpcode d = 3 || descOpcode d = 4 || descOpcode d = 5
def usesPacked (d : BitVec 512) : Bool := descOpcode d = 4 || (descOpcode d = 5 && !descUniform d)

/-- The blocks that the elements to come need: up to 512 indices ahead, and 256 bytes of the packed side or one element's. -/
def wantedBlocks (v : Mover) : List (Nat × Access) :=
  let d := v.desc
  let n := descCount d
  let index := tableBlocks indexElem (descA d + v.nextElem * idxSize d) (descA d + Nat.min n (v.nextElem + 512) * idxSize d) false
  let some' := Nat.max 1 (256 / elemSize d)
  let packed := tableBlocks packedElem (descC d + v.nextElem * elemSize d) (descC d + Nat.min n (v.nextElem + some') * elemSize d) true
  (if usesPacked d then packed else []) ++ (if usesIndex d then index else [])

/-- Blocks behind every element to come leave the mover. -/
def trimBlocks (v : Mover) : Mover :=
  let d := v.desc
  let lo := fun (elem : Nat → Nat) (a : Nat) (b : Nat) => elem 0 ≤ b && elem (a / 256) ≤ b
  { v with blocks := v.blocks.filter fun b =>
      if packedElem 0 ≤ b.1 then lo packedElem (descC d + v.nextElem * elemSize d) b.1 else lo indexElem (descA d + v.nextElem * idxSize d) b.1 }

/-- What is still to be read of a wanted block: its granules from the first that is not here. -/
def blockRest (v : Mover) (b : Nat × Access) : Option Access :=
  ((List.range b.2.count).find? fun i => (blockGran v b.1 (b.2.addr + 32 * i)).isNone).map fun i =>
    { b.2 with addr := b.2.addr + 32 * i, count := b.2.count - i }

/-- The wanted granules that are neither here nor on their way are read, in order; of one block, one part at a time. -/
def readAhead (m : Fin 16) (domain : Nat) (c : Ctl) : Ctl :=
  if !moreElems c.movers[m] then c
  else
    let c := modMover m trimBlocks c
    forEach (wantedBlocks c.movers[m]) (fun b c =>
      let v := c.movers[m]
      match blockRest v b with
      | some a => if v.stalled || (accessOf c m b.1).isSome then c else tryAccess m b.1 domain a c
      | none => c) c

/-! ## Results (R164 to R166, R174) -/

/-- A result is counted (R164, R174, Table 8). -/
def countElem (m : Fin 16) (k status : Nat) (c : Ctl) : Ctl :=
  if status = 0 then modMover m (fun v => { v with countA := v.countA + 1 }) c
  else
    let low : Mover → Option (Nat × Nat) := fun v => match v.lowFail with | some (j, st) => if k < j then some (k, status) else some (j, st) | none => some (k, status)
    bump (mIdx m 1) (modMover m (fun v => { v with countB := v.countB + 1, lowFail := low v }) c)

/-- One granule of a VERIFY is counted, and an abnormal one takes a report entry (R166, Table 8). Kind 6 is a granule both
corrected and divergent: both are counted, and its one entry is that of the divergence. -/
def countVerify (m : Fin 16) (k status kind addr : Nat) (c : Ctl) : Ctl :=
  let v := c.movers[m]
  let low := match v.lowFail with | some (j, st) => if k < j then some (k, status) else some (j, st) | none => some (k, status)
  if 2 ≤ status then bump (mIdx m 1) (modMover m (fun v => { v with lowFail := low }) c)
  else
    let kind := if status = 1 && kind = 0 then 3 else kind
    let entry := if kind = 6 then 4 else kind
    let c := if status = 1 then bump (mIdx m 1) c else c
    let c := modMover m (fun v => { v with
      countA := v.countA + b2n (kind = 1 || kind = 5 || kind = 6), countB := v.countB + b2n (kind = 2 || kind = 3), countC := v.countC + b2n (kind = 4 || kind = 6) }) c
    if kind = 0 || descB v.desc = 0 || descMode v.desc % 65536 ≤ v.reports then c
    else modMover m (fun v => { v with reports := v.reports + 1, reportsDue := v.reportsDue ++ [(v.reports, addr / 32 * 32 + entry)] }) c

/-- The write of one entry of the report list (R166). -/
def reportAccess (d : BitVec 512) (r : Nat × Nat) : Access :=
  let a := descB d + 8 * r.1
  { op := .masked (BitVec.ofNat 32 (0xFF * 2 ^ (a % 32))), opcode := 0x1C, addr := a / 32 * 32, count := 1, data := r.2 * 2 ^ (8 * (a % 32)) }

/-- Report entries are written in order while they can: at most `n`. -/
def pumpReports (m : Fin 16) (domain : Nat) : Nat → Ctl → Ctl
  | 0, c => c
  | n + 1, c =>
    let v := c.movers[m]
    match v.reportsDue with
    | [] => c
    | r :: t =>
      if v.stalled then c
      else if !accessRoom c m (reportElem r.1) domain (reportAccess v.desc r) then stallMover m (reportElem r.1) 1 c
      else pumpReports m domain n (addAccess m (reportElem r.1) domain (reportAccess v.desc r) (modMover m (fun v => { v with reportsDue := t }) c))

/-! ## GATHER's destinations (R165, R167) -/

/-- The result of an element that waits for its destination. -/
def resultOf (v : Mover) (k : Nat) : Option (Nat × Nat × Nat × Bool) := v.results.find? fun r => r.1 = k

/-- One past the last element of this run. -/
def runLimit (v : Mover) : Nat := if v.stop.isSome then v.nextElem else descCount v.desc

/-- The bytes of the packed side that unit `d` of this run covers, as offsets from element 0: destination granules to stack
memory, packets of 256 bytes to a stream. The offsets are clipped to the run. -/
def unitSpan (v : Mover) (start d : Nat) : Nat × Nat :=
  let es := elemSize v.desc
  let first := start * es
  let last := runLimit v * es
  if descStream v.desc then (first + 256 * d, Nat.min last (first + 256 * d + 256))
  else
    let g := (descC v.desc + first) / 32 + d
    (Nat.max first (32 * g - descC v.desc), Nat.min last (32 * g + 32 - descC v.desc))

/-- How many units this run has. -/
def unitCount (v : Mover) (start : Nat) : Nat :=
  let es := elemSize v.desc
  if runLimit v ≤ start then 0
  else if descStream v.desc then ((runLimit v - start) * es + 255) / 256
  else (descC v.desc + runLimit v * es + 31) / 32 - (descC v.desc + start * es) / 32

/-- The elements that overlap a span of packed bytes. -/
def spanElems (v : Mover) (span : Nat × Nat) : List Nat :=
  let es := elemSize v.desc
  (List.range ((span.2 + es - 1) / es - span.1 / es)).map fun i => span.1 / es + i

/-- Whether every element of a span has its result. -/
def spanReady (v : Mover) (span : Nat × Nat) : Bool := (spanElems v span).all fun k => (resultOf v k).isSome

/-- Results of a span with a changed status. -/
def markResults (v : Mover) (ks : List Nat) (f : Nat → Nat) : List (Nat × Nat × Nat × Bool) :=
  v.results.map fun r => if ks.contains r.1 then (r.1, f r.2.1, r.2.2) else r

/-- Elements wholly behind an offset are counted and leave the results. -/
def settleResults (m : Fin 16) (upTo : Nat) (c : Ctl) : Ctl :=
  let v := c.movers[m]
  let es := elemSize v.desc
  let past := v.results.filter fun r => (r.1 + 1) * es ≤ upTo
  let c := modMover m (fun v => { v with results := v.results.filter fun r => upTo < (r.1 + 1) * es }) c
  forEach past (fun r c => countElem m r.1 r.2.1 c) c

/-- A destination granule has been written, or left alone, with a status: its good elements take a failing one. -/
def unitDone (m : Fin 16) (span : Nat × Nat) (status : Nat) (c : Ctl) : Ctl :=
  let c := modMover m (fun v => { v with
    results := markResults v (spanElems v span) (fun s => if s = 0 then status else s), streamSent := v.streamSent + 1
    destRetries := 0, destWaits := false }) c
  settleResults m span.2 c

/-- The byte at an offset of the packed side, when its element is good. -/
def packedByte (v : Mover) (o : Nat) : Option Nat :=
  match resultOf v (o / elemSize v.desc) with
  | some (_, 0, d, _) => some (bitsOf d (8 * (o % elemSize v.desc)) 8)
  | _ => none

/-- What is written to a destination granule of a GATHER (R165): poison, the whole granule, its good bytes, or nothing. -/
def destAccess (v : Mover) (span : Nat × Nat) : Option Access :=
  let lo := (descC v.desc + span.1) / 32 * 32
  let whole := span.2 - span.1 = 32
  let at_ := fun (i : Nat) =>
    let a := lo + i
    if descC v.desc + span.1 ≤ a && a < descC v.desc + span.2 then packedByte v (a - descC v.desc) else none
  let bytes := (List.range 32).map at_
  let data := packBits 8 (bytes.map fun b => b.getD 0)
  if whole && (spanElems v span).any fun k => match resultOf v k with | some r => r.2.2.2 | none => false then
    some { op := .write, opcode := 0x18, addr := lo, count := 1, data := 0, poison := true }
  else if bytes.all (·.isSome) then some { op := .write, opcode := 0x18, addr := lo, count := 1, data := data }
  else if bytes.all (·.isNone) then none
  else some { op := .masked (BitVec.ofNat 32 (packBits 1 (bytes.map fun b => b2n b.isSome))), opcode := 0x1C, addr := lo, count := 1, data := data }

/-- Destination granules of a GATHER to stack memory, in order: one write in flight at a time; at most `n` that need no
write are passed. -/
def pumpDest (m : Fin 16) (q : Nat) : Nat → Ctl → Ctl
  | 0, c => c
  | n + 1, c =>
    let v := c.movers[m]
    let x := queueGet c q
    let span := unitSpan v x.resume v.streamSent
    if v.stalled || v.destWaits || unitCount v x.resume ≤ v.streamSent || !spanReady v span || (accessOf c m (destElem v.streamSent)).isSome then c
    else
      match destAccess v span with
      | none => pumpDest m q n (unitDone m span 0 c)
      | some a =>
        if !accessRoom c m (destElem v.streamSent) x.domain a then stallMover m (destElem v.streamSent) 1 c
        else
          let c := if a.poison then modMover m (fun v => { v with results := markResults v (spanElems v span) (fun s => if s = 0 then 1 else s) }) c else c
          addAccess m (destElem v.streamSent) x.domain a c

/-- A value that the stack packs for a stream element that failed without poison: the spec gives none (log 4). -/
def streamByte (draw : Nat) (v : Mover) (o : Nat) : Nat :=
  match resultOf v (o / elemSize v.desc) with
  | some (_, 0, d, _) => bitsOf d (8 * (o % elemSize v.desc)) 8
  | _ => Config.freeNat (draw + o) % 256

/-- One stream packet (R167): granules that hold a poisoned element are zero and marked. -/
def streamPacket (draw : Nat) (v : Mover) (span : Nat × Nat) : OutPkt × Nat :=
  let n := span.2 - span.1
  let poisonAt := fun (i : Nat) => (spanElems v (span.1 + 32 * i, Nat.min span.2 (span.1 + 32 * i + 32))).any fun k => match resultOf v k with | some r => r.2.1 = 1 | none => false
  let marks := (List.range ((n + 31) / 32)).map poisonAt
  let bytes := (List.range n).map fun o => if poisonAt (o / 32) then 0 else streamByte draw v (span.1 + o)
  let mask := packBits 1 (marks.map b2n)
  ({ opcode := 0x80, tag := streamTag v.desc, status := if mask = 0 then 0 else 1, info := BitVec.ofNat 32 mask, addr := span.1 % 2 ^ 37
     data := slotsOf ((n + 15) / 16) (packBits 8 bytes), trk := none }, marks.countP (· = true))

/-- The elements of a packet after it has been formed: those in a marked granule count as POISONED (R165). -/
def streamMarked (v : Mover) (span : Nat × Nat) : List Nat :=
  (spanElems v span).filter fun k =>
    let i := (k * elemSize v.desc - span.1) / 32
    let j := ((k + 1) * elemSize v.desc - span.1 - 1) / 32
    (List.range (j + 1 - i)).any fun t =>
      (spanElems v (span.1 + 32 * (i + t), Nat.min span.2 (span.1 + 32 * (i + t) + 32))).any fun y => match resultOf v y with | some r => r.2.1 = 1 | none => false

/-- Stream packets enter STREAM_PORT's response buffer of 4,096 slots in order while it has room for them (R94, R168): at most
`n`. -/
def pumpStream (m : Fin 16) (q : Nat) : Nat → Ctl → Ctl
  | 0, c => c
  | n + 1, c =>
    let v := c.movers[m]
    let start := (queueGet c q).resume
    let span := unitSpan v start v.streamSent
    let p := streamPort v.desc
    let used := (c.ports[p].respQ.map fun k => k.data.length + 1).sum
    if v.streamLost || v.stop.isSome || unitCount v start ≤ v.streamSent || !spanReady v span then c
    else
      let k := streamPacket c.draws v span
      if 4096 < used + 1 + k.1.data.length then c
      else
        let marked := streamMarked v span
        let c : Ctl := { c with draws := c.draws + 2 ^ 40 }
        let c := bumpBy (mIdx m 2) k.2 (modMover m (fun v => { v with results := markResults v marked (fun s => if s = 0 then 1 else s), streamSent := v.streamSent + 1 }) c)
        pumpStream m q n (pushResp p k.1 (settleResults m span.2 c))

/-- A running descriptor goes on: what has returned is passed on, elements begun and new ones are issued, their index and packed
bytes are read ahead, and reports and destinations are written. -/
def pumpDesc (m : Fin 16) (q : Nat) (c : Ctl) : Ctl :=
  let v := c.movers[m]
  let d := v.desc
  let domain := (queueGet c q).domain
  let n := v.results.length + 1
  let c := if descStream d then pumpStream m q n c else c
  let c := issueElems m domain 512 (issueParts m domain 512 c)
  let c := pumpReports m domain c.movers[m].reportsDue.length (readAhead m domain c)
  if descOpcode d = 3 && !descStream d then pumpDest m q n c else c

/-- The mover issues what it can, in order; what it cannot holds the rest back (R92). -/
def moverPump (m : Fin 16) (c : Ctl) : Ctl :=
  match c.movers[m].curQueue with
  | none => c
  | some q =>
    let c := modMover m (fun v => { v with stalled := false }) c
    let c := if c.movers[m].phase = .running then pumpDesc m q c else issueRun m q c
    modMover m (fun v => { v with allocSince := if v.stalled then v.allocSince else none }) c

/-! ## Leaving a queue (R154, R170, R173) -/

/-- The queue leaves its mover in a state; a parked QUEUE_DISABLE replies (R155). -/
def leaveQueue (m : Fin 16) (q : Nat) (x : Queue) (c : Ctl) : Ctl :=
  let v := c.movers[m]
  let c := modMover m (fun v => { v with
    curQueue := none, phase := .free, inflight := [], stop := none, stopReply := none, results := [], streamLost := false, blocks := []
    reportsDue := [], stalled := false, allocSince := none }) c
  let c := setQueue q x c
  match v.stopReply with
  | some r => replyParked r 0 [] c
  | none => c

/-- A queue leaves its mover as the stop asked for says (Table 13). -/
def leaveStopped (m : Fin 16) (q : Nat) (x : Queue) (c : Ctl) : Ctl :=
  match c.movers[m].stop with
  | some (st, db) => leaveQueue m q { x with state := st, dbPending := x.dbPending || db } c
  | none => c

/-- park (R171): a doorbell that came first is consumed and the queue goes on. -/
def parkQueue (m : Fin 16) (q : Nat) (c : Ctl) : Ctl :=
  let x := queueGet c q
  if x.dbPending then moverPump m (setQueue q { x with dbPending := false, ringWait := false } c)
  else leaveQueue m q { x with state := 3 } (if x.ringWait then bump (rIdx (queueRegion q) 5) c else c)

/-- A slot check or record write failed (R175). -/
def ringFailed (m : Fin 16) (q status cause tag : Nat) (x : Queue) (c : Ctl) : Ctl :=
  let c := queuePut q x c
  let c := queueNotify q 0 status cause true tag 0 (raiseEvent 0x29 9 q 0 (bump (rIdx (queueRegion q) 6) c))
  leaveQueue m q { queueGet c q with state := 0 } c

/-- What the mover does next in its queue's loop (R171). -/
def nextPhase (x : Queue) : MoverPhase := if x.headDone then .tail else if x.slotFree then .fetch else .slot

/-- The loop goes on with its next access, unless a stop is asked for. -/
def loopOn (m : Fin 16) (q : Nat) (x : Queue) (c : Ctl) : Ctl :=
  let c := queuePut q x (modMover m (fun v => { v with phase := nextPhase x, denied := false }) c)
  if c.movers[m].stop.isSome then leaveStopped m q x c else moverPump m c

/-! ## The end of a descriptor (R171, R175, R176) -/

/-- The queue after a descriptor that is not stopped has ended (R171): HEAD_DONE, DESC_COMPLETED, then NEXT, YIELD or the
loop. -/
def descDone (m : Fin 16) (q : Nat) (c : Ctl) : Ctl :=
  let d := c.movers[m].desc
  let x := queueGet c q
  let x := { x with headDone := true, descCompleted := (x.descCompleted + 1) % 2 ^ 32 }
  let x := if descEnd d then x else { x with head := descNext d, headDone := false, resume := 0 }
  let c := bump (mIdx m 3) c
  if descYield d && c.movers[m].stop.isNone then leaveQueue m q { x with state := 1, dbPending := true } c else loopOn m q x c

/-- A descriptor ends with a cause and status: its record is written when one is due, which an access that failed asks for too
(R171). -/
def finishDesc (m : Fin 16) (cause status : Nat) (c : Ctl) : Ctl :=
  let v := c.movers[m]
  match v.curQueue with
  | none => c
  | some q =>
    let failed := v.countB ≠ 0 || v.lowFail.isSome || v.bulkFailed
    if descComplete v.desc || cause ≠ 0 || failed then moverPump m (modMover m (fun v => { v with phase := .record cause status, blocks := [] }) c)
    else descDone m q c

/-- Whether NOTIFY_MODE asks for a NOTIFY of a record (R153). -/
def notifyDue (x : Queue) (cause status : Nat) : Bool := x.notifyMode = 2 || (x.notifyMode = 1 && (status ≠ 0 || cause ≠ 0))

/-- The record's write has ended (R175). -/
def recordWrite (m : Fin 16) (c : Ctl) : Ctl :=
  let v := c.movers[m]
  match v.curQueue, v.phase, accessOf c m recordElem with
  | some q, .record cause status, some t =>
    if !(t.grans.all fun g => g.phase = .done) then c
    else
      let c := dropAccess t.id c
      let x := queueGet c q
      let tag := if cause = 2 then 0 else descTag v.desc
      if statusOfGrans t.grans = 0 then
        let x := { x with ringProduced := (x.ringProduced + 1) % 2 ^ 32, slotFree := false }
        let c := bump (mIdx m 4) (queuePut q x c)
        let c := if notifyDue x cause status then queueNotify q 0 status cause false tag 0 c else c
        if cause = 2 then leaveQueue m q { x with state := 0 } (bump (rIdx (queueRegion q) 6) c)
        else if cause = 3 then leaveStopped m q x c
        else descDone m q c
      else
        let x := if cause = 2 || cause = 3 then x else { x with headDone := true, descCompleted := (x.descCompleted + 1) % 2 ^ 32 }
        let c := if cause = 2 || cause = 3 then c else bump (mIdx m 3) c
        ringFailed m q status cause tag x c
  | some _, .record _ _, none => moverPump m c
  | _, _, _ => c

def execRecordWrite (m : Fin 16) (s : State) : Host.Outcome State Fault Refusal := onCtl (recordWrite m) s

/-! ## ELEMENT_RESULT and ELEMENT_RETRY (R164) -/

def dropElem (m : Fin 16) (k : Nat) : Ctl → Ctl := modMover m fun v => { v with inflight := v.inflight.filter fun e => e.k ≠ k }

/-- An element has ended with a status, after its last access or without one: it is counted, or waits for its destination. -/
def elemDone (m : Fin 16) (e : Elem) (status : Nat) (c : Ctl) : Ctl :=
  let v := c.movers[m]
  let op := descOpcode v.desc
  if op = 3 then
    let lo := if elemGrans v.desc = 1 then 8 * (e.addr % 32) else 0
    let data := bitsOf (gransData e.got) lo (8 * elemSize v.desc)
    modMover m (fun v => { v with results := v.results ++ [(e.k, status, data, !e.got.isEmpty && status = 1)] }) (dropElem m e.k c)
  else if op = 6 then countVerify m e.k status ((e.got.headD { g := 0 }).kind) e.addr (dropElem m e.k c)
  else
    let status := if status = 0 && (e.packedPoison || e.got.any fun g => g.kind = 3) then 1 else status
    let stored := e.got.countP fun g => g.kind = 3 && g.status = 0
    countElem m e.k status (bumpBy (mIdx m 2) stored (dropElem m e.k c))

/-- A status that is tried again (R164): RETRY_LATER, unless it was the sixteenth retry or a stop has come. -/
def triedAgain (v : Mover) (status retries : Nat) : Bool := status = 4 && retries < 16 && v.stop.isNone

/-- What an element's access returned is judged (R164, R165): the rest of the element, another try, a COPY's write, or the
element's end. -/
def elemBack (m : Fin 16) (e : Elem) (gs : List Gran) (c : Ctl) : Ctl :=
  let v := c.movers[m]
  let e := { e with got := e.got ++ gs, trk := none }
  let put := fun (y : Elem) => modElem m e.k (fun _ => y) c
  if e.got.length < (elemAccess v.desc e).count then put e
  else
    let st := statusOfGrans e.got
    if triedAgain v st e.retries then put { e with waiting := true, got := [] }
    else if descOpcode v.desc = 1 && !e.writing && st ≤ 1 then
      put { e with writing := true, packed := gransData e.got, packedPoison := st = 1, got := [] }
    else elemDone m e st c

/-- A destination write has ended (R164, R165). -/
def destBack (m : Fin 16) (q : Nat) (t : Trk) (c : Ctl) : Ctl :=
  let v := c.movers[m]
  let st := statusOfGrans t.grans
  if triedAgain v st v.destRetries then modMover m (fun v => { v with destWaits := true }) c
  else
    unitDone m (unitSpan v (queueGet c q).resume v.streamSent) st
      (bumpBy (mIdx m 2) (t.grans.countP fun g => g.kind = 3 && g.status = 0) c)

/-- An access of a running descriptor has ended: its result reaches the mover. -/
def accessBack (m : Fin 16) (q elem : Nat) (t : Trk) (c : Ctl) : Ctl :=
  let c := dropAccess t.id c
  if elem < 2 ^ 32 then
    match c.movers[m].inflight.find? fun e => e.k = elem with
    | some e => elemBack m e t.grans c
    | none => c
  else if elem < 2 ^ 33 then destBack m q t c
  else if elem < 2 ^ 34 then modMover m (fun v => { v with bulkFailed := v.bulkFailed || statusOfGrans t.grans ≠ 0 }) c
  else modMover m (fun v => { v with blocks := v.blocks ++ [(elem, t.grans)] }) c

/-- An access returns its status to the mover (R164); an element that ended without one is counted. `ecc` is what the check bits of
the entry that the mover's next translation reads will show (R99). -/
def elementResult (m : Fin 16) (elem ecc : Nat) (c : Ctl) : Ctl :=
  let v := c.movers[m]
  match v.curQueue with
  | none => c
  | some q =>
    let c := if ecc = 0 then c else modMover m (fun v => { v with entryEcc := ecc % 4 }) c
    let run : Bool := recordElem ≤ elem && elem < indexElem 0
    if v.phase ≠ .running || run then c
    else match endedAccess c m elem, v.inflight.find? fun e => e.k = elem with
      | some t, _ => moverPump m (accessBack m q elem t c)
      | none, some { ended := some st, .. } => moverPump m (elemDone m { k := elem, ended := some st } st c)
      | none, _ => c

def execElementResult (m : Fin 16) (r : ElemReturn) (s : State) : Host.Outcome State Fault Refusal := onCtl (elementResult m r.elem r.ecc) s

/-- What got RETRY_LATER is issued again (R164); at a stop it ends RETRY_LATER (R173). -/
def elementRetry (m : Fin 16) (elem : Nat) (c : Ctl) : Ctl :=
  let v := c.movers[m]
  match v.curQueue, v.inflight.find? fun e => e.k = elem && e.waiting with
  | some _, some e =>
    let c := if v.stop.isSome then elemDone m e 4 c
      else modElem m elem (fun y => { y with waiting := false, retries := y.retries + 1 }) c
    moverPump m c
  | some q, none =>
    if v.destWaits && elem = destElem v.streamSent then
      let c := if v.stop.isSome then unitDone m (unitSpan v (queueGet c q).resume v.streamSent) 4 c
        else modMover m (fun v => { v with destWaits := false, destRetries := v.destRetries + 1 }) c
      moverPump m c
    else c
  | none, _ => c

def execElementRetry (m : Fin 16) (elem : Nat) (s : State) : Host.Outcome State Fault Refusal := onCtl (elementRetry m elem) s

/-! ## DESCRIPTOR_END (R166 to R168, R173, R176) -/

/-- Every shadow write that queue `q` produced, or with `only` those of its running descriptor alone, has been performed at its
secondary (R118, R176): at a mirror, or at one that its host page is leaving. -/
def shadowsDone (c : Ctl) (q : Nat) (only : Bool) : Bool :=
  (c.pm.mirrors.map (·.2) ++ c.pm.leaving).all fun x => x.pending.all fun y =>
    match y.2.2 with
    | some (q', n) => q' ≠ q || (only && n ≠ (queueGet c q).descCompleted)
    | none => true

/-- Every access that the descriptor issued has returned. -/
def accessesBack (c : Ctl) (m : Fin 16) (v : Mover) : Bool :=
  v.inflight.isEmpty && v.reportsDue.isEmpty && !v.destWaits
    && !(c.trk.any fun t => match t.src with | .mover m' _ => m' = m | .port _ => false)

/-- Elements that a lost or stopped stream leaves with their results are counted as they returned (R168, R173, R174). -/
def countRest (m : Fin 16) (c : Ctl) : Ctl :=
  let l := c.movers[m].results
  forEach l (fun r c => countElem m r.1 r.2.1 c) (modMover m (fun v => { v with results := [] }) c)

/-- RESUME of a stopped descriptor: the first element of the first unsent packet of a stream, else the first element not
issued (R173). -/
def stopResume (v : Mover) (start : Nat) : Nat := if descStream v.desc then Nat.min v.nextElem (start + 256 * v.streamSent / elemSize v.desc) else v.nextElem

/-- The running descriptor ends if it can: END_CAUSE by what stopped it (R173, R176). The NOTIFY of a NOTIFY descriptor carries the
RING_PRODUCED before that descriptor's own record, which is written after it: Table 9 of R177 gives the value after a record only
(DESIGN CHOICE, log 83). -/
def descriptorEnd (m : Fin 16) (c : Ctl) : Ctl :=
  let c := if c.movers[m].phase = .running then moverPump m c else c
  let v := c.movers[m]
  match v.curQueue with
  | none => c
  | some q =>
    if v.phase ≠ .running || !accessesBack c m v then c
    else
      let x := queueGet c q
      let op := descOpcode v.desc
      let barrier := descBarrier v.desc && !shadowsDone c q true
      let unsent := descStream v.desc && v.streamSent < unitCount v x.resume
      let undest := op = 3 && !descStream v.desc && v.streamSent < unitCount v x.resume
      if v.streamLost && (unsent || v.nextElem < descCount v.desc) then
        (if barrier then c
         else
           let c := countRest m c
           finishDesc m 4 (recordStatus c.movers[m]) c)
      else if v.stop.isSome then
        (if undest || barrier then c
         else
           let c := countRest m (queuePut q { x with resume := stopResume v x.resume } c)
           finishDesc m 3 (recordStatus c.movers[m]) c)
      else if v.nextElem < descCount v.desc || unsent || undest || barrier || ((op = 7 || op = 8) && !shadowsDone c q false) then c
      else
        let c := if op = 8 then queueNotify q 1 0 0 false (descTag v.desc) (descOperand v.desc % 2 ^ 48) c else c
        finishDesc m 0 (recordStatus v) c

def execDescriptorEnd (m : Fin 16) (s : State) : Host.Outcome State Fault Refusal := onCtl (descriptorEnd m) s

/-! ## run (R170, R171) -/

/-- Whether movers take queues: data-ready, below class 3, and no ZEROIZE (R173, R285, R380). -/
def moversTake (c : Ctl) : Bool := c.power.stage = .ready && !c.life.zeroizing && stackClass c.umpire < 3 && !c.power.ranksAsleep

/-- The ready queue a free mover takes: the highest PRIORITY, then the one ready first (R170). -/
def pickQueue (l : List (Nat × Nat)) : Option Nat :=
  let top := l.foldl (fun n x => Nat.max n x.2) 0
  (l.find? fun x => x.2 = top).map (·.1)

/-- A mover takes a queue and issues the first access of run (R170, R171): `soft` 1 is a parity error in the mover's state, 2 an
uncorrectable context of the queue it would take (R289). -/
def takeQueue (m : Fin 16) (soft : Nat) (c : Ctl) : Ctl :=
  let v := c.movers[m]
  if soft = 1 then raiseEvent 0x4A 8 m.val 0 c
  else
    match v.curQueue, pickQueue c.regions[moverRegion m].ready with
    | none, some q =>
      if !v.enable || !moversTake c then c
      else if soft = 2 then
        let c := raiseEvent 0x4B 9 q 0 c
        setQueue q (queueGet c q) c
      else
        let c := leaveSelfRefresh c
        let x : Queue := { queueGet c q with state := 2, dbPending := false, ringWait := false }
        moverPump m (setQueue q x (modMover m (fun v => { v with curQueue := some q, phase := nextPhase x, denied := false, stop := none, stopReply := none }) c))
    | _, _ => c

def execMoverTakeQueue (m : Fin 16) (soft : Nat) (s : State) : Host.Outcome State Fault Refusal := onCtl (takeQueue m soft) s

/-- A read of run returns to the mover (R171): before it is issued it is tried again, and once it has ended a stop comes first
(Table 13); otherwise `f` goes on with its status and data. -/
def runRead (m : Fin 16) (q elem : Nat) (f : Nat → Nat → Ctl → Ctl) (c : Ctl) : Ctl :=
  let stop := c.movers[m].stop.isSome
  match accessOf c m elem with
  | none => if stop then leaveStopped m q (queueGet c q) c else moverPump m c
  | some t =>
    if !(t.grans.all fun g => g.phase = .done) then c
    else
      let c := dropAccess t.id c
      if stop then leaveStopped m q (queueGet c q) c else f (statusOfGrans t.grans) (gransData t.grans) c

/-- A fetch or tail check has ended with a failing status: the slot is checked next, when it is not known to be free (R171). -/
def readFailed (m : Fin 16) (st : Nat) (c : Ctl) : Ctl := moverPump m (modMover m (fun v => { v with phase := .fetchFail st }) c)

/-- The tail check (R171): one read of the head descriptor's first granule. -/
def tailCheck (m : Fin 16) (c : Ctl) : Ctl :=
  let v := c.movers[m]
  match v.curQueue with
  | none => c
  | some q =>
    if v.phase ≠ .tail then c
    else
      runRead m q headElem (fun st g c =>
        if st ≠ 0 then readFailed m st c
        else if bitOf g 8 then parkQueue m q c
        else loopOn m q { queueGet c q with head := bitsOf g 70 31, headDone := false, resume := 0 } c) c

def execTailCheck (m : Fin 16) (s : State) : Host.Outcome State Fault Refusal := onCtl (tailCheck m) s

/-- VALID of the record slot at RING_PRODUCED, in the granule that holds it. -/
def slotValid (x : Queue) (g : Nat) : Bool := bitOf g (8 * (slotAddr x % 32))

/-- The slot check of run (R171). A failed one tells of no descriptor, so the NOTIFY carries USER_TAG 0 and END_CAUSE 0 (DESIGN
CHOICE, log 17). -/
def slotCheck (m : Fin 16) (c : Ctl) : Ctl :=
  let v := c.movers[m]
  match v.curQueue with
  | none => c
  | some q =>
    if v.phase ≠ .slot then c
    else
      runRead m q slotElem (fun st g c =>
        let x := queueGet c q
        if st ≠ 0 then ringFailed m q st 0 0 x c
        else if slotValid x g then parkQueue m q (queuePut q { x with ringWait := true } c)
        else loopOn m q { x with slotFree := true } c) c

def execSlotCheck (m : Fin 16) (s : State) : Host.Outcome State Fault Refusal := onCtl (slotCheck m) s

/-- A descriptor starts (R160, R169, R171): it is validated, and its first accesses are issued. A VERIFY that resumes after a stop starts its
report list again at ADDR_B, as the spec does not say where it goes on (DESIGN CHOICE, log 84). -/
def beginDesc (m : Fin 16) (q : Nat) (d : BitVec 512) (c : Ctl) : Ctl :=
  let x := queueGet c q
  let st := descStatus c x.domain d
  let c := modMover m (fun v => { v with
    desc := d, phase := .running, nextElem := x.resume, inflight := [], countA := 0, countB := 0, countC := 0, lowFail := none
    reports := 0, reportsDue := [], bulkFailed := false, denied := false, blocks := [], destRetries := 0, destWaits := false
    results := [], streamSent := 0, streamLost := false }) c
  if st ≠ 0 then finishDesc m 1 st (if st = 2 then deniedQueue m c else c)
  else if descStream d && !linkUp c.ports[streamPort d] then finishDesc m 4 0 c
  else moverPump m c

/-- A fetched descriptor that `want` accepts starts; one it does not accept waits for the command that does. -/
def runDesc (m : Fin 16) (want : Nat → Bool) (c : Ctl) : Ctl :=
  let v := c.movers[m]
  match v.curQueue with
  | none => c
  | some q =>
    if v.phase ≠ .fetch then c
    else match endedAccess c m headElem with
      | some t =>
        if statusOfGrans t.grans ≠ 0 || !want (gransData t.grans % 256) then c
        else runRead m q headElem (fun _ d c => beginDesc m q (BitVec.ofNat 512 d) c) c
      | none => runRead m q headElem (fun _ _ c => c) c

def execCopy (m : Fin 16) (s : State) : Host.Outcome State Fault Refusal := onCtl (runDesc m (fun op => op = 1)) s
def execFill (m : Fin 16) (s : State) : Host.Outcome State Fault Refusal := onCtl (runDesc m (fun op => op = 2)) s
def execGather (m : Fin 16) (s : State) : Host.Outcome State Fault Refusal := onCtl (runDesc m (fun op => op = 3)) s
def execScatter (m : Fin 16) (s : State) : Host.Outcome State Fault Refusal := onCtl (runDesc m (fun op => op = 4)) s
def execScatterUpdate (m : Fin 16) (s : State) : Host.Outcome State Fault Refusal := onCtl (runDesc m (fun op => op = 5)) s
def execVerify (m : Fin 16) (s : State) : Host.Outcome State Fault Refusal := onCtl (runDesc m (fun op => op = 6)) s
def execFenceDescriptor (m : Fin 16) (s : State) : Host.Outcome State Fault Refusal := onCtl (runDesc m (fun op => op = 7)) s
def execNotifyDescriptor (m : Fin 16) (s : State) : Host.Outcome State Fault Refusal := onCtl (runDesc m (fun op => op = 8)) s
def execUnassignedDescriptorOpcode (m : Fin 16) (s : State) : Host.Outcome State Fault Refusal :=
  onCtl (runDesc m (fun op => op = 0 || 8 < op)) s

/-- fetch_failed of run (R171, R175): a record when a slot is free, else the NOTIFY. The slot is checked first when that is not
known. -/
def failFetch (m : Fin 16) (q status : Nat) (c : Ctl) : Ctl :=
  let put := fun (c : Ctl) => moverPump m (modMover m (fun v => { v with phase := .record 2 status }) c)
  if (queueGet c q).slotFree then put c
  else
    match accessOf c m slotElem with
    | none => moverPump m c
    | some t =>
      if !(t.grans.all fun g => g.phase = .done) then c
      else
        let c := dropAccess t.id c
        let x := queueGet c q
        let st := statusOfGrans t.grans
        if st ≠ 0 then ringFailed m q st 2 0 x c
        else if slotValid x (gransData t.grans) then
          leaveQueue m q { x with state := 0 } (queueNotify q 0 status 2 false 0 0 (bump (rIdx (queueRegion q) 6) c))
        else put (queuePut q { x with slotFree := true } c)

/-- A fetch has returned a failing status, or its slot check has ended (R171). -/
def fetchFailed (m : Fin 16) (c : Ctl) : Ctl :=
  let v := c.movers[m]
  match v.curQueue with
  | none => c
  | some q =>
    match v.phase, endedAccess c m headElem with
    | .fetchFail st, _ => failFetch m q st c
    | .fetch, some t =>
      let st := statusOfGrans t.grans
      if st = 0 then c else failFetch m q st (modMover m (fun v => { v with phase := .fetchFail st }) (dropAccess t.id c))
    | _, _ => c

def execFetchFailed (m : Fin 16) (s : State) : Host.Outcome State Fault Refusal := onCtl (fetchFailed m) s

/-! ## TRACKER_ALLOCATE (R92, R93) -/

/-- The request at the head of a port's receive buffer goes on when it can. -/
def serveWaiting (p : Fin 4) (c : Ctl) : Ctl :=
  match c.ports[p].waiting with
  | w :: _ =>
    let r := headReq w c
    modPort p (fun q => { q with waiting := r.1.toList ++ q.waiting.drop 1 }) r.2
  | [] => c

/-- The movers and coordinators in the order in which their first accesses reached allocation, those with none that waits last (R92). -/
def engineOrder (c : Ctl) : List (Nat × (Ctl → Ctl)) :=
  let key : Nat × (Ctl → Ctl) → Nat := fun x => x.1
  let movers := allMovers.map fun m => (c.movers[m].allocSince.getD c.now, moverPump m)
  let coords := allRegions.map fun r => (((issueNext c r).map fun x => x.2.since).getD c.now, issueCoord r)
  (movers ++ coords).foldl (fun l x => insertBy key x l) []

/-- The engines' accesses that wait are issued in order. -/
def serveEngines (c : Ctl) : Ctl := forEach (engineOrder c) (fun x => x.2) c

/-- The granule of a commit record, with the identifier that holds it. -/
def recordKey (c : Ctl) (r : Fin 4) (txn key : Nat) : Option (Txn × Key) :=
  match (c.regions[r].coord.txns.filter fun t => t.phase = .committing)[txn]? with
  | some t => ((t.keys.filter fun k => k.state = .committing)[key]?).map fun k => (t, k)
  | none => none

/-- What an error in a region's fabric loses (R292): a committed granule is stored as poison, and where its address is lost the
channels that its commit record names go out of service at the next warm reset. -/
def loseRecord (l : FabricLoss) (c : Ctl) : Ctl :=
  match l with
  | .noValue => c
  | .record r txn key =>
    (match recordKey c r txn key with
    | some (t, k) => storePoison k.gran (if (pmGet c k.hpn).mirrored then some k.hpn else none) (dropKey k.gran (t.lsid.getD t.id) c)
    | none => c)
  | .noAddress r txn key =>
    match recordKey c r txn key with
    | some (t, k) =>
      forEach t.keys (fun y => modChan (keyChan y.gran) fun x => { x with outAtReset := true }) (dropKey k.gran (t.lsid.getD t.id) c)
    | none => c

/-- FABRIC_INTEGRITY of a region: the values of its commit records reach DRAM before the ranks sleep (R292). -/
def fabricLost (r : Fin 4) (l : FabricLoss) (m : List Host.Cell) (c : Ctl) : List Host.Cell × Ctl :=
  let c' := raiseEvent 0x82 3 r.val 0 (loseRecord l c)
  if c.power.ranksAsleep || c.power.selfRefresh then (m, c')
  else
    let grans := (c.regions[r].coord.txns.flatMap (·.keys)).map fun k => k.gran
    allChans.foldl (fun x ch =>
      let w := x.2.chans[ch].wbuf.filter fun w => grans.contains w.1
      (dramWrites x.1 w, modChan ch (fun y => { y with wbuf := y.wbuf.filter fun w => !grans.contains w.1 }) (bumpBy (cIdx ch 35) (poisonCleared x.1 w) x.2)))
      (m, c')

/-- A tracker entry is there for a holder that waited; `soft` is an uncorrectable error in the fabric of its region (R289). -/
def trackerAllocate (who : Holder) (soft : Option FabricLoss) (m : List Host.Cell) (c : Ctl) : List Host.Cell × Ctl :=
  match soft with
  | some l =>
    fabricLost (match l, who with | .record r _ _, _ | .noAddress r _ _, _ => r | .noValue, .port p => p | .noValue, .engine => 0) l m c
  | none => (m, match who with | .port p => serveWaiting p c | .engine => serveEngines c)

def execTrackerAllocate (who : Holder) (soft : Option FabricLoss) (s : State) : Host.Outcome State Fault Refusal :=
  onBoth (trackerAllocate who soft) s

end Sys2Proof.Machine
end

