-- ==== Sys2Proof/Machine/Refresh.lean ====
section
/-! DEFINITION. Refresh, targeted refresh, the refresh work of changeover windows, soft row repair, command parity and delay taps
(R222 to R238, R267, R314 to R319, R467). -/

namespace Sys2Proof.Machine

open Sys2Proof

/-! ## Refresh (R222 to R228) -/

/-- Whether a slice's layer is powered (R306). -/
def layerOn (c : Ctl) (slice : Nat) : Bool := c.power.layers.toList.getD (sliceLayer slice - 1) 0 = 2

/-- Whether commands are issued to a slice at all: its layer powered, its rank not asleep, the slice not failed (R236). -/
def refreshRuns (c : Ctl) (slice : Nat) : Bool :=
  layerOn c slice && !c.power.ranksAsleep && !c.power.selfRefresh && !c.chans[sliceChan slice].sliceFailed.getLsbD (sliceRank slice)

/-- One tick of a bank (R224). -/
def tickBank (k : Nat) (ch : Chan) : Chan := bankPut k { bankGet ch k with debt := (bankGet ch k).debt + 1 } ch

/-- One unit paid in a bank (R222, R224, R233): the pointer moves four rows, and the row-disturb table clears when it wraps.
The debt never falls below -8. -/
def payBank (k : Nat) (ch : Chan) : Chan :=
  let b := bankGet ch k
  let p := (b.pointer + 4) % 32768
  bankPut k { b with debt := max (-8) (b.debt - 1), pointer := p, disturb := if p = 0 then {} else b.disturb, openRow := none } ch

/-- The highest debt among some banks. -/
def maxDebt (ch : Chan) (ks : List Nat) : Int := ks.foldl (fun n k => max n (bankGet ch k).debt) (-8)

/-- Every bank of a rank has its debt above -8 (R226). -/
def allAbove (ch : Chan) (rank : Nat) : Bool := (rankBanks rank).all fun k => -8 < (bankGet ch k).debt

/-- A bank is blocked until a moment by what runs in it. -/
def blockBank (till k : Nat) (ch : Chan) : Chan := bankPut k { bankGet ch k with busyUntil := till, visitDue := false } ch

/-- The moment at which every one of some banks is free of refresh and targeted refresh. -/
def banksFree (c : Ctl) (ch : Fin 32) (ks : List Nat) : Nat := ks.foldl (fun n k => Nat.max n (bankGet c.chans[ch] k).busyUntil) c.now

/-- A per-bank refresh (REFpb), which blocks its bank for tRFC_PB (R225). -/
def refPb (slice k : Nat) (c : Ctl) : Ctl :=
  let ch := sliceChan slice
  let till := banksFree c ch [k] + 160
  modChan ch (fun x => caIssue (k % 2) (.refresh k) (blockBank till k (payBank k x))) (bump (cIdx ch 1) (addActs slice 1 c))

/-- An all-bank refresh (REFab), which blocks its slice for tRFC_AB, behind what runs there (R226). -/
def refAb (slice : Nat) (c : Ctl) : Ctl :=
  let ch := sliceChan slice
  let ks := rankBanks (sliceRank slice)
  let till := banksFree c ch ks + 350
  modChan ch (fun x => caIssue 0 (.refreshAll (sliceRank slice)) (ks.foldl (fun x k => blockBank till k (payBank k x)) x)) (bump (cIdx ch 0) (addActs slice 32 c))

/-- Whether a bank may be taken for refresh at once: none runs there, and its accepted granules have finished (R225). -/
def bankReady (c : Ctl) (ch : Fin 32) (k : Nat) : Bool := !bankBusy c ch k && (bankGet c.chans[ch] k).busyUntil ≤ c.now

/-! ### Targeted refresh (R231, R232) -/

/-- One targeted refresh of the rows beside row r: it takes the bank for tTRR, and r leaves the pending list (R232). -/
def trrIssue (slice k r : Nat) (must deferred : Bool) (c : Ctl) : Ctl :=
  let ch := sliceChan slice
  let till := banksFree c ch [k] + 100
  let c := bump (cIdx ch 3) (addActs slice 1 c)
  let c := if must then bump (cIdx ch 4) c else c
  let c := if deferred then bump (cIdx ch 5) c else c
  modChan ch (fun x =>
    let b := bankGet x k
    caIssue (k % 2) (.targeted k)
      (bankPut k { b with openRow := none, busyUntil := till, disturb := { b.disturb with pending := b.disturb.pending.filter fun y => y.1 ≠ r } } x)) c

/-- Whether changeover windows open at all (R264, R265). -/
def windowsOpen (c : Ctl) : Bool := c.beat.co.enable && c.power.changeoversRun

/-! ### The refresh work of a changeover window (R226, R232, R267) -/

/-- An item of Table 4 of chapter 10 blocks a bank or slice until a moment (R268). -/
def windowItem (ch : Fin 32) (till : Nat) : Ctl → Ctl := modChan ch fun x => { x with windowBusy := Nat.max x.windowBusy till }

/-- The rows of a bank whose targeted refresh waits for a window: pending at the alert level (R232). -/
def deferredRows (c : Ctl) (ch : Fin 32) (k : Nat) : List Nat :=
  if c.chans[ch].trrDefer then ((bankGet c.chans[ch] k).disturb.pending.filter fun x => !x.2.2).map (·.1) else []

/-- Whether a targeted refresh of a bank still fits into the window: the rows that have no time left stay pending (R267). -/
def trrFits (c : Ctl) (ch : Fin 32) (k : Nat) : Bool := banksFree c ch [k] + 100 ≤ c.chans[ch].windowUntil

/-- The deferred targeted refreshes of a bank, one after another as the window leaves time, once its accepted granules have
finished (item 2 of Table 4 of chapter 10). -/
def windowTrr (slice k : Nat) (c : Ctl) : Ctl :=
  let ch := sliceChan slice
  if bankBusy c ch k then c
  else
    forEach (deferredRows c ch k) (fun r c =>
      if trrFits c ch k then (let c := trrIssue slice k r false true c; windowItem ch (bankGet c.chans[ch] k).busyUntil c) else c) c

/-- Whether a slice is to receive another REFab in the open window (R226): every bank above -8, tRFC_AB of refresh time left. -/
def refAbDue (c : Ctl) (slice : Nat) : Bool :=
  let ch := sliceChan slice
  c.chans[ch].refreshMode && refreshRuns c slice && allAbove c.chans[ch] (sliceRank slice)
    && banksFree c ch (rankBanks (sliceRank slice)) + 350 ≤ c.chans[ch].windowUntil

/-- It follows once the slice's accepted granules have finished. -/
def refAbFits (c : Ctl) (slice : Nat) : Bool :=
  refAbDue c slice && (rankBanks (sliceRank slice)).all fun k => !bankBusy c (sliceChan slice) k

/-- Batched refresh of a slice (R226): at most `n` all-bank refreshes, one after another. -/
def windowRefs (slice : Nat) : Nat → Ctl → Ctl
  | 0, c => c
  | n + 1, c =>
    if refAbFits c slice then
      let c := refAb slice c
      windowRefs slice n (windowItem (sliceChan slice) (banksFree c (sliceChan slice) (rankBanks (sliceRank slice))) c)
    else c

/-- The refresh work of an open window at a channel: for each slice its deferred targeted refreshes, then batched refresh (Table 4 of
chapter 10). A debt runs from -8 to 9, so that 17 REFab are the most that a slice takes at once. -/
def windowWork (ch : Fin 32) (c : Ctl) : Ctl :=
  if !c.chans[ch].windowRuns then c
  else forEach ((chanRanks ch).map (sliceOf ch)) (fun slice c =>
    if refreshRuns c slice then windowRefs slice 17 (forEach (rankBanks (sliceRank slice)) (windowTrr slice) c) else c) c

/-- Whether the open window still has refresh work that fits for a slice (items 2 and 3 of Table 4 of chapter 10). -/
def sliceMore (c : Ctl) (slice : Nat) : Bool :=
  let ch := sliceChan slice
  refreshRuns c slice && (refAbDue c slice || (rankBanks (sliceRank slice)).any fun k => !(deferredRows c ch k).isEmpty && trrFits c ch k)

/-- Whether the open window of a channel still has refresh work to do, or does some (R268). -/
def windowMore (c : Ctl) (ch : Fin 32) : Bool :=
  c.now < c.chans[ch].windowBusy || ((chanRanks ch).map (sliceOf ch)).any (sliceMore c)

/-! ### Ticks and visits -/

/-- A refresh tick of a slice (R224, R467); inside a window it counts at once (R226). -/
def refreshTick (slice : Nat) (c : Ctl) : Ctl :=
  if refreshRuns c slice then
    let ch := sliceChan slice
    let ks := rankBanks (sliceRank slice)
    let c := modChan ch (fun x => ks.foldl (fun x k => tickBank k x) x) c
    windowWork ch (bumpMax (cIdx ch 59) (maxDebt c.chans[ch] ks).toNat c)
  else c

def execRefreshTick (slice : Fin 136) (s : State) : Host.Outcome State Fault Refusal := onCtl (refreshTick slice.val) s

/-- A visited bank gets its REFpb once its accepted granules have finished (R225). -/
def visitBank (slice k : Nat) (c : Ctl) : Ctl :=
  let ch := sliceChan slice
  if bankReady c ch k then refPb slice k c else modChan ch (fun x => bankPut k { bankGet x k with visitDue := true } x) c

/-- The REFpb of every bank of a channel that a visit has blocked, once it can be issued. -/
def visitsDue (ch : Fin 32) (c : Ctl) : Ctl :=
  forEach ((c.chans[ch].banks.filter fun b => b.2.visitDue).map (·.1)) (fun k c =>
    if refreshRuns c (sliceOf ch (k / 32)) && bankReady c ch k then refPb (sliceOf ch (k / 32)) k c else c) c

/-- A visit of the rotation (R225, R467): under SPREAD refresh the bank whose turn it is gets one REFpb unless its debt is -8. Under
CHANGEOVER refresh the rotation goes on without refreshes, so that its position 0 still meets a tick. -/
def spreadVisit (slice : Nat) (c : Ctl) : Ctl :=
  let ch := sliceChan slice
  let rank := sliceRank slice
  let c := visitsDue ch c
  if refreshRuns c slice then
    let pos := c.chans[ch].rotation.toList.getD rank 0
    let k := rank * 32 + pos
    let c := if !c.chans[ch].refreshMode && -8 < (bankGet c.chans[ch] k).debt then visitBank slice k c else c
    modChan ch (fun x => { x with rotation := x.rotation.set! rank ((pos + 1) % 32) }) c
  else c

def execSpreadVisit (slice : Fin 136) (s : State) : Host.Outcome State Fault Refusal := onCtl (spreadVisit slice.val) s

/-- The deadline guard (R227): a bank whose debt has reached 8 gets a REFpb, or its slice a REFab under CHANGEOVER refresh, after
a targeted refresh that is due in what it blocks, once the accepted granules of what it blocks have finished. -/
def deadlineGuard (slice bank : Nat) (c : Ctl) : Ctl :=
  let ch := sliceChan slice
  let k := sliceRank slice * 32 + bank
  let ks := if c.chans[ch].refreshMode then rankBanks (sliceRank slice) else [k]
  if refreshRuns c slice && 8 ≤ (bankGet c.chans[ch] k).debt && !(ks.any (mustDue c.chans[ch])) && ks.all (bankReady c ch) then
    let c := bump (cIdx ch 2) (if c.chans[ch].refreshMode then refAb slice c else refPb slice k c)
    modChan ch (fun x => ks.foldl (fun x k => bankPut k { bankGet x k with guardEnd := (bankGet x k).busyUntil } x) x) c
  else c

def execDeadlineGuard (slice : Fin 136) (bank : Fin 32) (s : State) : Host.Outcome State Fault Refusal :=
  onCtl (deadlineGuard slice.val bank.val) s

/-- A targeted refresh of a pending row, once its bank has no accepted granule and no refresh runs there (R231, R232): a row due at
the must level, which blocks its bank, or any when none is deferred to a window. -/
def targetedRefresh (slice bank row : Nat) (c : Ctl) : Ctl :=
  let ch := sliceChan slice
  let k := sliceRank slice * 32 + bank
  if !refreshRuns c slice then c
  else match (bankGet c.chans[ch] k).disturb.pending.find? fun x => x.1 = row with
    | none => c
    | some x =>
      if !bankReady c ch k then c
      else if x.2.2 then trrIssue slice k row true false c
      else if !(c.chans[ch].trrDefer && windowsOpen c) then trrIssue slice k row false false c
      else c

def execTargetedRefresh (slice : Fin 136) (bank : Fin 32) (row : Nat) (s : State) : Host.Outcome State Fault Refusal :=
  onCtl (targetedRefresh slice.val bank.val row) s

/-! ## Command-bus parity (R235, R236, R289) -/

/-- The stored writes and atomic-unit values of a slice are discarded once it is marked failed (R236): a value that the atomic unit
still waits for is found uncorrectable. -/
def failSlice (ch : Fin 32) (rank : Nat) : Ctl → Ctl :=
  modChan ch fun x => { x with
    sliceFailed := x.sliceFailed ||| BitVec.ofNat 5 (2 ^ rank)
    wbuf := x.wbuf.filter fun w => keyRank w.1 ≠ rank
    au := x.au.filter fun e => keyRank e.gran ≠ rank || e.value.isNone }

/-- The operations whose commands were at or after the failed one, in their original order (R236): a layer returns the failed command's
sequence number, of 4 bits, on its pseudo-channel (R235). -/
def caFrom (x : Chan) (pc : Nat) (seq : BitVec 4) : List CaOp :=
  let back := (x.caSeq.toList.getD pc 0 - seq).toNat
  let mine := x.caIssued.countP fun y => y.1 = pc
  let skip : Nat → List (Nat × CaOp) → List (Nat × CaOp) := fun n l => l.drop (((l.zipIdx.filter fun y => y.1.1 = pc).map (·.2)).getD n l.length)
  (skip (mine - (if back = 0 then 16 else back)) x.caIssued).map (·.2)

/-- The rank of the slice that an operation's commands went to. -/
def caRank : CaOp → Nat
  | .access k => keyRank k
  | .refresh b | .targeted b => b / 32
  | .refreshAll r => r

/-- One operation runs again (R236): an access from its activate, a refresh with its time. What a refresh pays was paid when it was
first issued. -/
def caAgain (ch : Fin 32) (o : CaOp) (c : Ctl) : Ctl :=
  match o with
  | .access key => activate key c
  | .refresh k =>
    let till := banksFree c ch [k] + 160
    modChan ch (fun x => caIssue (k % 2) o (bankPut k { bankGet x k with busyUntil := till } x)) (bump (cIdx ch 1) (addActs (sliceOf ch (k / 32)) 1 c))
  | .refreshAll r =>
    let till := banksFree c ch (rankBanks r) + 350
    modChan ch (fun x => caIssue 0 o ((rankBanks r).foldl (fun x k => bankPut k { bankGet x k with busyUntil := till } x) x))
      (bump (cIdx ch 0) (addActs (sliceOf ch r) 32 c))
  | .targeted k =>
    let till := banksFree c ch [k] + 100
    modChan ch (fun x => caIssue (k % 2) o (bankPut k { bankGet x k with busyUntil := till } x)) (bump (cIdx ch 3) (addActs (sliceOf ch (k / 32)) 1 c))

/-- The layer of a slice ignores its commands, or takes them again after ERR_CLEAR (R235). -/
def caIgnore (ch : Fin 32) (rank : Nat) (v : Option (BitVec 4)) : Ctl → Ctl := modChan ch fun x => { x with caIgnores := x.caIgnores.set! rank v }

/-- After ERR_CLEAR every bank of the slice is precharged, and every operation whose commands were at or after the failed one runs
again, refreshes included (R236). What a layer ignored of a write or of a value of the atomic unit is written again from where the
controller holds it, so that DRAM is what the write left. -/
def rerunSlice (ch : Fin 32) (rank pc : Nat) (seq : BitVec 4) (c : Ctl) : Ctl :=
  let ops := (caFrom c.chans[ch] pc seq).filter fun o => caRank o = rank
  let c := caIgnore ch rank none c
  let c := modChan ch (fun x => (rankBanks rank).foldl (fun x k => bankPut k { bankGet x k with openRow := none } x) x) c
  forEach ops (caAgain ch) c

/-- A layer returns a command parity error (R235, R236): it ignores the failed command and every later one to the slice until
ERR_CLEAR, and the controller runs them again, so that no request sees a changed outcome. The error is counted and reported. The third
repeat of a command marks the slice failed, which then receives no ERR_CLEAR, and parity errors on two slices within 1 ms fail the
channel's command bus (R289). -/
def caParityError (ch : Fin 32) (rank : Nat) (f : CaFailure) (c : Ctl) : Ctl :=
  if !(chanRanks ch).contains rank || c.chans[ch].sliceFailed.getLsbD rank then c
  else
    let slice := sliceOf ch rank
    let n := if f.repeated then c.chans[ch].caRepeats.toList.getD rank 0 + 1 else 0
    let recent := c.chans[ch].caRecent.filter fun x => c.now < x.2 + 1000000
    let c := caIgnore ch rank (some f.seq) (bump (cIdx ch 26) c)
    let c := modChan ch (fun x => { x with caRepeats := x.caRepeats.set! rank n, caRecent := recent.filter (fun y => y.1 ≠ rank) ++ [(rank, c.now)] }) c
    let c := if n = 3 then raiseEvent 0x42 6 slice 0 (failSlice ch rank c)
      else raiseEvent 0x41 6 slice 0 (rerunSlice ch rank f.pc.val f.seq c)
    if recent.any fun x => x.1 ≠ rank then raiseEvent 0x43 4 ch.val 0 c else c

def execCaParityError (c : Fin 32) (rank : Fin 5) (failed : CaFailure) (s : State) : Host.Outcome State Fault Refusal :=
  onCtl (caParityError c rank.val failed) s

/-! ## Soft row repair (R234) -/

/-- The granules of a row of a bank, in column order (R22). -/
def rowGrans (slice pc bank row : Nat) : List Nat :=
  (List.range 32).map fun i => granKey (slice * 16384 + row / 2) (pc + 2 * bank + 32 * i + 1024 * (row % 2))

/-- A read of the soft row repair returns (R234): the granule through the decoder, as poison where it is uncorrectable. -/
def repairReturn (ch : Fin 32) (m : List Host.Cell) (key : Nat) (c : Ctl) : Ctl :=
  let d := granDecode (dramRead m key)
  let c := reportCorrected key d.ce1 d.ce2 c
  let r : BitVec 320 × Ctl :=
    if d.poisoned then (granPoison, c)
    else if d.uncorrectable then (granPoison, reportUe false none key d.word 3 0 (bump (cIdx ch 33) c))
    else (granEncode d.data, c)
  modChan ch (fun x => { x with srrBuf := x.srrBuf ++ [r.1] }) r.2

/-- The reads of the soft row repair that a channel has accepted return. -/
def repairReturns (ch : Fin 32) (m : List Host.Cell) (c : Ctl) : Ctl :=
  forEach c.chans[ch].srrOut (repairReturn ch m) (modChan ch (fun x => { x with srrOut := [] }) c)

/-- Firmware starts the next repair that waits. -/
def nextSrr (ch : Fin 32) (c : Ctl) : Ctl :=
  match c.chans[ch].srrWaits with
  | [] => c
  | k :: t => requestSrr k (modChan ch (fun x => { x with srrWaits := t }) c)

/-- Whether a repair can end: its 64 accesses have been accepted and its writes have left the write buffer, its slice takes no commands
any more (R236), or its bank has no spare row left (R234). -/
def srrReady (x : Chan) : Bool :=
  x.srrStatus = 1 && ((64 ≤ x.srrAccesses && !(x.wbuf.any fun w => rowInRepair x w.1)) || x.sliceFailed.getLsbD x.srrRank || 2 ≤ (bankGet x (x.srrRank * 32 + x.srrBank * 2 + x.srrPc)).repaired.length)

/-- The repair ends: the row is redirected to a spare row of its bank, or there is none (R234, R283). -/
def softRowRepairDone (ch : Fin 32) (c : Ctl) : Ctl :=
  let x := c.chans[ch]
  let slice := sliceOf ch x.srrRank
  let k := x.srrRank * 32 + x.srrBank * 2 + x.srrPc
  if !srrReady x then c
  else if 2 ≤ (bankGet x k).repaired.length then
    nextSrr ch (raiseEvent 0x03 6 slice 0 (modChan ch (fun x => { x with srrStatus := 3 }) c))
  else
    let rk := x.srrRank * 1048576 + x.srrPc * 524288 + x.srrBank * 32768 + x.srrRow
    nextSrr ch (raiseEvent 0x02 6 slice 0 (modChan ch (fun x =>
      bankPut k { bankGet x k with repaired := (bankGet x k).repaired ++ [x.srrRow], openRow := none }
        { x with srrStatus := 2, rowErrs := rowErrDrop (fun r => r = rk) x.rowErrs }) c))

def execSoftRowRepairDone (c : Fin 32) (s : State) : Host.Outcome State Fault Refusal := onCtl (softRowRepairDone c) s

/-- A write of 1 to CH.SRR_GO (R234): the repair of CH.SRR_TARGET starts, unless one runs. -/
def srrGo (ch : Fin 32) (c : Ctl) : Ctl :=
  if c.chans[ch].srrStatus = 1 then c else modChan ch (fun x => { x with srrStatus := 1, srrSince := c.now, srrAccesses := 0, srrOut := [], srrBuf := [] }) c

def execSrrGo (c : Fin 32) (s : State) : Host.Outcome State Fault Refusal := onCtl (srrGo c) s

/-! ## Delay taps and calibration (R237, R238, R316 to R319) -/

/-- A delay lane's key: layer × 128 + pseudo-channel × 64 + lane. Its fused value is 64 (log 6). -/
def tapDefault (_ : Nat) : Nat := 64
def tapGet (ch : Chan) (k : Nat) : Nat := sparseGet tapDefault ch.taps k
def tapPut (k v : Nat) (ch : Chan) : Chan := { ch with taps := sparsePut tapDefault ch.taps k v }

/-- One step of a tap towards a value. -/
def stepTo (v target : Nat) : Nat := if v < target then v + 1 else if target < v then v - 1 else v

/-- Whether every lane of a unit has reached its centre. -/
def unitReached (layer : Nat) (ch : Chan) (u : CalUnit) : Bool := u.targets.all fun t => tapGet ch (layer * 128 + t.1) = t.2

/-- The position of a slice among the eight units of its layer. -/
def unitPos (slice : Nat) : Nat := (sliceChan slice).val / 4

/-- A unit of a LAYER_CAL completes, with the temperature at the end of its gathering, or is rejected, with none. With the last one the
activity ends, and the layer's reference temperature becomes that of the unit that completed last, if any did (R319). -/
def unitSettled (act slice : Nat) (temp : Option Int) (c : Ctl) : Ctl :=
  match c.mgr.running.find? fun a => a.id = act with
  | none => c
  | some a =>
    let bits := a.result ||| BitVec.ofNat 32 (2 ^ unitPos slice)
    let last := temp.orElse fun _ => a.temp
    if bits.toNat % 256 = 255 then
      endActivity act 2 0 (match last with
        | some t => modPower (fun w => { w with layerCalTemp := w.layerCalTemp.set! (sliceLayer slice - 1) t }) c
        | none => c)
    else modMgr (fun g => { g with running := mapIf (fun x => x.id = act) (fun x => { x with result := bits, temp := last }) g.running }) c

/-- Whether a delay lane is at its apply point (R238): the changeover window, or, when CH.DLY_APPLY_IDLE is set, a break point at
which no accepted granule of its pseudo-channel is under way at the lane's layer. -/
def tapReady (c : Ctl) (ch : Fin 32) (k : Nat) : Bool :=
  let x := c.chans[ch]
  if x.dlyApplyIdle then
    !((readsOut c ++ x.wbuf.map (·.1) ++ x.au.map (·.gran)).any fun g =>
      keyChan g = ch && keyPc g = k % 128 / 64 && sliceLayer (ppnSlice (keyPpn g)) = k / 128)
  else x.windowBlocked.isSome || x.windowRuns

/-- One tap step of a lane towards a value (R238). -/
def tapStep (k target : Nat) (ch : Chan) : Chan := tapPut k (stepTo (tapGet ch k) target) ch

/-- One apply point of a unit: every lane that is at its apply point moves one tap towards its centre, and the unit completes when
all have reached theirs (R319). -/
def calApply (ch : Fin 32) (u : CalUnit) (c : Ctl) : Ctl :=
  let slice := sliceOf ch u.rank
  let layer := sliceLayer slice
  let go := u.targets.filter fun t => tapReady c ch (layer * 128 + t.1)
  let c := modChan ch (fun x => go.foldl (fun x t => tapStep (layer * 128 + t.1) t.2 x) x) c
  if unitReached layer c.chans[ch] u then
    -- a window that opened with its lead is that of the beat still expected
    let beat := if c.chans[ch].windowBlocked.isSome && !c.beat.windowOpen then c.beat.number + 1 else c.beat.lastWindow.getD c.beat.number
    let c := bump (cIdx ch (51 + u.rank)) c
    let c := modChan ch (fun x => { x with calBeat := x.calBeat.set! u.rank beat, cal := x.cal.filter fun y => y.rank ≠ u.rank }) c
    unitSettled u.activity slice (some u.temp) c
  else c

/-- An apply point of a channel's delay lanes (R238, R267): the next changeover window, whose first item the steps are for 4
channel clocks, or an idle break point when CH.DLY_APPLY_IDLE is set. -/
def delayApplyPoint (ch : Fin 32) (c : Ctl) : Ctl :=
  let x := c.chans[ch]
  let go := x.tapsPending.filter fun t => tapReady c ch t.1
  let c' := modChan ch (fun x => { go.foldl (fun x t => tapStep t.1 t.2 x) x with tapsPending := x.tapsPending.filter fun t => !tapReady c ch t.1 }) c
  let c' := if (go.isEmpty && x.cal.isEmpty) || x.dlyApplyIdle then c' else windowItem ch (c.now + 4) c'
  forEach x.cal (calApply ch) c'

def execDelayApplyPoint (c : Fin 32) (s : State) : Host.Outcome State Fault Refusal := onCtl (delayApplyPoint c) s

/-- Whether a LAYER_CAL holds its claim on a layer (R320, R443). -/
def layerCalRuns (c : Ctl) (layer : Nat) : Bool := (holders c).any fun a => a.kind = 2 && a.target = layer

/-- A selector names a delay lane that exists on the channel (R237, R313). -/
def selLayer (sel : BitVec 12) : Nat := sel.toNat % 32
def selKey (sel : BitVec 12) : Nat := selLayer sel * 128 + bitsOf sel.toNat 5 1 * 64 + bitsOf sel.toNat 6 6
def selOk (ch : Fin 32) (sel : BitVec 12) : Bool :=
  (chanRanks ch).any (fun k => sliceLayer (sliceOf ch k) = selLayer sel)
    && (bitsOf sel.toNat 6 6 < 48 || (bitsOf sel.toNat 6 6 < 52 && bitsOf sel.toNat 5 1 = 0))

/-- A write to CH.DLY_TAP for the lane that the writer's selector names (R237, R443): at once while CH.ENABLE is clear, at the
next apply point within one tap, and otherwise rejected and counted. -/
def dlyTapWrite (ch : Fin 32) (byFirmware : Bool) (value : Nat) (c : Ctl) : Ctl :=
  let x := c.chans[ch]
  let sel := if byFirmware then x.fwSel else x.dlySel
  let k := selKey sel
  let now := tapGet x k
  if 128 ≤ value || !selOk ch sel then c
  else if !byFirmware && layerCalRuns c (selLayer sel) then bump (cIdx ch 27) c
  else if !x.enable then modChan ch (fun x => { tapPut k value x with tapsPending := x.tapsPending.filter fun t => t.1 ≠ k }) c
  else if value ≤ now + 1 && now ≤ value + 1 then
    modChan ch (fun x => { x with tapsPending := x.tapsPending.filter (fun t => t.1 ≠ k) ++ [(k, value)] }) c
  else bump (cIdx ch 27) c

def execDlyTap (c : Fin 32) (byFirmware : Bool) (value : Nat) (s : State) : Host.Outcome State Fault Refusal :=
  onCtl (dlyTapWrite c byFirmware value) s

/-! ### Units (R314 to R318) -/

/-- A maximal run of open bins that ends before `i`: the longest so far, the lowest first among equals, as (first, width). -/
def longestRun : List Bool → Nat → Nat → Nat × Nat → Nat × Nat
  | [], i, run, best => if best.2 < run then (i - run, run) else best
  | true :: t, i, run, best => longestRun t (i + 1) (run + 1) best
  | false :: t, i, run, best => longestRun t (i + 1) 0 (if best.2 < run then (i - run, run) else best)

/-- A bin is open with 1,024 bits compared and no disagreement (R316). -/
def binOpen (b : Nat × Nat) : Bool := 1024 ≤ b.1 && b.2 = 0

/-- choose_centre (R316): centre and width. -/
def chooseCentre (bins : List (Nat × Nat)) : Nat × Nat :=
  let r := longestRun (bins.map binOpen) 0 0 (0, 0)
  ((2 * r.1 + r.2 - 1) / 2, r.2)

/-- The lanes of a calibration unit in lane order (R313). -/
def unitLanes : List (Nat × Nat) := (List.range 52).map (fun l => (0, l)) ++ (List.range 48).map fun l => (1, l)

/-- A lane's histogram in the list. -/
def histOf (hist : List LaneHist) (l : Nat × Nat) : Option LaneHist := hist.find? fun h => h.pc = l.1 && h.lane = l.2

/-- The histograms of a unit are complete: every lane, every bin with 1,024 compared bits. -/
def histComplete (hist : List LaneHist) : Bool :=
  unitLanes.all fun l => match histOf hist l with
    | some h => h.bins.length = 128 && h.bins.all fun b => 1024 ≤ b.1
    | none => false

/-- The check of R317 that a lane fails first: 0 for none. -/
def laneReason (tap centre width : Nat) : Nat :=
  if width = 0 then 3
  else if centre + 12 < tap || tap + 12 < centre then 1
  else if centre < 16 || 112 < centre then 2
  else if width < 40 then 3
  else 0

/-- The first failing lane of a unit in lane order: lane, reason, centre and width. -/
def firstFailing (ch : Chan) (layer : Nat) (hist : List LaneHist) : Option ((Nat × Nat) × Nat × Nat × Nat) :=
  unitLanes.findSome? fun l =>
    match histOf hist l with
    | some h =>
      let r := chooseCentre h.bins
      let q := laneReason (tapGet ch (layer * 128 + l.1 * 64 + l.2)) r.1 r.2
      if q = 0 then none else some (l, q, r.1, r.2)
    | none => none

/-- The centres of a unit by lane. -/
def unitTargets (hist : List LaneHist) : List (Nat × Nat) :=
  unitLanes.filterMap fun l => (histOf hist l).map fun h => (l.1 * 64 + l.2, (chooseCentre h.bins).1)

/-- DETAIL of CAL_REJECT (Table 3 of R317). -/
def calDetail (slice pc lane reason centre width : Nat) : Nat :=
  slice + 2 ^ 8 * (if lane < 48 then pc else 0) + 2 ^ 9 * lane + 2 ^ 15 * reason + 2 ^ 17 * centre + 2 ^ 24 * width

/-- The LAYER_CAL that gathers a unit: it holds its claim, and the unit is neither settled nor applying its steps. -/
def gathering (c : Ctl) (slice : Nat) : Option Activity :=
  (holders c).find? fun a => a.kind = 2 && a.target = sliceLayer slice && !a.result.getLsbD (unitPos slice)
    && !(c.chans[sliceChan slice].cal.any fun u => u.rank = sliceRank slice)

/-- The layer's effective temperature, or its reference when it has none. -/
def layerTemp (c : Ctl) (layer : Nat) : Int := (c.therm.eff.toList.getD layer none).getD (c.power.layerCalTemp.toList.getD (layer - 1) 0)

/-- The burst slots that the probes of a rank's unit have had for a LAYER_CAL (R314). -/
def probeSlots (x : Chan) (rank act : Nat) : Nat :=
  let n := x.probes.toList.getD rank {}
  if n.act = act then n.slots else 0

/-- The burst slots that the probes of a unit need: 128 of two slots on each pseudo-channel (R314), and as many again to write and
read patterns when the unit is short of bits (R315; how many is DESIGN CHOICE, log 51). -/
def probeNeed (x : Chan) (rank : Nat) : Nat := if x.calPattern.getLsbD rank then 512 else 256

/-- A unit is rejected for its first failing lane (R317): counted, and with the third rejection in succession its channel's unit of
IST_TSV is brought forward (R318). The answer is the DETAIL of CAL_REJECT. Without an open bin the centre is a free value. -/
def rejectUnit (slice : Nat) (f : (Nat × Nat) × Nat × Nat × Nat) (c : Ctl) : Nat × Ctl :=
  let ch := sliceChan slice
  let rank := sliceRank slice
  let (l, q, centre, width) := f
  let cv := if width = 0 then Config.freeNat c.draws % 128 else centre
  let c : Ctl := if width = 0 then { c with draws := c.draws + 1 } else c
  let run := Nat.min 3 (c.chans[ch].calRejectRun.toList.getD rank 0 + 1)
  let c := modChan ch (fun x => { x with calRejectRun := x.calRejectRun.set! rank run }) (bump (cIdx ch 56) c)
  let i : Fin 25 := Fin.ofNat 25 (sliceLayer slice + 7)
  let ahead : Ist → Ist := fun t => { t with forward := if t.forward.contains ch.val then t.forward else t.forward ++ [ch.val] }
  (calDetail slice l.1 l.2 q cv width, if run = 3 then askIst i (modIst i ahead c) else c)

/-- Start-up calibration of a unit (R321): accepted centres are written in one write, and a rejected unit answers its DETAIL. -/
def startUnit (slice : Nat) (hist : List LaneHist) (c : Ctl) : Option Nat × Ctl :=
  let ch := sliceChan slice
  let layer := sliceLayer slice
  match firstFailing c.chans[ch] layer hist with
  | none =>
    (none, modChan ch (fun x => (unitTargets hist).foldl (fun x t => tapPut (layer * 128 + t.1) t.2 x)
      { x with calRejectRun := x.calRejectRun.set! (sliceRank slice) 0 }) c)
  | some f => let r := rejectUnit slice f c; (some r.1, r.2)

/-- A unit's histograms are complete, read out by the probes that it needs (R314 to R318): it is accepted, or rejected for its first failing lane. -/
def calUnitComplete (slice : Nat) (hist : List LaneHist) (c : Ctl) : Ctl :=
  let ch := sliceChan slice
  let rank := sliceRank slice
  let layer := sliceLayer slice
  match gathering c slice with
  | none => c
  | some a =>
    if !histComplete hist || probeSlots c.chans[ch] rank a.id < probeNeed c.chans[ch] rank then c
    else
      let c := modChan ch (fun x => { x with calPattern := x.calPattern &&& ~~~BitVec.ofNat 5 (2 ^ rank) }) c
      match firstFailing c.chans[ch] layer hist with
      | none =>
        modChan ch (fun x => { x with
          calRejectRun := x.calRejectRun.set! rank 0
          cal := x.cal ++ [{ rank := rank, targets := unitTargets hist, activity := a.id, temp := layerTemp c layer }] }) c
      | some f =>
        let r := rejectUnit slice f c
        unitSettled a.id slice none (raiseEvent 0x0B 5 layer r.1 r.2)

def execCalUnitComplete (slice : Fin 136) (hist : List LaneHist) (s : State) : Host.Outcome State Fault Refusal :=
  onCtl (calUnitComplete slice.val hist) s

/-- A unit still short of bits after 10 ms: its probes write and read patterns in the calibration rows (R315). -/
def calPattern (slice : Nat) (c : Ctl) : Ctl :=
  match gathering c slice with
  | some _ => modChan (sliceChan slice) (fun x => { x with calPattern := x.calPattern ||| BitVec.ofNat 5 (2 ^ sliceRank slice) }) c
  | none => c

def execCalPatternFallback (slice : Fin 136) (s : State) : Host.Outcome State Fault Refusal := onCtl (calPattern slice.val) s

/-- The phase detector steps a region channel clock, which stops in self-refresh (R322, R348). -/
def clkPhaseStep (r : Fin 4) (c : Ctl) : Ctl :=
  if c.power.selfRefresh then c
  else modRegion r (fun x => { x with clkPhaseBeat := c.beat.number }) (bump (rIdx r 18) c)

def execClkPhaseStep (r : Fin 4) (s : State) : Host.Outcome State Fault Refusal := onCtl (clkPhaseStep r) s

/-! ## Channel enable and slice drain (R237, R310, R444) -/

/-- CH.SLICE_DRAINED of a rank (R310): drained, nothing accepted left, the atomic unit and the write buffer without it. -/
def sliceDrained (c : Ctl) (ch : Fin 32) (rank : Nat) : Bool :=
  let x := c.chans[ch]
  x.sliceDrain.getLsbD rank
    && !(c.trk.any fun t => t.grans.any fun g => g.phase = .accepted && keyChan (granKey g.ppn g.g) = ch && keyRank (granKey g.ppn g.g) = rank)
    && !((readsOut c).any fun k => keyChan k = ch && keyRank k = rank)
    && !(x.au.any fun e => keyRank e.gran = rank) && !(x.wbuf.any fun w => keyRank w.1 = rank)

/-- Setting CH.ENABLE starts the controller. -/
def chEnableSet (ch : Fin 32) (c : Ctl) : Ctl := modChan ch (fun x => { x with enable := true }) c

def execChEnableSet (c : Fin 32) (s : State) : Host.Outcome State Fault Refusal := onCtl (chEnableSet c) s

/-- A write that R432 turns away: GLOBAL.CONFIG_REJECT is set with the register's address. -/
def configReject (addr : Nat) : Ctl → Ctl :=
  modPower fun w => if w.configReject then w else { w with configReject := true, configRejectAddr := addr }

/-- Clearing CH.ENABLE needs every slice drained or out of service (R444). -/
def chEnableClear (ch : Fin 32) (c : Ctl) : Ctl :=
  if !c.chans[ch].enable then c
  else if (chanRanks ch).all fun k => sliceDrained c ch k || c.chans[ch].sliceOut.getLsbD k then modChan ch (fun x => { x with enable := false }) c
  else configReject (0x080000 + ch.val * 0x1000) c

def execChEnableClear (c : Fin 32) (s : State) : Host.Outcome State Fault Refusal := onCtl (chEnableClear c) s

/-- A write to CH.SLICE_DRAIN (R310); bits of ranks the channel does not have stay zero (R442). -/
def sliceDrain (ch : Fin 32) (bits : BitVec 5) (c : Ctl) : Ctl :=
  modChan ch (fun x => { x with sliceDrain := if ch.val % 4 = 0 then bits else bits &&& 15#5, drainEnd := if x.sliceDrain = 0 then x.drainEnd else c.now }) c

def execSliceDrain (c : Fin 32) (bits : BitVec 5) (s : State) : Host.Outcome State Fault Refusal := onCtl (sliceDrain c bits) s

/-! ## The clear of the row-error tracker (R283) -/

def execRowTrackerClear (s : State) : Host.Outcome State Fault Refusal :=
  onCtl (fun c => { c with chans := c.chans.map fun x => { x with rowErrs := [] } }) s

end Sys2Proof.Machine
end

