-- ==== Sys2Proof/Machine/Arbiter.lean ====
section
/-! DEFINITION. The seven requesters of a channel and its arbiter (R209 to R219): ports, movers, the coordinators' reads and writes,
and the maintenance master's copiers, repairs and probes. -/

namespace Sys2Proof.Machine

open Sys2Proof

/-! ## The TXN requester (Table 2 of R209) -/

/-- The moment since which a coordinator's access waits in its channel's input queue, while it does. -/
def keyWaits (k : Key) : Option Nat :=
  match k.access with
  | .readQueued n | .writeQueued n => some n
  | _ => none

/-- A coordinator's access at a channel: region, transaction and key. -/
structure TxnWork where
  region : Fin 4
  txn : Txn
  key : Key
deriving DecidableEq, Repr

/-- The moment at which an access was issued, and that at which it entered its channel's input queue (R212): later, when the crossbar
held it back (R209). -/
def TxnWork.issued (w : TxnWork) : Nat := (keyWaits w.key).getD 0
def TxnWork.since (w : TxnWork) : Nat := Nat.max w.issued w.key.entered

/-- The coordinators' accesses that wait at a channel, oldest first. -/
def txnAccesses (c : Ctl) (ch : Fin 32) : List TxnWork :=
  (allRegions.flatMap fun r => c.regions[r].coord.txns.flatMap fun t =>
    (t.keys.filter fun k => (keyWaits k).isSome && keyChan k.gran = ch).map fun k => { region := r, txn := t, key := k }).foldl
      (fun l w => insertBy TxnWork.issued w l) []

/-- The TXN input queue: the oldest 64; the crossbar holds the others back (R209). -/
def txnQueue (c : Ctl) (ch : Fin 32) : List TxnWork := (txnAccesses c ch).take 64

/-- Whether a granule's bank is blocked for every access but the writes of COMMITTED holds, which a drained slice lets by (R310). -/
def bankStopped (c : Ctl) (key : Nat) : Bool :=
  windowBlocks c.chans[keyChan key] || rowInRepair c.chans[keyChan key] key || bankBlocked c (keyChan key) (bankKey key)

/-- Whether a coordinator's access may be accepted now (R211). -/
def txnEligible (c : Ctl) (w : TxnWork) : Bool :=
  match w.key.access with
  | .readQueued _ => !sliceBlocked c w.key.gran && (forwards c w.key.gran || bankLoad c w.key.gran < 2)
  | .writeQueued _ => !bankStopped c w.key.gran && wbufRoom c w.key.gran && bankLoad c w.key.gran < 2
  | _ => false

/-- The oldest eligible access of the queue that is behind none to its granule, on a pseudo-channel when one is asked for. -/
def txnCandidate (c : Ctl) (ch : Fin 32) (pc : Option Nat) : Option TxnWork :=
  let q := txnQueue c ch
  q.find? fun w => txnEligible c w && (pc.isNone || pc = some (keyPc w.key.gran))
    && ((q.find? fun x => x.key.gran = w.key.gran).any fun x => x.txn.id = w.txn.id)

/-- A coordinator's access is accepted: a read of an old value goes to its bank or is served from accepted data (R213); the write of
a COMMITTED hold joins the write buffer (R186). -/
def acceptTxn (w : TxnWork) (c : Ctl) : Ctl :=
  match w.key.access with
  | .readQueued _ =>
    let fwd := forwards c w.key.gran
    let c := if fwd then bump (cIdx (keyChan w.key.gran) 31) c else openRowFor w.key.gran c
    modTxn w.region w.txn.id (modKey w.key.gran fun k => { k with access := .readAccepted fwd }) c
  | .writeQueued _ => commitAccept w.region w.txn w.key c
  | _ => c

/-! ## The MAINT requester (Table 2 of R209) -/

/-- What the maintenance master asks of a channel. -/
inductive Maint where
  | copyRead (k : Fin 4)
  | copyWrite (k : Fin 4)
  /-- An access of the soft row repair in progress. -/
  | repair
  /-- A burst slot of the calibration probes of a rank's unit. -/
  | probe (rank act : Nat)
  /-- A step of in-service test, which its own command makes (R275). -/
  | test
deriving DecidableEq, Repr

/-- A piece of maintenance work at a channel: its granules when it names some, its priority (Table 3 of R216), and the moment since
which it waits. -/
structure MaintWork where
  what : Maint
  key : Option Nat
  prio : Nat
  since : Nat
deriving DecidableEq, Repr

/-- The priority of a copier's accesses (Table 3 of R216). -/
def copyPrio (j : CopyJob) : Nat :=
  match j.kind with
  | .substitution | .substMirror | .single => 5
  | _ => 4

/-- The moment at which a copier's n-th granule of its chunk is due, at a quarter of the GLOBAL.COPIER_BW that it took at its
chunk boundary (R111). -/
def copyDue (x : Copier) (n : Nat) : Nat := x.since + 32 * n / Nat.max 1 x.bw

/-- The next read and the next write of a copier's busy chunk, each at its channel; a granule is written once it has been read. A chunk that may not be copied yet asks for
nothing (R113, R114, R202); a clearing has no reads. -/
def copyWork (c : Ctl) (k : Fin 4) : List MaintWork :=
  let x := c.pm.copiers[k]
  match x.job, x.busy with
  | some j, some n =>
    if !copiersRun c || !chunkReady c j n || chunkBlocked c j n then []
    else
      (if x.reads < chunkReads j then
        [{ what := .copyRead k, key := some (granKey j.src (64 * n + x.reads)), prio := copyPrio j, since := copyDue x x.reads }] else [])
      ++ (if x.writes < 64 && (!x.buf.isEmpty || isClearing j) then
        [{ what := .copyWrite k, key := some (granKey j.dst (64 * n + x.writes)), prio := copyPrio j, since := copyDue x x.writes }] else [])
  | _, _ => []

/-- The granule of the repair's next access: the row's 32 granules are read, then written to the spare row (R234). -/
def repairKey (ch : Fin 32) (x : Chan) : Nat :=
  ((rowGrans (sliceOf ch x.srrRank) x.srrPc x.srrBank x.srrRow)[x.srrAccesses % 32]?).getD 0

/-- The next access of the soft row repair of a channel; a bank without a spare row makes none. -/
def repairWork (ch : Fin 32) (x : Chan) : List MaintWork :=
  if x.srrStatus = 1 && !srrReady x && x.srrAccesses < 64 then [{ what := .repair, key := some (repairKey ch x), prio := 5, since := x.srrSince }] else []

/-- The moment since which the next probe of a unit waits (R212): its predecessor's burst slot, or the start of the gathering. -/
def probeSince (x : Chan) (rank : Nat) (a : Activity) : Nat :=
  let n := x.probes.toList.getD rank {}
  if n.act = a.id then n.since else a.at_

/-- The banks whose calibration rows the next pattern probe of a unit uses, one of each pseudo-channel in turn (R315); a probe that
only reads counts out uses none. -/
def probeBanks (x : Chan) (rank act : Nat) : List Nat :=
  let b := rank * 32 + probeSlots x rank act / 2 % 16 * 2
  if x.calPattern.getLsbD rank then [b, b + 1] else []

/-- The probes of the units that a LAYER_CAL gathers at a channel. -/
def probeWork (c : Ctl) (ch : Fin 32) : List MaintWork :=
  (chanRanks ch).flatMap fun rank =>
    match gathering c (sliceOf ch rank) with
    | some a =>
      if probeSlots c.chans[ch] rank a.id < probeNeed c.chans[ch] rank then
        [{ what := .probe rank a.id, key := none, prio := 5, since := probeSince c.chans[ch] rank a }] else []
    | none => []

/-- What the maintenance master has for a channel, at most the 32 that its input queue holds (R209). -/
def maintQueue (c : Ctl) (ch : Fin 32) : List MaintWork :=
  (((List.finRange 4).flatMap (copyWork c)).filter (fun w => (w.key.any fun k => keyChan k = ch) && w.since ≤ c.now)
    ++ repairWork ch c.chans[ch] ++ probeWork c ch).take 32

/-- Whether nothing accepted for a granule's row is unfinished but what its repair has read: the repair's reads wait for it (R234). -/
def rowQuiet (c : Ctl) (key : Nat) : Bool :=
  let x := c.chans[keyChan key]
  !((readsOut c).any fun k => sameRow k key && !x.srrOut.contains k) && !(x.wbuf.any fun w => sameRow w.1 key) && !(x.au.any fun e => sameRow e.gran key)

/-- Whether a piece of maintenance work may be accepted now (R211). A slice that is drained is blocked for every requester (R310); a
row under repair is not, for the repair itself (R234). -/
def maintEligible (c : Ctl) (ch : Fin 32) (w : MaintWork) : Bool :=
  let x := c.chans[ch]
  match w.what, w.key with
  | .repair, some k =>
    !x.sliceDrain.getLsbD (keyRank k) && !windowBlocks x && !bankBlocked c ch (bankKey k) && bankLoad c k < 2
      && (if x.srrAccesses < 32 then rowQuiet c k else !x.srrBuf.isEmpty && wbufRoom c k)
  | .copyRead _, some k => !sliceBlocked c k && (forwards c k || bankLoad c k < 2)
  | .copyWrite _, some k => !sliceBlocked c k && wbufRoom c k && bankLoad c k < 2
  | .probe rank act, _ => !x.sliceDrain.getLsbD rank && !windowBlocks x && !(probeBanks x rank act).any (bankBlocked c ch)
  | _, _ => false

/-- The MAINT candidate (R212): the oldest eligible piece of work. -/
def maintCandidate (c : Ctl) (ch : Fin 32) : Option MaintWork := leastBy (·.since) ((maintQueue c ch).filter (maintEligible c ch))

/-- An access of a copier is accepted (R111, R210): a read joins its bank's queue under an activate of its row, unless accepted data
serves it (R213); a write joins the write buffer, with the value read or, for a clearing, zero (R102, R114). -/
def acceptCopy (k : Fin 4) (key : Nat) (read : Bool) (c : Ctl) : Ctl :=
  if read then
    let fwd := forwards c key
    modCopier k (fun x => { x with reads := x.reads + 1, out := x.out ++ [(key, fwd)] })
      (if fwd then bump (cIdx (keyChan key) 31) c else openRowFor key c)
  else
    let v := c.pm.copiers[k].buf.headD zeroGran
    modCopier k (fun x => { x with writes := x.writes + 1, buf := x.buf.tail }) (acceptWrite key v none (countPoison key v c))

/-- A copier's accesses of one burst slot: the next two of its chunk lie on different pseudo-channels (R22, R210). -/
def acceptCopies (k : Fin 4) (key : Nat) (read : Bool) (c : Ctl) : Ctl :=
  let c := acceptCopy k key read c
  match (copyWork c k).find? fun w => w.what = (if read then .copyRead k else .copyWrite k) with
  | some w =>
    match w.key with
    | some key' => if keyPc key' ≠ keyPc key && keyChan key' = keyChan key && maintEligible c (keyChan key) w then acceptCopy k key' read c else c
    | none => c
  | none => c

/-- An activate that R229 does not count, for soft row repair or a calibration row, is issued all the same (R239). -/
def plainActivate (ch : Fin 32) (bank : Nat) (c : Ctl) : Ctl :=
  modChan ch (fun x => bankPut bank { bankGet x bank with openRow := none } x) (bump (cIdx ch 6) c)

/-- An access of the repair is accepted (R210, R234): the row's granules are read, then written to the spare row. -/
def acceptRepair (ch : Fin 32) (key : Nat) (c : Ctl) : Ctl :=
  let x := c.chans[ch]
  if x.srrAccesses < 32 then
    let c := if x.adaptive && x.srrAccesses % 32 ≠ 0 then bump (cIdx ch 7) c else plainActivate ch (bankKey key) c
    modChan ch (fun x => { x with srrAccesses := x.srrAccesses + 1, srrOut := x.srrOut ++ [key] }) c
  else
    modChan ch (fun x => { x with srrAccesses := x.srrAccesses + 1, srrBuf := x.srrBuf.tail }) (acceptWrite key (x.srrBuf.headD 0) none c)

/-- A burst slot of the probes of a unit, one on each pseudo-channel: each probe takes two (R314). Patterns go to calibration rows,
which lie outside the rows that R229 counts (DEDUCED, log 70): the first of a pair writes a row, the second reads it (R315). -/
def acceptProbe (ch : Fin 32) (rank act : Nat) (c : Ctl) : Ctl :=
  let x := c.chans[ch]
  let n := probeSlots x rank act
  let c := if n % 2 = 1 then bumpBy (cIdx ch 57) 2 c else c
  let c := forEach (probeBanks x rank act) (fun b c => modChan ch (fun x => bankPut b { bankGet x b with calRow := true } x) (plainActivate ch b c)) c
  modChan ch (fun x => { x with probes := x.probes.set! rank { act := act, slots := n + 1, since := c.now } }) c

/-- A piece of maintenance work is accepted. The reads of copiers and of soft row repair return at their channel's next decision
(DESIGN CHOICE, log 68). -/
def acceptMaint (ch : Fin 32) (w : MaintWork) (c : Ctl) : Ctl :=
  match w.what with
  | .copyRead k => acceptCopies k (w.key.getD 0) true c
  | .copyWrite k => acceptCopies k (w.key.getD 0) false c
  | .repair => acceptRepair ch (w.key.getD 0) c
  | .probe rank act => acceptProbe ch rank act c
  | .test => c

/-! ## The arbiter (R216 to R219) -/

/-- What a requester offers. -/
inductive Work where
  | req (t : Trk)
  | txn (w : TxnWork)
  | maint (w : MaintWork)
deriving DecidableEq, Repr

/-- A requester's candidate, with its effective priority (Table 3 of R216) and the moment since which it waits. -/
structure Cand where
  who : Fin 7
  prio : Nat
  since : Nat
  tc1 : Bool
  work : Work
deriving DecidableEq, Repr

/-- The requester numbers of the masters: ports 0 to 3 and MOVERS 4. -/
def reqOf (m : Fin 5) : Fin 7 := ⟨m.val, by omega⟩

/-- The candidates of the seven requesters, in the order of their numbers. -/
def candidates (c : Ctl) (ch : Fin 32) : List Cand :=
  ((List.finRange 5).filterMap fun m => (candidate c ch m).map fun t =>
    { who := reqOf m, prio := effPrio c ch t, since := queuedSince ch t, tc1 := t.tc1, work := .req t })
  ++ ((txnCandidate c ch none).toList.map fun w => { who := 5, prio := 6, since := w.since, tc1 := false, work := .txn w })
  ++ ((maintCandidate c ch).toList.map fun w => { who := 6, prio := w.prio, since := w.since, tc1 := false, work := .maint w })

/-- arbitrate (R218) among some candidates: the granted one, and the channel's arbiter afterwards. Among candidates of one age the one
of the lowest-numbered requester wins (DESIGN CHOICE, log 52). -/
def arbitrate (cands : List Cand) (c : Ctl) (ch : Fin 32) : Option Cand × Ctl :=
  let x := c.chans[ch]
  if cands.isEmpty then (none, modChan ch (fun x => { x with arbHolder := none }) c)
  else
    let held := cands.find? fun y => x.arbHolder = some y.who
    let higher := cands.any fun y => y.tc1 && x.arbPrio < y.prio
    match if 0 < x.arbLeft && !higher then held else none with
    | some y => (some y, modChan ch (fun x => { x with arbLeft := x.arbLeft - 1 }) c)
    | none =>
      let preempt := 0 < x.arbLeft && held.isSome && higher
      let cnt := (x.arbCount + 1) % x.fairN
      let rt := cands.any fun y => y.prio = 8
      let fair := cnt = 0 && !rt
      let cnt' := if cnt = 0 && rt then x.fairN - 1 else cnt
      let top := cands.foldl (fun n y => Nat.max n y.prio) 0
      match leastBy (·.since) (if fair then cands else cands.filter fun y => y.prio = top) with
      | none => (none, c)
      | some y =>
        let c := if preempt then bump (cIdx ch 22) c else c
        let c := if fair then bump (cIdx ch 23) c else c
        let c := bump (cIdx ch (8 + y.who.val)) c
        (some y, modChan ch (fun x => { x with arbHolder := some y.who, arbPrio := y.prio, arbLeft := 3, arbCount := cnt' }) c)

/-- SHADOW settings that apply at the next arbiter decision (R216, R218). -/
def applyArbShadow (ch : Fin 32) (c : Ctl) : Ctl :=
  let c := modChan ch (fun x => { x with fairN := x.fairNPending.getD x.fairN, fairNPending := none }) c
  modRegion (chanRegion ch) (fun r => { r with arbBase := r.arbBasePending.getD r.arbBase, arbBasePending := none }) c

/-- The accesses that the crossbar had held back and that now enter the TXN input queue are of this moment's age (R209, R212);
`before` is the queue as it stood. -/
def enterTxns (ch : Fin 32) (before : List TxnWork) (c : Ctl) : Ctl :=
  let is : TxnWork → TxnWork → Bool := fun w v => w.txn.id = v.txn.id && w.key.gran = v.key.gran
  forEach ((txnQueue c ch).filter fun w => !(before.any (is w))) (fun w c =>
    modTxn w.region w.txn.id (modKey w.key.gran fun k => { k with entered := c.now }) c) c

/-- The coordinators' accesses of one burst slot: at most one for each pseudo-channel (R210). -/
def acceptTxnSlot (ch : Fin 32) (w : TxnWork) (c : Ctl) : Ctl :=
  let before := txnQueue c ch
  let c := acceptTxn w c
  enterTxns ch before (match txnCandidate c ch (some (1 - keyPc w.key.gran)) with
    | some v => acceptTxn v c
    | none => c)

/-- The winner's burst slot. -/
def acceptWork (ch : Fin 32) (w : Work) (c : Ctl) : Ctl :=
  match w with
  | .req t => acceptSlot ch t c
  | .txn w => acceptTxnSlot ch w c
  | .maint w => acceptMaint ch w c

/-- Every input queue of a channel is empty (R211, R275). -/
def queuesEmpty (c : Ctl) (ch : Fin 32) : Bool :=
  !(c.trk.any (waitsAt ch)) && (txnQueue c ch).isEmpty && (maintQueue c ch).isEmpty

/-- The moment at which an input queue was last not empty is kept (R211). -/
def noteBusy (ch : Fin 32) (c : Ctl) : Ctl := if queuesEmpty c ch then c else modChan ch (fun x => { x with lastBusy := c.now }) c

/-- The activate of a write that leaves for DRAM: that of a soft row repair is of its spare row (R229, R234). -/
def writeActivate (key : Nat) (c : Ctl) : Ctl :=
  let x := c.chans[keyChan key]
  if rowInRepair x key && 32 ≤ x.srrAccesses then plainActivate (keyChan key) (bankKey key) c else openRowFor key c

/-- Up to `drain` writes leave the write buffer for DRAM, each under an activate of its row (R210, R214). -/
def drainWrites (ch : Fin 32) (drain : Nat) (m : List Host.Cell) (c : Ctl) : List Host.Cell × Ctl :=
  let d := drainSplit c drain c.chans[ch].wbuf
  (dramWrites m d.1,
    forEach d.1 (fun w c => writeActivate w.1 c) (modChan ch (fun x => { x with wbuf := d.2 }) (bumpBy (cIdx ch 35) (poisonCleared m d.1) c)))

/-- One decision of a channel's arbiter while it serves: settings that wait for one apply, held-back requests take free places, and
the winner's granules are accepted. -/
def decideSlot (ch : Fin 32) (c : Ctl) : Ctl :=
  let c := noteBusy ch (unstageAt ch (applyArbShadow ch c))
  let a := arbitrate (candidates c ch) c ch
  match a.1 with
  | none => a.2
  | some w => acceptWork ch w.work (modTherm (fun t => { t with xbarActs := t.xbarActs + 1 }) a.2)

/-- The last beat of a burst slot (R217, R218): accepted writes go to DRAM also when the channel accepts nothing more (R29), refresh
that waited for the accepted granules follows, and the arbiter decides. `soft` is an uncorrectable error in the controller's storage
(R289, R292). -/
def arbiterStep (ch : Fin 32) (drain : Nat) (soft : Option SoftLoss) (m : List Host.Cell) (c : Ctl) : List Host.Cell × Ctl :=
  match soft with
  | some l =>
    let c' := raiseEvent 0x81 4 ch.val 0 (loseValue ch l c)
    if c.power.ranksAsleep || c.power.selfRefresh then (m, c') else completeChan ch m c'
  | none =>
    let d := drainWrites ch drain m c
    let c := repairReturns ch d.1 (forEach (List.finRange 4) (copyReturn ch d.1) d.2)
    let c := visitsDue ch (windowWork ch c)
    (d.1, if chanServes c ch then decideSlot ch c else c)

def execArbiterDecision (c : Fin 32) (drain : Nat) (soft : Option SoftLoss) (s : State) : Host.Outcome State Fault Refusal :=
  onBoth (arbiterStep c drain soft) s

end Sys2Proof.Machine
end

