-- ==== Sys2Proof/Machine/Regulate.lean ====
section
/-! DEFINITION. Bandwidth and latency regulation: ticks, buckets, queue-level feedback, the deliverable floor and its
notifications (R240 to R254). -/

namespace Sys2Proof.Machine

open Sys2Proof

def allMasters : List (Fin 5) := List.finRange 5

/-! ## The floor (R249 to R251) -/

/-- An active channel (R249). -/
def chanActive (c : Ctl) (ch : Fin 32) : Bool := c.chans[ch].enable && !chanOut c ch

/-- A channel's floor in units of 0.1/256 GB/s under a maintenance reserve (R250). -/
def floorOf (c : Ctl) (reserve : Nat) (ch : Fin 32) : Nat :=
  let x := c.chans[ch]
  if chanActive c ch then bandLeft x.refreshMode (x.hotSlices ≠ 0) * x.throttleFactor - reserve * 256 else 0

/-- The deliverable floor in units of 0.1/256 GB/s. -/
def floorSum (c : Ctl) (reserve : Nat) : Nat := (allChans.map (floorOf c reserve)).sum

/-- The committed sum S in 0.1 GB/s (R251). -/
def committedSum (c : Ctl) : Nat :=
  (allPorts.map fun p => c.ports[p].minBw + (if c.ports[p].realtime then c.ports[p].tc1Rate else 0)).sum + c.power.moversMinBw

/-- The scale s in 1/65,536 for a floor in 0.1/256 GB/s (R251). -/
def scaleFor (floor s : Nat) : Nat := if s = 0 then 65536 else Nat.min 65536 (floor * 65536 / (256 * s))

/-- Every bucket stands at its content of this moment, before the rates and depths change: the next decision then sees the new ones
(R253). -/
def settleBuckets (c : Ctl) : Ctl :=
  forEach allChans (fun ch c => modChan ch (fun x => { x with
    masters := Vector.ofFn fun m => { x.masters[m] with bucket := bucketNow c ch m, bucketAt := c.now } }) c) c

/-- Causes of a changed floor (Table 2 of R254): channel, refresh, throttle, reserve. -/
def floorCauses (c : Ctl) : Nat :=
  let any := fun (f : Fin 32 → Bool) => b2n (allChans.any f)
  any (fun ch => c.chans[ch].flActive != chanActive c ch)
    + 2 * any (fun ch => chanActive c ch && (c.chans[ch].flHot != decide (c.chans[ch].hotSlices ≠ 0) || c.chans[ch].flMode != c.chans[ch].refreshMode))
    + 4 * any (fun ch => chanActive c ch && c.chans[ch].flFactor ≠ c.chans[ch].throttleFactor)
    + 8 * b2n (c.power.flReserve ≠ c.power.maintReserve)

/-- The inputs of the floor as they stand are the ones in use. -/
def takeFloorInputs (c : Ctl) : Ctl :=
  let c := forEach allChans (fun ch c => modChan ch (fun x => { x with flActive := chanActive c ch, flHot := x.hotSlices ≠ 0, flMode := x.refreshMode, flFactor := x.throttleFactor }) c) c
  modPower (fun w => { w with flReserve := w.maintReserve, regFloor := floorSum c w.maintReserve / 256 }) c

/-- A new scale comes into force (R253, R254). -/
def setScale (s causes : Nat) (c : Ctl) : Ctl :=
  if c.power.regScale = s then c
  else bump (gIdx 3) (modPower (fun w => { w with regScale := s, regChanged := true, regCauses := w.regCauses ||| causes }) c)

/-- The floor and the scale are recomputed (R250, R251, R253). -/
def floorRecompute (c : Ctl) : Ctl :=
  let causes := floorCauses c
  setScale (scaleFor (floorSum c c.power.maintReserve) (committedSum c)) causes (takeFloorInputs (settleBuckets c))

def execFloorRecompute (s : State) : Host.Outcome State Fault Refusal := onCtl floorRecompute s

/-- EVENT_DATA of GUARANTEE_SCALED (Table 2 of R254), bits 127 to 8 of the slot. -/
def scaledData (c : Ctl) : Nat :=
  1 + 2 ^ 8 * c.power.regScale + 2 ^ 32 * (c.power.regCauses % 16) + 2 ^ 56 * c.power.regFloor + 2 ^ 88 * committedSum c

/-- A change of scale, or the end of the 100 microsecond merge time, sends the notification to every eligible port; a merge
time that ends without a change is over (R254). -/
def guaranteeScaled (c : Ctl) : Ctl :=
  if c.power.regChanged then
    let c := forEach allPorts (fun p c => if c.ports[p].link = .active && c.ports[p].regNotify then pushNotify p 0x03 (scaledData c) c else c) c
    modPower (fun w => { w with regChanged := false, regCauses := 0, regTimer := true }) c
  else modPower (fun w => { w with regTimer := false }) c

def execGuaranteeScaled (s : State) : Host.Outcome State Fault Refusal := onCtl guaranteeScaled s

/-! ## The tick (R242 to R246) -/

/-- reg_tick of one master at one channel (R242), and whether it enters fallback by saturation. -/
def tickMaster (target : Nat) (m : Master) : Master × Bool :=
  if target = 0 then ({ m with fallback := true, bySaturation := false }, false)
  else if !m.fallback then
    let b := if 3 * 65536 * target < 4 * m.lat then Nat.min 4 (m.boost + 1) else if 2 * m.lat < 65536 * target then m.boost - 1 else m.boost
    let sat := if b = 4 then m.sat + 250 else 0
    if 20000 < sat then ({ m with boost := b, sat := sat, calm := 0, fallback := true, bySaturation := true }, true)
    else ({ m with boost := b, sat := sat }, false)
  else if !m.bySaturation then ({ m with fallback := false, boost := 0, sat := 0, calm := 0 }, false)
  else
    let calm := if 2 * m.lat < 65536 * target then m.calm + 250 else 0
    if 20000 ≤ calm then ({ m with fallback := false, bySaturation := false, boost := 0, sat := 0, calm := 0 }, false)
    else ({ m with calm := calm }, false)

/-- Whether a master is in saturation at a channel (R245). -/
def saturated (m : Master) : Bool := (!m.fallback && m.boost = 4) || (m.fallback && m.bySaturation)

/-- A master's target-miss counter and its fallback counter. -/
def missIdx (m : Fin 5) : Nat := if h : m.val < 4 then pIdx ⟨m.val, h⟩ 29 else gIdx 4
def fallIdx (m : Fin 5) : Nat := if h : m.val < 4 then pIdx ⟨m.val, h⟩ 30 else gIdx 5

/-- One master's tick at one channel, with its bucket. -/
def tickAt (m : Fin 5) (ch : Fin 32) (c : Ctl) : Ctl :=
  let r := tickMaster (masterTarget c m) c.chans[ch].masters[m]
  let x : Master := { r.1 with bucket := bucketNow c ch m, bucketAt := c.now }
  let c := if r.2 then bump (fallIdx m) c else c
  modChan ch (fun y => { y with masters := y.masters.set m x }) c

/-- Every 250 ns: target-miss time, then each channel's tick of each master. The buckets fill at all times (R244, R246): a tick only
notes what they hold. -/
def regTick (c : Ctl) : Ctl :=
  let c := forEach allMasters (fun m c => if allChans.any fun ch => saturated c.chans[ch].masters[m] then bumpBy (missIdx m) 250 c else c) c
  forEach allMasters (fun m c => forEach allChans (tickAt m) c) c

def execRegTick (s : State) : Host.Outcome State Fault Refusal := onCtl regTick s

/-! ## Queue-level feedback (R247, R248) -/

/-- The occupancy O of a channel's seven input queues (R247). -/
def occupancy (c : Ctl) (ch : Fin 32) : Nat :=
  (allMasters.map fun m => queueLen c m ch).sum + (txnQueue c ch).length + (maintQueue c ch).length

/-- Masters with requests at the channel in the window of R247. -/
def mastersAt (c : Ctl) (ch : Fin 32) : Nat :=
  allMasters.countP fun m => 0 < c.chans[ch].masters[m].accepted || c.trk.any fun t => masterOf t = m && waitsAt ch t

/-- Whether a master's accepted tokens of the last microsecond exceed its share (R247): a rate of 0.1 GB/s is 3.125 tokens
per microsecond. -/
def isOverShare (c : Ctl) (ch : Fin 32) (m : Fin 5) : Bool :=
  let den := (rateOf c ch m).2
  let own := (rateOf c ch m).1
  let all := (allMasters.map fun x => (rateOf c ch x).1).sum
  let floor := floorUsed c ch * den / 256
  let k := mastersAt c ch
  k ≠ 0 && (25 * (own * k + (floor - all)) < 8 * c.chans[ch].masters[m].accepted * den * k)

/-- Above REGION.QL_HIGH a channel withholds credit from every master that was over its share at the last computation (R248). -/
def withholdAt (ch : Fin 32) (c : Ctl) : Ctl :=
  if c.regions[chanRegion ch].qlHigh < occupancy c ch then
    modChan ch (fun y => { y with masters := y.masters.map fun m => { m with withheld := m.withheld || m.overShare } }) c
  else c

/-- One channel's computation: shares, and an end of the withholding at REGION.QL_LOW or within the share; then the rule of
REGION.QL_HIGH. -/
def levelAt (r : Fin 4) (ch : Fin 32) (c : Ctl) : Ctl :=
  let o := occupancy c ch
  let put : Fin 5 → Ctl → Ctl := fun m c' =>
    let q := isOverShare c ch m
    let keep := q && decide (c.regions[r].qlLow < o)
    modChan ch (fun y => { y with masters := y.masters.set m { y.masters[m] with
      overShare := q, withheld := y.masters[m].withheld && keep, accepted := 0 } }) c'
  withholdAt ch (forEach allMasters put c)

/-- Every microsecond, a region computes shares and withholds or restores input-queue credit; what the crossbar held back enters the
queues that have credit again. -/
def queueLevelUpdate (r : Fin 4) (c : Ctl) : Ctl :=
  let mine := allChans.filter fun ch => chanRegion ch = r
  forEach mine unstageAt (forEach mine (levelAt r) c)

def execQueueLevelUpdate (r : Fin 4) (s : State) : Host.Outcome State Fault Refusal := onCtl (queueLevelUpdate r) s

end Sys2Proof.Machine
end

