-- ==== Sys2Proof/Machine/Clock.lean ====
section
/-! DEFINITION. The clock of the model (log 1): what a nanosecond in which no command comes adds to the counters of time
(R64, R97, R128, R180, R206, R235, R255, R351). -/

namespace Sys2Proof.Machine

open Sys2Proof

/-- Nanoseconds are added to a counter: `n` of them, none for zero. -/
def addTime (i n : Nat) (c : Ctl) : Ctl := if n = 0 then c else bumpBy i n c

/-- A queue's head waits for credit. -/
def creditStalls (vc : Fin 3) (q : List OutPkt) (p : Port) : Bool :=
  match q with
  | k :: _ => linkUp p && vcOf k.opcode = vc && !canSend p vc (pktSlots k).length
  | [] => false

/-- A release atomic that waits under R143. -/
def releaseWaits (c : Ctl) (p : Fin 4) : Bool :=
  c.trk.any fun t => srcIsPort p t && (match t.op, t.release with | .atomic _ _ _ _ _, some ids => !waitsOver c ids | _, _ => false)

/-- A port's times: PORT.CREDIT_WAIT_NS by virtual channel, TRACKER_WAIT_NS and RELEASE_WAIT_NS. -/
def timePort (p : Fin 4) (c : Ctl) : Ctl :=
  let q := c.ports[p]
  let c := addTime (pIdx p 19) (b2n (creditStalls 1 q.respQ q)) c
  let c := addTime (pIdx p 20) (b2n (creditStalls 2 q.mgmtQ q || creditStalls 2 q.notifyQ q)) c
  let c := addTime (pIdx p 21) (b2n (!q.waiting.isEmpty && !mayAllocate c (.port p))) c
  addTime (pIdx p 26) (b2n (releaseWaits c p)) c

/-- The requests that wait at a region's busy chunks (R112). -/
def chunkWaiters (c : Ctl) (r : Fin 4) : Nat :=
  (c.trk.map fun t => if quarterOf (t.addr / 65536) = r then t.grans.countP (fun g => g.phase = .atMap) else 0).sum
    + (c.regions.toList.map fun g => (g.coord.txns.map fun t => t.keys.countP fun k => k.atMap && quarterOf k.hpn = r).sum).sum

/-- A region's times: CHUNK_WAIT_NS and COMMIT_LOG_FULL_NS. -/
def timeRegion (r : Fin 4) (c : Ctl) : Ctl :=
  addTime (rIdx r 14) (b2n (c.regions[r].coord.txns.any fun t => t.phase = .logWait)) (addTime (rIdx r 3) (chunkWaiters c r) c)

/-- A mover at MAX_INFLIGHT (R172). -/
def atMaxInflight (c : Ctl) (m : Fin 16) : Bool := decide (c.movers[m].maxInflight ≤ elemBusy c m)

/-- A mover's times: INFLIGHT_FULL_NS, STREAM_WAIT_NS and BUSY_NS. -/
def timeMover (m : Fin 16) (c : Ctl) : Ctl :=
  let v := c.movers[m]
  let runs : Bool := v.phase = .running
  let c := addTime (mIdx m 6) (b2n (runs && atMaxInflight c m)) c
  let c := addTime (mIdx m 7) (b2n (runs && descStream v.desc && decide (16384 < streamHeld c v + elemSize v.desc))) c
  addTime (mIdx m 8) (b2n v.curQueue.isSome) c

/-- The requests that wait at a channel's holds. One that waits behind an ORDER_MARKER alone is not counted as waiting at a hold: the spec
does not say (DESIGN CHOICE, log 87). -/
def holdWaiters (c : Ctl) (ch : Fin 32) : Nat :=
  c.chans[ch].holdWaits.length +
    (c.trk.map fun t => t.grans.countP fun g => g.phase = .queued && ppnChan g.ppn = ch && (holdAt c.chans[ch] (granKey g.ppn g.g)).isSome
      && holdBlocks c t (granKey g.ppn g.g)).sum

/-- Whether a channel is blocked for a window (R268): under CHANGEOVER refresh from the block moment on, under SPREAD refresh while
an item of its work blocks a bank or slice. -/
def windowBlocking (c : Ctl) (ch : Fin 32) : Bool := windowBlocks c.chans[ch] || c.now < c.chans[ch].windowBusy

/-- A channel's times: ARB_WAIT_NS of its requesters, AU_FULL_NS, HOLD_WAIT_NS, CO_BUSY_NS and REG_WITHHOLD_NS. -/
def timeChan (ch : Fin 32) (c : Ctl) : Ctl :=
  let c := withholdAt ch (noteBusy ch c)
  let x := c.chans[ch]
  let c := forEach (candidates c ch) (fun y c => addTime (cIdx ch (15 + y.who.val)) 1 c) c
  let c := addTime (cIdx ch 44) (b2n (windowBlocking c ch)) c
  let c := addTime (cIdx ch 24) (b2n (32 ≤ x.au.countP fun e => keyPc e.gran = 0)) c
  let c := addTime (cIdx ch 25) (b2n (32 ≤ x.au.countP fun e => keyPc e.gran = 1)) c
  let c := addTime (cIdx ch 36) (holdWaiters c ch) c
  forEach allMasters (fun m c => addTime (cIdx ch (39 + m.val)) (b2n x.masters[m].withheld) c) c

/-- GLOBAL.THROTTLE_NS of the dies and of the power estimate. -/
def timeThrottle (c : Ctl) : Ctl :=
  forEach (List.range 19) (fun i c => addTime (gIdx (52 + i)) (b2n (0 < c.therm.steps.toList.getD i 0)) c) c

/-- One nanosecond passes: the transmitters send (log 66), and the counters of time count. -/
def tick (c : Ctl) : Ctl :=
  let c := timeThrottle { c with now := c.now + 1, ports := c.ports.map sendPort }
  let c := forEach allPorts (fun p c => bringupExit p (noteSent p c)) c
  forEach allChans timeChan (forEach allMovers timeMover (forEach allRegions timeRegion (forEach allPorts timePort c)))

/-- A step with no command waiting. With the rails off no counter counts. -/
def idleStep (s : State) : State :=
  { s with ctl := if s.ctl.power.stage = .off then { s.ctl with now := s.ctl.now + 1 } else tick s.ctl }

end Sys2Proof.Machine
end

