-- ==== Sys2Proof/Machine/Beat.lean ====
section
/-! DEFINITION. The system beat, changeover windows, calibration triggers and in-service test (R256 to R277, R328, R329). -/

namespace Sys2Proof.Machine

open Sys2Proof

/-! ## The beat (R256 to R263). Times are in 0.1 ns, pulse widths in ns. -/

/-- The period in force (R256, R257). -/
def beatP (b : Beat) : Nat := if b.period = 0 then b.freerunNs * 10 else b.period

/-- The class of a pulse (Table 1 of R256). -/
inductive Pulse where
  | beat | mark | glitch
deriving DecidableEq, Repr

def classify (b : Beat) (width interval : Nat) : Pulse :=
  if 2 * interval < beatP b then .glitch
  else if 20 ≤ width && width ≤ 200 then .beat
  else if 300 ≤ width && 10 * width + 1000 ≤ beatP b then .mark
  else .glitch

/-- The mean of the intervals held. -/
def meanOf (l : List Nat) : Nat := if l.isEmpty then 0 else l.sum / l.length

/-- An interval lies within 1 % of another. -/
def nearTo (p x : Nat) : Bool := 99 * p ≤ 100 * x && 100 * x ≤ 101 * p

/-- The condition for leaving ACQUIRING (Table 2 of R257). -/
def steady (l : List Nat) : Bool :=
  l.length = 8 && l.all (nearTo (meanOf l)) && 5000 ≤ meanOf l && meanOf l ≤ 40000

/-- BEAT_EVENT names its kind in DETAIL (R289): 0 BEAT_LOST, 1 BEAT_RESTORED, 2 MARK_SLIP, 3 BEAT_UNCERTAIN (log 40). -/
def beatEvent (kind : Nat) (c : Ctl) : Ctl := raiseEvent 0x08 0 0 kind c

/-- One beat is counted: the number rises, and every lease loses a beat (R200). -/
def countBeat (c : Ctl) : Ctl :=
  let dec : LSeq → LSeq := fun q => { q with lease := q.lease - 1 }
  let reg : Region → Region := fun r => { r with coord := { r.coord with seqs := r.coord.seqs.map dec } }
  modBeat (fun b => { b with number := b.number + 1, sinceWindow := b.sinceWindow + 1, sinceEdge := b.sinceEdge + 1 }) { c with regions := c.regions.map reg }

/-- Whether a beat number satisfies the phase rule (R264). -/
def inPhase (b : Beat) (n : BitVec 64) : Bool := n.toNat % b.co.period = b.co.phase

/-- The counted beat opens a window, or one is skipped (R265). -/
def windowBeat (c : Ctl) : Ctl :=
  let b := c.beat
  if windowsOpen c && inPhase b b.number then
    if b.sinceWindow < 2 then bump (gIdx 11) (modBeat (fun b => { b with windowOpen := false }) c)
    else bump (gIdx 10) (modBeat (fun b => { b with windowOpen := true, lastWindow := some b.number, sinceWindow := 0 }) c)
  else modBeat (fun b => { b with windowOpen := false }) c

/-- Whether the beat counted last is one that opens a window (R264). -/
def isWindowBeat (c : Ctl) : Bool := windowsOpen c && inPhase c.beat c.beat.number

/-- A mark's beat is judged again when its number, or the settings that take effect at it, have changed whether it opens a
window (R256, R264, R266); `was` is how it stood before. -/
def rejudge (was : Bool) (c : Ctl) : Ctl := if isWindowBeat c = was then c else windowBeat c

/-- The reply to BEAT_SET_NUMBER (R260). -/
def loadReply (l : BeatLoad) (status : Nat) (payload : List Byte) : Ctl → Ctl := replyParked (l.via, l.tag, 0x0050, l.seq) status payload

/-- A pending load is cancelled: its command replies WRONG_STATE. -/
def cancelLoad (c : Ctl) : Ctl :=
  match c.beat.load with
  | some l => loadReply l 4 [] (modBeat (fun b => { b with load := none }) c)
  | none => c

/-- Leaving LOCKED cancels a NEXT load (R260). -/
def cancelNext (c : Ctl) : Ctl :=
  match c.beat.load with
  | some l => if l.at_.isNone then cancelLoad c else c
  | none => c

/-- An AT load whose number has been passed without its mark is cancelled (R260). -/
def cancelPassed (c : Ctl) : Ctl :=
  match c.beat.load with
  | some { at_ := some n, .. } => if n.toNat < c.beat.number.toNat then cancelLoad c else c
  | _ => c

/-- A pending load takes effect at its mark (R260): the mark's beat carries NUMBER, and the reply the number it replaces. -/
def loadAtMark (external : Bool) (c : Ctl) : Ctl :=
  match c.beat.load with
  | none => c
  | some l =>
    let hit : Bool := match l.at_ with
      | some n => n = c.beat.number
      | none => external && c.beat.state = .locked && l.since + 10000 ≤ c.now
    if hit then
      let old := c.beat.number
      loadReply l 0 (toBytes 8 old.toNat) (modBeat (fun b => { b with number := l.number, uncertain := false, load := none }) c)
    else c

/-- Calibrations that run (R269). -/
def calsRunning (c : Ctl) : Nat := (holders c).countP fun a => a.kind = 2

/-- The slices of a core layer, in ascending order. -/
def layerSlices (l : Nat) : List Nat := (List.range 136).filter fun s => sliceLayer s = l

/-- The units of a layer that a LAYER_CAL of its own leaves out: those not awaiting a retry (R318). -/
def settledUnits (c : Ctl) (l : Nat) : Nat :=
  ((layerSlices l).map fun s =>
    let run := c.chans[sliceChan s].calRejectRun.toList.getD (sliceRank s) 0
    if run = 1 || run = 2 then 0 else 2 ^ unitPos s).sum

/-- Whether a core layer is due (R269): its temperature has moved by more than GLOBAL.CAL_DELTA_T. -/
def calDue (c : Ctl) (l : Nat) : Bool :=
  match c.therm.eff.toList.getD l none with
  | some t => (10 * c.power.calDeltaT : Int) < (t - c.power.layerCalTemp.toList.getD (l - 1) 0).natAbs
  | none => false

/-- The calibration triggers, checked at every mark (R269, R318). -/
def calCheck (c : Ctl) : Ctl :=
  if c.power.stage ≠ .ready || 4 ≤ stackClass c.umpire || c.power.selfRefresh then c
  else
    forEach ((List.range 17).map (· + 1)) (fun l c =>
      let settled := if calDue c l then 0 else settledUnits c l
      if c.power.layers.toList.getD (l - 1) 0 = 2 && settled ≠ 255 && calsRunning c < 4 && !(c.mgr.running.any fun a => a.kind = 2 && a.target = l) then
        let r := addActivity 2 5 l 0 true c
        let put : Activity → Activity := fun a => { a with result := BitVec.ofNat 32 settled }
        grantWaiting (modMgr (fun g => { g with running := mapIf (fun a => a.id = r.1) put g.running }) r.2)
      else c) c

/-- What a mark does, external or internal (R259, R260, R264, R269, R446). -/
def markActions (external : Bool) (c : Ctl) : Ctl :=
  let c := loadAtMark external c
  let c := modBeat (fun b => { b with co := b.coPending.getD b.co, coPending := none, snapshotBeat := b.number }) c
  calCheck { c with snapshot := c.score }

/-- The internal beat counts a beat, which is an internal mark at a multiple of 1,024 (R257). -/
def internalCount (c : Ctl) : Ctl :=
  let c := countBeat c
  windowBeat (if c.beat.number.toNat % 1024 = 0 then markActions false c else c)

/-- FREE_RUN is entered: counted and reported (R261). -/
def enterFreeRun (c : Ctl) : Ctl :=
  beatEvent 0 (cancelNext (bump (gIdx 8) (modBeat (fun b => { b with state := .freeRun, bad := 0, intervals := [] }) c)))

/-- The edge is missing (R261). -/
def beatMissing (c : Ctl) : Ctl := if c.beat.state = .locked then internalCount (enterFreeRun c) else c

def execBeatMissing (s : State) : Host.Outcome State Fault Refusal := onCtl beatMissing s

/-- A valid edge in LOCKED (R257, R261): counted, late or not, and P follows the intervals near it. -/
def edgeLocked (interval : Nat) (c : Ctl) : Ctl :=
  let p := c.beat.period
  let c := countBeat c
  let c := if p + 1000 < interval then bump (gIdx 6) c else c
  let c := windowBeat c
  if nearTo p interval then
    let l := (interval :: c.beat.intervals).take 8
    modBeat (fun b => { b with intervals := l, period := meanOf l, bad := 0, edgeNumber := b.number, sinceEdge := 0 }) c
  else
    let c := modBeat (fun b => { b with bad := b.bad + 1, edgeNumber := b.number, sinceEdge := 0 }) c
    if c.beat.bad = 8 then enterFreeRun c else c

/-- A valid edge outside LOCKED (Table 2 of R257): the intervals decide on MARK_WAIT. -/
def edgeUnlocked (interval : Nat) (c : Ctl) : Ctl :=
  let b := c.beat
  let c := modBeat (fun b => { b with edgeNumber := b.number, sinceEdge := 0 }) c
  if b.state = .markWait then
    if nearTo (meanOf b.intervals) interval then modBeat (fun b => { b with intervals := (interval :: b.intervals).take 8 }) c
    else modBeat (fun b => { b with state := b.waitFrom, intervals := [interval] }) c
  else
    let l := (interval :: b.intervals).take 8
    if steady l then modBeat (fun b => { b with intervals := l, waitFrom := b.state, state := .markWait }) c
    else modBeat (fun b => { b with intervals := l }) c

/-- A pulse on BEAT_P/N: its width in ns and the interval from the last valid edge in 0.1 ns (R256). -/
def beatEdge (width interval : Nat) (c : Ctl) : Ctl :=
  match classify c.beat width interval with
  | .glitch => bump (gIdx 7) c
  | _ =>
    if c.beat.state = .locked then
      (if 2 * interval < 3 * c.beat.period then edgeLocked interval c else edgeUnlocked interval (beatMissing c))
    else edgeUnlocked interval c

def execBeatEdge (width interval : Nat) (s : State) : Host.Outcome State Fault Refusal := onCtl (beatEdge width interval) s

/-- The multiple of 1,024 nearest to a number with a fraction in 1/65,536, ties going up. -/
def nearestMark (n frac : Nat) : Nat := (n * 65536 + frac + 512 * 65536) / (1024 * 65536) * 1024

/-- A mark captured in LOCKED checks its number (R259). -/
def markLocked (c : Ctl) : Ctl :=
  let was := isWindowBeat c
  let n := c.beat.number.toNat
  let m := nearestMark n 0
  let c :=
    if m = n then c
    else
      let far := 63 < (if m < n then n - m else m - n)
      cancelPassed (beatEvent 2 (bump (gIdx 9) (modBeat (fun b => { b with number := BitVec.ofNat 64 m, uncertain := b.uncertain || far }) c)))
  rejudge was (markActions true c)

/-- The first mark in MARK_WAIT switches the count to the external beat (R263): `frac` is the part of a beat that had passed
at the mark's rising edge, in 1/65,536. -/
def markSwitch (frac : Nat) (c : Ctl) : Ctl :=
  let n0 := c.beat.edgeNumber.toNat
  let later := c.beat.sinceEdge
  let m := nearestMark n0 frac
  let taken := (n0 = m && frac ≤ 32768) || (0 < later && n0 + 1 = m && 32768 ≤ frac)
  -- the beats counted after the mark's own keep their places behind it
  let after := if taken && n0 ≠ m then later - 1 else later
  let lock : Ctl → Ctl := modBeat fun b => { b with state := .locked, period := meanOf b.intervals, bad := 0, lockReported := true }
  let c :=
    if taken then
      let c := modBeat (fun b => { b with number := b.number - BitVec.ofNat 64 after }) (lock c)
      rejudge (isWindowBeat c) (markActions true c)
    else
      let c := countBeat c
      let c := if m = n0 + 1 then c else bump (gIdx 9) c
      windowBeat (markActions true (cancelPassed (modBeat (fun b => { b with number := BitVec.ofNat 64 m }) (lock c))))
  beatEvent 1 (modBeat (fun b => { b with number := b.number + BitVec.ofNat 64 after }) c)

/-- The falling edge of a mark on BEAT_P/N. -/
def mark (frac : Nat) (c : Ctl) : Ctl :=
  match c.beat.state with
  | .locked => markLocked c
  | .markWait => markSwitch frac c
  | _ => c

def execMark (frac : Nat) (s : State) : Host.Outcome State Fault Refusal := onCtl (mark frac) s

def execInternalBeat (s : State) : Host.Outcome State Fault Refusal :=
  onCtl (fun c => if c.beat.state = .locked then c else internalCount c) s

/-- LOCKED was not reached within 10 ms of firmware starting: BEAT_LOST, once (R258). -/
def beatLockTimeout (c : Ctl) : Ctl :=
  if c.beat.state = .locked || c.beat.lockReported || !c.life.fwRunning then c
  else beatEvent 0 (modBeat (fun b => { b with lockReported := true }) c)

def execBeatLockTimeout (s : State) : Host.Outcome State Fault Refusal := onCtl beatLockTimeout s

/-- FREE_RUN has lasted 2 s (R262). -/
def freeRunTimeout (c : Ctl) : Ctl :=
  if c.beat.state = .freeRun then beatEvent 3 (modBeat (fun b => { b with uncertain := true }) c) else c

def execFreeRunTimeout (s : State) : Host.Outcome State Fault Refusal := onCtl freeRunTimeout s

/-! ## Windows (R266 to R268) -/

/-- The block moment of a channel: before the beat that is expected to open a window, or at its edge, then without its lead (R266).
The window opens then, and with it a written GLOBAL.REFRESH_MODE takes effect (R228): which moment of a changeover that is, the
spec leaves open (DESIGN CHOICE, log 67). -/
def windowBlock (ch : Fin 32) (c : Ctl) : Ctl :=
  let x := c.chans[ch]
  let put : Ctl → Ctl := modChan ch fun x => { x with windowBlocked := some c.now, refreshMode := c.beat.refreshMode }
  if !windowsOpen c || x.windowBlocked.isSome || x.windowRuns || c.power.ranksAsleep || c.power.selfRefresh then c
  else if inPhase c.beat (c.beat.number + 1) then put c
  else if c.beat.windowOpen then bump (cIdx ch 45) (put c)
  else c

def execWindowBlock (c : Fin 32) (s : State) : Host.Outcome State Fault Refusal := onCtl (windowBlock c) s

/-- The block lifts when its beat is late or does not open a window (R266). -/
def windowBlockLift (ch : Fin 32) (c : Ctl) : Ctl :=
  let x := c.chans[ch]
  if x.windowBlocked.isSome && !x.windowRuns && !c.beat.windowOpen then modChan ch (fun x => { x with windowBlocked := none, windowEnd := c.now }) c else c

def execWindowBlockLift (c : Fin 32) (s : State) : Host.Outcome State Fault Refusal := onCtl (windowBlockLift c) s

/-- The longest time that a window's work may take (R266), in ns: CO_LIMIT of CO_PERIOD beats. -/
def windowLength (b : Beat) : Nat := b.co.limit * b.co.period * beatP b / 1000

/-- Refresh or targeted refresh is still owed at a channel (R268). -/
def refreshOwed (c : Ctl) (ch : Fin 32) : Bool :=
  c.chans[ch].banks.any fun b => (c.chans[ch].refreshMode && 0 < b.2.debt) || (c.chans[ch].trrDefer && b.2.disturb.pending.any fun x => !x.2.2)

/-- A write to GLOBAL.REFRESH_MODE (R228, R264): refused while changeovers are disabled or a set that disables them waits. -/
def refreshModeWrite (mode : Bool) (c : Ctl) : Ctl :=
  if mode && (!c.beat.co.enable || (c.beat.coPending.any fun x => !x.enable)) then c
  else modBeat (fun b => { b with refreshMode := mode }) c

def execRefreshMode (mode : Bool) (s : State) : Host.Outcome State Fault Refusal := onCtl (refreshModeWrite mode) s

/-! ## In-service test (R273 to R277, R324, R328, R329) -/

/-- A unit comes due (R275), `overdue` thousandths of the target's period ago: it joins the units not yet done, and the target's test
asks for its claim. The target lags once its oldest unit is late by more than 10 % (R277). -/
def istUnitDue (i : Fin 25) (overdue : Nat) (c : Ctl) : Ctl :=
  if c.power.stage ≠ .ready then c
  else askIst i (modIst i (fun t => { t with due := t.due ++ [(c.now : Int) - (overdue * istPeriod i / 1000 : Nat)] }) c)

def execIstUnitDue (target : Fin 25) (overduePermille : Nat) (s : State) : Host.Outcome State Fault Refusal :=
  onCtl (istUnitDue target overduePermille) s

/-- The lowest free spare column of a channel (R324). -/
def freeSpare (x : Chan) : Option Nat := (List.range 4).find? fun i => !x.spareMap.getLsbD (8 * i + 7) && !x.withdrawn.getLsbD i

/-- The taps of a spare lane are copied into the signal's lane at every layer of the channel (R323). -/
def copyTaps (ch : Fin 32) (spare column : Nat) (x : Chan) : Chan :=
  if column < 96 then
    (chanRanks ch).foldl (fun x k =>
      let l := sliceLayer (sliceOf ch k)
      tapPut (l * 128 + column / 48 * 64 + column % 48) (tapGet x (l * 128 + 48 + spare)) x) x
  else x

/-- The fields of a repair record as they lie in OTP, a GENERATION of 2 bytes and 3 bytes for each repair, which the spec does not lay
out (R303; DESIGN CHOICE, log 77). -/
def recordFields (r : RepairCopy) : List (Nat × Nat) := (2, r.generation.toNat) :: r.repairs.flatMap fun x => [(2, x.1), (1, x.2)]
/-- The CRC-32C of a repair record (R303). -/
def recordCrc (r : RepairCopy) : BitVec 32 := BitVec.ofNat 32 (crc32c (2 + 3 * r.repairs.length) (packBytes (recordFields r)))
def recordOk (r : RepairCopy) : Bool := r.crc = recordCrc r

/-- The repair record to apply, with the DETAIL of REPAIR_RECORD, zero for none (Table 9 of R303). -/
def chosenRecord (a b : RepairCopy) : Option (RepairCopy × Nat) :=
  match recordOk a, recordOk b with
  | true, true =>
    if a.generation = b.generation && a.repairs = b.repairs then some (a, 0)
    else if a.generation.toNat < b.generation.toNat then some (b, 3)
    else if b.generation.toNat < a.generation.toNat then some (a, 3)
    else some ({ a with repairs := a.repairs ++ b.repairs.filter (fun r => !(a.repairs.any fun x => x.1 = r.1)) }, 1)
  | true, false => some (a, 2)
  | false, true => some (b, 2)
  | false, false => none

/-- The repair record in force: the one that R303 chooses. -/
def appliedRecord (l : Life) : RepairCopy := match chosenRecord l.repairA l.repairB with | some r => r.1 | none => {}

/-- A new generation of the repair record with one more repair is written to copy A, then to copy B (R325). -/
def writeRecord (unit repair : Nat) (l : Life) : Life :=
  let old := appliedRecord l
  let new : RepairCopy := { generation := old.generation + 1, repairs := old.repairs ++ [(unit, repair)] }
  let new := { new with crc := recordCrc new }
  { l with repairA := new, repairB := new }

/-- A remap of a column to a spare (R323): counted, and made lasting in the repair record when a write is left (R325). The histograms
that the channel's units have gathered are discarded, and their probes begin again (R320; log 51). -/
def remapColumn (ch : Fin 32) (spare column : Nat) (c : Ctl) : Ctl :=
  let c := modChan ch (fun x => copyTaps ch spare column
    { x with spareMap := x.spareMap ||| BitVec.ofNat 32 ((128 + column) * 2 ^ (8 * spare)), sparesFree := x.sparesFree - 1
             probes := x.probes.map fun n => { n with slots := 0 } }) (bump (cIdx ch 58) c)
  if 0 < c.power.repairOtpLeft then
    modLife (writeRecord (ch.val * 128 + column) spare) (modPower (fun w => { w with repairOtpLeft := w.repairOtpLeft - 1 }) c)
  else c

/-- DETAIL of TSV_FAULT (Table 4 of R324). -/
def tsvDetail (column layer : Nat) (marginal : Bool) (assigned : Nat) : Nat :=
  column + 2 ^ 7 * layer + 2 ^ 12 * b2n marginal + 2 ^ 13 * b2n (100 ≤ column) + 2 ^ 14 * assigned

/-- A bad bond (R324): a spare column is withdrawn, a signal column remapped to the lowest free spare. -/
def badBond (ch : Fin 32) (column layer : Nat) (marginal : Bool) (c : Ctl) : Ctl :=
  if 100 ≤ column then
    let i := column - 100
    let c := modChan ch (fun x => { x with
      sparesFree := if x.withdrawn.getLsbD i || x.spareMap.getLsbD (8 * i + 7) then x.sparesFree else x.sparesFree - 1
      withdrawn := x.withdrawn ||| BitVec.ofNat 4 (2 ^ i) }) c
    raiseEvent 0x44 4 ch.val (tsvDetail column layer marginal 7) c
  else match freeSpare c.chans[ch] with
    | some i => raiseEvent 0x44 4 ch.val (tsvDetail column layer marginal i) (remapColumn ch i column c)
    | none => raiseEvent 0x44 4 ch.val (tsvDetail column layer marginal 7) c

/-- A spare carries a signal column, which is then no longer driven (R323). -/
def carried (x : Chan) (column : Nat) : Bool := (List.range 4).any fun i => bitsOf x.spareMap.toNat (8 * i) 8 = 128 + column

/-- The unit in progress ends: a unit brought forward, or the oldest that is due, after which the next follows. -/
def istNext (i : Fin 25) (t : Ist) : Ist :=
  match t.forward with
  | _ :: l => { istClear t with forward := l, preempted := false }
  | [] => { istClear t with unit := (t.unit + 1) % istUnits i, due := t.due.tail, preempted := false }

/-- A unit of a target ends with or without a finding, and the claim is released; the test asks for it again while a unit is due or
brought forward (R275). -/
def istUnitEnd (i : Fin 25) (found : Bool) (c : Ctl) : Ctl :=
  let c := endActivity (istActivity i).2.2.2 2 (BitVec.ofNat 32 (b2n found)) (modIst i (istNext i) c)
  if c.mgr.ist[i].due.isEmpty && c.mgr.ist[i].forward.isEmpty then c else askIst i c

/-- The unit that a target tests now. -/
def istUnit (c : Ctl) (i : Fin 25) : Nat := c.mgr.ist[i].forward.headD c.mgr.ist[i].unit

/-- The physical page of a bench target's unit. -/
def istPage (c : Ctl) (i : Fin 25) : Nat := (128 + i.val) * 16384 + istUnit c i

/-- A step of in-service test as the arbiter sees it: MAINT at priority 0, alone (Table 3 of R216). -/
def istCand (c : Ctl) : Cand := { who := 6, prio := 0, since := c.now, tc1 := false, work := .maint { what := .test, key := none, prio := 0, since := c.now } }

/-! ### Bench units (R328) -/

/-- The granule visits of a step: 48 of the 6 × 2,048 that the march and the checkerboard pass make, so that a unit takes 256 steps
(DESIGN CHOICE, log 23). -/
def stepVisits : Nat := 48
def unitVisits : Nat := 6 * 2048

/-- The checkerboard: bytes of 0x55 in even granules, of 0xAA in odd ones (DESIGN CHOICE, log 23). -/
def checkerboard (g : Nat) : GData := BitVec.ofNat 256 (if g % 2 = 0 then (2 ^ 256 - 1) / 3 else (2 ^ 256 - 1) / 3 * 2)

/-- Visit `n` of a unit: its granule, the pattern that it reads if it reads, and the one that it writes if it writes. -/
def marchVisit (n : Nat) : Nat × Option GData × Option GData :=
  let k := n % 2048
  let ones : GData := BitVec.allOnes 256
  match n / 2048 with
  | 0 => (k, none, some 0)
  | 1 => (k, some 0, some ones)
  | 2 => (2047 - k, some ones, some 0)
  | 3 => (2047 - k, some 0, none)
  | 4 => (k, none, some (checkerboard k))
  | _ => (k, some (checkerboard k), none)

/-- A granule as read is good: its words decode CLEAN to the pattern written (R328). -/
def benchGood (raw : BitVec 320) (want : GData) : Bool :=
  let d := granDecode raw
  d.data = want && !d.poisoned && !d.uncorrectable && d.ce1 = 0 && d.ce2 = 0

/-- One visit: the row is opened, the granule read and compared, and written through the encoder. The first granule that fails is
noted. -/
def benchVisit (i : Fin 25) (reads : List (Nat × BitVec 320)) (k : Nat) (x : List Host.Cell × Ctl) : List Host.Cell × Ctl :=
  let t := x.2.mgr.ist[i]
  let v := marchVisit (t.done + k)
  let key := granKey (istPage x.2 i) v.1
  let raw := dramRead x.1 key ^^^ ((reads.find? fun r => r.1 = k).map (·.2)).getD 0
  let bad : Bool := match v.2.1 with | some want => !benchGood raw want | none => false
  let c := modIst i (fun t => if bad && t.failed.isNone then { t with failed := some v.1 } else t) (openRowFor key x.2)
  (match v.2.2 with | some d => dramWrite x.1 key (granEncode d) | none => x.1, c)

/-- A bench unit ends (R276): a granule that failed is reported with its page. -/
def benchEnd (i : Fin 25) (c : Ctl) : Ctl :=
  match c.mgr.ist[i].failed with
  | none => istUnitEnd i false c
  | some g =>
    let ppn := istPage c i
    istUnitEnd i true (raiseEvent 0x45 7 ppn (dataDetail none (granKey ppn g) 0 5 0) (bump (gIdx 15) c))

/-- One step of a bench unit. -/
def benchStep (i : Fin 25) (reads : List (Nat × BitVec 320)) (m : List Host.Cell) (c : Ctl) : List Host.Cell × Ctl :=
  let r := (List.range stepVisits).foldl (fun x k => benchVisit i reads k x) (m, c)
  let c := modIst i (fun t => { t with done := t.done + stepVisits }) r.2
  (r.1, if unitVisits ≤ c.mgr.ist[i].done then benchEnd i c else c)

/-! ### Units of IST_TSV (R329) -/

/-- A bond that fails in a step: at full drive it is bad at once. -/
def bondFails (ch : Fin 32) (layer : Nat) (b : Nat × Bool) (c : Ctl) : Ctl :=
  if b.2 || carried c.chans[ch] b.1 then c else badBond ch b.1 layer false (bump (gIdx 15) c)

/-- A bond that failed at reduced drive only: it is bad when its bit was set in the last hourly unit, and has its bit set. -/
def bondWeak (ch : Fin 32) (layer : Nat) (was : List (Nat × Nat)) (b : Nat × Bool) (c : Ctl) : Ctl :=
  if !b.2 || carried c.chans[ch] b.1 then c
  else if was.contains (b.1, layer) then badBond ch b.1 layer true (bump (gIdx 15) c)
  else modChan ch (fun x => { x with marginal := x.marginal ++ [(b.1, layer)] }) c

/-- The last step of a unit: the bit of a bond that passed clears, and the bonds that failed at reduced drive are settled in turn. A
column that a spare carries was not tested. -/
def bondsEnd (i : Fin 25) (ch : Fin 32) (c : Ctl) : Ctl :=
  let layer := i.val - 7
  let bonds := c.mgr.ist[i].bonds
  let was := c.chans[ch].marginal
  let c := modChan ch (fun x => { x with marginal := x.marginal.filter fun b => b.2 ≠ layer || carried x b.1 || bonds.any fun y => y.1 = b.1 }) c
  istUnitEnd i (bonds.any fun b => !b.2 || was.contains (b.1, layer)) (forEach bonds (bondWeak ch layer was) c)

/-- One of the four steps of a unit, which tests 26 columns. -/
def bondStep (i : Fin 25) (ch : Fin 32) (bonds : List (Nat × Bool)) (c : Ctl) : Ctl :=
  let mine := bonds.filter fun b => b.1 / 26 = c.mgr.ist[i].done && !carried c.chans[ch] b.1
  let c := forEach mine (bondFails ch (i.val - 7)) (modIst i (fun t => { t with done := t.done + 1, bonds := t.bonds ++ mine }) c)
  if 4 ≤ c.mgr.ist[i].done then bondsEnd i ch c else c

/-! ### Steps (R275, R277) -/

/-- The channel of the unit that a target tests next. -/
def istChan (c : Ctl) (i : Fin 25) : Fin 32 := if i.val < 8 then sliceChan (128 + i.val) else Fin.ofNat 32 (istUnit c i)

/-- The ranks of a channel that a target's steps use: the spare slice, or those on the layer. -/
def istRanks (i : Fin 25) (ch : Fin 32) : List Nat :=
  (chanRanks ch).filter fun r => if i.val < 8 then r = 4 else sliceLayer (sliceOf ch r) = i.val - 7

/-- The moment at which a step in an open window ends (item 4 of Table 4): it follows what runs in its slice, and the target's step
before it. -/
def istWindowEnd (c : Ctl) (i : Fin 25) (ch : Fin 32) : Nat :=
  Nat.max (banksFree c ch ((istRanks i ch).flatMap rankBanks)) c.mgr.ist[i].busyUntil + 100

/-- Whether a step of a lagging target runs in the open window of its channel (R267, R277): its slice has no targeted refresh and no
batched refresh left that fits, and the step ends by the window end. -/
def istFits (c : Ctl) (i : Fin 25) (ch : Fin 32) : Bool :=
  istLagging c i && c.chans[ch].windowRuns && istWindowEnd c i ch ≤ c.chans[ch].windowUntil
    && (istRanks i ch).all fun r => !sliceMore c (sliceOf ch r)

/-- A step of a lagging target is left that fits in the window (R268). -/
def testsMore (c : Ctl) (ch : Fin 32) : Bool :=
  (List.finRange 25).any fun i => istChan c i = ch && istFits c i ch && (holders c).any fun a => a.id = (istActivity i).2.2.2

/-- A channel closes its window (R268): when no item of Table 4 has anything left that fits, or at the window end. -/
def windowClose (ch : Fin 32) (c : Ctl) : Ctl :=
  let x := c.chans[ch]
  if !x.windowRuns || ((windowMore c ch || testsMore c ch) && c.now < x.windowUntil) then c
  else
    let c := if refreshOwed c ch then bump (cIdx ch 46) c else c
    modChan ch (fun x => { x with windowRuns := false, windowBlocked := none, windowEnd := c.now }) c

def execWindowClose (c : Fin 32) (s : State) : Host.Outcome State Fault Refusal := onCtl (windowClose c) s

/-- A step runs in the window: it blocks the slice under test for 100 ns. -/
def istInWindow (i : Fin 25) (ch : Fin 32) (c : Ctl) : Ctl :=
  let till := istWindowEnd c i ch
  bump (gIdx 14) (windowItem ch till (modChan ch (fun x =>
    ((istRanks i ch).flatMap rankBanks).foldl (fun x k => bankPut k { bankGet x k with busyUntil := till } x) x) c))

/-- Whether a step may start as the channel's only work (R211, R275): its input queues empty for 200 ns, and no window that blocks. -/
def istIdle (c : Ctl) (ch : Fin 32) : Bool :=
  queuesEmpty c ch && c.chans[ch].lastBusy + 200 ≤ c.now && !windowBlocks c.chans[ch]

/-- A preempted test resumes, once its target is free (R273). -/
def istResume (i : Fin 25) (c : Ctl) : Ctl :=
  let put : Activity → Activity := fun y => { y with state := 0 }
  grantWaiting (modMgr (fun g => { g with running := mapIf (fun y => y.id = (istActivity i).2.2.2) put g.running })
    (modIst i (fun t => { t with preempted := false }) c))

/-- A bench target's page is not on the bench (R276): the unit has no result. -/
def istSkips (c : Ctl) (i : Fin 25) : Bool := i.val < 8 && useGet c (istPage c i) ≠ .bench

/-- A step takes its time: in the window, or as the channel's only work, where the one before it has ended. -/
def istTime (i : Fin 25) (ch : Fin 32) (c : Ctl) : Option Ctl :=
  if istFits c i ch then some (modIst i (fun t => { t with busyUntil := istWindowEnd c i ch }) (istInWindow i ch c))
  else if istIdle c ch && c.mgr.ist[i].busyUntil ≤ c.now then some (modIst i (fun t => { t with busyUntil := c.now + 100 }) (arbitrate [istCand c] c ch).2)
  else none

/-- One step of a unit (R275, R277): on an idle channel, or for a lagging target inside a window; a drained slice takes none (R310). -/
def istStep (i : Fin 25) (bonds : List (Nat × Bool)) (reads : List (Nat × BitVec 320)) (m : List Host.Cell) (c : Ctl) : List Host.Cell × Ctl :=
  let ch := istChan c i
  match c.mgr.running.find? fun x => x.id = (istActivity i).2.2.2 with
  | none => (m, c)
  | some x =>
    if x.state = 4 then (m, istResume i c)
    else if x.state ≠ 1 || c.power.ranksAsleep || c.power.selfRefresh || (istRanks i ch).any fun r => c.chans[ch].sliceDrain.getLsbD r then (m, c)
    else if istSkips c i then (m, istUnitEnd i false c)
    else match istTime i ch c with
      | none => (m, c)
      | some c => if i.val < 8 then benchStep i reads m c else (m, bondStep i ch bonds c)

def execIstStep (target : Fin 25) (bonds : List (Nat × Bool)) (reads : List (Nat × BitVec 320)) (s : State) : Host.Outcome State Fault Refusal :=
  onBoth (istStep target bonds reads) s

/-! ## Work start (R266, R267, R277) -/

/-- The test steps of lagging targets that a channel's window starts with (item 4 of Table 4). -/
def windowTests (ch : Fin 32) (tests : List IstRun) (m : List Host.Cell) (c : Ctl) : List Host.Cell × Ctl :=
  tests.foldl (fun r x => if istFits r.2 x.target ch && istChan r.2 x.target = ch then istStep x.target x.bonds x.reads r.1 r.2 else r) (m, c)

/-- The refresh work of a window begins, and may go on to the window end. -/
def openWindow (ch : Fin 32) (c : Ctl) : Ctl :=
  windowWork ch (modChan ch (fun x => { x with windowRuns := true, windowUntil := c.now + windowLength c.beat }) c)

/-- Work start W (R266, R267): refresh work, then the test steps that still fit. -/
def windowWorkStart (ch : Fin 32) (tests : List IstRun) (m : List Host.Cell) (c : Ctl) : List Host.Cell × Ctl :=
  let x := c.chans[ch]
  if x.windowBlocked.isSome && c.beat.windowOpen && !x.windowRuns then windowTests ch tests m (openWindow ch c) else (m, c)

def execWindowWorkStart (c : Fin 32) (tests : List IstRun) (s : State) : Host.Outcome State Fault Refusal :=
  onBoth (windowWorkStart c tests) s

end Sys2Proof.Machine
end

