-- ==== Sys2Proof/Machine/Mgmt.lean ====
section
/-! DEFINITION. Management commands: how they are taken up and checked (R383 to R396, R400), and the commands on status,
faults, beat, regulation, temperature, ownership and firmware loading. -/

namespace Sys2Proof.Machine

open Sys2Proof

/-! ## What the security state says (R352 to R366) -/

/-- The low bits of a thermometer field that are blown, counted among `n` (R354). -/
def thermoRun (f : BitVec 24) : Nat → Nat
  | 0 => 0
  | n + 1 => if f.getLsbD (23 - n) then thermoRun f n + 1 else 0
/-- The value n of a thermometer field: the number of its low bits that are blown. -/
def thermoValue (f : BitVec 24) : Nat := thermoRun f 24
/-- A copy is a thermometer with a valid value: only its low n bits are blown, and n is at most 18. -/
def thermoValid (f : BitVec 24) : Bool := f.toNat + 1 = 2 ^ thermoValue f && thermoValue f ≤ 18
/-- Whether either SCRAPPED fuse is blown (R354). -/
def scrapped (l : Life) : Bool := l.scrapA || l.scrapB
/-- GLOBAL.LC_STATE (R354). -/
def lcState (l : Life) : Nat :=
  let n := thermoValue l.thermA
  if scrapped l then 4 else if n ≤ 1 then n else if n % 2 = 0 then 2 else 3
/-- GLOBAL.LC_SERVICE_ENTRIES. -/
def serviceEntries (l : Life) : Nat := (thermoValue l.thermA - 1) / 2
/-- The condition of an identity slot (R357). -/
def slotState (s : SlotFuses) : IdSlot :=
  if s.destroyed then .destroyed else if s.certs.isSome then .certified else if s.keyed then .generated else .empty
/-- The live owner slot. -/
def liveOwner (l : Life) : Option OwnerSlot := l.owners.find? fun o => !o.killed
def identitySlot (l : Life) : Nat := match l.slotInUse with | some i => i.val | none => 0xF
def ownerPortCode (l : Life) : Nat := match l.ownerPort with | some p => p.val | none => 7
def slotsLeft (l : Life) : Nat := l.slots.toList.countP fun s => slotState s = .empty
/-- GLOBAL.OWNER_SLOTS_LEFT: four slots in a FIELD period. -/
def ownerSlotsLeft (l : Life) : Nat := if lcState l = 2 then 4 - l.owners.length else 0
/-- A fresh NONCE from the DRBG (R363); in class 5 both stay cleared until a power cycle (R381). -/
def newNonce (c : Ctl) : Ctl :=
  if c.umpire.class5 then c
  else modLife (fun l => { l with nonce := Config.drbg c.draws, drbg := Config.drbgState c.draws }) { c with draws := c.draws + 1 }
/-- A Kamond signer certificate passes R356 with a usage: the ROM's root issued it, and it verifies. -/
def certOk (l : Life) (x : Cert) (usage : Bool) : Bool := x.issuer = l.rootDigest && x.verifies && usage

/-! ## Admission (R384, R391, R392, R400, R408) -/

/-- The opcodes of Table 5 of R398. -/
def mgmtOpcodes : List Nat :=
  [0x01, 0x02, 0x10, 0x11, 0x20, 0x21, 0x22, 0x23, 0x24, 0x30, 0x31, 0x32, 0x40, 0x41, 0x50, 0x51, 0x60, 0x61, 0x62] ++
  [0x70, 0x71, 0x72, 0x73, 0x80, 0x81, 0x82, 0x83, 0x90, 0x91, 0x92, 0xA0, 0xA1, 0xF0, 0x100]

/-- Whether an opcode is assigned and available on its transport. -/
def opAvailable (op : Nat) (via : Via) : Bool :=
  mgmtOpcodes.contains op && !(op = 0xA1 && via = .i3c) && !(op = 0x100 && via ≠ .i3c)

/-- Commands that class 4 refuses (R400). -/
def refusedAt4 (op : Nat) : Bool := [0x21, 0x22, 0x23, 0x24, 0x31, 0x60, 0x72, 0x92, 0x90].contains op

/-- The status with which the stack's state refuses a command (R400, R408). -/
def stateRefuses (op : Nat) (via : Via) (c : Ctl) : Option Nat :=
  let no := if via = .i3c then 4 else 8
  if c.umpire.class5 then (if via = .i3c && (op = 0x02 || op = 0x70) then none else some no)
  else if c.power.stage = .shutdown then (if via = .i3c && op = 0x02 then none else some no)
  else if c.power.stage = .scrapped then (if via = .i3c && (op = 0x01 || op = 0x02) then none else some no)
  else if !c.life.fwRunning || c.power.stage = .hold then
    (if via = .i3c && (op = 0x01 || op = 0x02 || op = 0x100) then none else some 4)
  else if c.power.stage ≠ .ready && !(op = 0x01 || op = 0x02) then some 4
  else if stackClass c.umpire = 4 && refusedAt4 op then some 4
  else none

/-- Privileged commands (R362). -/
def privileged (op : Nat) : Bool := op = 0x40 || op = 0x90 || op = 0x91 || op = 0x92

/-- An in-band command of a port that is not the owner port (R384). -/
def notOwner (via : Via) (c : Ctl) : Bool := match via with | .port p => decide (c.life.ownerPort ≠ some p) | .i3c => false

/-- The bytes of an envelope (Table 7 of R392): CRED is padded to a multiple of 4. -/
def envLen (e : Envelope) : Nat := 100 + 4 * ((e.credLen + 3) / 4)

/-- The lengths of a command agree (R387, R391, R392): PARAM_LEN fits the opcode, and BODY_LEN adds the envelope to it. -/
def framed (m : Mgmt) : Bool :=
  m.lenOk && (match m.env with
    | none => m.paramLen = m.bodyLen
    | some e => m.paramLen + envLen e = m.bodyLen && (if e.signer = 1 then e.credLen = 97 else 1 ≤ e.credLen && e.credLen ≤ 1024))

/-- The first check of R391, up to step 4, that a command fails. In-band, every command before firmware runs fails the second (R86). -/
def gate (op : Nat) (m : Mgmt) (c : Ctl) : Option Nat :=
  if !opAvailable op m.via && (c.life.fwRunning || m.via = .i3c) then some 8
  else match stateRefuses op m.via c with
    | some st => some st
    | none =>
      if notOwner m.via c then some 3
      else if !framed m || (m.env.isSome && !privileged op) then some 2
      else none

/-- The reference by which a command is answered. -/
def refOf (op : Nat) (m : Mgmt) : CmdRef := (m.via, m.tag, op, m.seq)

/-- Whether a command reaches the stack: over a link, or over I3C while the rails are up. In SCRAPPED a power-up answers only once the
erase has run (R379). -/
def reaches (via : Via) (c : Ctl) : Bool :=
  match via with
  | .port p => linkUp c.ports[p] && c.power.stage ≠ .shutdown
  | .i3c => c.power.stage ≠ .off && (!scrapped c.life || c.power.stage = .scrapped)

/-- Whether a command header is that of a fragment (Table 2 of R387). -/
def isFragment (m : Mgmt) (op frag bodyLen paramLen fragLen : Nat) (signed last : Bool) (s : Slot) : Bool :=
  let x := s.toNat
  bitsOf x 0 16 = op && bitsOf x 16 16 = m.seq && bitsOf x 32 16 = bodyLen && bitsOf x 48 16 = paramLen && bitOf x 64 == signed
    && bitOf x 65 == last && bitsOf x 66 4 = frag && bitsOf x 96 10 = fragLen

/-- Whether a command header is that of a command's last or only packet. -/
def isCommand (op : Nat) (m : Mgmt) : Slot → Bool := isFragment m op m.frag m.bodyLen m.paramLen m.fragLen m.env.isSome true

/-- A message of type 0x7F under another vendor field is none of the stack's: it is discarded and counted like one of another type, as
the spec gives no other answer (R386; DESIGN CHOICE, log 76). -/
def foreign (m : Mgmt) : Bool := m.via = .i3c && m.vendor ≠ 0x0000D128

/-- A message reaches firmware or the boot ROM, or is discarded. -/
def deliver (m : Mgmt) (f : Ctl → Ctl) (c : Ctl) : Ctl :=
  if !reaches m.via c then c else if foreign m then bump (gIdx 32) c else f c

/-- A command arrives: its packet leaves the receive buffer. -/
def arrive (pkt : Nat) (via : Via) (tag : Nat) (cmd : Slot → Bool) (c : Ctl) : Ctl :=
  match via with
  | .port p => modPort p (takeMgmt pkt tag cmd) c
  | .i3c => c

/-- Commands taken up by firmware, by transport (R405). -/
def countCmd (via : Via) (c : Ctl) : Ctl :=
  if c.life.fwRunning then bump (match via with | .port _ => gIdx 28 | .i3c => gIdx 29) c else c

/-- A processed command with a signed envelope replaces NONCE, whatever its outcome (R363). -/
def spendNonce (m : Mgmt) (c : Ctl) : Ctl := if m.env.isSome then newNonce c else c

def asmOf (via : Via) (c : Ctl) : Option Assembly := match via with | .i3c => c.mgr.asmI3c | .port _ => c.mgr.asmInband
def setAsm (via : Via) (a : Option Assembly) : Ctl → Ctl :=
  modMgr fun g => match via with | .i3c => { g with asmI3c := a } | .port _ => { g with asmInband := a }

/-- A fragment continues the assembly of its transport. -/
def fragFits (a : Assembly) (op seq frag bodyLen paramLen : Nat) (signed : Bool) : Bool :=
  a.opcode = op && a.seq = seq && a.next = frag && a.bodyLen = bodyLen && a.paramLen = paramLen && a.signed = signed

/-- The body bytes that an assembly holds before a fragment that continues it; none when the fragment does not (R388). -/
def heldBody (via : Via) (op seq frag bodyLen paramLen : Nat) (signed : Bool) (c : Ctl) : Option Nat :=
  if frag = 0 then some 0
  else match asmOf via c with
    | some a => if fragFits a op seq frag bodyLen paramLen signed then some a.got else none
    | none => none

/-- A LAST fragment completes its command: it is the next in sequence, and the sum of FRAG_LEN is BODY_LEN (R388). -/
def lastFits (op : Nat) (m : Mgmt) (c : Ctl) : Bool :=
  m.bodyLen ≤ 16128 && m.fragLen ≤ 1008
    && heldBody m.via op m.seq m.frag m.bodyLen m.paramLen m.env.isSome c = some (m.bodyLen - m.fragLen) && m.fragLen ≤ m.bodyLen

/-- A command is taken up, with its LAST fragment when it came in several, checked, and done (R388, R391). Its packet ends the assembly
of its transport. -/
def command (op : Nat) (m : Mgmt) (body : CmdRef → Ctl → Ctl) : Ctl → Ctl :=
  deliver m fun c =>
    let c := arrive 0x40 m.via m.tag (isCommand op m) c
    let fits := lastFits op m c
    let c := setAsm m.via none (if op = 0x71 then c else countCmd m.via c)
    match gate op m c with
    | some st => replyStatus (refOf op m) st (spendNonce m c)
    | none => if fits then body (refOf op m) c else replyStatus (refOf op m) 2 (spendNonce m c)

/-- Whether a command is taken up and passes every check of R391 before those of its own parameters. -/
def serves (op : Nat) (m : Mgmt) (c : Ctl) : Bool := reaches m.via c && !foreign m && (gate op m c).isNone && lastFits op m c

/-- An AUTH_FAILED result: the eighth in a row starts the lockout (R365). -/
def authResult (ref : CmdRef) (c : Ctl) : Ctl :=
  let run := c.life.authRun + 1
  replyStatus ref 6 (modLife (fun l => { l with authRun := run, lockout := l.lockout || 8 ≤ run }) c)

/-- A signed command whose signature or signer fails: AUTH_FAILED, counted in AUTH_FAIL_COUNT (R365). -/
def authFailed (ref : CmdRef) (c : Ctl) : Ctl := authResult ref (bump (gIdx 27) c)

/-- An envelope's checks (R363, R392): signer, credential, nonce and signature. -/
def envelopeOk (owner : Bool) (e : Envelope) (c : Ctl) : Bool :=
  e.mathOk && e.nonce = c.life.nonce &&
    (if owner then e.signer = 1 && (match liveOwner c.life with | some o => e.credDigest = o.digest | none => false)
     else e.signer = 2 && certOk c.life e.cert e.cert.lifecycle)

/-- Step 5 of R391 for a privileged command that an owner, or Kamond, must sign (R363 to R365, R392). -/
def authorise (owner : Bool) (m : Mgmt) (ref : CmdRef) (body : CmdRef → Ctl → Ctl) (c : Ctl) : Ctl :=
  let free := owner && (liveOwner c.life).isNone
  if free && m.via ≠ .i3c then replyStatus ref 3 (spendNonce m c)
  else match m.env with
    | none => if free then body ref c else authResult ref c
    | some e =>
      if c.life.lockout then authFailed ref (newNonce c)
      -- a SIGNER that is not assigned (Table 7 of R392) ends the command UNSUPPORTED (R11)
      else if e.signer ≠ 1 && e.signer ≠ 2 then replyStatus ref 8 (newNonce c)
      else if !envelopeOk owner e c then authFailed ref (newNonce c)
      else body ref (modLife (fun l => { l with authRun := 0 }) (newNonce c))

/-- A privileged command of the owner. -/
def ownerCommand (op : Nat) (m : Mgmt) (body : CmdRef → Ctl → Ctl) : Ctl → Ctl :=
  command op m fun ref c => authorise true m ref body c

/-- The 10 s lockout ends (R365). -/
def execAuthLockoutEnd (s : State) : Host.Outcome State Fault Refusal :=
  onCtl (modLife fun l => { l with lockout := false, authRun := if l.lockout then 0 else l.authRun }) s

/-! ## Fragments and unassigned opcodes (R388, R391) -/

/-- A fragment of a command (R388): FRAG 0 discards the partial assembly of its transport, and one that is stored is acknowledged. A
LAST fragment that completes its command is that command's own row, with its parameters, and is left to it. -/
def fragment (m : Mgmt) (op frag bodyLen paramLen fragLen : Nat) (signed last : Bool) : Ctl → Ctl :=
  deliver m fun c =>
    let ref := refOf op m
    let held := heldBody m.via op m.seq frag bodyLen paramLen signed c
    let bad : Bool := held.isNone || 15 < frag || 16128 < bodyLen || 1008 < fragLen || (!last && fragLen ≠ 1008)
    let got := held.getD 0
    if last && !bad && got + fragLen = bodyLen then c
    else
      let c := arrive 0x40 m.via m.tag (isFragment m op frag bodyLen paramLen fragLen signed last) c
      let c := if frag = 0 then setAsm m.via none c else c
      match gate op { m with env := none, bodyLen := 0, paramLen := 0 } c with
      | some st => replyStatus ref st c
      | none =>
        if bad || last then replyStatus ref 2 (setAsm m.via none c)
        else
        sendReply { via := m.via, tag := m.tag, opcode := op, seq := m.seq, status := 0, fragAck := true, frag := frag }
          (setAsm m.via (some { opcode := op, seq := m.seq, bodyLen := bodyLen, paramLen := paramLen, signed := signed, next := frag + 1, got := got + fragLen }) c)

def execCommandFragment (m : Mgmt) (opcode frag bodyLen paramLen fragLen : Nat) (signed last : Bool) (s : State) :
    Host.Outcome State Fault Refusal := onCtl (fragment m opcode frag bodyLen paramLen fragLen signed last) s

/-- A command whose opcode is unassigned, or not available on its transport (R391): it fails the first check, or the second where the
state comes before it (R86). -/
def unassignedOp (m : Mgmt) (op : Nat) (c : Ctl) : Ctl :=
  if opAvailable op m.via then c else command op m (fun _ c => c) c

def execUnassignedCommandOpcode (m : Mgmt) (opcode : Nat) (s : State) : Host.Outcome State Fault Refusal :=
  onCtl (unassignedOp m opcode) s

/-! ## IDENTIFY, GET_STATUS, SCORECARD_READ (R399, R445, R447) -/

/-- `n` bytes of an image's header from a byte offset on (Table 4 of R367). -/
def headerField (b : List Byte) (offset n : Nat) : Nat := ofBytes ((b.drop offset).take n)
def fwBodyLen (f : Firmware) : Nat := headerField f.bytes 8 4
def fwSvn (f : Firmware) : Nat := headerField f.bytes 12 1
def fwVersion (f : Firmware) : Nat := headerField f.bytes 16 8
def fwBodyDigest (f : Firmware) : BitVec 384 := BitVec.ofNat 384 (headerField f.bytes 32 48)
def fwCertLen (f : Firmware) : Nat := headerField f.bytes 80 2

/-- "KM-DX128-A1" in ASCII, zero-padded. -/
def partName : List Byte := [0x4B, 0x4D, 0x2D, 0x44, 0x58, 0x31, 0x32, 0x38, 0x2D, 0x41, 0x31, 0, 0, 0, 0, 0]

def svnRunning (l : Life) : Nat := if l.fwRunning then (match l.running with | some i => fwSvn i | none => 0) else 0

def identifyPayload (c : Ctl) : List Byte :=
  let l := c.life
  let ver := if l.fwRunning then (match l.running with | some i => fwVersion i | none => 0) else 0
  partName ++ toBytes 8 l.serial.toNat ++ toBytes 8 ver ++ toBytes 1 (svnRunning l) ++ toBytes 1 (lcState l)
    ++ toBytes 1 (ownerPortCode l + 8 * b2n (liveOwner l).isSome + 16 * identitySlot l) ++ toBytes 1 c.power.holdReason
    ++ toBytes 32 l.nonce.toNat

def execIdentify (m : Mgmt) (s : State) : Host.Outcome State Fault Refusal :=
  onCtl (fun c => command 0x01 m (fun ref c => replyTo ref 0 0 (identifyPayload c) c) c) s

/-- An operation's STATE (R399): waiting while its copy waits for a copier (R126). -/
def opState (c : Ctl) (o : Operation) : Nat := if o.state = 1 && c.pm.jobs.any (fun j => j.op = o.id) then 0 else o.state

def opEntry (c : Ctl) (o : Operation) : Nat := o.id + 2 ^ 16 * o.opcode + 2 ^ 32 * opState c o + 2 ^ 48 * o.final

def statusPayload (c : Ctl) : List Byte :=
  toBytes 1 (stackClass c.umpire + 8 * b2n c.life.fwRunning + 16 * b2n (c.power.stage = .ready) + 32 * b2n c.power.selfRefresh
      + 64 * b2n c.therm.shutdown)
    ++ toBytes 1 c.power.holdReason ++ toBytes 1 c.power.resetCause ++ toBytes 1 (lcState c.life + 8 * b2n c.life.transition.isSome)
    ++ toBytes 4 c.mgr.ops.length ++ c.mgr.ops.flatMap fun o => toBytes 8 (opEntry c o)

def execGetStatus (m : Mgmt) (s : State) : Host.Outcome State Fault Refusal :=
  onCtl (fun c => command 0x02 m (fun ref c => replyTo ref 0 0 (statusPayload c) c) c) s

def snapGet (c : Ctl) (i : Nat) : Nat := sparseGet (fun _ => 0) c.snapshot i

def scorecardRead (first count : Nat) (snap : Bool) (ref : CmdRef) (c : Ctl) : Ctl :=
  if count < 1 || 125 < count then replyStatus ref 2 c
  else
    let beat := if snap then c.beat.snapshotBeat else c.beat.number
    replyTo ref 0 0 (toBytes 8 beat.toNat ++ (List.range count).flatMap fun i =>
      toBytes 8 (if snap then snapGet c (first + i) else scoreGet c (first + i))) c

def execScorecardRead (m : Mgmt) (first count : Nat) (snapshot : Bool) (s : State) : Host.Outcome State Fault Refusal :=
  onCtl (command 0xA0 m (scorecardRead first count snapshot)) s

/-- A write to GLOBAL.SC_CLEAR (R447): counters that exist and are not RO go to zero. -/
def clearCounters (first count : Nat) (c : Ctl) : Ctl :=
  forEach ((List.range count).map (first + ·)) (fun i c => if counterRo i then c else scoreSet i 0 c) c

def execScClear (first count : Nat) (s : State) : Host.Outcome State Fault Refusal := onCtl (clearCounters first (Nat.min count 127)) s

/-! ## The fault log (R297, R299, R469) -/

/-- A log entry's 32 bytes (Table 6 of R299). -/
def entryBits (e : LogEntry) : Nat :=
  e.seq + 2 ^ 16 * e.code + 2 ^ 24 * e.cls + 2 ^ 27 * e.origCls + 2 ^ 30 * e.raiseCause + 2 ^ 32 * e.scopeType
    + 2 ^ 36 * b2n e.ackRequired + 2 ^ 37 * b2n e.acked + 2 ^ 38 * e.ackSource + 2 ^ 40 * e.scopeIndex + 2 ^ 64 * e.beat.toNat
    + 2 ^ 128 * e.detail.toNat + 2 ^ 192 * e.count + 2 ^ 208 * e.raisedBy + 2 ^ 224 * e.lastDelta

/-- How far one SEQ lies behind another in the cycle of 65,535 values. -/
def seqBehind (next s : Nat) : Nat := (next + 65535 - s) % 65535

/-- The held entries that a FAULT_LOG_READ from a SEQ returns, before COUNT limits them (R469). -/
def logFrom (u : Umpire) (seqFrom : Nat) : List LogEntry :=
  let d := seqBehind u.nextSeq seqFrom
  if seqFrom = 0 then u.log
  else if 1 ≤ d && d ≤ 32767 then u.log.filter fun e => seqBehind u.nextSeq e.seq ≤ d
  else []

def faultLogRead (seqFrom count : Nat) (ovf : Bool) (ref : CmdRef) (c : Ctl) : Ctl :=
  if !ovf && (count < 1 || 31 < count) then replyStatus ref 2 c
  else
    let l := if ovf then c.umpire.overflow.toList else (logFrom c.umpire seqFrom).take count
    replyTo ref 0 0 (toBytes 2 l.length ++ toBytes 14 c.umpire.nextSeq ++ l.flatMap fun e => toBytes 32 (entryBits e)) c

def execFaultLogRead (m : Mgmt) (seqFrom count : Nat) (overflow : Bool) (s : State) : Host.Outcome State Fault Refusal :=
  onCtl (command 0x70 m (faultLogRead seqFrom count overflow)) s

/-- An entry lies in a range of SEQ values, in cycle order. -/
def inSeqRange (first last : Nat) (e : LogEntry) : Bool := seqBehind e.seq first ≤ seqBehind last first

/-- FAULT_ACK (R297): the entries in range that are unacknowledged faults are acknowledged, the others passed over. -/
def faultAck (first last : Nat) (ref : CmdRef) (c : Ctl) : Ctl :=
  if first = 0 || last = 0 then replyStatus ref 2 c
  else
    let source := if ref.1 = .i3c then 2 else 1
    let hit := (allEntries c.umpire).filter (inSeqRange first last)
    let n := hit.countP isOpen
    let put : List LogEntry → List LogEntry := mapIf (inSeqRange first last) (ackEntry source)
    let c := updateAlert (modUmpire (fun u => { u with log := put u.log, overflow := (put u.overflow.toList).head? }) c)
    replyTo ref 0 0 (toBytes 1 n ++ toBytes 1 (hit.length - n)) c

def execFaultAck (m : Mgmt) (first last : Nat) (s : State) : Host.Outcome State Fault Refusal := onCtl (command 0x71 m (faultAck first last)) s

/-- A shot clock expires (R296). -/
def execShotClockExpiry (seq : Nat) (s : State) : Host.Outcome State Fault Refusal := onCtl (raiseByClock seq) s

/-! ## Temperature levels (R339) -/

def thermMax : List Nat := [100, 105, 115, 88, 95, 105]
def thermMin : List Nat := [60, 65, 80, 50, 55, 70]

/-- The levels and power limit in force as the command's layout shows them. -/
def thermPayload (c : Ctl) : List Byte := (c.therm.levels.toList.map fun x => BitVec.ofNat 8 x) ++ toBytes 2 c.therm.powerLimit

def thermalConfigure (levels : List Nat) (limit : Nat) (ref : CmdRef) (c : Ctl) : Ctl :=
  let l := (List.range 6).map fun i => if levels.getD i 0 = 0 then c.therm.levels.toList.getD i 0 else levels.getD i 0
  let w := if limit = 0 then c.therm.powerLimit else limit
  let ok := (List.range 6).all (fun i => thermMin.getD i 0 ≤ l.getD i 0 && l.getD i 0 ≤ thermMax.getD i 0)
    && l.getD 0 0 < l.getD 1 0 && l.getD 1 0 < l.getD 2 0 && l.getD 3 0 < l.getD 4 0 && l.getD 4 0 < l.getD 5 0
    && 300 ≤ w && w ≤ 750
  if !ok then replyStatus ref 2 c
  else
    let v : Vector Nat 6 := #v[l.getD 0 0, l.getD 1 0, l.getD 2 0, l.getD 3 0, l.getD 4 0, l.getD 5 0]
    let c := modTherm (fun t => { t with levels := v, powerLimit := w }) c
    replyTo ref 0 0 (thermPayload c) c

def execThermalConfigure (m : Mgmt) (levels : List Nat) (powerLimit : Nat) (s : State) : Host.Outcome State Fault Refusal :=
  onCtl (command 0x73 m (thermalConfigure levels powerLimit)) s

/-! ## Regulation, beat and changeover settings (R240, R252, R260, R264) -/

/-- A setting within its range (Table 1 of R240). -/
def masterOk (i : Nat) (x : RegMaster) : Bool :=
  (x.latTarget = 0 || (100 ≤ x.latTarget && x.latTarget ≤ 100000)) && x.minBw ≤ (if i < 4 then 4000 else 7680) &&
    (4 ≤ i || (x.tc1Rate ≤ 2240 && 256 ≤ x.tc1Burst && x.tc1Burst ≤ 65536))

def regDefault : RegMaster := { latTarget := 0, minBw := 0, realtime := false, tc1Rate := 160, tc1Burst := 4096 }

/-- A port's settings after a set, with its TC1 bucket (R246). -/
def setPortReg (now : Nat) (x : RegMaster) (p : Port) : Port :=
  { p with
    latTarget := x.latTarget, minBw := x.minBw, realtime := x.realtime, tc1Rate := x.tc1Rate, tc1Burst := x.tc1Burst
    tc1Bucket := if x.realtime && !p.realtime then 10 * x.tc1Burst else Nat.min (tc1Now p now) (10 * x.tc1Burst), tc1At := now }

/-- The sum S of a set in 0.1 GB/s (R251). -/
def setSum (l : List RegMaster) : Nat :=
  (l.map (·.minBw)).sum + ((l.take 4).map fun x => if x.realtime then x.tc1Rate else 0).sum

def regulationSet (reserve : Nat) (l : List RegMaster) (ref : CmdRef) (c : Ctl) : Ctl :=
  if l.length ≠ 5 || 160 < reserve || !((List.range 5).all fun i => masterOk i (l.getD i regDefault)) then replyStatus ref 2 c
  else
    let floor := floorSum c reserve
    let s := setSum l
    let pay := fun scale => toBytes 4 (floor / 256) ++ toBytes 4 s ++ toBytes 4 scale
    if 4 * floor < 5 * s * 256 then replyTo ref 5 0 (pay c.power.regScale) c
    else
      let c := settleBuckets c
      let c := forEach allPorts (fun p c => modPort p (setPortReg c.now (l.getD p.val regDefault)) c) c
      let mv := l.getD 4 regDefault
      let c := modPower (fun w => { w with maintReserve := reserve, moversLatTarget := mv.latTarget, moversMinBw := mv.minBw }) c
      replyTo ref 0 0 (pay 65536) (setScale 65536 (floorCauses c) (takeFloorInputs c))

def execRegulationSet (m : Mgmt) (reserve : Nat) (masters : List RegMaster) (s : State) : Host.Outcome State Fault Refusal :=
  onCtl (command 0x41 m (regulationSet reserve masters)) s

/-- BEAT_SET_NUMBER (R260): the load waits for its mark, and the command is parked. -/
def beatSetNumber (mode number atNumber : Nat) (ref : CmdRef) (c : Ctl) : Ctl :=
  let n := c.beat.number.toNat
  if number % 1024 ≠ 0 || 2 ^ 64 ≤ number || 1 < mode || (mode = 1 && (atNumber % 1024 ≠ 0 || atNumber < n + 1024 || n + 65536 < atNumber)) then
    replyStatus ref 2 c
  else if mode = 0 && c.beat.state ≠ .locked then replyStatus ref 4 c
  else if c.beat.load.isSome then replyStatus ref 1 c
  else
    let l : BeatLoad :=
      { at_ := if mode = 1 then some (BitVec.ofNat 64 atNumber) else none, number := BitVec.ofNat 64 number, via := ref.1
        tag := ref.2.1, seq := ref.2.2.2, since := c.now }
    park ref (modBeat (fun b => { b with load := some l }) c)

def execBeatSetNumber (m : Mgmt) (mode number atNumber : Nat) (s : State) : Host.Outcome State Fault Refusal :=
  onCtl (command 0x50 m (beatSetNumber mode number atNumber)) s

/-- A changeover set within its ranges (R264). -/
def coOk (x : CoSet) (c : Ctl) : Bool :=
  (x.period = 4 || x.period = 8 || x.period = 16 || x.period = 32) && x.phase < x.period && 1 ≤ x.limit && x.limit ≤ 50
    && !(c.beat.refreshMode && (!x.enable || x.limit * x.period * beatP c.beat < 400000))

def changeoverConfigure (x : CoSet) (ref : CmdRef) (c : Ctl) : Ctl :=
  if coOk x c then replyStatus ref 0 (modBeat (fun b => { b with coPending := some x }) c) else replyStatus ref 2 c

def execChangeoverConfigure (m : Mgmt) (enable : Bool) (period phase limit : Nat) (s : State) : Host.Outcome State Fault Refusal :=
  onCtl (command 0x51 m (changeoverConfigure { enable := enable, period := period, phase := phase, limit := limit })) s

/-! ## Ownership (R105, R361, R362, R366) -/

/-- DOMAIN_SET: the masks of the ports named, and the owner port. -/
def domainSet (valid : BitVec 4) (setOwner : Bool) (owner : Nat) (masks : List (BitVec 64)) (ref : CmdRef) (c : Ctl) : Ctl :=
  if setOwner && (7 < owner || (3 < owner && owner < 7)) then replyStatus ref 8 c
  else
    let c := forEach allPorts (fun p c => if valid.getLsbD p.val then modPort p (fun q => { q with domainMask := masks.getD p.val 0 }) c else c) c
    let c := if setOwner then modLife (fun l => { l with ownerPort := if h : owner < 4 then some ⟨owner, h⟩ else none }) c else c
    replyStatus ref 0 c

def execDomainSet (m : Mgmt) (portValid : BitVec 4) (setOwner : Bool) (ownerPort : Nat) (masks : List (BitVec 64)) (s : State) :
    Host.Outcome State Fault Refusal := onCtl (ownerCommand 0x40 m (domainSet portValid setOwner ownerPort masks)) s

/-- OWNER_KEY_SET (R361): the next owner slot of the FIELD period, and the one before it killed. -/
def ownerKeySet (hash : BitVec 384) (countersign : Bool) (ref : CmdRef) (c : Ctl) : Ctl :=
  if lcState c.life ≠ 2 then replyStatus ref 4 c
  else if ownerSlotsLeft c.life = 0 then replyStatus ref 9 c
  else
    let kill : OwnerSlot → OwnerSlot := fun o => { o with killed := true }
    let next : OwnerSlot := { digest := hash, countersign := countersign, killed := false }
    replyStatus ref 0 (modLife (fun l => { l with owners := l.owners.map kill ++ [next] }) c)

def execOwnerKeySet (m : Mgmt) (hash : BitVec 384) (countersign : Bool) (s : State) : Host.Outcome State Fault Refusal :=
  onCtl (ownerCommand 0x91 m (ownerKeySet hash countersign)) s

/-! ## Firmware loading (R367, R368, R403) -/

/-- The header fields of an image lie within their ranges (Table 4 of R367): the header and the body make the whole image. -/
def headerOk (f : Firmware) : Bool :=
  headerField f.bytes 0 4 = 0x5D4E0A17 && headerField f.bytes 4 2 = 1 && 1 ≤ fwBodyLen f && fwBodyLen f ≤ 784384
    && 2048 + fwBodyLen f = f.bytes.length && fwSvn f ≤ 64 && 1 ≤ fwCertLen f && fwCertLen f ≤ 1024

/-- The checks of R368 in order, all of which an image must pass. -/
def imageOk (f : Firmware) (l : Life) : Bool :=
  let i := f.found
  headerOk f && i.bodyHash = fwBodyDigest f && (certOk l i.cert i.cert.firmware && i.kamondOk) && l.svnFused ≤ fwSvn f
    && (match liveOwner l with | some o => !o.countersign || (i.ownerOk && i.ownerDigest = o.digest) | none => true)
    && !scrapped l

/-- Two commands came on one transport. -/
def sameTransport (a b : Via) : Bool :=
  match a, b with
  | .i3c, .i3c => true
  | .port _, .port _ => true
  | _, _ => false

/-- Another transport holds the staging buffer (R403). -/
def stagingHeld (via : Via) (g : Staging) : Bool := match g.claim with | some v => !sameTransport v via | none => false

def fwLoadBegin (len : Nat) (ref : CmdRef) (c : Ctl) : Ctl :=
  if len < 2049 || 786432 < len then replyStatus ref 2 c
  else if stagingHeld ref.1 c.mgr.staging then replyStatus ref 1 c
  else replyStatus ref 0 (modMgr (fun g => { g with staging := { claim := some ref.1, len := len, bytes := [], verified := none } }) c)

def execFwLoadBegin (m : Mgmt) (imageLen : Nat) (s : State) : Host.Outcome State Fault Refusal := onCtl (command 0x80 m (fwLoadBegin imageLen)) s

def fwLoadChunk (offset : Nat) (data : List Byte) (ref : CmdRef) (c : Ctl) : Ctl :=
  let g := c.mgr.staging
  let len := data.length
  if stagingHeld ref.1 g then replyStatus ref 1 c
  else if len < 1 || 1000 < len || g.claim.isNone || offset ≠ g.bytes.length || g.len < offset + len then replyStatus ref 2 c
  else replyStatus ref 0 (modMgr (fun g => { g with staging := { g.staging with bytes := g.staging.bytes ++ data } }) c)

def execFwLoadChunk (m : Mgmt) (offset : Nat) (data : List Byte) (s : State) : Host.Outcome State Fault Refusal :=
  onCtl (command 0x81 m (fwLoadChunk offset data)) s

def fwLoadEnd (i : Image) (ref : CmdRef) (c : Ctl) : Ctl :=
  let g := c.mgr.staging
  let f : Firmware := { bytes := g.bytes, found := i }
  if g.len = 0 || g.bytes.length ≠ g.len then replyStatus ref 4 c
  else if imageOk f c.life then
    replyTo ref 0 0 (toBytes 8 (fwVersion f) ++ toBytes 1 (fwSvn f))
      (modMgr (fun g => { g with staging := { g.staging with claim := none, verified := some f } }) c)
  else replyStatus ref 6 (modMgr (fun g => { g with staging := { g.staging with claim := none, verified := none } }) c)

def execFwLoadEnd (m : Mgmt) (image : Image) (s : State) : Host.Outcome State Fault Refusal := onCtl (command 0x82 m (fwLoadEnd image)) s

/-- 10 s without a chunk (R403). -/
def execStagingClaimLapse (s : State) : Host.Outcome State Fault Refusal :=
  onCtl (modMgr fun g => { g with staging := { g.staging with claim := none } }) s

/-- 10 s without a boot block from the claimant (R410). -/
def execBootClaimLapse (s : State) : Host.Outcome State Fault Refusal :=
  onCtl (modMgr fun g => { g with bootLoad := { g.bootLoad with claim := none } }) s

end Sys2Proof.Machine
end

