-- ==== Sys2Proof/Machine/Boot.lean ====
section
/-! DEFINITION. Boot blocks, page-map initialisation and the start of firmware (R366, R369, R410 to R418). -/

namespace Sys2Proof.Machine

open Sys2Proof

/-! ## Page-map initialisation (R415 to R418) -/

/-- Slices by index that satisfy `p`, ascending. -/
def slicesWith (p : Nat → Bool) (lo n : Nat) : List Nat := ((List.range n).map (lo + ·)).filter p

/-- The pages of a slice with a use. -/
def slicePages (u : Use) (n s : Nat) : List (Nat × Use) := (List.range n).map fun i => (s * 16384 + i, u)

/-- The k-th bench page in ascending order among the spare slices in service (R124). -/
def benchPage (spares : List Nat) (k : Nat) : Option Nat := (spares[k / 16384]?).map fun s => s * 16384 + k % 16384

/-- The entries of the host pages whose R23 slice is out of service, in ascending order (R417): the next bench page, or
LOST. -/
def displacedEntries (outs spares : List Nat) : List (Nat × PmEntry) :=
  let hpns := if outs.isEmpty then [] else (List.range 16384).flatMap fun p => outs.map fun s => p * 128 + s
  hpns.zipIdx.map fun x =>
    let e := layoutEntry .default x.1
    match benchPage spares x.2 with
    | some ppn => (x.1, { e with ppn := ppn })
    | none => (x.1, { e with state := .lost })

/-- The uses that differ from a layout's: pages of slices out of service are RETIRED, and the first `n` bench pages are
MAPPED. -/
def initialUses (outUser outSpare spares : List Nat) (n : Nat) : List (Nat × Use) :=
  (outUser.flatMap (slicePages .retired 16384)) ++
    ((List.range 8).map (128 + ·)).flatMap fun s =>
      if outSpare.contains s then slicePages .retired 16384 s
      else slicePages .mapped (Nat.min 16384 (n - 16384 * (spares.idxOf s))) s

/-- The page map, its tables and its restore copy start anew under a layout; copiers, drains and substitution with them. -/
def freshMap (l : Layout) (entries : List (Nat × PmEntry)) (uses : List (Nat × Use)) (result bad displaced : Nat) : Ctl → Ctl :=
  modPm fun _ =>
    { layout := l, entries := entries, restoreLayout := l, restore := entries, uses := uses, restoreUses := uses, initResult := result
      initBadHpn := bad, initDisplaced := displaced }

/-- INIT_LAYOUT DEFAULT (R417): R23 with the entries of slices out of service moved to the bench. -/
def initDefault (result bad : Nat) (c : Ctl) : Ctl :=
  let outUser := slicesWith (sliceIsOut c) 0 128
  let outSpare := slicesWith (sliceIsOut c) 128 8
  let spares := slicesWith (fun s => !sliceIsOut c s) 128 8
  let moved := 16384 * outUser.length
  freshMap .default (displacedEntries outUser spares) (initialUses outUser outSpare spares moved) result bad moved c

/-- The first entry, in ascending order, that R416 rejects: `seen` holds the pages of earlier NORMAL entries. -/
def firstBad (c : Ctl) : List Nat → List (Nat × PmEntry) → Option Nat
  | _, [] => none
  | seen, (h, e) :: t =>
    let shape := !e.mirrored && (e.state = .unmapped || (e.state = .normal && e.ppn < 2097152 && !sliceIsOut c (ppnSlice e.ppn)))
    let repeats := e.state = .normal && seen.contains e.ppn
    if !shape || repeats then some h
    else firstBad c (if e.state = .normal then e.ppn :: seen else seen) t

/-- INIT_LAYOUT IMAGE (R415): the entries of PAGEMAP_DATA are applied when R416 accepts them, and DEFAULT and FULL
otherwise. -/
def initImage (c : Ctl) : Ctl :=
  match firstBad c [] c.pm.entries with
  | some h => initDefault 2 h (modMgr (fun g => { g with bootLoad := { g.bootLoad with fillMapped := false } }) c)
  | none =>
    let used := (c.pm.entries.filter fun e => e.2.state = .normal).map (·.2.ppn)
    let outs := slicesWith (sliceIsOut c) 0 136
    let base := outs.flatMap (slicePages .retired 16384)
    let uses := used.foldl (fun l p => sparsePut (layoutUse (.image false)) l p .mapped) base
    freshMap (.image false) c.pm.entries uses 1 0 0 c

/-- The maintenance that a new map ends: substitutions of slices that it leaves out already. -/
def dropSubstitutions : Ctl → Ctl := modMgr fun g => { g with running := g.running.filter fun a => a.kind ≠ 1 }

/-- Step 10 of Table 2 of R409. -/
def initMap (c : Ctl) : Ctl :=
  dropSubstitutions (if c.mgr.bootLoad.layoutImage then initImage c else initDefault 0 0 c)

/-- The working copies are reloaded from the restore copy (step 8 of Table 5 of R421). -/
def reloadMap : Ctl → Ctl := modPm fun pm =>
  { pm with layout := pm.restoreLayout, entries := pm.restore, uses := pm.restoreUses, mirrors := pm.restoreMirrors }

/-! ## Firmware starts (R366, R369, R413) -/

/-- An image runs from the retained store: the security version is blown up to it (R369), and what waited for firmware is logged. -/
def startFirmware (i : Firmware) (c : Ctl) : Ctl :=
  let c := modLife (fun l => { l with fwRunning := true, running := some i, image := some i, svnFused := Nat.max l.svnFused (fwSvn i) }) c
  let l := c.power.deferred
  forEach l (fun e c => raiseEvent e.1 e.2.1 e.2.2.1 e.2.2.2 c) (modPower (fun w => { w with deferred := [] }) c)

/-- OWNER_PORT at a power-on (R366). -/
def bootOwner (via : Via) (l : Life) : Option (Fin 4) :=
  if lcState l = 2 && (liveOwner l).isSome then none
  else match via with | .port p => some p | .i3c => none

def setStage (t : Stage) : Ctl → Ctl := modPower fun w => { w with stage := t }

/-- Step 8: the ROM waits for boot blocks, or, after a thermal restart, verifies and runs the retained image with DEFAULT
and FULL (R425). -/
def enterBoot (c : Ctl) : Ctl :=
  match c.life.image with
  | some i =>
    if c.power.resetCause = 4 && imageOk i c.life then setStage .starting (initMap (startFirmware i c)) else setStage .boot c
  | none => setStage .boot c

/-! ## Boot blocks (R410 to R413) -/

/-- A page-map entry's layout (Table 1 of R98). -/
def parsePm (w : BitVec 32) : PmEntry :=
  let n := w.toNat
  { ppn := bitsOf n 0 22, domain := bitsOf n 22 6, mirrored := bitOf n 28, shared := bitOf n 29
    state := match bitsOf n 30 2 with | 0 => .normal | 1 => .migrating | 2 => .lost | _ => .unmapped }

/-- Another source holds the load (R410). -/
def bootHeld (via : Via) (b : BootLoad) : Bool := match b.claim with | some v => decide (v ≠ via) | none => false

/-- A load is in progress: IMAGE_BEGIN was accepted and the claim stands. -/
def bootLoading (b : BootLoad) : Bool := b.claim.isSome && b.len ≠ 0

def modBoot (f : BootLoad → BootLoad) : Ctl → Ctl := modMgr fun g => { g with bootLoad := f g.bootLoad }

/-- IMAGE_BEGIN (R412): the load is claimed, the buffer emptied, every entry UNMAPPED in the working copy. -/
def bootBegin (len : Nat) (ref : CmdRef) (c : Ctl) : Ctl :=
  if len < 2049 || 786432 < len then replyStatus ref 2 c
  else
    replyStatus ref 0
      (modBoot (fun _ => { claim := some ref.1, len := len }) (modPm (fun pm => { pm with layout := .blank, entries := [] }) c))

/-- IMAGE_DATA (R412). -/
def bootData (offset len : Nat) (data : List Byte) (ref : CmdRef) (c : Ctl) : Ctl :=
  let b := c.mgr.bootLoad
  if !bootLoading b || len < 1 || 992 < len || data.length ≠ len || offset ≠ b.bytes.length || b.len < offset + len then replyStatus ref 2 c
  else replyStatus ref 0 (modBoot (fun b => { b with bytes := b.bytes ++ data }) c)

/-- INIT (R412). -/
def bootInit (layout fillMapped : Bool) (ref : CmdRef) (c : Ctl) : Ctl :=
  if !bootLoading c.mgr.bootLoad then replyStatus ref 4 c
  else replyStatus ref 0 (modBoot (fun b => { b with layoutImage := layout, fillMapped := fillMapped }) c)

/-- Bytes as words of 4, the lowest byte first. -/
def wordsOf : List Byte → List (BitVec 32)
  | a :: b :: c :: d :: t => BitVec.ofNat 32 (ofBytes [a, b, c, d]) :: wordsOf t
  | _ => []

/-- Entries written into the working copy from one host page upward. -/
def putEntries (h : Nat) : List (BitVec 32) → List (Nat × PmEntry) → List (Nat × PmEntry)
  | [], l => l
  | w :: t, l => putEntries (h + 1) t (sparsePut (layoutEntry .blank) l h (parsePm w))

/-- PAGEMAP_DATA (R412). -/
def bootPagemap (first len : Nat) (data : List Byte) (ref : CmdRef) (c : Ctl) : Ctl :=
  if !bootLoading c.mgr.bootLoad then replyStatus ref 4 c
  else if len % 4 ≠ 0 || len < 4 || 992 < len || data.length ≠ len || 2097152 < first + len / 4 then replyStatus ref 2 c
  else replyStatus ref 0 (modPm (fun pm => { pm with entries := putEntries first (wordsOf data) pm.entries }) c)

def viaCode (v : Via) : Nat := match v with | .port p => p.val | .i3c => 4

/-- IMAGE_END (R412, R413, R423): the image is verified and run; its reply leaves once the page map is initialised, or
reloaded when a warm reset waited for the image. -/
def bootEnd (i : Image) (ref : CmdRef) (c : Ctl) : Ctl :=
  let b := c.mgr.bootLoad
  let f : Firmware := { bytes := b.bytes, found := i }
  if !bootLoading b || b.bytes.length ≠ b.len then replyStatus ref 4 c
  else if !imageOk f c.life then
    replyStatus ref 6 (modBoot (fun b => { b with len := 0, bytes := [] }) c)
  else
    let warm := c.power.warmStart
    let keep := warm || c.power.resetCause = 4
    let c := modBoot (fun b => { b with claim := none }) (modPower (fun w => { w with bootSource := viaCode ref.1, warmStart := false }) c)
    let c := startFirmware f (if keep then c else modLife (fun l => { l with ownerPort := bootOwner ref.1 l }) c)
    let c := setStage .starting (if warm then reloadMap c else initMap c)
    replyStatus ref (if c.pm.initResult = 2 then 2 else 0) c

/-- A boot block (R410, R412). -/
def bootBlock (m : Mgmt) (kind offset len : Nat) (layout fillMapped : Bool) (data : List Byte) (i : Image) : Ctl → Ctl :=
  deliver m fun c =>
    let ref := refOf 0x100 m
    let c := arrive 0x44 m.via m.tag (isCommand 0x100 m) c
    if c.umpire.class5 || c.power.stage = .shutdown || c.power.stage = .scrapped || c.life.fwRunning then replyStatus ref 4 c
    else if c.power.stage ≠ .boot then replyStatus ref 1 c
    else if m.paramLen ≠ 16 + len || !framed m || m.frag ≠ 0 || m.fragLen ≠ m.bodyLen || m.env.isSome then replyStatus ref 2 c
    else if bootHeld m.via c.mgr.bootLoad then replyStatus ref 1 c
    else if kind = 1 then bootBegin offset ref c
    else if kind = 2 then bootData offset len data ref c
    else if kind = 3 then bootEnd i ref c
    else if kind = 4 then bootInit layout fillMapped ref c
    else if kind = 5 then bootPagemap offset len data ref c
    else replyStatus ref 8 c

def execBootBlock (m : Mgmt) (kind offset len : Nat) (layout fillMapped : Bool) (data : List Byte) (image : Image) (s : State) :
    Host.Outcome State Fault Refusal := onCtl (bootBlock m kind offset len layout fillMapped data image) s

end Sys2Proof.Machine
end

