-- ==== Sys2Proof/Machine/Reset.lean ====
section
/-! DEFINITION. Power-up, HOLD, warm reset, thermal restart and data-ready (R303, R326, R344, R355, R377, R406 to R426). -/

namespace Sys2Proof.Machine

open Sys2Proof

/-! ## What a start from cold keeps (Table 8 of R426) -/

/-- One-time-programmable memory, and the ROM's digest of the Kamond root key. -/
def otpLife (l : Life) : Life :=
  { thermA := l.thermA, thermB := l.thermB, scrapA := l.scrapA, scrapB := l.scrapB, rootDigest := l.rootDigest, slots := l.slots
    slotInUse := l.slotInUse, owners := l.owners, svnFused := l.svnFused, serial := l.serial, repairA := l.repairA, repairB := l.repairB }

/-- A slot is destroyed (R357): its DESTROYED fuse is blown, then every bit of its wrapped key. -/
def destroySlot (s : SlotFuses) : SlotFuses := { s with destroyed := true, wrapped := BitVec.allOnes 512 }
/-- A GENERATED slot is destroyed (R360). -/
def dropGenerated (s : SlotFuses) : SlotFuses := if slotState s = .generated then destroySlot s else s

/-- The state after the rails came up: every register at its Reset value, OTP, the strap, REFCLK and the model's own
counters kept. -/
def railsUp (c : Ctl) : Ctl :=
  { power := { stage := .inReset, addrSel := c.power.addrSel, refclk := c.power.refclk, repairOtpLeft := c.power.repairOtpLeft }
    life := otpLife c.life, now := c.now, draws := c.draws, nextId := c.nextId }

/-- The state at step 1 of a sequence that starts again without a power cycle: housekeeping's readings and the sideband go
on, a retired layer stays off (R307), and the bits that gate test access keep what they hold (R376). -/
def coldRestart (cause : Nat) (c : Ctl) : Ctl :=
  let f : Ctl := railsUp c
  let retired : Nat → Nat := fun x => if x = 3 then 3 else 0
  let t : Therm := { c.therm with levels := f.therm.levels, powerLimit := 750, shutdown := false, thermtripN := true, shutdownTimes := c.therm.shutdownTimes }
  let chan : Fin 32 → Chan := fun i => { f.chans[i] with hotSlices := c.chans[i].hotSlices, throttleFactor := c.chans[i].throttleFactor }
  let port : Fin 4 → Port := fun p => { f.ports[p] with holdBack := c.ports[p].holdBack }
  { f with
    therm := t, side := c.side, chans := Vector.ofFn chan, ports := Vector.ofFn port
    power := { f.power with resetN := c.power.resetN, resetCause := cause, layers := c.power.layers.map retired }
    life := { f.life with eraseLatch := c.life.eraseLatch, keygenClosed := c.life.keygenClosed } }

/-- Faults at a warm reset (R298): those of class 3 and 4 are acknowledged, the shot clocks of class 2 wait for data-ready,
and the stack leaves class 4. -/
def resetUmpire (u : Umpire) : Umpire :=
  let ack : LogEntry → LogEntry := fun e =>
    if e.cls = 3 || e.cls = 4 then ackEntry 3 e else if e.cls = 2 then { e with clock := none } else e
  { u with log := u.log.map ack, overflow := u.overflow.map ack, class4 := false }

/-- A thermal restart keeps the log, NEXT_SEQ, the levels, the masks, the owner port, the retained image, the counters and
the TSV remaps, and leaves the stack's class at 0 (Table 8 of R426, R448). -/
def thermalCold (c : Ctl) : Ctl :=
  let f : Ctl := coldRestart 4 c
  let remap : Fin 32 → Chan := fun i => { f.chans[i] with spareMap := c.chans[i].spareMap, sparesFree := c.chans[i].sparesFree, withdrawn := c.chans[i].withdrawn }
  let port : Fin 4 → Port := fun p => { f.ports[p] with domainMask := c.ports[p].domainMask }
  let u := resetUmpire c.umpire
  updateAlert { f with
    therm := { c.therm with shutdown := false, thermtripN := true }
    umpire := { f.umpire with log := u.log, overflow := u.overflow, nextSeq := u.nextSeq }
    life := { f.life with ownerPort := c.life.ownerPort, image := c.life.image }
    chans := Vector.ofFn remap
    ports := Vector.ofFn port
    score := c.score.filter fun x => x.1 < 0x100 || 0x400 ≤ x.1
    snapshot := c.snapshot }

/-! ## HOLD (R414) -/

def hold (reason : Nat) (c : Ctl) : Ctl := updateAlert (modPower (fun w => { w with stage := .hold, holdReason := reason }) c)

/-! ## Steps 1 to 5 of Table 2 of R409 -/

/-- Events that firmware will log once it runs. -/
def defer (code st idx detail : Nat) : Ctl → Ctl := modPower fun w => { w with deferred := w.deferred ++ [(code, st, idx, detail)] }

/-- A fused TSV remap: unit 128 × channel + column, repair the spare that carries the column (log 12). -/
def applyRepair (r : Nat × Nat) (c : Ctl) : Ctl :=
  if r.1 / 128 < 32 && r.2 < 4 then
    modChan (Fin.ofNat 32 (r.1 / 128)) (fun x =>
      if x.spareMap.getLsbD (8 * r.2 + 7) then x
      else { x with spareMap := x.spareMap ||| BitVec.ofNat 32 ((128 + r.1 % 128) * 2 ^ (8 * r.2)), sparesFree := x.sparesFree - 1 }) c
  else c

/-- How fuse loading finds the two copies of the life-cycle state (R355). -/
inductive FuseState where
  | agree
  | recover
  | corrupt
deriving DecidableEq, Repr

def fuseState (l : Life) : FuseState :=
  if thermoValid l.thermA && l.thermA = l.thermB then .agree
  else if thermoValid l.thermA && thermoValid l.thermB && thermoValue l.thermA = thermoValue l.thermB + 1 then .recover
  else if scrapped l then .agree
  else .corrupt

/-- The self-test that fails first, with its HOLD reason (Table 5 of R326): none when all pass. -/
def selfTest (t : Post) (warm : Bool) : Option Nat :=
  if !t.romOk then some 2 else if !t.pagemapOk then some 3 else if !t.trackerOk then some 4 else if !t.mgmtOk then some 5
  else if !warm && !t.controlOk then some 6 else none

/-- A bad bond that the connectivity test finds (R324): remapped without a report while a spare is left. -/
def postBond (b : Bond) (c : Ctl) : Ctl :=
  if carried c.chans[b.chan] b.column then c
  else if b.column < 100 then
    match freeSpare c.chans[b.chan] with
    | some i => remapColumn b.chan i b.column c
    | none => badBond b.chan b.column b.layer false c
  else badBond b.chan b.column b.layer false c

/-- A GENERATED slot, and a slot in use that does not unwrap, are destroyed; the key register takes the key that unwraps (R358,
R360). -/
def settleSlots (keyOk : Bool) (l : Life) : Life :=
  let slots := l.slots.map dropGenerated
  match l.slotInUse with
  | some i =>
    if slotState slots[i] ≠ .certified then { l with slots := slots }
    else if keyOk then { l with slots := slots, keyReg := some i }
    else { l with slots := slots.set i (destroySlot slots[i]) }
  | none => { l with slots := slots }

/-- An interrupted SERVICE entry (R377): in FIELD the slot in use reads DESTROYED. After 8 returns no entry can have begun (R378). -/
def interruptedEntry (l : Life) : Bool :=
  lcState l = 2 && thermoValue l.thermA < 18 && (match l.slotInUse with | some i => slotState l.slots[i] = .destroyed | none => false)

/-- Steps 1 and 2 of SERVICE entry (R374, R379): the identity is destroyed, with every CERTIFIED and GENERATED slot when
the stack is scrapped; the owner slot is killed; NONCE, the DRBG, the key register and connections are cleared. -/
def destroySecrets (all : Bool) (l : Life) : Life :=
  let dead : SlotFuses → SlotFuses := fun s => if all && (slotState s = .certified || slotState s = .generated) then destroySlot s else s
  let slots := l.slots.map dead
  let slots := match l.slotInUse with | some i => slots.set i (destroySlot slots[i]) | none => slots
  let kill : OwnerSlot → OwnerSlot := fun o => { o with killed := true }
  { l with slots := slots, owners := l.owners.map kill, nonce := 0, drbg := 0, keyReg := none, spdmInband := {}, spdmI3c := {} }

/-- Start-up calibration (R321): fused taps, then the accepted centres; rejected units are reported once firmware runs. -/
def startCal (t : Post) (c : Ctl) : Ctl :=
  let fused : Chan → Chan := fun x => { x with taps := [], tapsPending := [], enable := true }
  forEach t.hists (fun u c =>
    match startUnit u.slice.val u.lanes c with
    | (some d, c) => defer 0x0B 5 (sliceLayer u.slice.val) d c
    | (none, c) => c) { c with chans := c.chans.map fused }

/-- What follows step 5: the erase of SERVICE, SCRAPPED or an interrupted entry, or the wait for boot blocks. -/
def afterCal (c : Ctl) : Ctl :=
  let c := modPower (fun w => { w with holdReason := 0 }) c
  if lcState c.life = 3 || scrapped c.life || c.life.transition.isSome then setStage .erasing c else enterBoot c

/-- The layers ramp one at a time in ascending order (R306): those below `n` are ON, layer `n` ramps, those above it are still OFF. A
retired layer stays off (R307). -/
def rampTo (n : Nat) : Ctl → Ctl := modPower fun w =>
  { w with layers := Vector.ofFn fun i => if w.layers[i] = 3 then 3 else if i.val + 1 < n then 2 else if i.val + 1 = n then 1 else 0 }

/-- Steps 3 to 5: the layers ramp in order, the life cycle is checked, the units are calibrated. A rail that reads out of range while a
layer ramps holds the sequence there (R414). -/
def rampAndCalibrate (t : Post) (c : Ctl) : Ctl :=
  let c := modLife (settleSlots t.keyOk) c
  let c := if interruptedEntry c.life then modLife (fun l => { destroySecrets false l with transition := some 3 }) c else c
  let c := startCal t c
  match t.railLayer with
  | none => afterCal (rampTo 18 c)
  | some n => hold 8 (rampTo n.val c)

/-- The life-cycle state and the self-tests, once a repair record is chosen. -/
def fusesAndTests (t : Post) (c : Ctl) : Ctl :=
  match fuseState c.life with
  | .corrupt => raiseEvent 0xA1 0 0 0 (hold 7 (modLife (fun l => { l with corrupt := true }) c))
  | f =>
    let c := if f = .recover then modLife (fun l => { l with thermB := l.thermA, recovered := true }) c else c
    match selfTest t false with
    | some r => hold r c
    | none => rampAndCalibrate t (forEach t.badBonds postBond c)

/-- The power-up sequence from step 1. -/
def powerUp (t : Post) (c : Ctl) : Ctl :=
  if !c.power.refclk then hold 9 c
  else
    let c := newNonce c
    match chosenRecord c.life.repairA c.life.repairB with
    | none => hold 1 c
    | some (rec, d) =>
      let c := if c.power.resetCause = 4 then c else forEach rec.repairs applyRepair c
      fusesAndTests t (if d = 0 then c else defer 0x05 0 0 d (bump (gIdx 23) c))

/-! ## Warm reset (R420 to R424) -/

/-- Every pending shadow write of a page reaches its secondary. -/
def drainShadow (hpn : Nat) : Nat → Ctl → Ctl
  | 0, c => c
  | n + 1, c => drainShadow hpn n (shadowPut hpn c)

def drainShadows (c : Ctl) : Ctl :=
  let c := forEach c.pm.mirrors (fun x c => drainShadow x.2.hpn x.2.pending.length c) c
  forEach c.pm.leaving (fun x c => drainShadow x.hpn x.pending.length c) c

/-- Every committed write that has not reached its channel is accepted there (step 2 of Table 5, R203). -/
def applyCommits (c : Ctl) : Ctl :=
  let left := c.regions.toList.flatMap fun r => (r.coord.txns.filter fun t => t.phase = .committing).flatMap fun t => t.keys.filter fun k => k.state = .committing
  forEach left (fun k c => acceptWrite k.gran (granEncode (k.new.getD 0)) (if (pmGet c k.hpn).mirrored then some k.hpn else none) c) c

/-- An atomic-unit entry whose granule is still to be read is read, and its operations run (R422). -/
def settleAu (m : List Host.Cell) (e : AuEntry) (c : Ctl) : Ctl :=
  match e.value, e.waiting with
  | none, o :: _ => readData (keyChan e.gran) o.id o.idx 0 m c
  | _, _ => c

/-- Every pending targeted refresh is issued (step 3). -/
def flushTrr (c : Ctl) : Ctl :=
  let rows := allChans.flatMap fun ch => c.chans[ch].banks.flatMap fun b => b.2.disturb.pending.map fun r => (ch, b.1, r)
  forEach rows (fun x c => trrIssue (sliceOf x.1 (x.2.1 / 32)) x.2.1 x.2.2.1 x.2.2.2.2 false c) c

/-- Steps 2 and 3: what is accepted or committed is performed in DRAM, and nothing of it is answered. -/
def drainData (m : List Host.Cell) (c : Ctl) : List Host.Cell × Ctl :=
  let mute : Trk → Trk := fun t => { t with orphan := true }
  let c : Ctl := { c with trk := c.trk.map mute }
  let c := drainShadows (applyCommits c)
  let c := forEach (c.chans.toList.flatMap (·.au)) (settleAu m) c
  let c := drainShadows c
  let w := c.chans.toList.flatMap (·.wbuf)
  let c := bumpList w m c
  let h := auHeld c allChans
  (dramWrites (dramWrites m w) h, flushTrr c)
where
  /-- CH.POISON_CLEARED of the drained writes. -/
  bumpList (w : List (Nat × BitVec 320)) (m : List Host.Cell) (c : Ctl) : Ctl :=
    forEach allChans (fun ch c => bumpBy (cIdx ch 35) (poisonCleared m (w.filter fun x => keyChan x.1 = ch)) c) c

/-- The queue contexts after the movers have stopped (R156). -/
def resetQueue (q : Queue) : Queue := { q with state := if q.state = 2 then 0 else q.state, slotFree := false }

/-- The data plane without requests: tracker, coordinators, movers and the channels' queues are empty (Table 6 of R422). -/
def emptyPlane (c : Ctl) : Ctl :=
  let c := forEach allMovers moverHalt c
  let chan : Chan → Chan := fun x => { x with wbuf := [], au := [], holds := [], holdWaits := [] }
  let region : Region → Region := fun r => { r with coord := {}, ready := [] }
  let put : List (Nat × Queue) → List (Nat × Queue) := fun l => (l.map fun q => (q.1, resetQueue q.2)).filter fun q => q.2 ≠ {}
  { c with trk := [], chans := c.chans.map chan, regions := c.regions.map region, queues := put c.queues }

/-- A port after a reset of the base-die logic: RW registers, masks and regulation settings kept (R426). -/
def resetPort (p : Port) : Port :=
  let lane : Lane → Lane := fun l => { txFfe := l.txFfe }
  { enable := p.enable, maxRate := p.maxRate, sleepLight := p.sleepLight, sleepDeep := p.sleepDeep, regNotify := p.regNotify
    faultNotifyMin := p.faultNotifyMin, laneFailThreshold := p.laneFailThreshold, uncorrRetrainLimit := p.uncorrRetrainLimit
    replayTimeout := p.replayTimeout, txLightIdle := p.txLightIdle, txDeepIdle := p.txDeepIdle, poolLimit := p.poolLimit
    domainMask := p.domainMask, latTarget := p.latTarget, minBw := p.minBw, realtime := p.realtime, tc1Rate := p.tc1Rate
    tc1Burst := p.tc1Burst, tc1Bucket := p.tc1Bucket, tc1At := p.tc1At, holdBack := p.holdBack, tx := p.tx.map lane, rx := p.rx.map lane }

/-- A channel after a reset of the base-die logic: RW registers, slices out, repairs, remaps and taps kept (R426). -/
def resetChan (x : Chan) : Chan :=
  let bank : Bank → Bank := fun b => { repaired := b.repaired, calRow := b.calRow }
  { enable := x.enable, ueFound := x.ueFound, adaptive := x.adaptive, trrDefer := x.trrDefer, dlyApplyIdle := x.dlyApplyIdle
    openPageTimeout := x.openPageTimeout, fairN := x.fairN, fairNPending := x.fairNPending, actAlert := x.actAlert
    actMust := x.actMust, rowCeLimit := x.rowCeLimit, dlySel := x.dlySel, srrRank := x.srrRank, srrPc := x.srrPc
    srrBank := x.srrBank, srrRow := x.srrRow, sliceDrain := x.sliceDrain, sliceOut := x.sliceOut, sliceFailed := x.sliceFailed
    hotSlices := x.hotSlices, caOut := x.caOut, sparesFree := x.sparesFree, throttleFactor := x.throttleFactor
    spareMap := x.spareMap, withdrawn := x.withdrawn, taps := x.taps, refreshMode := x.refreshMode
    flActive := x.flActive, flHot := x.flHot, flMode := x.flMode, flFactor := x.flFactor
    banks := (x.banks.map fun b => (b.1, bank b.2)).filter fun b => b.2 ≠ {} }

/-- A region after a reset: its RW registers kept. -/
def resetRegion (r : Region) : Region := { arbBase := r.arbBase, arbBasePending := r.arbBasePending, qlHigh := r.qlHigh, qlLow := r.qlLow }

/-- A mover after a reset: ENABLE, MAX_INFLIGHT and the umpire's hold on it kept. -/
def resetMover (v : Mover) : Mover := { enable := v.enable, faulted := v.faulted, maxInflight := v.maxInflight }

/-- A copier's job after a reset: a copy restarts at its cursor, a clearing at its page's first granule (R115, R424). -/
def resetCopier (k : Copier) : Copier :=
  match k.job with
  | some j => { job := some j, cursor := if isClearing j then 0 else k.cursor }
  | none => {}

/-- Updates whose new values were written are settled without a reply (R424). -/
def settleDrains (c : Ctl) : Ctl :=
  let l := c.pm.drains.toList.flatten
  let c := modPm (fun pm => { pm with drains := Vector.replicate 4 [], waits := [], leaving := [], epoch := Vector.replicate 4 false }) c
  forEach l (fun d c => forEach d.secondaries settleSecondary (forEach d.oldPages settleOld c)) c

/-- Operations that survive a warm reset (R424): MIGRATE, MIRROR_SET, a life-cycle transition and ZEROIZE. -/
def survives (o : Operation) : Bool := o.opcode = 0x21 || o.opcode = 0x22 || o.opcode = 0x90 || o.opcode = 0x92

/-- Management after a warm reset (R396, R424): commands and assemblies gone, other operations DISCARDED, other activities
aborted. -/
def resetMgr (g : Mgr) : Mgr :=
  let op : Operation → Operation := fun o => if o.state < 2 && !survives o then { o with state := 3 } else o
  let cut := (g.running.filter fun a => a.kind ≠ 1).map fun a => { a with state := 3 }
  let ended := g.ended ++ cut
  let ist : Ist → Ist := fun t => { istClear t with preempted := false }
  { ops := g.ops.map op, nextOp := g.nextOp, i3cOut := g.i3cOut, running := g.running.filter fun a => a.kind = 1
    ended := ended.drop (ended.length - 32), nextActivity := g.nextActivity, ist := g.ist.map ist, staging := g.staging }

/-- The channels of which a lost value had no address go out of service at the warm reset (R292). -/
def lostChannels (l : List (Fin 32)) (c : Ctl) : Ctl :=
  forEach l (fun ch c => forEach (chanRanks ch) (fun k c => sliceOutOfService (sliceOf ch k) c) c) c

/-- Steps 1 to 5 of Table 5 of R421: the plane drains, the ranks sleep and the base-die logic is reset. -/
def warmDown (cause : Nat) (m : List Host.Cell) (c : Ctl) : List Host.Cell × Ctl :=
  let lost := allChans.filter fun ch => c.chans[ch].outAtReset
  let r := drainData m c
  let c := emptyPlane r.2
  let c := settleDrains c
  let w := c.power
  let c : Ctl := { c with
    ports := c.ports.map resetPort
    chans := c.chans.map resetChan
    regions := c.regions.map resetRegion
    movers := c.movers.map resetMover
    mgr := resetMgr c.mgr
    umpire := resetUmpire c.umpire
    score := c.score.filter fun x => x.1 < 0x100 || 0x400 ≤ x.1
    power := { w with
      stage := .heldReset, resetCause := cause, lastResetBeat := c.beat.number, bootSource := 7, fwActivateFailed := false
      configReject := false, configRejectAddr := 0, selfRefresh := false, ranksAsleep := true, changeoversRun := false
      regTimer := false, regChanged := false, regCauses := 0, warmStart := false, dataReadyUs := 0 } }
  let c := modPm (fun pm => { pm with copiers := pm.copiers.map resetCopier, initResult := 0, initBadHpn := 0, initDisplaced := 0 }) c
  let c := modLife (fun l => { l with fwRunning := false, spdmInband := {}, spdmI3c := {}, eraseGranules := 0 }) c
  let c := modBeat (fun b => { b with windowOpen := false, lockReported := false }) c
  (r.1, updateAlert (lostChannels lost (bump (gIdx 34) (newNonce c))))

/-- Steps 6 to 8: self-test, the image to run, and the reload of the page map; the retained image runs when the staged one
fails, and the stack waits for boot blocks when that fails too (R423). -/
def warmUp (t : Post) (c : Ctl) : Ctl :=
  if !c.power.refclk then modPower (fun w => { w with warmStart := true }) (hold 9 c)
  else
    let c := modPower (fun w => { w with holdReason := 0, warmStart := false }) { c with umpire := resetUmpire c.umpire }
    match selfTest t true with
    | some r => hold r c
    | none =>
      let staged := if c.power.resetCause = 3 then c.mgr.staging.verified else none
      let c := modMgr (fun g => { g with staging := {} }) c
      let use : Option Firmware := match staged with | some i => if imageOk i c.life then some i else none | none => none
      let c := if staged.isSome && use.isNone then modPower (fun w => { w with fwActivateFailed := true }) c else c
      let keep : Option Firmware := match c.life.image with | some i => if imageOk i c.life then some i else none | none => none
      match use.orElse fun _ => keep with
      | some i => setStage .starting (reloadMap (startFirmware i c))
      | none => modPower (fun w => { w with stage := .boot, warmStart := true }) c

/-! ## Pins and rails (R406, R407, R420) -/

/-- The rails are in range (R407): housekeeping and beat capture start, a GENERATED slot is destroyed with the bit that closed test
access (R360, R376), and NONCE is drawn (R363). -/
def powerOn (addrSel : Fin 4) (m : List Host.Cell) (c : Ctl) : List Host.Cell × Ctl :=
  if c.power.stage = .off then
    let f : Ctl := railsUp c
    ([], newNonce { f with power := { f.power with addrSel := addrSel }, life := { f.life with slots := f.life.slots.map dropGenerated } })
  else (m, c)

def execPowerOn (addrSel : Fin 4) (s : State) : Host.Outcome State Fault Refusal := onBoth (powerOn addrSel) s

/-- A rail leaves its range (R406, R407): the stack is in reset, and DRAM is lost. -/
def brownout (_ : List Host.Cell) (c : Ctl) : List Host.Cell × Ctl :=
  let f : Ctl := railsUp c
  ([], { f with power := { f.power with stage := .off } })

def execBrownout (s : State) : Host.Outcome State Fault Refusal := onBoth brownout s

/-- RESET_N is deasserted (R407, R420): the sequence of R409 begins, or a held warm reset goes on. -/
def resetDeassert (t : Post) (c : Ctl) : Ctl :=
  if c.power.stage = .off then c
  else
    let c := modPower (fun w => { w with resetN := true }) c
    updateAlert (if c.power.stage = .inReset then powerUp t { c with umpire := resetUmpire c.umpire } else if c.power.stage = .heldReset then warmUp t c else c)

def execResetNDeassert (post : Post) (s : State) : Host.Outcome State Fault Refusal := onCtl (resetDeassert post) s

/-- Whether RESET_N restarts the power-up sequence rather than resetting warm (R414, R420). -/
def restartsCold (c : Ctl) : Bool :=
  if c.power.stage = .hold then decide (c.power.holdReason ≤ 6) || !c.power.everReady else !c.power.everReady

/-- RESET_N is asserted (R414, R420): no effect in class 5 or SCRAPPED, and only a delay during a thermal shutdown. -/
def resetAssert (m : List Host.Cell) (c : Ctl) : List Host.Cell × Ctl :=
  let c := modPower (fun w => { w with resetN := false }) c
  let st := c.power.stage
  if st = .off || st = .inReset || st = .heldReset || st = .scrapped || c.umpire.class5 then (m, c)
  else if st = .shutdown then (m, modTherm (fun t => { t with restartRefused := false }) c)
  else if restartsCold c then ([], coldRestart 6 c)
  else warmDown 1 m c

def execResetNAssert (s : State) : Host.Outcome State Fault Refusal := onBoth resetAssert s

/-! ## REFCLK (R29, R414) -/

/-- What the loss of REFCLK does whatever the stack's stage (R29): the class-4 fault, every link down and every rank asleep. -/
def clockGone (c : Ctl) : Ctl :=
  modPower (fun w => { w with ranksAsleep := true }) (forEach allPorts toDetect (raiseEvent 0x80 0 0 0 c))

/-- REFCLK is absent for more than 10 microseconds (R29): before data-ready the stack holds as well (R414). -/
def refclkLost (c : Ctl) : Ctl :=
  if !c.power.refclk || c.power.stage = .off then modPower (fun w => { w with refclk := false }) c
  else
    let c := modPower (fun w => { w with refclk := false, pllHold := true }) c
    match c.power.stage with
    | .boot | .erasing => modPower (fun w => { w with warmStart := w.warmStart && c.power.stage = .boot }) (hold 9 (clockGone c))
    | .starting => modPower (fun w => { w with warmStart := w.everReady }) (hold 9 (modLife (fun l => { l with fwRunning := false }) (clockGone c)))
    | _ => clockGone c

def execRefclkLost (s : State) : Host.Outcome State Fault Refusal := onCtl refclkLost s

/-- A temperature in 12 bits of two's complement, 0x800 when there is none. -/
def tempBits (t : Option Int) : Nat := match t with | some x => ofSigned 12 x | none => 0x800

/-- DETAIL of THERMAL_EVENT (Table 4). -/
def thermDetail (c : Ctl) (kind die sensor : Nat) (effective : Option Int) : Nat :=
  kind + 2 ^ 4 * c.therm.steps.toList.getD (if kind = 8 then 18 else die) 0 + 2 ^ 8 * sensor + 2 ^ 16 * tempBits effective
    + 2 ^ 32 * tempBits (if kind = 8 then none else c.therm.own.toList.getD die none)
    + 2 ^ 44 * (if die = 0 then 0 else c.therm.power.toList.getD (die - 1) 0)

/-- THERMAL_EVENT with KIND THERMAL_RESTART, for firmware to log once it runs. -/
def deferRestart (c : Ctl) : Ctl := defer 0x0A 5 0 (thermDetail c 7 0 0 (c.therm.eff.toList.getD 0 none)) c

/-- The state at step 1 when the sequence starts again after HOLD for REFCLK. -/
def restartState (c : Ctl) : Ctl := if c.power.resetCause = 4 then deferRestart (thermalCold c) else coldRestart c.power.resetCause c

/-- REFCLK has been present for 100 microseconds: HOLD for its absence ends, and the sequence, which begins with a reset, starts
again. -/
def refclkPresent (t : Post) (m : List Host.Cell) (c : Ctl) : List Host.Cell × Ctl :=
  let c := modPower (fun w => { w with refclk := true, pllHold := false }) c
  if c.power.stage = .hold && c.power.holdReason = 9 && !c.umpire.class5 then
    (if c.power.warmStart then (m, updateAlert (warmUp t c)) else ([], updateAlert (powerUp t (restartState c))))
  else (m, c)

def execRefclkPresent (post : Post) (s : State) : Host.Outcome State Fault Refusal := onBoth (refclkPresent post) s

/-! ## Thermal restart (R344) -/

/-- Every die lies below its re-arm level (Table 2 of R338): 20 °C under its shutdown level. -/
def rearmed (t : Therm) : Bool :=
  (List.range 18).all fun d =>
    match t.eff.toList.getD d none with
    | some e => e < 10 * ((t.levels.toList.getD (if d = 0 then 2 else 5) 0 : Nat) : Int) - 200
    | none => d = 0

/-- The stack restarts itself after a thermal shutdown. -/
def thermalRestart (t : Post) (m : List Host.Cell) (c : Ctl) : List Host.Cell × Ctl :=
  if c.power.stage = .shutdown && rearmed c.therm && c.power.resetN && !c.therm.restartRefused && !c.umpire.class5 then
    ([], powerUp t (deferRestart (thermalCold c)))
  else (m, c)

def execThermalRestart (post : Post) (s : State) : Host.Outcome State Fault Refusal := onBoth (thermalRestart post) s

/-! ## Data-ready (R419) -/

/-- The lists of ready queues at data-ready (R156): descending PRIORITY, then ascending number. -/
def readyAt (c : Ctl) (r : Fin 4) : List (Nat × Nat) :=
  let l := (c.queues.filter fun q => queueRegion q.1 = r && queueIsReady q.2).map fun q => (q.1, q.2.priority)
  [3, 2, 1, 0].flatMap fun p => l.filter fun x => x.2 = p

/-- The shot clock of an open fault logged before the stack was data-ready starts now (R296). -/
def startClock (u : Umpire) (e : LogEntry) : LogEntry :=
  if isOpen e && e.clock.isNone then
    { e with clock := if e.cls = 2 then some u.shotClock2 else if e.cls = 3 then some u.shotClock3 else none }
  else e

/-- Pages that initialisation left CLEARING are UNUSED once a full fill has written them (R415, R418). -/
def fillDone (pm : PageMap) : PageMap :=
  match pm.layout with
  | .image false => { pm with
      layout := .image true, restoreLayout := .image true, uses := pm.uses.filter fun u => u.2 ≠ .unused
      restoreUses := pm.restoreUses.filter fun u => u.2 ≠ .unused }
  | _ => pm

/-- The stack is data-ready. A ZEROIZE that a warm reset started again goes on, and the data plane resumes at its end (R380,
R424). -/
def dataReady (us : Nat) (c : Ctl) : Ctl :=
  if c.power.stage = .starting && c.life.fwRunning && c.power.refclk && c.life.transition.isNone then
    let full := !c.power.everReady && !c.mgr.bootLoad.fillMapped
    let c := modPower (fun w => { w with stage := .ready, everReady := true, dataReadyUs := us, changeoversRun := true, ranksAsleep := false }) c
    let c := resumeCopiers c
    let c := if full then modPm fillDone c else c
    let c := if 4 ≤ stackClass c.umpire then c
      else modUmpire (fun u => { u with log := u.log.map (startClock u), overflow := u.overflow.map (startClock u) }) c
    let ready : Fin 4 → Region := fun r => { c.regions[r] with ready := readyAt c r }
    floorRecompute { c with regions := Vector.ofFn ready }
  else c

def execDataReady (elapsedUs : Nat) (s : State) : Host.Outcome State Fault Refusal := onCtl (dataReady elapsedUs) s

/-! ## RESET_WARM, FW_ACTIVATE and MGMT_FAULT (R289, R403, R420) -/

/-- A warm reset is refused while a life-cycle transition or ZEROIZE runs (R420). -/
def resetBusy (c : Ctl) : Bool := c.life.transition.isSome || c.life.zeroizing

/-- RESET_WARM: the reply leaves, then the stack resets (R403). -/
def resetWarm (m : Mgmt) (t : Post) (mem : List Host.Cell) (c : Ctl) : List Host.Cell × Ctl :=
  let go := !resetBusy c && serves 0xF0 m c
  let c := command 0xF0 m (fun ref c => replyStatus ref (if resetBusy c then 1 else 0) c) c
  if go then
    let r := warmDown 2 mem c
    (r.1, warmUp t r.2)
  else (mem, c)

def execResetWarm (m : Mgmt) (post : Post) (s : State) : Host.Outcome State Fault Refusal := onBoth (resetWarm m post) s

/-- The status of FW_ACTIVATE (R368, R403, R420). -/
def activateStatus (digestOk : Bool) (c : Ctl) : Nat :=
  if resetBusy c then 1
  else if c.mgr.staging.verified.isNone then 4
  else if !digestOk then 6
  else 0

/-- FW_ACTIVATE: the staged image, checked once more, is run by a warm reset. -/
def fwActivate (m : Mgmt) (digestOk : Bool) (t : Post) (mem : List Host.Cell) (c : Ctl) : List Host.Cell × Ctl :=
  let st := activateStatus digestOk c
  let go := st = 0 && serves 0x83 m c
  let c := command 0x83 m (fun ref c => replyStatus ref st c) c
  if go then
    let r := warmDown 3 mem c
    (r.1, warmUp t r.2)
  else (mem, c)

def execFwActivate (m : Mgmt) (digestOk : Bool) (post : Post) (s : State) : Host.Outcome State Fault Refusal :=
  onBoth (fwActivate m digestOk post) s

/-- A lock-step mismatch or watchdog expiry of the management cores (R289): firmware restarts from the ROM, which verifies the retained
image again, with no base-die reset (R425). An image that fails does not run. Before firmware runs only the fault is raised. -/
def mgmtFault (c : Ctl) : Ctl :=
  if c.power.stage = .off then c
  else if !c.life.fwRunning then raiseEvent 0x83 0 0 0 c
  else
    let c := raiseEvent 0x83 0 0 0 c
    let c := modMgr (fun g => { g with asmInband := none, asmI3c := none, parked := [], staging := {} })
      (modPower (fun w => { w with resetCause := 5 }) (modBeat (fun b => { b with lockReported := false }) c))
    match c.life.image with
    | some i => if imageOk i c.life then startFirmware i c else modLife (fun l => { l with fwRunning := false, running := none }) c
    | none => modLife (fun l => { l with fwRunning := false, running := none }) c

def execMgmtFault (s : State) : Host.Outcome State Fault Refusal := onCtl mgmtFault s

end Sys2Proof.Machine
end

