-- ==== Sys2Proof/Machine/LifeCycle.lean ====
section
/-! DEFINITION. Life-cycle transitions, the erase sequencer, ZEROIZE and the runtime firmware check (R353 to R380). -/

namespace Sys2Proof.Machine

open Sys2Proof

/-! ## Transitions (R353, R360, R374, R378, R379) -/

/-- A transition of Table 2 of R353. -/
def transitionAllowed (st target : Nat) : Bool :=
  (st = 0 && target = 1) || (st = 1 && target = 2) || (st = 2 && target = 3) || (st = 3 && target = 2) || (st ≤ 3 && target = 4)

/-- Whether the owner signs a transition (Table 2): from FIELD, while an owner key is provisioned. -/
def ownerSigns (l : Life) : Bool := lcState l = 2 && (liveOwner l).isSome

/-- A transition is accepted: it takes an operation, and SPDM connections are cleared (R373). -/
def acceptTransition (ref : CmdRef) (payload : List Byte) (c : Ctl) : Nat × Ctl :=
  let c := modLife (fun l => { l with spdmInband := {}, spdmI3c := {} }) c
  let r := startOperation 0x90 c
  (r.1, replyTo ref 7 r.1 payload r.2)

/-- A transition whose work ends at once. -/
def shortTransition (ref : CmdRef) (payload : List Byte) (f : Life → Life) (c : Ctl) : Ctl :=
  let r := acceptTransition ref payload c
  endOperation r.1 0 (modLife f r.2)

/-- The next bit of the thermometer is blown in copy A, then the same bit in copy B (R354). -/
def blowThermometer (l : Life) : Life :=
  let bit := BitVec.ofNat 24 (2 ^ thermoValue l.thermA)
  { l with thermA := l.thermA ||| bit, thermB := l.thermB ||| bit }

/-- The label "DX128-KEYGEN" in ASCII, as a number. -/
def keygenLabel : Nat := ofBytes [0x44, 0x58, 0x31, 0x32, 0x38, 0x2D, 0x4B, 0x45, 0x59, 0x47, 0x45, 0x4E]

/-- The n-th key's reply payload (R360): public key, 3 zero bytes, and the proof over label, key, serial and nonce. -/
def keygenPayload (n : Nat) (serial : BitVec 64) (nonce : BitVec 256) : List Byte :=
  let key := (Config.publicKey n).toNat
  let msg := keygenLabel + 2 ^ 96 * key + 2 ^ 872 * serial.toNat + 2 ^ 936 * nonce.toNat
  toBytes 100 key ++ toBytes 96 (Config.signature n (Config.publicKey n) (Config.sha384 1192 msg)).toNat

/-- The n-th key as its slot holds it (R357, R358). -/
def newKey (n : Nat) : SlotFuses := { keyed := true, wrapped := Config.wrappedKey n, publicKey := Config.publicKey n }

/-- Phase KEYGEN (R360): a GENERATED slot is destroyed, the lowest EMPTY one receives a key, and test access closes. -/
def keygen (nonce : BitVec 256) (ref : CmdRef) (c : Ctl) : Ctl :=
  let slots := c.life.slots.map dropGenerated
  match slots.toList.findIdx? fun s => slotState s = .empty with
  | none => replyStatus ref 9 c
  | some i =>
    let pay := keygenPayload c.draws c.life.serial nonce
    shortTransition ref pay (fun l => { l with slots := slots.set! i (newKey c.draws), keygenClosed := true, eraseLatch := false }) { c with draws := c.draws + 1 }

/-- Phase COMPLETE (R360): the certificate area of the GENERATED slot is written, which makes it the slot in use with its key in the
engine, the first owner slot is written, and the thermometer blown. A device certificate for another key, or a chain that does not
verify to the root, ends AUTH_FAILED. -/
def completeField (hash : BitVec 384) (countersign : Bool) (x : Chain) (ref : CmdRef) (c : Ctl) : Ctl :=
  if 2048 < x.intermediate.length + x.device.length then replyStatus ref 2 c
  else match (List.finRange 12).find? fun i => slotState c.life.slots[i] = .generated with
  | none => replyStatus ref 4 c
  | some i =>
    let s := c.life.slots[i]
    if !(x.verifies && x.devKey = s.publicKey) then replyStatus ref 6 c
    else
      let owners : List OwnerSlot := if hash = 0 then [] else [{ digest := hash, countersign := countersign, killed := false }]
      shortTransition ref [] (fun l => blowThermometer { l with
        slots := l.slots.set i { s with certs := some (x.intermediate, x.device) }, slotInUse := some i, keyReg := some i, owners := owners }) c

/-- Step 3 of Table 7 of R374: retention SRAM but for the umpire log, so the retained image too (R413). -/
def clearRetention (c : Ctl) : Ctl :=
  let f : Ctl := {}
  dropSubstitutions { c with pm := f.pm, queues := [], life := { c.life with image := none } }

/-- SERVICE entry or scrapping is accepted (R374, R379). -/
def acceptErase (target : Nat) (ref : CmdRef) (c : Ctl) : Ctl :=
  let a := acceptTransition ref [] c
  modLife (fun l => { l with transition := some target, transitionOp := a.1, eraseLatch := if target = 4 then false else l.eraseLatch }) a.2

/-- The data plane drains as a warm reset does, then steps 1 to 3 of Table 7 run (R374, R379). -/
def beginErase (m : List Host.Cell) (c : Ctl) : List Host.Cell × Ctl :=
  let r := drainData m (leaveSelfRefresh c)
  (r.1, modLife (destroySecrets (c.life.transition = some 4)) (clearRetention (emptyPlane r.2)))

/-- LIFECYCLE_TRANSITION after its signature: an unassigned TARGET or PHASE ends UNSUPPORTED (R11), a request that Table 2 does not list
WRONG_STATE (R353). -/
def transitionBody (target phase : Nat) (hash : BitVec 384) (countersign : Bool) (x : Chain) (nonce : BitVec 256) (ref : CmdRef)
    (c : Ctl) : Ctl :=
  if 4 < target || 2 < phase then replyStatus ref 8 c
  else if !transitionAllowed (lcState c.life) target then replyStatus ref 4 c
  else if c.life.transition.isSome || c.life.zeroizing then replyStatus ref 1 c
  else if (target = 2 && phase = 0) || (target ≠ 2 && phase ≠ 0) then replyStatus ref 2 c
  else if target = 1 then shortTransition ref [] blowThermometer c
  else if target = 2 then (if phase = 1 then keygen nonce ref c else completeField hash countersign x ref c)
  else if target = 3 && 18 ≤ thermoValue c.life.thermA then replyStatus ref 9 c
  else acceptErase target ref c

/-- LIFECYCLE_TRANSITION (R353, R362, R365, R391): its signature is checked before its parameters. -/
def lifecycleCmd (mg : Mgmt) (target phase : Nat) (hash : BitVec 384) (countersign : Bool) (x : Chain) (c : Ctl) : Ctl :=
  let nonce := match mg.env with | some e => e.nonce | none => 0
  command 0x90 mg (fun ref c => authorise (ownerSigns c.life) mg ref (transitionBody target phase hash countersign x nonce) c) c

/-- The command, and the drain that an accepted SERVICE entry or scrapping begins with. -/
def lifecycle (mg : Mgmt) (target phase : Nat) (hash : BitVec 384) (countersign : Bool) (x : Chain) (m : List Host.Cell) (c : Ctl) :
    List Host.Cell × Ctl :=
  let c' := lifecycleCmd mg target phase hash countersign x c
  if c.life.transition.isNone && c'.life.transition.isSome then beginErase m c' else (m, c')

def execLifecycleTransition (m : Mgmt) (target phase : Nat) (ownerKeyHash : BitVec 384) (countersign : Bool) (chain : Chain) (s : State) :
    Host.Outcome State Fault Refusal := onBoth (lifecycle m target phase ownerKeyHash countersign chain) s

/-! ## The erase sequencer (R374 to R379) -/

/-- The slices that the sequencer could not write: those in error, failed, or on a layer that is off (R375). -/
def unwritten (c : Ctl) (failed : List Nat) : List Nat :=
  (List.range 136).filter fun s => failed.contains s || c.chans[sliceChan s].sliceFailed.getLsbD (sliceRank s) || !layerOn c s

/-- The checks of R376 for the erase latch: both copies read SERVICE, the slot in use reads DESTROYED with its key bits all blown, no
slot is GENERATED, no owner slot is live. -/
def latchOk (l : Life) : Bool :=
  lcState l = 3 && thermoValid l.thermA && l.thermA = l.thermB
    && (match l.slotInUse with | some i => slotState l.slots[i] = .destroyed && l.slots[i].wrapped = BitVec.allOnes 512 | none => false)
    && !(l.slots.toList.any fun s => slotState s = .generated) && (liveOwner l).isNone

/-- The erase ends: every granule it could write reads as zero data, and a layer it could not write is held off (R375). -/
def eraseComplete (failed : List Nat) (_ : List Host.Cell) (c : Ctl) : List Host.Cell × Ctl :=
  let bad := unwritten c failed
  let off : Vector Nat 17 := Vector.ofFn fun i =>
    if c.power.layers[i] ≠ 3 && bad.any fun s => sliceLayer s = i.val + 1 then 0 else c.power.layers[i]
  let c := modPower (fun w => { w with layers := off }) c
  let c := modLife (fun l => { l with eraseGranules := 4563402752 - 33554432 * bad.length }) c
  let c := match c.life.transition with
    | some 3 => modLife blowThermometer c
    | some 4 => modLife (fun l => { l with scrapA := true, scrapB := true }) c
    | _ => c
  let c := modLife (fun l => { l with eraseLatch := latchOk l && !c.umpire.class5 }) c
  let running := c.power.stage ≠ .erasing
  let c := if running && c.life.transitionOp ≠ 0 then endOperation c.life.transitionOp 0 c else c
  let c := modLife (fun l => { l with transition := none, transitionOp := 0 }) c
  if scrapped c.life then
    ([], forEach allPorts toDetect (setStage .scrapped (hold 0x0A (modLife (fun l => { l with fwRunning := false, running := none, image := none }) c))))
  else if running then ([], dropSubstitutions (initDefault 0 0 c))
  else ([], enterBoot c)

def execEraseComplete (failed : List Nat) (s : State) : Host.Outcome State Fault Refusal :=
  onBoth (fun m c => if c.power.stage = .erasing || c.life.transition.isSome then eraseComplete failed m c else (m, c)) s

/-! ## ZEROIZE (R380) -/

/-- A queue outside a mover is disabled. -/
def disableQueue (q : Queue) : Queue := { q with state := if q.state = 2 then 2 else 0 }

/-- A mover stops for ZEROIZE: as for class 3, but its queue is DISABLED afterwards. -/
def stopForErase (v : Mover) : Mover :=
  if v.curQueue.isSome then { v with stop := some (0, match v.stop with | some x => x.2 | none => true) } else v

/-- ZEROIZE is accepted: movers stop as class 3 does, locked sequences end as at expiry, queues are disabled. -/
def zeroizeBody (ref : CmdRef) (c : Ctl) : Ctl :=
  if c.life.zeroizing || c.life.transition.isSome then replyStatus ref 1 c
  else
    let r := replyInProgress ref (leaveSelfRefresh c)
    let c := modLife (fun l => { l with zeroizing := true, zeroizeOp := r.1 }) r.2
    let c : Ctl := { c with movers := c.movers.map stopForErase }
    let c := forEach allRegions (fun g c => forEach (c.regions[g].coord.seqs.filter fun q => q.state ≠ .committing) (fun q c => endSeq g q 6 c) c) c
    let region : Region → Region := fun g => { g with ready := [] }
    { c with
      queues := (c.queues.map fun q => (q.1, disableQueue q.2)).filter fun q => q.2 ≠ {}
      regions := c.regions.map region }

def execZeroize (m : Mgmt) (s : State) : Host.Outcome State Fault Refusal := onCtl (ownerCommand 0x92 m zeroizeBody) s

/-- Whether what ZEROIZE lets finish has finished: requests, transactions and movers. -/
def planeIdle (c : Ctl) : Bool :=
  c.trk.isEmpty && (c.movers.toList.all fun v => v.curQueue.isNone) && c.regions.toList.all fun r => r.coord.txns.isEmpty

/-- ZEROIZE ends: every granule that the sequencer can write reads as zero; the data plane resumes. -/
def zeroizeComplete (m : List Host.Cell) (c : Ctl) : List Host.Cell × Ctl :=
  if c.life.zeroizing && planeIdle c then
    let bad := unwritten c []
    let chan : Chan → Chan := fun x => { x with wbuf := [], au := [], ueFound := x.ueFound.filter fun k => bad.contains (ppnSlice (keyPpn k)) }
    let c : Ctl := { c with chans := c.chans.map chan }
    let c := modPm (fun pm => { pm with mirrors := pm.mirrors.map fun x => (x.1, { x.2 with pending := [] }) }) c
    (dramClear m fun ppn => !bad.contains (ppnSlice ppn),
      modLife (fun l => { l with zeroizing := false, zeroizeOp := 0, eraseGranules := 4563402752 - 33554432 * bad.length }) (endOperation c.life.zeroizeOp 0 c))
  else (m, c)

def execZeroizeComplete (s : State) : Host.Outcome State Fault Refusal := onBoth zeroizeComplete s

/-! ## The runtime check (R370) -/

/-- The hash engine's check of the loaded image. -/
def fwRecheck (ok : Bool) (c : Ctl) : Ctl :=
  if !c.life.fwRunning then c
  else
    let c := bump (gIdx 26) c
    if ok then c else raiseEvent 0xA0 0 0 0 c

def execFwRecheck (matches_ : Bool) (s : State) : Host.Outcome State Fault Refusal := onCtl (fwRecheck matches_) s

end Sys2Proof.Machine
end

