-- ==== Sys2Proof/Machine/Pages.lean ====
section
/-! DEFINITION. The page-map commands, mirrors and the bench (R104 to R109, R117, R121, R123, R399, R402), and the ends of
drains and clearings (R102, R107). -/

namespace Sys2Proof.Machine

open Sys2Proof

/-! ## Reading (R98, R116, R402) -/

/-- A page-map entry as its 32 bits (Table 1 of R98). -/
def pmBits (e : PmEntry) : Nat :=
  match e.state with
  | .unmapped => 2 ^ 22 * e.domain + 3 * 2 ^ 30
  | .normal => e.ppn + 2 ^ 22 * e.domain + 2 ^ 28 * b2n e.mirrored + 2 ^ 29 * b2n e.shared
  | .migrating => e.ppn + 2 ^ 22 * e.domain + 2 ^ 28 * b2n e.mirrored + 2 ^ 29 * b2n e.shared + 2 ^ 30
  | .lost => e.ppn + 2 ^ 22 * e.domain + 2 ^ 28 * b2n e.mirrored + 2 ^ 29 * b2n e.shared + 2 ^ 31

/-- A mirror-table entry as its 64 bits (Table 5 of R116). -/
def mirrorBits (x : Mirror) : Nat := x.secPpn + 2 ^ 22 * x.hpn + 2 ^ 43 + 2 ^ 44 * b2n x.synced

def mirrorAt (c : Ctl) (i : Nat) : Nat := match c.pm.mirrors.find? fun x => x.1 = i with | some x => mirrorBits x.2 | none => 0

/-- PAGEMAP_READ. -/
def pagemapRead (first : Nat) (mirror : Bool) (count : Nat) (ref : CmdRef) (c : Ctl) : Ctl :=
  if count < 1 || (if mirror then 126 < count || 65536 < first + count else 252 < count || 2097152 < first + count) then replyStatus ref 2 c
  else
    replyTo ref 0 0 ((List.range count).flatMap fun i =>
      if mirror then toBytes 8 (mirrorAt c (first + i)) else toBytes 4 (pmBits (pmGet c (first + i)))) c

def execPagemapRead (m : Mgmt) (first : Nat) (mirror : Bool) (count : Nat) (s : State) : Host.Outcome State Fault Refusal :=
  onCtl (command 0x20 m (pagemapRead first mirror count)) s

/-! ## Changes: what a command waits for (R106, R107, R117, R394) -/

/-- The host pages that a waiting command names. -/
def waitHpns : Instr → List Nat
  | .pagemapUpdate _ l => l.map (·.hpn)
  | .mirrorSet _ h _ => [h]
  | .benchDonate _ l => l
  | _ => []

/-- Host pages that commands in progress hold (R394): those of drains and of waiting commands. -/
def heldHpns (c : Ctl) : List Nat := (c.pm.drains.toList.flatten.flatMap (·.hpns)) ++ c.pm.waits.flatMap waitHpns

/-- The page's mirror change is unfinished: its secondary is not complete, or is being copied elsewhere. -/
def mirrorBusy (c : Ctl) (h : Nat) : Bool :=
  (match mirrorOf c h with | some (_, x) => !x.synced | none => false)
    || (c.pm.copiers.toList.any fun k => match k.job with | some j => j.hpn = h && j.kind = .substMirror | none => false)
    || c.pm.jobs.any fun j => j.hpn = h && (j.kind = .mirrorCopy || j.kind = .substMirror)

/-- What a command on the page map does now. -/
inductive Verdict where
  | refuse (status : Nat)
  | wait
  | go
deriving DecidableEq, Repr

/-- A command that is parked once, and answered by its parked reply from then on. -/
def parkOnce (ref : CmdRef) (c : Ctl) : Ctl := if c.mgr.parked.contains ref then c else park ref c

/-- A status for a command that may have waited. -/
def answerCmd (waited : Bool) (ref : CmdRef) (status : Nat) (c : Ctl) : Ctl :=
  if waited then replyParked ref status [] c else replyStatus ref status c

/-- A command waits (R106, R107): parked, with the clearings it names taken ahead of the others (R126). -/
def waitFor (i : Instr) (ppns : List Nat) (ref : CmdRef) (c : Ctl) : Ctl :=
  let c := parkOnce ref (modPm (fun pm => { pm with waits := pm.waits ++ [i] }) c)
  forEach ppns (fun p c =>
    if useGet c p ≠ .clearing then c
    else if c.pm.copiers.toList.any fun k => match k.job with | some j => j.dst = p | none => false then c
    else if c.pm.jobs.any fun j => j.dst = p && isClearing j && j.named then c
    else
      let back := c.pm.jobs.any fun j => j.dst = p && j.kind = .clearing true
      let job : CopyJob := { kind := .clearing back, hpn := 0, src := p, dst := p, named := true }
      modPm (fun pm => { pm with jobs := pm.jobs.filter (fun j => !(j.dst = p && isClearing j)) ++ [job] }) c) c

/-- How many of `n` numbers from `i` on satisfy `p`, up to a limit of `k`. -/
def countTo (p : Nat → Bool) (i : Nat) : Nat → Nat → Nat
  | 0, _ | _, 0 => 0
  | n + 1, k + 1 => if p i then 1 + countTo p (i + 1) n k else countTo p (i + 1) n (k + 1)

/-- The pages of the slice in substitution that a copier has still to start on, up to `k` of them: none while its claim has not
been granted, or no bench page is left (R125, R127). -/
def substLeft (c : Ctl) (k : Nat) : Nat :=
  match c.pm.substSlice with
  | none => 0
  | some s =>
    let toCopy : Nat → Bool := fun p =>
      let ppn := s * 16384 + p
      !pageInWork c ppn && (useGet c ppn = .mirror || (useGet c ppn = .mapped && (pmGet c (hpnOf c ppn)).state ≠ .lost))
    if substGranted c s && (nextBench c none).isSome then countTo toCopy 0 16384 k else 0

/-- The clearings of initialisation that no copier has started, up to `k` of them (R418). -/
def clearingsLeft (c : Ctl) (k : Nat) : Nat :=
  if (initialClearing c).isNone then 0
  else countTo (fun p => useGet c p = .clearing && !(c.pm.jobs.any fun j => j.dst = p)
    && !(c.pm.copiers.toList.any fun x => match x.job with | some j => j.dst = p | none => false)) 0 2228224 k

/-- Every copier is busy: it has a page, or takes one of those that come before a new command's (R126). -/
def copiersBusy (c : Ctl) : Bool :=
  let free := c.pm.copiers.toList.countP fun k => k.job.isNone
  free ≤ c.pm.jobs.length + substLeft c free + clearingsLeft c free

/-- Host-requested migrations and mirror copies that wait for a copier. -/
def waitingCopies (c : Ctl) : Nat := c.pm.jobs.countP fun j => match j.kind with | .migrate _ | .mirrorCopy => true | _ => false

/-- A copy that a command asked for joins the copiers' work: its reply leaves at the end, or IN_PROGRESS at once when every
copier is busy (R117, R126). -/
def addCopy (waited : Bool) (ref : CmdRef) (j : CopyJob) (c : Ctl) : Ctl :=
  if copiersBusy c then
    let r := if waited then parkedInProgress ref c else replyInProgress ref c
    modPm (fun pm => { pm with jobs := pm.jobs ++ [{ j with op := r.1 }] }) r.2
  else modPm (fun pm => { pm with jobs := pm.jobs ++ [{ j with reply := some ref }] }) (parkOnce ref c)

/-! ## PAGEMAP_UPDATE (R106, R107) -/

/-- Whether a kind of change names a page. -/
def namesPage (kind : Nat) : Bool := kind ≤ 2

/-- The STATE that a kind allows (From column of Table 4). -/
def fromOk (kind : Nat) (s : PmState) : Bool :=
  match kind with
  | 0 => s = .unmapped
  | 2 => s = .normal
  | _ => s = .normal || s = .lost

/-- The first condition of R106 that applies to any entry, and whether a page or the quarter is awaited. -/
def updateVerdict (l : List PmChange) (c : Ctl) : Verdict :=
  let hpns := l.map (·.hpn)
  let held := heldHpns c
  let ppns := (l.filter fun x => namesPage x.kind).map (·.ppn)
  if l.any fun x => (pmGet c x.hpn).state = .migrating || mirrorBusy c x.hpn || held.contains x.hpn || 1 < hpns.count x.hpn then .refuse 1
  else if l.any fun x => ((pmGet c x.hpn).mirrored && 1 ≤ x.kind && x.kind ≤ 3) || !fromOk x.kind (pmGet c x.hpn).state then .refuse 4
  else if ppns.any fun p => pageDoomed c p || !(useGet c p = .unused || useGet c p = .clearing) || 2228224 ≤ p || 1 < ppns.count p then .refuse 2
  else if (l.any fun x => x.kind = 2) && copiersBusy c && 256 ≤ waitingCopies c then .refuse 9
  else if (ppns.any fun p => useGet c p = .clearing) || draining c (quarterOf (hpns.headD 0)) then .wait
  else .go

/-- One entry changed: the old page with what becomes of it. -/
def changeEntry (x : PmChange) (c : Ctl) : List (Nat × Use) × Ctl :=
  let e := pmGet c x.hpn
  let old := if e.state = .normal then [(e.ppn, Use.clearing)] else []
  let fresh : PmEntry := { ppn := x.ppn, domain := x.domain, mirrored := false, shared := x.shared, state := .normal }
  match x.kind with
  | 0 => ([], pmPut x.hpn fresh (usePut x.ppn .mapped c))
  | 1 => (old, pmPut x.hpn fresh (usePut x.ppn .mapped c))
  | 2 => ([], pmPut x.hpn { e with state := .migrating } (usePut x.ppn .target c))
  | 3 => (old, pmPut x.hpn { unmappedEntry with domain := e.domain } c)
  | _ => ([], pmPut x.hpn { e with domain := x.domain, shared := x.shared } c)

/-- The entries changed in order. -/
def changeAll : List PmChange → Ctl → List (Nat × Use) × Ctl
  | [], c => ([], c)
  | x :: t, c =>
    let r := changeEntry x c
    let q := changeAll t r.2
    (r.1 ++ q.1, q.2)

/-- The update proceeds: new values, epoch, drain; a MIGRATE's reply leaves with its copy (R107, R110). -/
def updateGo (waited : Bool) (l : List PmChange) (ref : CmdRef) (c : Ctl) : Ctl :=
  let q := quarterOf ((l.map (·.hpn)).headD 0)
  let r := changeAll l c
  match l with
  | [x] =>
    if x.kind = 2 then
      let job : CopyJob := { kind := .migrate false, hpn := x.hpn, src := (pmGet c x.hpn).ppn, dst := x.ppn }
      beginDrain q [] [] [] none [] (addCopy waited ref job r.2)
    else beginDrain q [x.hpn] r.1 [] (some ref) [] (parkOnce ref r.2)
  | _ => beginDrain q (l.map (·.hpn)) r.1 [] (some ref) [] (parkOnce ref r.2)

/-- The parameters' ranges (R399). -/
def updateParams (l : List PmChange) : Option Nat :=
  if l.length < 1 || 64 < l.length || l.any (fun x => 2097152 ≤ x.hpn || 64 ≤ x.domain) then some 2
  else if l.any fun x => x.hpn % 4 ≠ (l.map (·.hpn)).headD 0 % 4 then some 2
  else if l.any fun x => 4 < x.kind then some 8
  else if 1 < l.length && l.any fun x => x.kind = 2 then some 2
  else none

def tryUpdate (waited : Bool) (m : Mgmt) (l : List PmChange) (ref : CmdRef) (c : Ctl) : Ctl :=
  match updateParams l with
  | some st => answerCmd waited ref st c
  | none =>
    match updateVerdict l c with
    | .refuse st => answerCmd waited ref st c
    | .wait => waitFor (.pagemapUpdate m l) ((l.filter fun x => namesPage x.kind).map (·.ppn)) ref c
    | .go => updateGo waited l ref c

def execPagemapUpdate (m : Mgmt) (changes : List PmChange) (s : State) : Host.Outcome State Fault Refusal :=
  onCtl (command 0x21 m (tryUpdate false m changes)) s

/-! ## MIRROR_SET (R117) -/

/-- The lowest free index of the mirror table. -/
def freeMirror (c : Ctl) : Nat := (firstFrom (fun i => !(c.pm.mirrors.any fun x => x.1 = i)) 0 65536).getD 0

def mirrorVerdict (h : Nat) (enable : Bool) (c : Ctl) : Verdict :=
  let e := pmGet c h
  let held := heldHpns c
  if enable then
    if e.state ≠ .normal then .refuse 4
    else if mirrorBusy c h || held.contains h then .refuse 1
    else if e.mirrored then .refuse 0
    else if 65536 ≤ c.pm.mirrors.length || (nextBench c (some (ppnChan e.ppn))).isNone then .refuse 9
    else if copiersBusy c && 256 ≤ waitingCopies c then .refuse 9
    else .go
  else if mirrorBusy c h || held.contains h then .refuse 1
  else if !e.mirrored then .refuse 0
  else if draining c (quarterOf h) then .wait
  else .go

/-- A mirror is set: a bench page on another channel becomes the secondary's. -/
def mirrorEnable (h : Nat) (ref : CmdRef) (c : Ctl) : Ctl :=
  let e := pmGet c h
  match nextBench c (some (ppnChan e.ppn)) with
  | none => replyStatus ref 9 c
  | some d =>
    let free := benchFree c
    let c := usePut d .target c
    let c := mirrorSetEntry (freeMirror c) { secPpn := d, hpn := h, synced := false } (pmPut h { e with mirrored := true } c)
    benchCheck free (addCopy false ref { kind := .mirrorCopy, hpn := h, src := e.ppn, dst := d } c)

/-- A mirror is cleared: the drain, then the secondary's clearing. -/
def mirrorDisable (h : Nat) (ref : CmdRef) (c : Ctl) : Ctl :=
  let secs := match mirrorOf c h with | some (_, x) => [x.secPpn] | none => []
  let c := mirrorLeave h (pmPut h { pmGet c h with mirrored := false } c)
  beginDrain (quarterOf h) [h] [] secs (some ref) [] (parkOnce ref c)

def tryMirror (waited : Bool) (m : Mgmt) (h : Nat) (enable : Bool) (ref : CmdRef) (c : Ctl) : Ctl :=
  if 2097152 ≤ h then answerCmd waited ref 2 c
  else match mirrorVerdict h enable c with
    | .refuse st => answerCmd waited ref st c
    | .wait => waitFor (.mirrorSet m h enable) [] ref c
    | .go => if enable then mirrorEnable h ref c else mirrorDisable h ref c

def execMirrorSet (m : Mgmt) (hpn : Nat) (enable : Bool) (s : State) : Host.Outcome State Fault Refusal :=
  onCtl (command 0x22 m (tryMirror false m hpn enable)) s

/-! ## MIRROR_RESOLVE (R121) -/

/-- The stored form of a copy as it is carried over: poison stays poison, and an uncorrectable copy becomes poison and is
reported (R114, R145). -/
def carryGran (hpn : Option Nat) (key : Nat) (d : GranRead) (c : Ctl) : BitVec 320 × Ctl :=
  if d.poisoned then (granPoison, reportPoison true hpn key d.word 3 0 c)
  else if d.uncorrectable then (granPoison, reportUe false hpn key d.word 3 0 c)
  else (granEncode d.data, c)

/-- The copies of a granule read alike. -/
def copiesAgree (a b : GranRead) : Bool :=
  (a.poisoned && b.poisoned) || (!a.poisoned && !b.poisoned && !a.uncorrectable && !b.uncorrectable && a.data = b.data)

def mirrorResolve (hpn g : Nat) (secondary : Bool) (ref : CmdRef) (m : List Host.Cell) (c : Ctl) : Ctl :=
  if 2097152 ≤ hpn || 2048 ≤ g then replyStatus ref 2 c
  else if mirrorBusy c hpn || (heldHpns c).contains hpn then replyStatus ref 1 c
  else match if (pmGet c hpn).mirrored then mirrorOf c hpn else none with
    | none => replyStatus ref 0 c
    | some (_, x) =>
      let c := drainShadow hpn x.pending.length c
      let pk := granKey (primaryAt c hpn g) g
      let sk := granKey x.secPpn g
      let p := granView m c pk
      let q := granView m c sk
      if copiesAgree p q then replyStatus ref 0 c
      else
        let r := if secondary then carryGran none sk q c else carryGran (some hpn) pk p c
        let dst := if secondary then pk else sk
        replyStatus ref 0 (acceptWrite dst r.1 none (countPoison dst r.1 r.2))

def execMirrorResolve (m : Mgmt) (hpn granule : Nat) (secondary : Bool) (s : State) : Host.Outcome State Fault Refusal :=
  onCtlMem (fun mem => command 0x23 m (fun ref c => mirrorResolve hpn granule secondary ref mem c)) s

/-! ## BENCH_DONATE (R123) -/

def donateVerdict (l : List Nat) (c : Ctl) : Verdict :=
  let held := heldHpns c
  if l.any fun h => held.contains h || mirrorBusy c h then .refuse 1
  else if l.any fun h => (pmGet c h).mirrored || 1 < l.count h || !((pmGet c h).state = .normal || (pmGet c h).state = .lost) then .refuse 4
  else if l.any fun h => draining c (quarterOf h) then .wait
  else .go

/-- The pages donated in one quarter: one fenced step. -/
def donateQuarter (l : List Nat) (ref : CmdRef) (q : Fin 4) (c : Ctl) : Ctl :=
  let hs := l.filter fun h => quarterOf h = q
  if hs.isEmpty then c
  else
    let old := hs.filterMap fun h => if (pmGet c h).state = .normal then some ((pmGet c h).ppn, Use.bench) else none
    let c := forEach hs (fun h c => pmPut h { unmappedEntry with domain := (pmGet c h).domain } c) c
    beginDrain q hs old [] (some ref) (toBytes 4 0) c

def tryDonate (waited : Bool) (m : Mgmt) (l : List Nat) (ref : CmdRef) (c : Ctl) : Ctl :=
  if l.length < 1 || 250 < l.length || l.any (fun h => 2097152 ≤ h) then answerCmd waited ref 2 c
  else match donateVerdict l c with
    | .refuse st => answerCmd waited ref st c
    | .wait => waitFor (.benchDonate m l) [] ref c
    | .go => forEach allRegions (donateQuarter l ref) (parkOnce ref c)

def execBenchDonate (m : Mgmt) (hpns : List Nat) (s : State) : Host.Outcome State Fault Refusal :=
  onCtl (command 0x24 m (tryDonate false m hpns)) s

/-! ## The ends of drains and clearings -/

/-- A waiting command is tried again. -/
def retryOne (i : Instr) (c : Ctl) : Ctl :=
  match i with
  | .pagemapUpdate m l => tryUpdate true m l (refOf 0x21 m) c
  | .mirrorSet m h e => tryMirror true m h e (refOf 0x22 m) c
  | .benchDonate m l => tryDonate true m l (refOf 0x24 m) c
  | _ => c

/-- Waiting commands are tried again in their order; those that must wait on keep it. -/
def retryWaits (c : Ctl) : Ctl :=
  let n := c.pm.waits.length
  (List.range n).foldl (fun c _ =>
    match c.pm.waits with
    | [] => c
    | i :: t => retryOne i (modPm (fun pm => { pm with waits := t }) c)) c

/-- The drain of a quarter's update ends (R107), and what waited for it proceeds. -/
def drainComplete (q : Fin 4) (c : Ctl) : Ctl :=
  let c' := drainEnd q c
  if c'.pm.drains[q] ≠ c.pm.drains[q] then retryWaits (substAdvance c') else c'

def execPagemapDrainComplete (q : Fin 4) (s : State) : Host.Outcome State Fault Refusal := onCtl (drainComplete q) s

/-- A free copier takes its next work. A substitution that stops a clearing on its way ends the wait of a command for that page,
which is then refused (R106, R125). -/
def startCopier (k : Fin 4) (c : Ctl) : Ctl :=
  let c' := copierStart k c
  if c.pm.substSlice.isSome then retryWaits c' else c'

def execCopierStart (k : Fin 4) (s : State) : Host.Outcome State Fault Refusal := onCtl (startCopier k) s

/-- The last granule of a clearing is written (R102): the page is UNUSED, or BENCH when it was a secondary (R117). -/
def clearingComplete (k : Fin 4) (c : Ctl) : Ctl :=
  let x := c.pm.copiers[k]
  match x.job with
  | none => c
  | some j =>
    match j.kind with
    | .clearing toBench =>
      if x.cursor < 32 then c
      else
        let c := modCopier k (fun _ => {}) c
        let c := if pageDoomed c j.dst then retire j.dst c else usePut j.dst (if toBench then .bench else .unused) c
        retryWaits (substAdvance c)
    | _ => c

def execClearingComplete (k : Fin 4) (s : State) : Host.Outcome State Fault Refusal := onCtl (clearingComplete k) s

end Sys2Proof.Machine
end

