-- ==== Sys2Proof/Machine/Queues.lean ====
section
/-! DEFINITION. The queue commands (R153 to R155, R399). -/

namespace Sys2Proof.Machine

open Sys2Proof

/-- A queue context as its 256 bits (Table 1 of R153). -/
def contextBits (x : Queue) : Nat :=
  x.head + 2 ^ 31 * b2n x.dbPending + 2 ^ 32 * x.state + 2 ^ 34 * b2n x.headDone + 2 ^ 35 * b2n x.ringWait + 2 ^ 36 * b2n x.slotFree
    + 2 ^ 38 * x.domain + 2 ^ 44 * x.notifyPort.val + 2 ^ 46 * x.notifyMode + 2 ^ 48 * x.priority + 2 ^ 64 * x.ringBase
    + 2 ^ 96 * x.ringLog2 + 2 ^ 128 * x.ringProduced + 2 ^ 160 * x.resume + 2 ^ 192 * x.descCompleted

/-- A disable waits for the queue's mover to stop (R155, R394). -/
def disablePending (c : Ctl) (q : Nat) : Bool := c.movers.toList.any fun v => v.curQueue = some q && v.stopReply.isSome

/-- The context with the selected fields written (R155): HEAD clears HEAD_DONE and RESUME, and a ring field clears
RING_PRODUCED and SLOT_FREE. -/
def writeContext (mask n : Nat) (x : Queue) : Queue :=
  let x := if bitOf mask 0 then { x with head := bitsOf n 0 31, headDone := false, resume := 0 } else x
  let x := if bitOf mask 1 then { x with domain := bitsOf n 38 6 } else x
  let x := if bitOf mask 2 then { x with notifyPort := Fin.ofNat 4 (bitsOf n 44 2) } else x
  let x := if bitOf mask 3 then { x with notifyMode := bitsOf n 46 2 } else x
  let x := if bitOf mask 4 then { x with priority := bitsOf n 48 2 } else x
  if bitOf mask 5 then { x with ringBase := bitsOf n 64 29, ringLog2 := bitsOf n 96 4, ringProduced := 0, slotFree := false } else x

/-- The ring's size is encodable and its base aligned to it. -/
def ringOk (mask n : Nat) : Bool :=
  !bitOf mask 5 ||
    (4 ≤ bitsOf n 96 4 && bitsOf n 96 4 ≤ 12 && bitsOf n 64 29 * 256 % (16 * 2 ^ bitsOf n 96 4) = 0)

/-- A selected field other than PRIORITY, NOTIFY_PORT and NOTIFY_MODE would change. -/
def fixedChanges (mask n : Nat) (x : Queue) : Bool :=
  (bitOf mask 0 && x.head ≠ bitsOf n 0 31) || (bitOf mask 1 && x.domain ≠ bitsOf n 38 6)
    || (bitOf mask 5 && (x.ringBase ≠ bitsOf n 64 29 || x.ringLog2 ≠ bitsOf n 96 4))

/-- QUEUE_CONFIGURE. -/
def queueConfigure (q mask : Nat) (ctx : BitVec 256) (ref : CmdRef) (c : Ctl) : Ctl :=
  let n := ctx.toNat
  let x := queueGet c q
  -- every reply about a queue of the stack carries its context (R155)
  let refuse := fun st => replyTo ref st 0 (toBytes 32 (contextBits x)) c
  if 32768 ≤ q then replyStatus ref 2 c
  else if !ringOk mask n then refuse 2
  else if bitOf mask 3 && bitsOf n 46 2 = 3 then refuse 8
  else if disablePending c q then refuse 1
  else if x.state ≠ 0 && fixedChanges mask n x then refuse 4
  else
    -- outside DISABLED only PRIORITY, NOTIFY_PORT and NOTIFY_MODE are left to change: mask bits 2 to 4
    let y := writeContext (if x.state = 0 then mask else Nat.land mask 0x1C) n x
    replyTo ref 0 0 (toBytes 32 (contextBits y)) (queuePut q y c)

def execQueueConfigure (m : Mgmt) (queue mask : Nat) (ctx : BitVec 256) (s : State) : Host.Outcome State Fault Refusal :=
  onCtl (command 0x30 m (queueConfigure queue mask ctx)) s

/-- QUEUE_ENABLE. -/
def queueEnable (q : Nat) (ref : CmdRef) (c : Ctl) : Ctl :=
  let x := queueGet c q
  if 32768 ≤ q then replyStatus ref 2 c
  else if disablePending c q then replyStatus ref 1 c
  else if x.state ≠ 0 then replyStatus ref 0 c
  else replyStatus ref 0 (setQueue q { x with state := if x.headDone then 3 else 1, dbPending := false } c)

def execQueueEnable (m : Mgmt) (queue : Nat) (s : State) : Host.Outcome State Fault Refusal := onCtl (command 0x31 m (queueEnable queue)) s

/-- QUEUE_DISABLE: at once, or when the mover that runs the queue has stopped and written its record (Table 13 of R173). A
queue that class 4 took off its mover is disabled at once, with HEAD and RESUME as that stop left them (R155, R156). -/
def queueDisable (q : Nat) (ref : CmdRef) (c : Ctl) : Ctl :=
  let x := queueGet c q
  if 32768 ≤ q then replyStatus ref 2 c
  else if disablePending c q then replyStatus ref 1 c
  else if x.state = 2 && c.movers.toList.any (fun v => v.curQueue = some q) then
    let stop : Mover → Mover := fun v => if v.curQueue = some q then { v with stop := some (0, false), stopReply := some ref } else v
    park ref { c with movers := c.movers.map stop }
  else if x.state = 0 then replyStatus ref 0 c
  else replyStatus ref 0 (setQueue q { x with state := 0 } c)

def execQueueDisable (m : Mgmt) (queue : Nat) (s : State) : Host.Outcome State Fault Refusal := onCtl (command 0x32 m (queueDisable queue)) s

end Sys2Proof.Machine
end

