-- ==== Sys2Proof/Machine/Side.lean ====
section
/-! DEFINITION. Attestation, MCTP control, the I3C target's command codes and the test access port (R332, R371 to R373, R376,
R385, R386). Encodings of the published standards that the spec does not spell out are opaque (log 7). -/

namespace Sys2Proof.Machine

open Sys2Proof

/-- An answer of the I3C target, the MCTP endpoint or the SPDM responder, kept in order: what it answers and its value. -/
def answer (item value : Nat) : Ctl → Ctl := modSide fun d => { d with answers := d.answers ++ [(item, value)] }

/-! ## SPDM (R371 to R373) -/

/-- Whether the responder answers on a transport: firmware runs, below class 5; in-band, the owner port asks. -/
def spdmServed (via : Via) (c : Ctl) : Bool :=
  c.life.fwRunning && !c.umpire.class5 && c.power.stage = .ready &&
    (match via with | .port p => linkUp c.ports[p] && c.life.ownerPort = some p | .i3c => true)

def modSpdm (via : Via) (f : Spdm → Spdm) : Ctl → Ctl :=
  modLife fun l => match via with | .i3c => { l with spdmI3c := f l.spdmI3c } | .port _ => { l with spdmInband := f l.spdmInband }

/-- An identity key exists (Table 1 of R352): its slot is CERTIFIED and the engine holds it. -/
def identityLive (c : Ctl) : Bool :=
  lcState c.life = 2 && (match c.life.slotInUse with | some i => slotState c.life.slots[i] = .certified && c.life.keyReg = some i | none => false)

/-- A signature of the identity key over a digest (R358), and the draw that it takes. -/
def sign (digest : BitVec 384) (c : Ctl) : Nat × Ctl :=
  let key := match c.life.keyReg with | some i => c.life.slots[i].publicKey | none => 0
  ((Config.signature c.draws key digest).toNat, { c with draws := c.draws + 1 })

/-- Items of SPDM answers: the response, and ERROR with its reason (1 UnsupportedRequest, 2 no offered algorithm). -/
def spdmItem (code : Nat) : Nat := 0x500 + code
def spdmError (reason : Nat) : Ctl → Ctl := answer 0x57F reason

/-- A request and its response join the transcript of their connection; any request but GET_MEASUREMENTS ends that of the
measurements (R371, R373). -/
def logSpdm (via : Via) (msgs : List (Nat × Nat)) : Ctl → Ctl :=
  modSpdm via fun x => { x with transcript := x.transcript ++ msgs, measured := [] }

/-- A response leaves, and joins the transcript behind its request. -/
def respond (via : Via) (request arg code value : Nat) (c : Ctl) : Ctl :=
  answer (spdmItem code) value (logSpdm via [(request, arg), (code, value)] c)

/-- GET_VERSION starts its connection anew. -/
def spdmGetVersion (via : Via) (c : Ctl) : Ctl :=
  if spdmServed via c then respond via 0x84 0 0x04 0x12 (modSpdm via (fun _ => { version := true }) c) else c

def execGetVersion (via : Via) (s : State) : Host.Outcome State Fault Refusal := onCtl (spdmGetVersion via) s

/-- CERT_CAP, CHAL_CAP and MEAS_CAP with signature, and CTExponent 18 (R371). -/
def spdmGetCapabilities (via : Via) (c : Ctl) : Ctl :=
  if spdmServed via c then respond via 0xE1 0 0x61 (Config.standardValue 0x61 18) (modSpdm via (fun x => { x with capabilities := true }) c) else c

def execGetCapabilities (via : Via) (s : State) : Host.Outcome State Fault Refusal := onCtl (spdmGetCapabilities via) s

/-- A requester that offers none of the stack's algorithms receives ERROR (R371). -/
def spdmNegotiate (via : Via) (offers : Bool) (c : Ctl) : Ctl :=
  if !spdmServed via c then c
  else if offers then respond via 0xE3 1 0x63 (Config.standardValue 0x63 0) (modSpdm via (fun x => { x with algorithms := true }) c)
  else spdmError 2 c

def execNegotiateAlgorithms (via : Via) (offers : Bool) (s : State) : Host.Outcome State Fault Refusal := onCtl (spdmNegotiate via offers) s

/-- The certificates of the chain (R359): the root from the ROM, then the intermediate and the device certificate from the area of the
slot in use. -/
def chainCerts (c : Ctl) : List Byte :=
  match c.life.slotInUse with
  | some i => (match c.life.slots[i].certs with | some x => Config.rootCert ++ x.1 ++ x.2 | none => [])
  | none => []

/-- The certificate chain of slot 0 as SPDM lays these certificates out. -/
def chainOf (c : Ctl) : Nat := Config.standardValue 0x02 (ofBytes (chainCerts c))

/-- A request that needs the identity key: its answer, or ERROR UnsupportedRequest where none exists (R371). -/
def spdmWithKey (via : Via) (ok : Bool) (f : Ctl → Ctl) (c : Ctl) : Ctl :=
  if !spdmServed via c then c else if identityLive c && ok then f c else spdmError 1 c

def spdmGetDigests (via : Via) (c : Ctl) : Ctl :=
  spdmWithKey via true (respond via 0x81 0 0x01 (Config.sha384 (8 * (52 + (chainCerts c).length)) (chainOf c)).toNat) c

def execGetDigests (via : Via) (s : State) : Host.Outcome State Fault Refusal := onCtl (spdmGetDigests via) s

def spdmGetCertificate (via : Via) (slot offset len : Nat) (c : Ctl) : Ctl :=
  spdmWithKey via (slot = 0) (respond via 0x82 (offset + 2 ^ 16 * len) 0x02 (bitsOf (chainOf c) (8 * offset) (8 * len))) c

def execGetCertificate (via : Via) (slot offset len : Nat) (s : State) : Host.Outcome State Fault Refusal :=
  onCtl (spdmGetCertificate via slot offset len) s

/-- The configuration record of R372. -/
def configRecord (c : Ctl) : List (Nat × Nat) :=
  ((c.ports.toList.map fun p => (8, p.domainMask.toNat)) ++
    [(1, match c.life.ownerPort with | some p => p.val | none => 0xFF),
     (48, match liveOwner c.life with | some o => o.digest.toNat | none => 0),
     (1, match liveOwner c.life with | some o => b2n o.countersign | none => 0)] ++
    (c.therm.levels.toList.map fun x => (1, x)) ++ [(2, c.therm.powerLimit), (1, c.life.svnFused)])

/-- The applied repair record with the slices out of service and the spare maps, as hashed for measurement 4 (R372). -/
def hardwareRecord (c : Ctl) : List (Nat × Nat) :=
  recordFields (appliedRecord c.life) ++ (c.chans.toList.map fun x => (1, x.sliceOut.toNat)) ++ c.chans.toList.map fun x => (4, x.spareMap.toNat)

/-- SHA-384 of a record of fields. -/
def digestOf (l : List (Nat × Nat)) : Nat := (Config.sha384 (8 * (l.map (·.1)).sum) (packBytes l)).toNat

/-- Whether test access is open (Table 1 of R352, R332, R376): in BLANK and MANUFACTURE until a KEYGEN phase is accepted, in SERVICE
once the erase latch is set. -/
def testOpen (c : Ctl) : Bool :=
  match lcState c.life with
  | 0 | 1 => !c.life.keygenClosed
  | 3 => c.life.eraseLatch
  | _ => false

/-- A measurement block's value (Table 6 of R372). -/
def measurement (c : Ctl) (i : Nat) : Nat :=
  if i = 1 then Config.standardValue 0x60 1
  else if i = 2 then (match c.life.running with | some x => (fwBodyDigest x).toNat | none => 0)
  else if i = 3 then digestOf (configRecord c)
  else if i = 4 then digestOf (hardwareRecord c)
  else packBytes [(1, lcState c.life), (1, serviceEntries c.life), (1, identitySlot c.life), (1, b2n (testOpen c))]

/-- The DMTF value type of a measurement block (Table 6 of R372). -/
def measurementType (i : Nat) : Nat := if i = 1 then 0x00 else if i = 2 then 0x01 else if i = 3 then 0x03 else if i = 4 then 0x02 else 0x82

/-- A measurement block as it is answered: its type in the low byte, then its value. -/
def measurementBlock (c : Ctl) (i : Nat) : Nat := measurementType i + 2 ^ 8 * measurement c i

/-- A connection. -/
def spdmOf (via : Via) (c : Ctl) : Spdm := match via with | .i3c => c.life.spdmI3c | .port _ => c.life.spdmInband

/-- GET_MEASUREMENTS (R371): indices 1 to 5, or 0xFF for all, signed on request over the requests and responses for measurements since
the last other request. -/
def spdmGetMeasurements (via : Via) (index : Nat) (signed : Bool) (c : Ctl) : Ctl :=
  if !spdmServed via c then c
  else if (signed && !identityLive c) || !(1 ≤ index && index ≤ 5 || index = 0xFF) then spdmError 1 c
  else
    let l := if index = 0xFF then [1, 2, 3, 4, 5] else [index]
    let blocks := l.map fun i => (0x600 + i, measurementBlock c i)
    let c := forEach blocks (fun b => answer b.1 b.2) c
    let c := modSpdm via (fun x => { x with measured := x.measured ++ [(0xE0, index + 2 ^ 8 * b2n signed)] ++ blocks }) c
    if signed then
      let r := sign (Config.transcriptHash (spdmOf via c).measured) c
      answer (spdmItem 0x60) r.1 (modSpdm via (fun x => { x with measured := [] }) r.2)
    else c

def execGetMeasurements (via : Via) (index : Nat) (signed : Bool) (s : State) : Host.Outcome State Fault Refusal :=
  onCtl (spdmGetMeasurements via index signed) s

/-- The measurement summary hash of a CHALLENGE: over every block for All, over the ROM's and the firmware's for TCB. Which blocks are
the TCB the spec does not say (R371; DESIGN CHOICE, log 78). -/
def summaryHash (summary : Nat) (c : Ctl) : Nat :=
  if summary = 0 then 0
  else (Config.transcriptHash ((if summary = 1 then [1, 2] else [1, 2, 3, 4, 5]).map fun i => (0x600 + i, measurementBlock c i))).toNat

/-- CHALLENGE (R371): slot 0, with a summary of type None 0, TCB 1 or All 0xFF; signed over the transcript of the connection, which ends
with it. -/
def spdmChallenge (via : Via) (slot summary : Nat) (c : Ctl) : Ctl :=
  spdmWithKey via (slot = 0 && (summary = 0 || summary = 1 || summary = 0xFF))
    (fun c =>
      let c := respond via 0x83 summary 0x03 (summaryHash summary c) c
      let r := sign (Config.transcriptHash (spdmOf via c).transcript) c
      answer (spdmItem 0x03) r.1 (modSpdm via (fun x => { x with transcript := [] }) r.2)) c

def execChallenge (via : Via) (slot summary : Nat) (s : State) : Host.Outcome State Fault Refusal := onCtl (spdmChallenge via slot summary) s

/-- A request outside the subset, or one that needs a key that does not exist (R371). -/
def execUnsupportedSpdmRequest (via : Via) (_code : Nat) (s : State) : Host.Outcome State Fault Refusal :=
  onCtl (fun c => if spdmServed via c then spdmError 1 c else c) s

/-- The SPDM request that a code names, with its parameter (R371). -/
def spdmDispatch (via : Via) (code param : Nat) (c : Ctl) : Ctl :=
  if code = 0x84 then spdmGetVersion via c
  else if code = 0xE1 then spdmGetCapabilities via c
  else if code = 0xE3 then spdmNegotiate via (param ≠ 0) c
  else if code = 0x81 then spdmGetDigests via c
  else if code = 0x82 then spdmGetCertificate via (param % 16) (bitsOf param 8 16) (bitsOf param 24 16) c
  else if code = 0x83 then spdmChallenge via (param % 256) (bitsOf param 8 8) c
  else if code = 0xE0 then spdmGetMeasurements via (bitsOf param 8 8) (bitOf param 0) c
  else spdmError 1 c

/-- SPDM_MESSAGE (R373): the responder's answers go into the reply's payload. -/
def spdmMessage (code param : Nat) (ref : CmdRef) (c : Ctl) : Ctl :=
  let n := c.side.answers.length
  let c := spdmDispatch ref.1 code param c
  let new := c.side.answers.drop n
  replyTo ref 0 0 (new.flatMap fun a => toBytes 2 a.1 ++ toBytes 96 a.2) (modSide (fun d => { d with answers := d.answers.take n }) c)

def execSpdmMessage (m : Mgmt) (code : Nat) (param : Nat) (s : State) : Host.Outcome State Fault Refusal :=
  onCtl (command 0xA1 m (spdmMessage code param)) s

/-! ## MCTP (R386) -/

/-- The I3C target answers once the rails are up. -/
def sideOn (c : Ctl) : Bool := c.power.stage ≠ .off

/-- The MCTP endpoint is silent in class 5 (R288). -/
def mctpOn (c : Ctl) : Bool := sideOn c && !c.umpire.class5

/-- An in-band interrupt is raised (R385): a message for the controller waits on the I3C transport and the target may interrupt. -/
def ibiRaised (c : Ctl) : Bool := bitOf c.side.events.toNat 0 && !(c.mgr.i3cOut.isEmpty && c.side.answers.isEmpty)

def execSetEndpointId (eid : BitVec 8) (s : State) : Host.Outcome State Fault Refusal :=
  onCtl (fun c => if mctpOn c then
    (if eid = 0 || eid = 0xFF then answer 0x101 c.side.eid.toNat c else answer 0x101 eid.toNat (modSide (fun d => { d with eid := eid }) c)) else c) s
def execGetEndpointId (s : State) : Host.Outcome State Fault Refusal :=
  onCtl (fun c => if mctpOn c then answer 0x102 c.side.eid.toNat c else c) s
def execGetMctpVersionSupport (s : State) : Host.Outcome State Fault Refusal :=
  onCtl (fun c => if mctpOn c then answer 0x104 (Config.standardValue 0x104 0) c else c) s
/-- The message types of Table 1 of R386: 0x00, 0x05 and 0x7F. -/
def execGetMessageTypeSupport (s : State) : Host.Outcome State Fault Refusal :=
  onCtl (fun c => if mctpOn c then answer 0x105 0x7F0500 c else c) s
/-- A message of another type is discarded and counted. -/
def execUnsupportedMctpMessageType (type : Nat) (s : State) : Host.Outcome State Fault Refusal :=
  onCtl (fun c => if sideOn c && type ≠ 0x00 && type ≠ 0x05 && type ≠ 0x7F then bump (gIdx 32) c else c) s

/-! ## I3C common command codes (R385) -/

/-- The static address: 0x48 + ADDR_SEL. -/
def staticAddr (c : Ctl) : BitVec 7 := BitVec.ofNat 7 (0x48 + c.power.addrSel.val)

def setDyn (a : Option (BitVec 7)) : Ctl → Ctl := modSide fun d => { d with dynAddr := a }

def execEnec (events : BitVec 8) (s : State) : Host.Outcome State Fault Refusal :=
  onCtl (fun c => if sideOn c then modSide (fun d => { d with events := d.events ||| events }) c else c) s
def execDisec (events : BitVec 8) (s : State) : Host.Outcome State Fault Refusal :=
  onCtl (fun c => if sideOn c then modSide (fun d => { d with events := d.events &&& ~~~events }) c else c) s
def execRstdaa (s : State) : Host.Outcome State Fault Refusal := onCtl (fun c => if sideOn c then setDyn none c else c) s
/-- The dynamic address comes from the static one, when the target has none. -/
def execSetdasa (static dynamic : BitVec 7) (s : State) : Host.Outcome State Fault Refusal :=
  onCtl (fun c => if sideOn c && static = staticAddr c && c.side.dynAddr.isNone then setDyn (some dynamic) c else c) s
def execSetaasa (s : State) : Host.Outcome State Fault Refusal :=
  onCtl (fun c => if sideOn c && c.side.dynAddr.isNone then setDyn (some (staticAddr c)) c else c) s
def execSetnewda (dynamic : BitVec 7) (s : State) : Host.Outcome State Fault Refusal :=
  onCtl (fun c => if sideOn c && c.side.dynAddr.isSome then setDyn (some dynamic) c else c) s

/-- A directed read of the target, which needs its dynamic address. -/
def cccRead (code : Nat) (value : Nat) (c : Ctl) : Ctl := if sideOn c && c.side.dynAddr.isSome then answer code value c else c

def execGetpid (s : State) : Host.Outcome State Fault Refusal := onCtl (cccRead 0x8D (Config.standardValue 0x8D 0)) s
def execGetbcr (s : State) : Host.Outcome State Fault Refusal := onCtl (cccRead 0x8E (Config.standardValue 0x8E 0)) s
def execGetdcr (s : State) : Host.Outcome State Fault Refusal := onCtl (cccRead 0x8F (Config.standardValue 0x8F 0)) s
def execGetstatus (s : State) : Host.Outcome State Fault Refusal := onCtl (fun c => cccRead 0x90 (Config.standardValue 0x90 (b2n (ibiRaised c))) c) s
def execGetmwl (s : State) : Host.Outcome State Fault Refusal := onCtl (cccRead 0x8B (Config.standardValue 0x8B 0)) s
def execGetmrl (s : State) : Host.Outcome State Fault Refusal := onCtl (cccRead 0x8C (Config.standardValue 0x8C 0)) s
def execRstact (action : BitVec 8) (s : State) : Host.Outcome State Fault Refusal :=
  onCtl (fun c => if sideOn c then modSide (fun d => { d with rstAction := action }) c else c) s

/-! ## The test access port (R332, R376) -/

/-- Whether every instruction is available. -/
def tapOpen (c : Ctl) : Bool := testOpen c

/-- What an instruction of IEEE 1149.1 lets drive the signal balls: EXTEST and CLAMP the boundary register, HIGHZ nothing. -/
def tapDrive (i : Nat) : Nat := if i = 3 || i = 4 then 1 else if i = 5 then 2 else 0

/-- An instruction is selected; one that is not available selects BYPASS. The spec gives no IDCODE value: it is free (log 7). -/
def tapSelect (i : Nat) (c : Ctl) : Ctl :=
  let i := if i ≤ 1 || tapOpen c then i else 0
  if sideOn c then
    modSide (fun d => { d with tapInstr := i, pinDrive := tapDrive i, tapData := if i = 1 then Config.standardValue 0x149 0 else 0 }) c
  else c

def execBypass (s : State) : Host.Outcome State Fault Refusal := onCtl (tapSelect 0) s
def execIdcode (s : State) : Host.Outcome State Fault Refusal := onCtl (tapSelect 1) s
/-- The boundary register takes what the pins show. -/
def execSamplePreload (pins : BitVec 64) (s : State) : Host.Outcome State Fault Refusal :=
  onCtl (fun c => let d := tapSelect 2 c
                  if sideOn c && tapOpen c then modSide (fun x => { x with boundary := pins }) d else d) s
def execExtest (s : State) : Host.Outcome State Fault Refusal := onCtl (tapSelect 3) s
def execClamp (s : State) : Host.Outcome State Fault Refusal := onCtl (tapSelect 4) s
def execHighz (s : State) : Host.Outcome State Fault Refusal := onCtl (tapSelect 5) s
/-- TRST_N resets the port: IDCODE is selected (log 6). -/
def execTrstN (s : State) : Host.Outcome State Fault Refusal :=
  onCtl (modSide fun d => { d with tapInstr := 1, pinDrive := 0, tapData := Config.standardValue 0x149 0 }) s

end Sys2Proof.Machine
end

