-- ==== Sys2Proof/Machine/Therm.lean ====
section
/-! DEFINITION. Housekeeping: conversions, effective temperatures, warnings, throttles, thermal shutdown, voltage monitors and
STACK_SELF_REFRESH (R223, R334 to R349, R414, R451). Temperatures are in 0.1 °C. -/

namespace Sys2Proof.Machine

open Sys2Proof

/-! ## Events (R346) -/

/-- THERMAL_EVENT is raised with scope LAYER. -/
def thermEvent (kind die sensor : Nat) (effective : Option Int) (c : Ctl) : Ctl :=
  raiseEvent 0x0A 5 die (thermDetail c kind die sensor effective) c

/-! ## Sensors (R335) -/

/-- Die and sensor number of a temperature channel (Table 1 of R334). -/
def sensorDie (i : Nat) : Nat := if i < 8 then 0 else (i - 8) / 2 + 1
def sensorOfDie (i : Nat) : Nat := if i < 8 then i else (i - 8) % 2

/-- A reading within the sensor's span. -/
def inSpan (r : Option Int) : Option Int := match r with | some x => if -400 ≤ x ∧ x ≤ 1500 then some x else none | none => none

/-- The valid reading of a sensor. -/
def sensorValue (t : Therm) (i : Nat) : Option Int := if t.reported.contains i then none else t.sensors.toList.getD i none

/-- A sensor becomes invalid: reported once until it is valid again. -/
def sensorBad (i : Nat) (c : Ctl) : Ctl :=
  if c.therm.reported.contains i then c
  else
    let c := modTherm (fun t => { t with reported := i :: t.reported }) c
    thermEvent 6 (sensorDie i) (sensorOfDie i) (c.therm.eff.toList.getD (sensorDie i) none) c
def sensorGood (i : Nat) : Ctl → Ctl := modTherm fun t => { t with reported := t.reported.filter (· ≠ i) }

/-- A sensor's conversion ends. -/
def takeSensor (i : Nat) (reading : Option Int) (c : Ctl) : Ctl :=
  let r := inSpan reading
  let c := modTherm (fun t => { t with sensors := t.sensors.set! i r }) c
  if r.isNone then sensorBad i c else if i < 8 then c else sensorGood i c

/-- A base-die sensor reads more than 15.0 °C below the mean of the others. -/
def tooCold (t : Therm) (i : Nat) : Bool :=
  match t.sensors.toList.getD i none with
  | none => false
  | some r =>
    let others := ((List.range 8).filter (· ≠ i)).filterMap fun j => t.sensors.toList.getD j none
    !others.isEmpty && decide (r * others.length + 150 * others.length < others.foldl (· + ·) 0)

/-- The check of the base-die sensors against each other, once the round's last one has converted. -/
def checkBase (c : Ctl) : Ctl :=
  forEach (List.range 8) (fun i c =>
    if (c.therm.sensors.toList.getD i none).isNone then c else if tooCold c.therm i then sensorBad i c else sensorGood i c) c

/-- The highest valid reading among some sensors. -/
def highest (t : Therm) (l : List Nat) : Option Int :=
  (l.filterMap (sensorValue t)).foldl (fun m x => match m with | some y => some (max y x) | none => some x) none

/-! ## Throttles (R340, R341) -/

def factorOf (step : Nat) : Nat := 256 - 64 * step

/-- CH.THROTTLE_FACTOR: the least factor of the base die, the power estimate and the channel's layers. -/
def chanFactor (t : Therm) (ch : Fin 32) : Nat :=
  minOf 256 ((0 :: 18 :: (chanRanks ch).map fun k => sliceLayer (sliceOf ch k)).map fun d => factorOf (t.steps.toList.getD d 0))

/-- The stack's least factor. -/
def stackFactor (t : Therm) : Nat := minOf 256 (t.steps.toList.map factorOf)

/-- The factors reach the channels, and the credit allowance the ports. -/
def applyThrottle (c : Ctl) : Ctl :=
  let f := stackFactor c.therm
  let port : Port → Port := fun p => { p with holdBack := 4096 - 16 * f, withheld := Nat.min p.withheld (4096 - 16 * f) }
  let chan : Fin 32 → Chan := fun i => { c.chans[i] with throttleFactor := chanFactor c.therm i }
  { c with chans := Vector.ofFn chan, ports := c.ports.map port, therm := { c.therm with creditAllow := 16 * f } }

/-- throttle_update of R340. -/
def throttleStep (step : Nat) (t prev level : Int) (clear : Bool) : Nat :=
  if step = 0 then (if level ≤ t then 1 else 0)
  else if clear then step - 1
  else if level ≤ t ∧ prev - 2 ≤ t then Nat.min 3 (step + 1)
  else step

/-- The throttle of a die, or of the power estimate as number 18, is evaluated. -/
def throttleEval (x : Nat) (t level : Int) (clear : Bool) (c : Ctl) : Ctl :=
  let old := c.therm.steps.toList.getD x 0
  let new := throttleStep old t (c.therm.prevIn.toList.getD x 0) level clear
  let c := modTherm (fun h => { h with steps := h.steps.set! x new, prevIn := h.prevIn.set! x t }) c
  if new = old then c else thermEvent (if x = 18 then 8 else 3) (if x = 18 then 0 else x) 0 (some t) (applyThrottle c)

/-! ## Shutdown (R343) -/

/-- P_L in 10 mW from the round's activates: 0.12 W + 1.10 nJ × activates / 256 µs (R336). -/
def layerPower (acts : Nat) : Nat := Nat.min 4095 (12 + (11 * acts + 12800) / 25600)

/-- The state that a thermal shutdown leaves: THERMTRIP_N low, links off, logic in reset, layers off, whose power is P_STATIC alone
(R344). -/
def shutDown (c : Ctl) : Ctl :=
  let w := c.power
  let off : Nat → Nat := fun x => if x = 3 then 3 else 0
  let recent := c.therm.shutdownTimes.filter fun x => c.now ≤ x + 3600000000000
  let t : Therm := { c.therm with
    shutdown := true, thermtripN := false, shutdownTimes := c.now :: recent, restartRefused := c.therm.restartRefused || 2 ≤ recent.length
    acts := Vector.replicate 18 0, power := Vector.replicate 17 (layerPower 0) }
  let plane := emptyPlane c
  bump (gIdx 24) { plane with
    therm := t
    power := { w with stage := .shutdown, holdReason := 0, selfRefresh := false, changeoversRun := false, srRequest := false, layers := w.layers.map off }
    ports := c.ports.map resetPort, chans := plane.chans.map resetChan, regions := plane.regions.map resetRegion
    movers := plane.movers.map resetMover
    life := { c.life with fwRunning := false, spdmInband := {}, spdmI3c := {}, transition := none, zeroizing := false }
    mgr := { i3cOut := c.mgr.i3cOut, nextOp := c.mgr.nextOp, nextActivity := c.mgr.nextActivity } }

/-- Thermal shutdown, unless the rails are off or the stack is already shut down. -/
def thermTrip (m : List Host.Cell) (c : Ctl) : List Host.Cell × Ctl :=
  if c.power.stage = .off || c.power.stage = .shutdown then (m, c) else ([], shutDown c)

/-! ## Evaluation of a die (R223, R338 to R343) -/

/-- Warning, throttle and shutdown level of a die, in 0.1 °C (R339). -/
def levelOf (t : Therm) (die k : Nat) : Int := 10 * (t.levels.toList.getD ((if die = 0 then 0 else 3) + k) 0 : Nat)

/-- How far the warning clears below its level. -/
def warnGap (die : Nat) : Int := if die = 0 then 50 else 30

/-- The slices of a layer refresh at the hot rate above 85 °C, until 82 °C or below (R223). -/
def hotEval (die : Nat) (e : Int) (c : Ctl) : Ctl :=
  if die = 0 then c
  else if 850 < e then
    forEach (layerSlices die) (fun s c => modChan (sliceChan s) (fun x => { x with hotSlices := x.hotSlices ||| BitVec.ofNat 5 (2 ^ sliceRank s) }) c) c
  else if e ≤ 820 then
    forEach (layerSlices die) (fun s c => modChan (sliceChan s) (fun x => { x with hotSlices := x.hotSlices &&& ~~~(BitVec.ofNat 5 (2 ^ sliceRank s)) }) c) c
  else c

/-- The warning of a die sets and clears (R338). -/
def warnEval (die : Nat) (e : Int) (c : Ctl) : Ctl :=
  let bit := BitVec.ofNat 18 (2 ^ die)
  let on := c.therm.warn.getLsbD die
  if !on && levelOf c.therm die 0 ≤ e then thermEvent 1 die 0 (some e) (modTherm (fun t => { t with warn := t.warn ||| bit }) c)
  else if on && e ≤ levelOf c.therm die 0 - warnGap die then
    thermEvent 2 die 0 (some e) (modTherm (fun t => { t with warn := t.warn &&& ~~~bit }) c)
  else c

/-- A die has a new effective temperature: refresh rate, warning, throttle and shutdown follow it. -/
def evalDie (die : Nat) (e : Int) (m : List Host.Cell) (c : Ctl) : List Host.Cell × Ctl :=
  let c := modTherm (fun t => { t with eff := t.eff.set! die (some e) }) c
  let c := warnEval die e (hotEval die e c)
  let c := throttleEval die e (levelOf c.therm die 1) (decide (e ≤ levelOf c.therm die 1 - 50)) c
  if levelOf c.therm die 2 ≤ e then thermTrip m c else (m, c)

/-! ## Effective temperatures (R335 to R337) -/

/-- A temperature over LAYER_01's plus 0.14 °C/W times P_EST, rounded with ties up. -/
def aboveLayer1 (t : Therm) (e : Int) : Int := e + (14 * (t.powerEst : Int) + 50) / 100

/-- The base die's reading. -/
def baseReading (t : Therm) : Option Int :=
  match highest t (List.range 8) with
  | some x => some x
  | none =>
    match t.eff.toList.getD 1 none with
    | some e => some (aboveLayer1 t e)
    | none => (t.own.toList.getD 1 none).map (aboveLayer1 t)

/-- The base die is evaluated; without a reading it has no effective temperature. -/
def evalBase (m : List Host.Cell) (c : Ctl) : List Host.Cell × Ctl :=
  let r := baseReading c.therm
  let c := modTherm (fun t => { t with own := t.own.set! 0 r, eff := t.eff.set! 0 r }) c
  match r with
  | some e => evalDie 0 e m c
  | none => (m, c)

/-- Temperatures while a neighbour mean is formed are in 1/1,200 of 0.1 °C, so that the mean of up to four sensors and the
mean of two neighbours are exact. -/
def fine (t : Int) : Int := 1200 * t

/-- N_below of a layer. -/
def nBelow (t : Therm) (l : Nat) : Option Int :=
  if l = 1 then
    let v := (List.range 4).filterMap (sensorValue t)
    if v.isEmpty then t.basePrev.map fine else some (1200 * v.foldl (· + ·) 0 / v.length)
  else (t.eff.toList.getD (l - 1) none).map fine

/-- N_above of a layer. -/
def nAbove (t : Therm) (l : Nat) : Option Int := if l = 17 then none else (t.eff.toList.getD (l + 1) none).map fine

/-- The neighbour values; one that is absent is stood in for by the other. -/
def neighbours (t : Therm) (l : Nat) : Option (Int × Int) :=
  match nBelow t l, nAbove t l with
  | some a, some b => some (a, b)
  | some a, none => some (a, a)
  | none, some b => some (b, b)
  | none, none => none

/-- M_L = 1.5 °C/W × P_L, in the fine unit. -/
def offsetOf (t : Therm) (l : Nat) : Int := 180 * (t.power.toList.getD (l - 1) 0 : Nat)

/-- The own reading is lower than both neighbours by more than A_L. -/
def isImplausible (own : Int) (n : Int × Int) (m : Int) : Bool := fine own + 36000 + m < n.1 && fine own + 36000 + m < n.2

/-- (N_below + N_above) / 2 + M_L, rounded to 0.1 °C with ties up. -/
def modelTemp (n : Int × Int) (m : Int) : Int := ((n.1 + n.2) / 2 + m + 600) / 1200

/-- A layer's effective temperature, and whether its own reading is implausible. -/
def layerEffective (t : Therm) (l : Nat) : Option Int × Bool :=
  match t.own.toList.getD l none, neighbours t l with
  | some o, some n => if isImplausible o n (offsetOf t l) then (some (max o (modelTemp n (offsetOf t l))), true) else (some o, false)
  | some o, none => (some o, false)
  | none, some n => (some (modelTemp n (offsetOf t l)), false)
  | none, none => (none, false)

/-- The implausible state of a layer changes. -/
def implausibleEval (l : Nat) (e : Option Int) (now : Bool) (c : Ctl) : Ctl :=
  let bit := BitVec.ofNat 17 (2 ^ (l - 1))
  let was := c.therm.implausible.getLsbD (l - 1)
  if now && !was then thermEvent 4 l 0 e (modTherm (fun t => { t with implausible := t.implausible ||| bit }) c)
  else if was && !now then thermEvent 5 l 0 e (modTherm (fun t => { t with implausible := t.implausible &&& ~~~bit }) c)
  else c

/-- A core layer is evaluated when its second sensor has converted. -/
def evalLayer (l : Nat) (m : List Host.Cell) (c : Ctl) : List Host.Cell × Ctl :=
  let r := layerEffective c.therm l
  let c := implausibleEval l r.1 r.2 c
  match r.1 with
  | some e => evalDie l e m c
  | none => (m, modTherm (fun t => { t with eff := t.eff.set! l none }) c)

/-- The own reading of a layer is taken. -/
def takeOwn (l : Nat) : Ctl → Ctl := modTherm fun t => { t with own := t.own.set! l (highest t [8 + 2 * (l - 1), 9 + 2 * (l - 1)]) }

/-! ## Voltage monitors (R345, R414, R451) -/

/-- The operating range of a monitor in mV (Table 2 of R450, R345). -/
def vRange (i : Nat) : Int × Int :=
  match i with
  | 0 => (728, 772)
  | 1 => (825, 875)
  | 2 => (1164, 1236)
  | 3 => (1746, 1854)
  | 4 => (1710, 1890)
  | _ => (1000, 1100)

/-- A monitor that is ignored: its layer is OFF or RETIRED_OFF. -/
def vIgnored (c : Ctl) (i : Nat) : Bool :=
  5 ≤ i && (let st := c.power.layers.toList.getD (i - 5) 0; st = 0 || st = 3)

/-- HOLD for a rail out of range before data-ready (R414, R451). -/
def holdRail (c : Ctl) : Ctl :=
  let st := c.power.stage
  if !c.power.everReady && (st = .erasing || st = .boot || st = .starting) then
    forEach allPorts toDetect (hold 8 (modPower (fun w => { w with holdStage := st }) c))
  else c

/-- A monitor converts: it is out of range by its reading, or by the loss of its layer's VPP_L flag. A conversion that fails shows no
reading. -/
def takeMonitor (i : Nat) (x : HkReading) (c : Ctl) : Ctl :=
  let r := vRange i
  let bad := !vIgnored c i && ((5 ≤ i && x.vppLost) || (match x.value with | some v => decide (v < r.1 ∨ r.2 < v) | none => false))
  let c := modTherm (fun t => { t with
    vmon := match x.value with | some v => t.vmon.set! i (Nat.min 4095 v.toNat) | none => t.vmon
    vOut := t.vOut.set! i (if bad then t.vOut.toList.getD i 0 + 1 else 0) }) c
  if bad then holdRail c else c

/-! ## HK_CONVERSION and HK_ROUND_END (R334 to R342) -/

/-- A temperature channel converts. -/
def convertTemp (i : Nat) (reading : Option Int) (m : List Host.Cell) (c : Ctl) : List Host.Cell × Ctl :=
  let c := takeSensor i reading c
  if i = 7 then evalBase m (checkBase (modTherm (fun t => { t with basePrev := t.eff.toList.getD 0 none }) c))
  else if i < 8 || i % 2 = 0 then (m, c)
  else
    let l := (i - 8) / 2 + 1
    let c := takeOwn l c
    let late := l = 1 && (c.therm.eff.toList.getD 0 none).isNone && (c.therm.eff.toList.getD 1 none).isNone
    let r := if late then evalBase m c else (m, c)
    evalLayer l r.1 r.2

/-- One measurement channel converts. -/
def hkConversion (ch : Nat) (reading : HkReading) (m : List Host.Cell) (c : Ctl) : List Host.Cell × Ctl :=
  if c.power.stage = .off then (m, c)
  else if ch < 42 then convertTemp ch reading.value m c
  else (m, takeMonitor (ch - 42) reading c)

def execHkConversion (chan : Fin 64) (reading : HkReading) (s : State) : Host.Outcome State Fault Refusal :=
  onBoth (hkConversion chan.val reading) s

/-- The power of a port direction by its state (Table 5 of R347), in 0.1 W: LIGHT_SLEEP saves 1.1 W, DEEP_SLEEP 1.5 W. A link that is not
up draws none (DESIGN CHOICE, log 34). -/
def directionPower (up : Bool) (st : SleepState) : Nat :=
  if up then (match st with | .active => 15 | .light => 4 | .deep => 0) + Config.deepPower else 0

/-- The port term of P_EST (R342). -/
def portPower (c : Ctl) : Nat := (c.ports.toList.map fun p => directionPower (linkUp p) p.txSleep + directionPower (linkUp p) p.rxSleep).sum

/-- The base-die term of P_EST (R342) from the round's activity counts. What the hardware counts as activity is left open: an arbiter
decision that accepts, an operation of an atomic unit and an access of a mover, and as many more of the first and last as the round's
end says (DESIGN CHOICE, log 34). -/
def basePower (t : Therm) (xbarMore moverMore : Nat) : Nat := Config.basePower (t.xbarActs + xbarMore) t.atomicActs (t.moverActs + moverMore)

/-- P_EST in 0.1 W from the sum of P_L in 10 mW and the two other terms in 0.1 W (R342). -/
def stackPower (sum basePower portPower : Nat) : Nat := Nat.min 1023 ((100 * sum + 435) / 870 + basePower + portPower)

/-- The sequence goes on after HOLD for a rail (R414). -/
def leaveRailHold (c : Ctl) : Ctl :=
  let st := c.power.holdStage
  if !c.power.refclk then hold 9 c
  else if st = .boot || st = .starting || st = .erasing then
    modPower (fun w => { w with stage := st, holdReason := 0, holdStage := .off }) c
  else afterCal (rampTo 18 c)

/-- VOLTAGE_RANGE of every monitor out of range for two rounds (R345), once the stack has been data-ready (R451). -/
def voltageCheck (c : Ctl) : Ctl :=
  if c.power.everReady && c.power.stage ≠ .shutdown then
    forEach (List.range 22) (fun i c =>
      if 2 ≤ c.therm.vOut.toList.getD i 0 then raiseEvent 0x61 0 0 (42 + i + 64 * c.therm.vmon.toList.getD i 0) c else c) c
  else c

/-- A round ends: power estimates, the power throttle and the voltage checks. -/
def hkRoundEnd (xbarMore moverMore : Nat) (c : Ctl) : Ctl :=
  if c.power.stage = .off then c
  else
    let pw : Fin 17 → Nat := fun i => layerPower (c.therm.acts.toList.getD (i.val + 1) 0)
    let p : Vector Nat 17 := Vector.ofFn pw
    let est := stackPower p.toList.sum (basePower c.therm xbarMore moverMore) (portPower c)
    let c := modTherm (fun t => { t with
      power := p, powerEst := est, acts := Vector.replicate 18 0, xbarActs := 0, atomicActs := 0, moverActs := 0, vGood := if t.vOut.toList.all (· = 0) then t.vGood + 1 else 0 }) c
    let limit := c.therm.powerLimit
    let c := throttleEval 18 est limit (decide (10 * est ≤ 9 * limit)) c
    let c := voltageCheck c
    if c.power.stage = .hold && c.power.holdReason = 8 && 2 ≤ c.therm.vGood then updateAlert (leaveRailHold c) else c

def execHkRoundEnd (crossbarMore moverMore : Nat) (s : State) : Host.Outcome State Fault Refusal := onCtl (hkRoundEnd crossbarMore moverMore) s

/-! ## STACK_SELF_REFRESH (R347 to R349) -/

/-- The conditions of R348. -/
def selfRefreshOk (c : Ctl) : Bool :=
  c.power.stage = .ready && c.power.srRequest && !c.power.selfRefresh && stackClass c.umpire < 4
    && c.trk.isEmpty && (c.ports.toList.all fun p => p.waiting.isEmpty)
    && (c.queues.all fun q => q.2.state ≠ 2) && (c.regions.toList.all fun r => r.ready.isEmpty && r.coord.seqs.isEmpty && r.coord.txns.isEmpty)
    && (c.movers.toList.all fun v => v.curQueue.isNone)
    && (holders c).all fun a => preemptible a.kind

/-- The stack enters STACK_SELF_REFRESH: in-service tests stop as if preempted, changeovers stop, every rank enters
self-refresh. -/
def enterSelfRefresh (c : Ctl) : Ctl :=
  if selfRefreshOk c then
    let chan : Chan → Chan := fun x => { x with windowBlocked := none, windowRuns := false }
    let c := preemptAll (holders c) c
    let c := modBeat (fun b => { b with windowOpen := false }) { c with chans := c.chans.map chan }
    bump (gIdx 25) (modPower (fun w => { w with selfRefresh := true, changeoversRun := false }) c)
  else c

def execSelfRefreshEntry (s : State) : Host.Outcome State Fault Refusal := onCtl enterSelfRefresh s

/-- GLOBAL.SR_REQUEST is written (R348, R349). -/
def srRequestWrite (on : Bool) (c : Ctl) : Ctl :=
  let c := modPower (fun w => { w with srRequest := on }) c
  if on then c else leaveSelfRefresh c

def execSrRequestSet (s : State) : Host.Outcome State Fault Refusal := onCtl (srRequestWrite true) s
def execSrRequestClear (s : State) : Host.Outcome State Fault Refusal := onCtl (srRequestWrite false) s

end Sys2Proof.Machine
end

