-- ==== Sys2Proof/Machine/Regs.lean ====
section
/-! DEFINITION. The register space: reads, latches and writes of every register (R9 to R11, R172, R401, R428 to R447). -/

namespace Sys2Proof.Machine

open Sys2Proof

/-! ## Addresses (R428, R429) -/

/-- The block an address lies in. -/
inductive RegBlock where
  | global
  | house
  | umpire
  | port (p : Fin 4)
  | lane (p : Fin 4) (rx : Bool) (l : Fin 17)
  | region (r : Fin 4)
  | mover (m : Fin 16)
  | chan (ch : Fin 32)
deriving DecidableEq, Repr

/-- Block and offset of an address; none outside the blocks. -/
def regAt (a : Nat) : Option (RegBlock × Nat) :=
  if a % 4 ≠ 0 then none
  else if a < 0x400 then some (.global, a)
  else if 0x10000 ≤ a ∧ a < 0x14000 then
    (if a % 0x1000 < 0x300 then some (.port (Fin.ofNat 4 ((a - 0x10000) / 0x1000)), a % 0x1000) else none)
  else if 0x20000 ≤ a ∧ a < 0x24000 then
    (if a % 0x800 / 0x40 ≤ 16 ∧ a % 0x40 < 0x20 then
      some (.lane (Fin.ofNat 4 ((a - 0x20000) / 0x1000)) (decide (0x800 ≤ a % 0x1000)) (Fin.ofNat 17 (a % 0x800 / 0x40)), a % 0x40)
    else none)
  else if 0x40000 ≤ a ∧ a < 0x44000 then
    (if a % 0x1000 < 0x100 then some (.region (Fin.ofNat 4 ((a - 0x40000) / 0x1000)), a % 0x1000) else none)
  else if 0x80000 ≤ a ∧ a < 0xA0000 then
    (if a % 0x1000 < 0x180 then some (.chan (Fin.ofNat 32 ((a - 0x80000) / 0x1000)), a % 0x1000) else none)
  else if 0xC0000 ≤ a ∧ a < 0xC1000 then
    (if a % 0x100 < 0x60 then some (.mover (Fin.ofNat 16 ((a - 0xC0000) / 0x100)), a % 0x100) else none)
  else if 0xE0000 ≤ a ∧ a < 0xE0200 then some (.house, a - 0xE0000)
  else if 0xF0000 ≤ a ∧ a < 0xF0100 then some (.umpire, a - 0xF0000)
  else none

/-! ## Packed arrays (R434) -/

/-- Register `k` of an array packed two elements to a register. -/
def pairAt (l : List Nat) (k : Nat) : Nat := l.getD (2 * k) 0 + 2 ^ 16 * l.getD (2 * k + 1) 0

/-- Register `k` of an array that starts at `base`, for an offset within `n` registers of it. -/
def arrayAt (base n : Nat) (l : List Nat) (off : Nat) : Option Nat :=
  if base ≤ off ∧ off < base + 4 * n then some (pairAt l ((off - base) / 4)) else none

/-! ## Fields wider than 32 bits (R430) -/

/-- The wide fields of a block: first offset, registers, value. -/
def wideFields (b : RegBlock) (c : Ctl) : List (Nat × Nat × Nat) :=
  match b with
  | .global =>
    [(0x020, 2, c.power.lastResetBeat.toNat), (0x038, 2, c.life.serial.toNat), (0x040, 2, c.life.eraseGranules)] ++
    [(0x0B0, 2, c.beat.number.toNat), (0x114, 2, c.beat.snapshotBeat.toNat)]
  | .umpire => [(0x020, 8, match c.umpire.overflow with | some e => entryBits e | none => 0)]
  | .port p => [(0x028, 2, c.ports[p].domainMask.toNat)]
  | .region r => [(0x010, 2, c.regions[r].clkPhaseBeat.toNat)]
  | .chan ch =>
    (0x034, 4, packBits 1 ((List.range 104).map fun k => b2n (c.chans[ch].marginal.any fun x => x.1 = k)))
      :: (List.range 5).map fun k => (0x048 + 8 * k, 2, (c.chans[ch].calBeat.toList.getD k 0).toNat)
  | _ => []

/-- The wide field that an offset lies in. -/
def wideAt (b : RegBlock) (off : Nat) (c : Ctl) : Option (Nat × Nat × Nat) :=
  (wideFields b c).find? fun f => f.1 ≤ off && off < f.1 + 4 * f.2.1

/-! ## Live values (Tables 2 to 9) -/

/-- GLOBAL, main part (Table 2). -/
def readGlobal (off : Nat) (c : Ctl) : Nat :=
  let w := c.power
  let l := c.life
  let b := c.beat
  match off with
  | 0x000 => 0xA1D128
  | 0x004 => b2n w.configReject
  | 0x008 => w.configRejectAddr
  | 0x010 => w.resetCause + 2 ^ 8 * w.holdReason + 2 ^ 16 * w.bootSource + 2 ^ 20 * c.pm.initResult + 2 ^ 22 * b2n w.fwActivateFailed
  | 0x014 => c.pm.initBadHpn
  | 0x018 => c.pm.initDisplaced
  | 0x01C => w.dataReadyUs
  | 0x030 =>
    lcState l + 2 ^ 4 * serviceEntries l + 2 ^ 8 * b2n l.recovered + 2 ^ 12 * identitySlot l + 2 ^ 16 * slotsLeft l
      + 2 ^ 20 * b2n (liveOwner l).isSome + 2 ^ 21 * ownerSlotsLeft l + 2 ^ 24 * ownerPortCode l + 2 ^ 27 * b2n l.eraseLatch
  | 0x034 => l.svnFused + 2 ^ 8 * svnRunning l + 2 ^ 16 * w.repairOtpLeft
  | 0x050 => w.enginePoolLimit
  | 0x054 => poolInUse c
  | 0x058 => w.holdWaitLimit
  | 0x060 => w.copierBw + 2 ^ 8 * b2n w.compareOnRead
  | 0x064 => benchFree c
  | 0x068 => c.pm.mirrors.length
  | 0x06C => c.pm.substSlice.getD 0xFF + 2 ^ 8 * c.pm.substQueue.length + 2 ^ 16 * c.pm.substDone
  | 0x070 => lostPages c
  | 0x080 => b2n b.refreshMode
  | 0x084 => w.maintReserve
  | 0x088 => w.moversLatTarget
  | 0x08C => w.moversMinBw
  | 0x090 => w.regFloor
  | 0x094 => committedSum c
  | 0x098 => w.regScale
  | 0x0A0 =>
    (match b.state with | .acquiring => 0 | .locked => 1 | .freeRun => 2 | .markWait => 3)
      + 2 ^ 2 * b2n b.uncertain + 2 ^ 3 * b2n b.load.isSome
  | 0x0A4 => beatP b
  | 0x0A8 => b.freerunNs
  | 0x0B8 => b2n b.co.enable + 2 ^ 8 * b.co.period + 2 ^ 16 * b.co.phase + 2 ^ 24 * b.co.limit
  | 0x0BC => w.calDeltaT
  | 0x0C0 => claimsHeld c
  | 0x0C4 => packBits 1 ((List.finRange 25).map fun i => b2n (istLagging c i))
  | 0x0D0 => packBits 2 (w.layers.toList.take 16)
  | 0x0D4 => packBits 2 (w.layers.toList.drop 16)
  | _ => (arrayAt 0x0E0 9 (w.layerCalTemp.toList.map (ofSigned 11)) off).getD 0

/-- GLOBAL, housekeeping part (Table 3). -/
def readHouse (off : Nat) (c : Ctl) : Nat :=
  let t := c.therm
  let lv := fun i => t.levels.toList.getD i 0
  match off with
  | 0x100 => t.implausible.toNat
  | 0x104 => t.warn.toNat
  | 0x108 => packBits 2 (t.steps.toList.take 16)
  | 0x10C => packBits 2 (t.steps.toList.drop 16)
  | 0x110 => lv 0 + 2 ^ 8 * lv 1 + 2 ^ 16 * lv 2
  | 0x114 => lv 3 + 2 ^ 8 * lv 4 + 2 ^ 16 * lv 5
  | 0x118 => t.powerEst
  | 0x11C => t.powerLimit
  | 0x120 => t.creditAllow
  | 0x124 => b2n c.power.srRequest + 2 ^ 8 * b2n c.power.selfRefresh
  | _ =>
    match arrayAt 0x000 21 ((List.range 42).map fun i => tempBits (sensorValue t i)) off with
    | some v => v
    | none =>
      match arrayAt 0x060 9 (t.eff.toList.map tempBits) off with
      | some v => v
      | none =>
        match arrayAt 0x090 9 t.power.toList off with
        | some v => v
        | none => (arrayAt 0x0C0 11 t.vmon.toList off).getD 0

/-- GLOBAL, umpire part (Table 4). -/
def readUmpire (off : Nat) (c : Ctl) : Nat :=
  let u := c.umpire
  match off with
  | 0x000 => stackClass u + 2 ^ 16 * u.nextSeq
  | 0x004 => packBits 8 [unackCount u 1, unackCount u 2, unackCount u 3, unackCount u 4]
  | 0x008 => u.shotClock2
  | 0x00C => u.shotClock3
  | 0x010 => u.alertMin
  | 0x014 => u.benchLow
  | _ => 0

/-- PORT.LINK_STATE. -/
def linkCode (p : Port) : Nat :=
  if p.retraining then 7
  else match p.link with
    | .detect => 0 | .speed => 1 | .train => 2 | .laneMap => 3 | .deskew => 4 | .linkInit => 5 | .active => 6

/-- A PORT block (Table 5). -/
def readPort (p : Fin 4) (off : Nat) (c : Ctl) : Nat :=
  let q := c.ports[p]
  match off with
  | 0x000 =>
    b2n q.enable + 2 ^ 4 * q.maxRate + 2 ^ 8 * b2n q.sleepLight + 2 ^ 9 * b2n q.sleepDeep + 2 ^ 12 * b2n q.regNotify
      + 2 ^ 16 * q.faultNotifyMin
  | 0x008 => q.laneFailThreshold + 2 ^ 16 * q.uncorrRetrainLimit
  | 0x00C => q.replayTimeout
  | 0x010 => q.txLightIdle
  | 0x014 => q.txDeepIdle
  | 0x018 => q.poolLimit
  | 0x020 => linkCode q + 2 ^ 4 * q.rate + 2 ^ 8 * widthCode q.txMap.width + 2 ^ 10 * widthCode q.rxMap.width + 2 ^ 12 * b2n q.reversed
  | 0x024 => portUse c p
  | 0x030 => q.latTarget
  | 0x034 => q.minBw + 2 ^ 16 * b2n q.realtime
  | 0x038 => q.tc1Rate
  | 0x03C => q.tc1Burst
  | _ => 0

/-- A LANE block (Table 6). -/
def readLane (p : Fin 4) (rx : Bool) (l : Fin 17) (off : Nat) (c : Ctl) : Nat :=
  let x := if rx then c.ports[p].rx[l] else c.ports[p].tx[l]
  match off with
  | 0x00 =>
    (match x.state with | .active => 0 | .spareIdle => 1 | .failed => 2 | .off => 3)
      + 2 ^ 4 * (if x.state = .active then x.logicalPos else 0) + 2 ^ 8 * b2n (rx && x.polarityInv)
  | 0x04 => if rx then (adaptNow p l c).toNat else x.txFfe.toNat
  | 0x08 => if rx then x.eyeWidth + 2 ^ 16 * x.eyeHeight else 0
  | _ => 0

/-- A REGION block (Table 7). -/
def readRegion (r : Fin 4) (off : Nat) (c : Ctl) : Nat :=
  let g := c.regions[r]
  match off with
  | 0x000 => (g.arbBasePending.getD g.arbBase).toNat
  | 0x004 => g.qlHigh + 2 ^ 16 * g.qlLow
  | 0x008 => g.ready.length
  | 0x00C => g.coord.log.length + 2 ^ 8 * g.coord.seqs.length
  | _ => 0

/-- A MOVER block (Table 8). -/
def readMover (m : Fin 16) (off : Nat) (c : Ctl) : Nat :=
  let v := c.movers[m]
  match off with
  | 0x00 => b2n v.enable
  | 0x04 => v.maxInflight
  | 0x08 => v.curQueue.getD 0xFFFF
  | _ => 0

/-- CH.SLICE_DRAINED (R310). -/
def drainedBits (c : Ctl) (ch : Fin 32) : Nat := packBits 1 ((List.range 5).map fun k => b2n ((chanRanks ch).contains k && sliceDrained c ch k))

/-- CH.REG_LAT_NS, REG_BOOST and REG_MODE of master k (Table 9). -/
def readMaster (x : Chan) (k : Nat) : Nat :=
  match x.masters.toList[k]? with
  | some m => Nat.min 131071 (m.lat / 65536) + 2 ^ 20 * m.boost + 2 ^ 24 * b2n m.fallback
  | none => 0

/-- A CH block (Table 9); `fw` reads firmware's own delay selector (R443). -/
def readChan (ch : Fin 32) (fw : Bool) (off : Nat) (c : Ctl) : Nat :=
  let x := c.chans[ch]
  let sel := if fw then x.fwSel else x.dlySel
  match off with
  | 0x000 => b2n x.enable + 2 ^ 4 * b2n x.adaptive + 2 ^ 8 * b2n x.trrDefer + 2 ^ 12 * b2n x.dlyApplyIdle
  | 0x004 => x.openPageTimeout
  | 0x008 => x.fairNPending.getD x.fairN
  | 0x00C => x.actAlert + 2 ^ 16 * x.actMust
  | 0x010 => x.rowCeLimit
  | 0x014 => sel.toNat
  | 0x018 => tapGet x (selKey sel)
  | 0x01C => x.srrRank + 2 ^ 3 * x.srrPc + 2 ^ 4 * x.srrBank + 2 ^ 8 * x.srrRow
  | 0x020 => 2 ^ 8 * x.srrStatus
  | 0x024 => x.sliceDrain.toNat + 2 ^ 8 * drainedBits c ch + 2 ^ 16 * x.sliceOut.toNat + 2 ^ 24 * x.sliceFailed.toNat
  | 0x028 => x.hotSlices.toNat + 2 ^ 8 * b2n (chanOut c ch) + 2 ^ 12 * x.bistStatus + 2 ^ 16 * x.holds.length + 2 ^ 24 * x.sparesFree
  | 0x02C => x.throttleFactor
  | 0x030 => x.spareMap.toNat
  | 0x044 => packBits 2 x.calRejectRun.toList
  | _ => if 0x070 ≤ off ∧ off < 0x084 then readMaster x ((off - 0x070) / 4) else 0

/-- The value of one register as it stands. -/
def readLive (b : RegBlock) (off : Nat) (fw : Bool) (c : Ctl) : Nat :=
  match wideAt b off c with
  | some f => (f.2.2 >>> (8 * (off - f.1))) % 2 ^ 32
  | none =>
    match b with
    | .global => readGlobal off c
    | .house => readHouse off c
    | .umpire => readUmpire off c
    | .port p => readPort p off c
    | .lane p rx l => readLane p rx l off c
    | .region r => readRegion r off c
    | .mover m => readMover m off c
    | .chan ch => readChan ch fw off c

/-! ## Reads with latches (R430) -/

/-- The latches that a read of a wide field's lowest register sets. -/
def latchesOf (src : RegSrc) (addr off : Nat) (f : Nat × Nat × Nat) : List Latch :=
  if off = f.1 then
    (List.range (f.2.1 - 1)).map fun k =>
      ({ src := src, addr := addr + 4 * (k + 1), value := BitVec.ofNat 32 (f.2.2 >>> (32 * (k + 1))) } : Latch)
  else []

/-- New latches take the place of older ones of the same registers. -/
def setLatches (l : List Latch) : Ctl → Ctl :=
  modMgr fun g => { g with latches := (g.latches.filter fun x => !(l.any fun y => y.src = x.src && y.addr = x.addr)) ++ l }

/-- A read of one register by a source. -/
def readReg (src : RegSrc) (addr : Nat) (c : Ctl) : BitVec 32 × Ctl :=
  match regAt addr with
  | none => (0, c)
  | some (b, off) =>
    let c' := match wideAt b off c with | some f => setLatches (latchesOf src addr off f) c | none => c
    match c.mgr.latches.find? fun x => x.src = src && x.addr = addr with
    | some x => (x.value, c')
    | none => (BitVec.ofNat 32 (readLive b off (src = .firmware) c), c')

/-- Consecutive registers are read one by one, in ascending order. -/
def readRegs (src : RegSrc) (addr : Nat) : Nat → Ctl → List (BitVec 32) × Ctl
  | 0, c => ([], c)
  | n + 1, c =>
    let r := readReg src addr c
    let t := readRegs src (addr + 4) n r.2
    (r.1 :: t.1, t.2)

/-! ## Writes -/

/-- A value within a field's range, else the old one (R431). -/
def inRange (lo hi v old : Nat) : Nat := if lo ≤ v && v ≤ hi then v else old

/-- A pair that must keep its order, else both keep their values. -/
def pairOk (ok : Bool) (new old : Nat × Nat) : Nat × Nat := if ok then new else old

/-- GLOBAL, main part. -/
def writeGlobal (off v : Nat) (c : Ctl) : Ctl :=
  match off with
  | 0x004 => if bitOf v 0 then modPower (fun w => { w with configReject := false }) c else c
  | 0x050 => modPower (fun w => { w with enginePoolLimit := inRange 0 3072 (bitsOf v 0 12) w.enginePoolLimit }) c
  | 0x058 => modPower (fun w => { w with holdWaitLimit := inRange 100 65535 (bitsOf v 0 16) w.holdWaitLimit }) c
  | 0x060 =>
    modPower (fun w => { w with
      copierBw := inRange 4 16 (bitsOf v 0 5) w.copierBw
      compareOnRead := bitOf v 8 }) c
  | 0x080 => refreshModeWrite (bitOf v 0) c
  | 0x0A8 => modBeat (fun b => { b with freerunNs := inRange 500 4000 (bitsOf v 0 12) b.freerunNs }) c
  | 0x0BC => modPower (fun w => { w with calDeltaT := inRange 1 16 (bitsOf v 0 5) w.calDeltaT }) c
  | 0x110 => clearCounters (bitsOf v 0 16) (bitsOf v 16 7) c
  | _ => c

/-- GLOBAL, umpire part. -/
def writeUmpire (off v : Nat) (c : Ctl) : Ctl :=
  match off with
  | 0x008 => modUmpire (fun u => { u with shotClock2 := inRange 10 10000 (bitsOf v 0 14) u.shotClock2 }) c
  | 0x00C => modUmpire (fun u => { u with shotClock3 := inRange 100 60000 (bitsOf v 0 16) u.shotClock3 }) c
  | 0x010 => updateAlert (modUmpire (fun u => { u with alertMin := inRange 1 5 (bitsOf v 0 3) u.alertMin }) c)
  | 0x014 => modUmpire (fun u => { u with benchLow := inRange 0 2228224 (bitsOf v 0 22) u.benchLow }) c
  | _ => c

/-- A PORT block. STATIC fields are judged by the enable as it stood before the write. -/
def writePort (p : Fin 4) (off v : Nat) (c : Ctl) : Ctl :=
  match off with
  | 0x000 =>
    let c := writeMaxRate p (bitsOf v 4 2) c
    let c := modPort p (fun q => { q with
      sleepLight := bitOf v 8, sleepDeep := bitOf v 9, regNotify := bitOf v 12
      faultNotifyMin := if bitsOf v 16 3 = 6 then q.faultNotifyMin else bitsOf v 16 3 }) c
    setPortEnable p (bitOf v 0) c
  | 0x004 => writeRetrain p (bitOf v 0) c
  | 0x008 => modPort p (fun q => { q with laneFailThreshold := bitsOf v 0 16, uncorrRetrainLimit := bitsOf v 16 8 }) c
  | 0x00C => modPort p (fun q => { q with replayTimeout := inRange 1 16 (bitsOf v 0 5) q.replayTimeout }) c
  | 0x010 => modPort p (fun q => { q with txLightIdle := bitsOf v 0 16 }) c
  | 0x014 => modPort p (fun q => { q with txDeepIdle := bitsOf v 0 16 }) c
  | 0x018 => modPort p (fun q => { q with poolLimit := inRange 0 3072 (bitsOf v 0 12) q.poolLimit }) c
  | _ => c

/-- A value of TX_FFE with its reserved bits zero; its taps sum to at most 63 when assigned (R439). -/
def ffeBits (v : Nat) : Nat := bitsOf v 0 6 + 2 ^ 8 * bitsOf v 8 6 + 2 ^ 16 * bitsOf v 16 6 + 2 ^ 24 * bitsOf v 24 6
def ffeOk (v : Nat) : Bool := bitsOf v 0 6 + bitsOf v 8 6 + bitsOf v 16 6 + bitsOf v 24 6 ≤ 63

/-- LANE.TX_FFE, STATIC under PORT.ENABLE. -/
def writeFfe (addr : Nat) (p : Fin 4) (l : Fin 17) (v : Nat) (c : Ctl) : Ctl :=
  let new := BitVec.ofNat 30 (ffeBits v)
  if !ffeOk v || new = c.ports[p].tx[l].txFfe then c
  else if c.ports[p].enable then rejectConfig addr c
  else modPort p (fun q => { q with tx := q.tx.set l { q.tx[l] with txFfe := new } }) c

/-- A REGION block. -/
def writeRegion (r : Fin 4) (off v : Nat) (c : Ctl) : Ctl :=
  match off with
  | 0x000 => modRegion r (fun g => { g with arbBasePending := some (BitVec.ofNat 10 v) }) c
  | 0x004 =>
    modRegion r (fun g =>
      let h := inRange 1 736 (bitsOf v 0 10) g.qlHigh
      let l := inRange 1 736 (bitsOf v 16 10) g.qlLow
      let x := pairOk (decide (l < h)) (h, l) (g.qlHigh, g.qlLow)
      { g with qlHigh := x.1, qlLow := x.2 }) c
  | _ => c

/-- MOVER.ENABLE (R172, R433): cleared, it stops the queue on the mover; set, it is ignored while the umpire holds the mover
out of service. -/
def moverEnableWrite (m : Fin 16) (on : Bool) : Ctl → Ctl :=
  modMover m fun v => if on then (if v.faulted then v else { v with enable := true }) else askStop 1 true { v with enable := false }

/-- A MOVER block. -/
def writeMover (m : Fin 16) (off v : Nat) (c : Ctl) : Ctl :=
  match off with
  | 0x00 => moverEnableWrite m (bitOf v 0) c
  | 0x04 => modMover m (fun x => { x with maxInflight := inRange 1 512 (bitsOf v 0 10) x.maxInflight }) c
  | _ => c

/-- CH.PAGE_POLICY, STATIC under CH.ENABLE. -/
def writePolicy (ch : Fin 32) (on : Bool) (c : Ctl) : Ctl :=
  if on = c.chans[ch].adaptive then c
  else if c.chans[ch].enable then rejectConfig (0x080000 + ch.val * 0x1000) c
  else modChan ch (fun x => { x with adaptive := on }) c

/-- CH.ACT_ALERT_LEVEL and ACT_MUST_LEVEL (R233). -/
def writeActLevels (v : Nat) (x : Chan) : Chan :=
  let a := inRange 256 32768 (bitsOf v 0 16) x.actAlert
  let m := inRange 256 32768 (bitsOf v 16 16) x.actMust
  let r := pairOk (decide (a ≤ m)) (a, m) (x.actAlert, x.actMust)
  { x with actAlert := r.1, actMust := r.2 }

/-- CH.DLY_SEL: the host's selector, or firmware's own (R443); a lane that does not exist is unassigned (R313). -/
def writeDlySel (ch : Fin 32) (fw : Bool) (v : Nat) (x : Chan) : Chan :=
  let s := BitVec.ofNat 12 v
  if !selOk ch s then x else if fw then { x with fwSel := s } else { x with dlySel := s }

/-- CH.SRR_TARGET (R234): a rank that the channel does not have is unassigned. While a repair is BUSY a write leaves the field, as
the repair still needs its target (DESIGN CHOICE, log 53). -/
def writeSrrTarget (ch : Fin 32) (v : Nat) (x : Chan) : Chan :=
  if x.srrStatus = 1 then x else
  { x with
    srrRank := if (chanRanks ch).contains (bitsOf v 0 3) then bitsOf v 0 3 else x.srrRank
    srrPc := bitsOf v 3 1, srrBank := bitsOf v 4 4, srrRow := bitsOf v 8 15 }

/-- A CH block. -/
def writeChan (ch : Fin 32) (fw : Bool) (off v : Nat) (c : Ctl) : Ctl :=
  match off with
  | 0x000 =>
    let c := writePolicy ch (bitOf v 4) c
    let c := modChan ch (fun x => { x with trrDefer := bitOf v 8, dlyApplyIdle := bitOf v 12 }) c
    if bitOf v 0 then chEnableSet ch c else chEnableClear ch c
  | 0x004 => modChan ch (fun x => { x with openPageTimeout := inRange 20 1000 (bitsOf v 0 10) x.openPageTimeout }) c
  | 0x008 => modChan ch (fun x => { x with fairNPending := if 4 ≤ bitsOf v 0 7 && bitsOf v 0 7 ≤ 64 then some (bitsOf v 0 7) else x.fairNPending }) c
  | 0x00C => modChan ch (writeActLevels v) c
  | 0x010 => modChan ch (fun x => { x with rowCeLimit := inRange 2 255 (bitsOf v 0 8) x.rowCeLimit }) c
  | 0x014 => modChan ch (writeDlySel ch fw v) c
  | 0x018 => dlyTapWrite ch fw (bitsOf v 0 7) c
  | 0x01C => modChan ch (writeSrrTarget ch v) c
  | 0x020 => if bitOf v 0 then srrGo ch c else c
  | 0x024 => sliceDrain ch (BitVec.ofNat 5 v) c
  | _ => c

/-- A write to one register by a source: each field follows its access code and Apply attribute (R7, R9, R432). -/
def writeReg (src : RegSrc) (addr v : Nat) (c : Ctl) : Ctl :=
  match regAt addr with
  | none => c
  | some (b, off) =>
    match b with
    | .global => writeGlobal off v c
    | .house => if off = 0x124 then srRequestWrite (bitOf v 0) c else c
    | .umpire => writeUmpire off v c
    | .port p => writePort p off v c
    | .lane p rx l => if off = 4 && !rx then writeFfe addr p l v c else c
    | .region r => writeRegion r off v c
    | .mover m => writeMover m off v c
    | .chan ch => writeChan ch (src = .firmware) off v c

/-- Consecutive registers are written one by one, in ascending order. -/
def writeRegs (src : RegSrc) (addr : Nat) : List (BitVec 32) → Ctl → Ctl
  | [], c => c
  | v :: t, c => writeRegs src (addr + 4) t (writeReg src addr v.toNat c)

/-! ## The commands (R401) -/

def srcOf (via : Via) : RegSrc := match via with | .port _ => .inband | .i3c => .i3c

/-- Every address of a range lies in the blocks. -/
def regRangeOk (addr n : Nat) : Bool := (List.range n).all fun i => (regAt (addr + 4 * i)).isSome

def regReadCmd (addr count : Nat) (ref : CmdRef) (c : Ctl) : Ctl :=
  if count < 1 || 252 < count || !regRangeOk addr count then replyStatus ref 2 c
  else
    let r := readRegs (srcOf ref.1) addr count c
    replyTo ref 0 0 (r.1.flatMap fun v => toBytes 4 v.toNat) r.2

def execRegRead (m : Mgmt) (addr count : Nat) (s : State) : Host.Outcome State Fault Refusal := onCtl (command 0x10 m (regReadCmd addr count)) s

def regWriteCmd (addr : Nat) (values : List (BitVec 32)) (ref : CmdRef) (c : Ctl) : Ctl :=
  if values.length < 1 || 250 < values.length || !regRangeOk addr values.length then replyStatus ref 2 c
  else replyStatus ref 0 (writeRegs (srcOf ref.1) addr values c)

def execRegWrite (m : Mgmt) (addr : Nat) (values : List (BitVec 32)) (s : State) : Host.Outcome State Fault Refusal :=
  onCtl (command 0x11 m (regWriteCmd addr values)) s

/-- Whether a source reaches the register bus: firmware while it runs, the test mailbox while test access is open. -/
def reachesBus (src : RegSrc) (c : Ctl) : Bool :=
  match src with
  | .firmware => c.life.fwRunning
  | .testbox => testOpen c && c.power.stage ≠ .off
  | _ => c.power.stage ≠ .off

/-- One write arrives at the register bus (R429). -/
def busWrite (src : RegSrc) (addr v : Nat) (c : Ctl) : Ctl := if reachesBus src c then writeReg src addr v c else c

def execRegisterWrite (src : RegSrc) (addr : Nat) (value : BitVec 32) (s : State) : Host.Outcome State Fault Refusal :=
  onCtl (busWrite src addr value.toNat) s

def execMoverEnable (m : Fin 16) (on : Bool) (s : State) : Host.Outcome State Fault Refusal := onCtl (moverEnableWrite m on) s

end Sys2Proof.Machine
end

