-- ==== Sys2Proof/Machine/Work.lean ====
section
/-! DEFINITION. Maintenance commands and the ends of activities (R63, R270 to R274, R307, R311, R312, R330, R331). -/

namespace Sys2Proof.Machine

open Sys2Proof

/-! ## MAINT_START (R272, R307, R330) -/

/-- The slices of a BIST's target. -/
def bistSlices (tt target : Nat) : List Nat :=
  if tt = 4 then (chanRanks (Fin.ofNat 32 target)).map (sliceOf (Fin.ofNat 32 target)) else layerSlices target

/-- Whether a target fits an activity (Table 7 of R270). -/
def targetOk (kind tt idx : Nat) : Bool :=
  match kind with
  | 4 => tt = 6 && 128 ≤ idx && idx < 136
  | 5 => tt = 1 && idx < 4
  | 8 => (tt = 4 && idx < 32) || (tt = 5 && 1 ≤ idx && idx ≤ 17)
  | _ => tt = 5 && 1 ≤ idx && idx ≤ 17

/-- Every page of a slice is RETIRED. -/
def allRetired (c : Ctl) (s : Nat) : Bool := (firstFrom (fun p => useGet c (s * 16384 + p) ≠ .retired) 0 16384).isNone

/-- A BIST's target is isolated (R330). -/
def isolated (c : Ctl) (tt idx : Nat) : Bool :=
  ((bistSlices tt idx).all fun s => sliceDrained c (sliceChan s) (sliceRank s)) &&
    (if tt = 4 then
      let x := c.chans[Fin.ofNat 32 idx]
      x.holds.isEmpty && x.au.isEmpty && x.wbuf.isEmpty
    else c.power.layers.toList.getD (idx - 1) 0 = 2)

/-- The owning chapter's conditions on the state. -/
def startAllowed (c : Ctl) (kind tt idx : Nat) : Bool :=
  match kind with
  | 7 => (layerSlices idx).all fun s => sliceIsOut c s && allRetired c s
  | 8 => (lcState c.life = 1 || lcState c.life = 3) && isolated c tt idx
  | _ => true

/-- What an activity does as it starts: LAYER_POWER_OFF ends at once, BIST shows in CH.BIST_STATUS. -/
def onStart (id kind tt idx : Nat) (c : Ctl) : Ctl :=
  if kind = 7 then endActivity id 2 0 (modPower (fun w => { w with layers := w.layers.set! (idx - 1) 3 }) c)
  else if kind = 8 && tt = 4 then modChan (Fin.ofNat 32 idx) (fun x => { x with bistStatus := 1 }) c
  else c

/-- MAINT_START: refused, or started with its claim. -/
def maintStart (kind tt idx : Nat) (ref : CmdRef) (c : Ctl) : Ctl :=
  if !([2, 3, 4, 5, 7, 8].contains kind && [1, 4, 5, 6].contains tt) then replyStatus ref 8 c
  else if !targetOk kind tt idx then replyStatus ref 2 c
  else if !startAllowed c kind tt idx then replyStatus ref 4 c
  else match blocker c kind tt idx with
    | some a => replyTo ref 1 0 (toBytes 2 a.id ++ toBytes 1 a.kind) (bump (gIdx 12) c)
    | none =>
      let c' := preemptOverlap kind tt idx c
      if 64 < claimsHeld c' + (claimsOf c' kind tt idx).length then replyStatus ref 9 c
      else
        let r := addActivity kind tt idx 1 false (leaveSelfRefresh c')
        onStart r.1 kind tt idx (replyTo ref 0 0 (toBytes 2 r.1) r.2)

def execMaintStart (m : Mgmt) (kind targetType targetIndex : Nat) (s : State) : Host.Outcome State Fault Refusal :=
  onCtl (command 0x60 m (maintStart kind targetType targetIndex)) s

/-! ## MAINT_STATUS (R274) -/

/-- RESULT as reported: a calibration's progress is not part of it while it runs. -/
def shownResult (a : Activity) : Nat := if a.state ≤ 1 then 0 else a.result.toNat

def activityBits (a : Activity) : Nat :=
  a.id + 2 ^ 16 * a.kind + 2 ^ 24 * a.targetType + 2 ^ 28 * a.state + 2 ^ 32 * a.target + 2 ^ 64 * shownResult a + 2 ^ 96 * a.beat

def maintStatus (first : Nat) (ref : CmdRef) (c : Ctl) : Ctl :=
  let l := c.mgr.running ++ c.mgr.ended
  replyTo ref 0 0 (toBytes 8 l.length ++ ((l.drop first).take 62).flatMap fun a => toBytes 16 (activityBits a)) c

def execMaintStatus (m : Mgmt) (first : Nat) (s : State) : Host.Outcome State Fault Refusal := onCtl (command 0x61 m (maintStatus first)) s

/-! ## Re-initialisation after a BIST (R331) -/

/-- A bank as a BIST leaves it: no repairs, no disturbance, refreshed to its limit. -/
def freshBank : Bank := { debt := -8 }

/-- The banks and the row-error tracker of a slice after a BIST. -/
def reinitSlice (s : Nat) : Ctl → Ctl :=
  modChan (sliceChan s) fun x =>
    let x := (rankBanks (sliceRank s)).foldl (fun x k => bankPut k freshBank x) x
    { x with rowErrs := rowErrDrop (fun r => r / 1048576 = sliceRank s) x.rowErrs, ueFound := x.ueFound.filter fun k => keyRank k ≠ sliceRank s }

/-- The controller of a channel target is reset, its register settings kept. -/
def reinitController (fail : Bool) (x : Chan) : Chan :=
  { x with
    arbHolder := none, arbPrio := 0, arbLeft := 0, arbCount := 0, masters := Vector.replicate 5 {}
    caRepeats := Vector.replicate 5 0, caRecent := [], caIssued := [], bistStatus := if fail then 3 else 2 }

/-- The start-up calibration of the target's units (R321): accepted centres are written, rejected units reported. -/
def recalibrate (hists : List UnitHist) (slices : List Nat) (c : Ctl) : Ctl :=
  forEach (hists.filter fun u => slices.contains u.slice.val) (fun u c =>
    match startUnit u.slice.val u.lanes c with
    | (some d, c) => raiseEvent 0x0B 5 (sliceLayer u.slice.val) d c
    | (none, c) => c) c

/-- The target of a BIST that ends. -/
def reinit (a : Activity) (fail : Bool) (hists : List UnitHist) (m : List Host.Cell) (c : Ctl) : List Host.Cell × Ctl :=
  let l := bistSlices a.targetType a.target
  let writable := l.filter fun s => !c.chans[sliceChan s].sliceFailed.getLsbD (sliceRank s)
  let c := forEach l reinitSlice c
  let c := if a.targetType = 4 then modChan (Fin.ofNat 32 a.target) (reinitController fail) c else c
  (dramClear m fun ppn => writable.contains (ppnSlice ppn), recalibrate hists l c)

/-- The failing rows of a BIST in all, and whether any of its tests failed (R330): the controller and its buffers belong to a channel
target, the scan to a layer. -/
def bistRows (f : BistFinding) : Nat := (f.rows.map (·.2.2)).sum
def bistFails (tt : Nat) (f : BistFinding) : Bool := bistRows f ≠ 0 || (if tt = 4 then f.logicBad || f.sramBad else f.scanBad)

/-- RESULT of a BIST: the layout of MAINT_STATUS has one number for the failing rows, which is their sum over the banks (log 88). -/
def bistResult (tt : Nat) (f : BistFinding) : BitVec 32 := BitVec.ofNat 32 (b2n (bistFails tt f) + 2 * bistRows f)

/-- The count of failing rows by bank stays with the activity (R331). -/
def noteRows (id : Nat) (rows : List (Nat × Nat × Nat)) : Ctl → Ctl :=
  modMgr fun g => { g with running := mapIf (fun a => a.id = id) (fun a => { a with rows := rows }) g.running }

/-- A BIST ends; TSV_BOND_TEST and BENCH_TEST end in the same way, with a finding in RESULT (log 13). -/
def bistComplete (id : Nat) (found : BistFinding) (bad : Bool) (hists : List UnitHist) (m : List Host.Cell) (c : Ctl) :
    List Host.Cell × Ctl :=
  match (holders c).find? fun a => a.id = id with
  | none => (m, c)
  | some a =>
    if a.kind = 8 then
      let r := reinit a (bistFails a.targetType found) hists m c
      (r.1, endActivity id 2 (bistResult a.targetType found) (noteRows id found.rows r.2))
    else if a.kind = 3 || a.kind = 4 then (m, endActivity id 2 (BitVec.ofNat 32 (b2n bad)) c)
    else (m, c)

def execBistComplete (id : Nat) (found : BistFinding) (tsvOrBenchBad : Bool) (hists : List UnitHist) (s : State) :
    Host.Outcome State Fault Refusal := onBoth (bistComplete id found tsvOrBenchBad hists) s

/-! ## MAINT_ABORT (R274) -/

/-- Whether MAINT_ABORT may end an activity. -/
def abortable (a : Activity) : Bool := !(a.kind = 1 || a.kind = 6 || (a.kind = 2 && a.byFirmware))

/-- What an aborted activity leaves: a calibration's units stop, and an in-service test drops its unit and goes on at its next scheduled
one. -/
def onAbort (a : Activity) (c : Ctl) : Ctl :=
  let chan : Chan → Chan := fun x => { x with cal := x.cal.filter fun u => u.activity ≠ a.id }
  let c : Ctl := if a.kind = 2 then { c with chans := c.chans.map chan } else c
  match istIndex a with
  | some i => modIst i (istNext i) c
  | none => c

def maintAbort (id : Nat) (ref : CmdRef) (c : Ctl) : Ctl :=
  match c.mgr.running.find? fun a => a.id = id with
  | none => replyStatus ref 4 c
  | some a => if abortable a then replyStatus ref 0 (endActivity id 3 0 (onAbort a c)) else replyStatus ref 3 c

/-- The command; a BIST that it ends leaves its target re-initialised (R331). -/
def maintAbortCmd (mg : Mgmt) (id : Nat) (m : List Host.Cell) (c : Ctl) : List Host.Cell × Ctl :=
  let c' := command 0x62 mg (maintAbort id) c
  match (holders c).find? fun a => a.id = id && a.kind = 8 with
  | some a => if c'.mgr.running.any fun x => x.id = id then (m, c') else reinit a false [] m c'
  | none => (m, c')

def execMaintAbort (m : Mgmt) (id : Nat) (s : State) : Host.Outcome State Fault Refusal := onBoth (maintAbortCmd m id) s

/-! ## LAYER_RESET (R311, R312) -/

/-- REFab until every bank of the slice has its least debt (step 1). -/
def refreshOut (s : Nat) (c : Ctl) : Ctl :=
  if refreshRuns c s then
    let n := (maxDebt c.chans[sliceChan s] (rankBanks (sliceRank s)) + 8).toNat
    (List.range n).foldl (fun c _ => refAb s c) c
  else c

/-- LAYER_RESET: the read-back is tried twice. -/
def layerReset (l : Nat) (ok second : Bool) (ref : CmdRef) (c : Ctl) : Ctl :=
  if l < 1 || 17 < l then replyStatus ref 2 c
  else if c.power.layers.toList.getD (l - 1) 0 ≠ 2 then replyStatus ref 4 c
  else if (layerSlices l).any fun s => !sliceIsOut c s && !sliceDrained c (sliceChan s) (sliceRank s) then replyStatus ref 1 c
  else match blocker c 6 5 l with
  | some a => replyTo ref 1 0 (toBytes 2 a.id ++ toBytes 1 a.kind) (bump (gIdx 12) c)
  | none =>
    let r := addActivity 6 5 l 1 false (preemptOverlap 6 5 l c)
    let c := bump (gIdx (34 + l)) (forEach (layerSlices l) refreshOut r.2)
    let c := if ok || second then c else forEach (layerSlices l) (fun s c => raiseEvent 0x41 6 s 0 c) c
    replyStatus ref 0 (endActivity r.1 2 0 c)

def execLayerReset (m : Mgmt) (layer : Nat) (readBackOk secondOk : Bool) (s : State) : Host.Outcome State Fault Refusal :=
  onCtl (command 0x72 m (layerReset layer readBackOk secondOk)) s

/-! ## LANE_EYE_SCAN (R63) -/

/-- A measured lane: ACTIVE or SPARE_IDLE. -/
def measured (l : Lane) : Bool := l.state = .active || l.state = .spareIdle

/-- The consecutive open points of a sweep of `n` points that contain point `i`; bit k of `x` is set when point k is open. -/
def openRun (n i x : Nat) : Nat :=
  if bitOf x i then
    1 + ((List.range (n - 1 - i)).takeWhile fun k => bitOf x (i + 1 + k)).length + ((List.range i).takeWhile fun k => bitOf x (i - 1 - k)).length
  else 0

/-- What the sweep of one lane found: for each of its three eyes the open phase points, of which number 32 is the main sampler's
phase, and the open threshold points, of which number 60 is the eye's threshold. -/
abbrev EyeSweep := List (BitVec 64 × BitVec 121)

/-- EYE_WIDTH of a sweep, in UI/64: the smallest over the three eyes. -/
def sweepWidth (e : EyeSweep) : Nat := minOf 0 (e.map fun x => openRun 64 32 x.1.toNat)

/-- EYE_HEIGHT of a sweep, in mV: the smallest over the three eyes of the span of open threshold points, 5 mV from each to the next
(DESIGN CHOICE, log 65: the span counts the steps between its end points). -/
def sweepHeight (e : EyeSweep) : Nat := minOf 0 (e.map fun x => 5 * (openRun 121 60 x.2.toNat - 1))

/-- A lane's fields after a scan; `i` is its number. -/
def eyeLane (eyes : List EyeSweep) (i : Nat) (l : Lane) : Lane :=
  let e := eyes.getD i []
  if measured l then { l with eyeWidth := sweepWidth e, eyeHeight := sweepHeight e } else { l with eyeWidth := 0, eyeHeight := 0 }

/-- The smallest width and height over the measured lanes. -/
def worstEye (eyes : List EyeSweep) (p : Port) : Nat × Nat :=
  let l := (List.finRange 17).filterMap fun i => if measured p.rx[i] then some (eyes.getD i.val []) else none
  (minOf 0 (l.map sweepWidth), minOf 0 (l.map sweepHeight))

/-- Every point of a scan is measured: a scan pauses while its direction sleeps or retrains. -/
def eyeScanComplete (id : Nat) (eyes : List EyeSweep) (c : Ctl) : Ctl :=
  match (holders c).find? fun a => a.id = id && a.kind = 5 with
  | none => c
  | some a =>
    let p : Fin 4 := Fin.ofNat 4 a.target
    let q := c.ports[p]
    if q.retraining || (q.link = .active && q.rxSleep ≠ .active) then c
    else
      let w := worstEye eyes q
      endActivity id 2 (BitVec.ofNat 32 (w.1 + 2 ^ 16 * w.2))
        (modPort p (fun q => { q with rx := Vector.ofFn fun i => eyeLane eyes i.val q.rx[i] }) c)

def execEyeScanComplete (id : Nat) (eyes : List EyeSweep) (s : State) : Host.Outcome State Fault Refusal := onCtl (eyeScanComplete id eyes) s

end Sys2Proof.Machine
end

