-- ==== Sys2Proof/Machine/Dispatch.lean ====
section
/-! DEFINITION. The meaning of every command: one arm for each row of spec/opcode_table.json (R468). -/

namespace Sys2Proof.Machine

open Sys2Proof

/-- The effect of a command on everything but the queue of waiting commands. -/
def exec (i : Instr) (s : State) : Host.Outcome State Fault Refusal :=
  match i with
  | .powerOn addrSel => Sys2Proof.Machine.execPowerOn addrSel s
  | .brownout => Sys2Proof.Machine.execBrownout s
  | .resetNDeassert post => Sys2Proof.Machine.execResetNDeassert post s
  | .resetNAssert => Sys2Proof.Machine.execResetNAssert s
  | .refclkLost => Sys2Proof.Machine.execRefclkLost s
  | .refclkPresent post => Sys2Proof.Machine.execRefclkPresent post s
  | .thermalRestart post => Sys2Proof.Machine.execThermalRestart post s
  | .dataReady elapsedUs => Sys2Proof.Machine.execDataReady elapsedUs s
  | .signalDetect p lanes => Sys2Proof.Machine.execSignalDetect p lanes s
  | .tsSpeed p lane blk => Sys2Proof.Machine.execTsSpeed p lane blk s
  | .tsTrain p lane blk => Sys2Proof.Machine.execTsTrain p lane blk s
  | .prbsCheckComplete p lane errs cdrLock tsOk => Sys2Proof.Machine.execPrbsCheckComplete p lane errs cdrLock tsOk s
  | .tsMap p lane blk => Sys2Proof.Machine.execTsMap p lane blk s
  | .tsWake p lane blk => Sys2Proof.Machine.execTsWake p lane blk s
  | .bringupTimeout p => Sys2Proof.Machine.execBringupTimeout p s
  | .detectHoldoffExpiry p => Sys2Proof.Machine.execDetectHoldoffExpiry p s
  | .cdrLockLost p lane => Sys2Proof.Machine.execCdrLockLost p lane s
  | .fecCodeWord p check msg => Sys2Proof.Machine.execFecCodeWord p check msg s
  | .alignmentMarker p lane blk => Sys2Proof.Machine.execAlignmentMarker p lane blk s
  | .streamStart p => Sys2Proof.Machine.execStreamStart p s
  | .enterLight p => Sys2Proof.Machine.execEnterLight p s
  | .enterDeep p => Sys2Proof.Machine.execEnterDeep p s
  | .retrainTimeout p => Sys2Proof.Machine.execRetrainTimeout p s
  | .skipFlit p f => Sys2Proof.Machine.execSkipFlit p f s
  | .skipSend p => Sys2Proof.Machine.execSkipSend p s
  | .sleepReq p x => Sys2Proof.Machine.execSleepReq p x s
  | .sleepAck x sleepNow => Sys2Proof.Machine.execSleepAck x sleepNow s
  | .sleepNak p x => Sys2Proof.Machine.execSleepNak p x s
  | .wakeReq x => Sys2Proof.Machine.execWakeReq x s
  | .sleepReplyTimeout p => Sys2Proof.Machine.execSleepReplyTimeout p s
  | .txLightIdle p => Sys2Proof.Machine.execTxLightIdle p s
  | .txDeepIdle p => Sys2Proof.Machine.execTxDeepIdle p s
  | .sleepMinimumEnd p => Sys2Proof.Machine.execSleepMinimumEnd p s
  | .owedAckTimeout p => Sys2Proof.Machine.execOwedAckTimeout p s
  | .wakeAckTimeout p => Sys2Proof.Machine.execWakeAckTimeout p s
  | .streamStartTimeout p => Sys2Proof.Machine.execStreamStartTimeout p s
  | .pktFlit p f => Sys2Proof.Machine.execPktFlit p f s
  | .idleFlit p f => Sys2Proof.Machine.execIdleFlit p f s
  | .badFlit p byBuffer => Sys2Proof.Machine.execBadFlit p byBuffer s
  | .init p x => Sys2Proof.Machine.execInit p x s
  | .initDone x => Sys2Proof.Machine.execInitDone x s
  | .nak p x => Sys2Proof.Machine.execNak p x s
  | .nakRepeat p => Sys2Proof.Machine.execNakRepeat p s
  | .replayTimeout p => Sys2Proof.Machine.execReplayTimeout p s
  | .read32 h => Sys2Proof.Machine.execRead32 h s
  | .read64 h => Sys2Proof.Machine.execRead64 h s
  | .read128 h => Sys2Proof.Machine.execRead128 h s
  | .read256 h => Sys2Proof.Machine.execRead256 h s
  | .write32 h => Sys2Proof.Machine.execWrite32 h s
  | .write64 h => Sys2Proof.Machine.execWrite64 h s
  | .write128 h => Sys2Proof.Machine.execWrite128 h s
  | .write256 h => Sys2Proof.Machine.execWrite256 h s
  | .writeMasked32 h => Sys2Proof.Machine.execWriteMasked32 h s
  | .atomic h => Sys2Proof.Machine.execAtomic h s
  | .txn h => Sys2Proof.Machine.execTxn h s
  | .lseqBegin h => Sys2Proof.Machine.execLseqBegin h s
  | .lseqStage h => Sys2Proof.Machine.execLseqStage h s
  | .lseqCommit h => Sys2Proof.Machine.execLseqCommit h s
  | .lseqAbort h => Sys2Proof.Machine.execLseqAbort h s
  | .doorbell h => Sys2Proof.Machine.execDoorbell h s
  | .doorbellTakesEffect id => Sys2Proof.Machine.execDoorbellTakesEffect id s
  | .fence h => Sys2Proof.Machine.execFence h s
  | .fenceComplete id => Sys2Proof.Machine.execFenceComplete id s
  | .unassignedOpcode opcode h => Sys2Proof.Machine.execUnassignedOpcode opcode h s
  | .trackerAllocate who soft => Sys2Proof.Machine.execTrackerAllocate who soft s
  | .copierStart k => Sys2Proof.Machine.execCopierStart k s
  | .chunkCopy k => Sys2Proof.Machine.execChunkCopy k s
  | .chunkHoldRetry k => Sys2Proof.Machine.execChunkHoldRetry k s
  | .clearingComplete k => Sys2Proof.Machine.execClearingComplete k s
  | .pagemapDrainComplete q => Sys2Proof.Machine.execPagemapDrainComplete q s
  | .shadowWrite hpn => Sys2Proof.Machine.execShadowWrite hpn s
  | .arbiterDecision c drain soft => Sys2Proof.Machine.execArbiterDecision c drain soft s
  | .readDataDecode c id idx noise => Sys2Proof.Machine.execReadDataDecode c id idx noise s
  | .atomicWriteback c gran => Sys2Proof.Machine.execAtomicWriteback c gran s
  | .openPageTimeout c slot => Sys2Proof.Machine.execOpenPageTimeout c slot s
  | .refreshTick slice => Sys2Proof.Machine.execRefreshTick slice s
  | .spreadVisit slice => Sys2Proof.Machine.execSpreadVisit slice s
  | .deadlineGuard slice bank => Sys2Proof.Machine.execDeadlineGuard slice bank s
  | .targetedRefresh slice bank row => Sys2Proof.Machine.execTargetedRefresh slice bank row s
  | .caParityError c rank repeated => Sys2Proof.Machine.execCaParityError c rank repeated s
  | .softRowRepairDone c => Sys2Proof.Machine.execSoftRowRepairDone c s
  | .delayApplyPoint c => Sys2Proof.Machine.execDelayApplyPoint c s
  | .regTick => Sys2Proof.Machine.execRegTick s
  | .queueLevelUpdate r => Sys2Proof.Machine.execQueueLevelUpdate r s
  | .floorRecompute => Sys2Proof.Machine.execFloorRecompute s
  | .guaranteeScaled => Sys2Proof.Machine.execGuaranteeScaled s
  | .beatEdge width interval => Sys2Proof.Machine.execBeatEdge width interval s
  | .mark frac => Sys2Proof.Machine.execMark frac s
  | .beatMissing => Sys2Proof.Machine.execBeatMissing s
  | .internalBeat => Sys2Proof.Machine.execInternalBeat s
  | .beatLockTimeout => Sys2Proof.Machine.execBeatLockTimeout s
  | .freeRunTimeout => Sys2Proof.Machine.execFreeRunTimeout s
  | .windowBlock c => Sys2Proof.Machine.execWindowBlock c s
  | .windowBlockLift c => Sys2Proof.Machine.execWindowBlockLift c s
  | .windowWorkStart c tests => Sys2Proof.Machine.execWindowWorkStart c tests s
  | .windowClose c => Sys2Proof.Machine.execWindowClose c s
  | .calUnitComplete slice hist => Sys2Proof.Machine.execCalUnitComplete slice hist s
  | .calPatternFallback slice => Sys2Proof.Machine.execCalPatternFallback slice s
  | .clkPhaseStep r => Sys2Proof.Machine.execClkPhaseStep r s
  | .istUnitDue target overduePermille => Sys2Proof.Machine.execIstUnitDue target overduePermille s
  | .istStep target bonds reads => Sys2Proof.Machine.execIstStep target bonds reads s
  | .moverTakeQueue m soft => Sys2Proof.Machine.execMoverTakeQueue m soft s
  | .tailCheck m => Sys2Proof.Machine.execTailCheck m s
  | .slotCheck m => Sys2Proof.Machine.execSlotCheck m s
  | .copy m => Sys2Proof.Machine.execCopy m s
  | .fill m => Sys2Proof.Machine.execFill m s
  | .gather m => Sys2Proof.Machine.execGather m s
  | .scatter m => Sys2Proof.Machine.execScatter m s
  | .scatterUpdate m => Sys2Proof.Machine.execScatterUpdate m s
  | .verify m => Sys2Proof.Machine.execVerify m s
  | .fenceDescriptor m => Sys2Proof.Machine.execFenceDescriptor m s
  | .notifyDescriptor m => Sys2Proof.Machine.execNotifyDescriptor m s
  | .elementResult m r => Sys2Proof.Machine.execElementResult m r s
  | .elementRetry m elem => Sys2Proof.Machine.execElementRetry m elem s
  | .descriptorEnd m => Sys2Proof.Machine.execDescriptorEnd m s
  | .recordWrite m => Sys2Proof.Machine.execRecordWrite m s
  | .holdRequest c id gran => Sys2Proof.Machine.execHoldRequest c id gran s
  | .holdGrant id gran => Sys2Proof.Machine.execHoldGrant id gran s
  | .woundNotice id => Sys2Proof.Machine.execWoundNotice id s
  | .oldValue id gran noise => Sys2Proof.Machine.execOldValue id gran noise s
  | .prepare c id gran => Sys2Proof.Machine.execPrepare c id gran s
  | .prepareAnswer id gran => Sys2Proof.Machine.execPrepareAnswer id gran s
  | .commit c id gran => Sys2Proof.Machine.execCommit c id gran s
  | .holdRelease c id gran => Sys2Proof.Machine.execHoldRelease c id gran s
  | .holdWaitTimeout c id => Sys2Proof.Machine.execHoldWaitTimeout c id s
  | .leaseExpiry r port lsid => Sys2Proof.Machine.execLeaseExpiry r port lsid s
  | .shotClockExpiry seq => Sys2Proof.Machine.execShotClockExpiry seq s
  | .rowTrackerClear => Sys2Proof.Machine.execRowTrackerClear s
  | .hkConversion chan reading => Sys2Proof.Machine.execHkConversion chan reading s
  | .hkRoundEnd crossbarMore moverMore => Sys2Proof.Machine.execHkRoundEnd crossbarMore moverMore s
  | .selfRefreshEntry => Sys2Proof.Machine.execSelfRefreshEntry s
  | .eraseComplete failed => Sys2Proof.Machine.execEraseComplete failed s
  | .zeroizeComplete => Sys2Proof.Machine.execZeroizeComplete s
  | .fwRecheck matches_ => Sys2Proof.Machine.execFwRecheck matches_ s
  | .authLockoutEnd => Sys2Proof.Machine.execAuthLockoutEnd s
  | .stagingClaimLapse => Sys2Proof.Machine.execStagingClaimLapse s
  | .bootClaimLapse => Sys2Proof.Machine.execBootClaimLapse s
  | .bistComplete id found tsvOrBenchBad hists => Sys2Proof.Machine.execBistComplete id found tsvOrBenchBad hists s
  | .eyeScanComplete id eyes => Sys2Proof.Machine.execEyeScanComplete id eyes s
  | .commandFragment m opcode frag bodyLen paramLen fragLen signed last => Sys2Proof.Machine.execCommandFragment m opcode frag bodyLen paramLen fragLen signed last s
  | .identify m => Sys2Proof.Machine.execIdentify m s
  | .getStatus m => Sys2Proof.Machine.execGetStatus m s
  | .regRead m addr count => Sys2Proof.Machine.execRegRead m addr count s
  | .regWrite m addr values => Sys2Proof.Machine.execRegWrite m addr values s
  | .pagemapRead m first mirror count => Sys2Proof.Machine.execPagemapRead m first mirror count s
  | .pagemapUpdate m changes => Sys2Proof.Machine.execPagemapUpdate m changes s
  | .mirrorSet m hpn enable => Sys2Proof.Machine.execMirrorSet m hpn enable s
  | .mirrorResolve m hpn granule secondary => Sys2Proof.Machine.execMirrorResolve m hpn granule secondary s
  | .benchDonate m hpns => Sys2Proof.Machine.execBenchDonate m hpns s
  | .queueConfigure m queue mask ctx => Sys2Proof.Machine.execQueueConfigure m queue mask ctx s
  | .queueEnable m queue => Sys2Proof.Machine.execQueueEnable m queue s
  | .queueDisable m queue => Sys2Proof.Machine.execQueueDisable m queue s
  | .domainSet m portValid setOwner ownerPort masks => Sys2Proof.Machine.execDomainSet m portValid setOwner ownerPort masks s
  | .regulationSet m reserve masters => Sys2Proof.Machine.execRegulationSet m reserve masters s
  | .beatSetNumber m mode number atNumber => Sys2Proof.Machine.execBeatSetNumber m mode number atNumber s
  | .changeoverConfigure m enable period phase limit => Sys2Proof.Machine.execChangeoverConfigure m enable period phase limit s
  | .maintStart m kind targetType targetIndex => Sys2Proof.Machine.execMaintStart m kind targetType targetIndex s
  | .maintStatus m first => Sys2Proof.Machine.execMaintStatus m first s
  | .maintAbort m id => Sys2Proof.Machine.execMaintAbort m id s
  | .faultLogRead m seqFrom count overflow => Sys2Proof.Machine.execFaultLogRead m seqFrom count overflow s
  | .faultAck m first last => Sys2Proof.Machine.execFaultAck m first last s
  | .layerReset m layer readBackOk secondOk => Sys2Proof.Machine.execLayerReset m layer readBackOk secondOk s
  | .thermalConfigure m levels powerLimit => Sys2Proof.Machine.execThermalConfigure m levels powerLimit s
  | .fwLoadBegin m imageLen => Sys2Proof.Machine.execFwLoadBegin m imageLen s
  | .fwLoadChunk m offset data => Sys2Proof.Machine.execFwLoadChunk m offset data s
  | .fwLoadEnd m image => Sys2Proof.Machine.execFwLoadEnd m image s
  | .fwActivate m digestOk post => Sys2Proof.Machine.execFwActivate m digestOk post s
  | .lifecycleTransition m target phase ownerKeyHash countersign chain => Sys2Proof.Machine.execLifecycleTransition m target phase ownerKeyHash countersign chain s
  | .ownerKeySet m hash countersign => Sys2Proof.Machine.execOwnerKeySet m hash countersign s
  | .zeroize m => Sys2Proof.Machine.execZeroize m s
  | .scorecardRead m first count snapshot => Sys2Proof.Machine.execScorecardRead m first count snapshot s
  | .spdmMessage m code param => Sys2Proof.Machine.execSpdmMessage m code param s
  | .resetWarm m post => Sys2Proof.Machine.execResetWarm m post s
  | .bootBlock m kind offset len layout fillMapped data image => Sys2Proof.Machine.execBootBlock m kind offset len layout fillMapped data image s
  | .getVersion via => Sys2Proof.Machine.execGetVersion via s
  | .getCapabilities via => Sys2Proof.Machine.execGetCapabilities via s
  | .negotiateAlgorithms via offers => Sys2Proof.Machine.execNegotiateAlgorithms via offers s
  | .getDigests via => Sys2Proof.Machine.execGetDigests via s
  | .getCertificate via slot offset len => Sys2Proof.Machine.execGetCertificate via slot offset len s
  | .challenge via slot summary => Sys2Proof.Machine.execChallenge via slot summary s
  | .getMeasurements via index signed => Sys2Proof.Machine.execGetMeasurements via index signed s
  | .setEndpointId eid => Sys2Proof.Machine.execSetEndpointId eid s
  | .getEndpointId => Sys2Proof.Machine.execGetEndpointId s
  | .getMctpVersionSupport => Sys2Proof.Machine.execGetMctpVersionSupport s
  | .getMessageTypeSupport => Sys2Proof.Machine.execGetMessageTypeSupport s
  | .enec events => Sys2Proof.Machine.execEnec events s
  | .disec events => Sys2Proof.Machine.execDisec events s
  | .rstdaa => Sys2Proof.Machine.execRstdaa s
  | .setdasa static dynamic => Sys2Proof.Machine.execSetdasa static dynamic s
  | .setaasa => Sys2Proof.Machine.execSetaasa s
  | .setnewda dynamic => Sys2Proof.Machine.execSetnewda dynamic s
  | .getpid => Sys2Proof.Machine.execGetpid s
  | .getbcr => Sys2Proof.Machine.execGetbcr s
  | .getdcr => Sys2Proof.Machine.execGetdcr s
  | .getstatus => Sys2Proof.Machine.execGetstatus s
  | .getmwl => Sys2Proof.Machine.execGetmwl s
  | .getmrl => Sys2Proof.Machine.execGetmrl s
  | .rstact action => Sys2Proof.Machine.execRstact action s
  | .bypass => Sys2Proof.Machine.execBypass s
  | .idcode => Sys2Proof.Machine.execIdcode s
  | .samplePreload pins => Sys2Proof.Machine.execSamplePreload pins s
  | .extest => Sys2Proof.Machine.execExtest s
  | .clamp => Sys2Proof.Machine.execClamp s
  | .highz => Sys2Proof.Machine.execHighz s
  | .trstN => Sys2Proof.Machine.execTrstN s
  | .portEnableSet p => Sys2Proof.Machine.execPortEnableSet p s
  | .portEnableClear p => Sys2Proof.Machine.execPortEnableClear p s
  | .portRetrain p => Sys2Proof.Machine.execPortRetrain p s
  | .portRetrainFull p => Sys2Proof.Machine.execPortRetrainFull p s
  | .portMaxRate p rate => Sys2Proof.Machine.execPortMaxRate p rate s
  | .chEnableSet c => Sys2Proof.Machine.execChEnableSet c s
  | .chEnableClear c => Sys2Proof.Machine.execChEnableClear c s
  | .srrGo c => Sys2Proof.Machine.execSrrGo c s
  | .dlyTap c byFirmware value => Sys2Proof.Machine.execDlyTap c byFirmware value s
  | .sliceDrain c bits => Sys2Proof.Machine.execSliceDrain c bits s
  | .moverEnable m on => Sys2Proof.Machine.execMoverEnable m on s
  | .scClear first count => Sys2Proof.Machine.execScClear first count s
  | .refreshMode mode => Sys2Proof.Machine.execRefreshMode mode s
  | .srRequestSet => Sys2Proof.Machine.execSrRequestSet s
  | .srRequestClear => Sys2Proof.Machine.execSrRequestClear s
  | .registerWrite src addr value => Sys2Proof.Machine.execRegisterWrite src addr value s
  | .squelchDetect p => Sys2Proof.Machine.execSquelchDetect p s
  | .mgmtFault => Sys2Proof.Machine.execMgmtFault s
  | .fetchFailed m => Sys2Proof.Machine.execFetchFailed m s
  | .unassignedDescriptorOpcode m => Sys2Proof.Machine.execUnassignedDescriptorOpcode m s
  | .unassignedCommandOpcode m opcode => Sys2Proof.Machine.execUnassignedCommandOpcode m opcode s
  | .unsupportedMctpMessageType type => Sys2Proof.Machine.execUnsupportedMctpMessageType type s
  | .unsupportedSpdmRequest via code => Sys2Proof.Machine.execUnsupportedSpdmRequest via code s
  | .discardedVc2Header p slot => Sys2Proof.Machine.execDiscardedVc2Header p slot s

end Sys2Proof.Machine
end

