-- ==== Sys2Proof/Safety.lean ====
section
/-! DEFINITION. What statements are made of: the invariant of memory, bytes of DRAM, and when a management command is taken up. -/

namespace Sys2Proof.Machine

open Sys2Proof

/-- DRAM is in its canonical form: addresses rise strictly, and no entry holds what an unlisted address reads as. -/
def State.memOk (s : State) : Prop := Memory.wf s.dram = true

/-- Two states hold the same byte at every address of DRAM. -/
def sameBytes (s t : State) : Prop := ∀ a, readByte t.dram a = readByte s.dram a

/-- Nothing but the state of the stack's logic differs: DRAM and the waiting commands are as before. -/
def onlyLogic (s t : State) : Prop := sameBytes s t ∧ t.pending = s.pending

/-- Nothing but one port, the counters and the model's draw counter differs. -/
def onlyPort (p : Fin 4) (s t : State) : Prop :=
  onlyLogic s t ∧ t.ctl = { s.ctl with ports := s.ctl.ports.set p t.ctl.ports[p], score := t.ctl.score, draws := t.ctl.draws }

/-- Nothing but one channel controller and the counters differs. -/
def onlyChan (c : Fin 32) (s t : State) : Prop :=
  onlyLogic s t ∧ t.ctl = { s.ctl with chans := s.ctl.chans.set c t.ctl.chans[c], score := t.ctl.score }

/-- Nothing but one mover differs. -/
def onlyMover (m : Fin 16) (s t : State) : Prop :=
  onlyLogic s t ∧ t.ctl = { s.ctl with movers := s.ctl.movers.set m t.ctl.movers[m] }

/-- The logic's state when a management command has left its receive buffer, has ended the assembly of its transport, and firmware has
counted it (R388, R391, R405). -/
def takenUp (op : Nat) (m : Mgmt) (c : Ctl) : Ctl :=
  let a := arrive 0x40 m.via m.tag (isCommand op m) c
  setAsm m.via none (if op = 0x71 then a else countCmd m.via a)

/-- A management command reaches the stack under the stack's vendor field, whole, and passes every check of R391 before those of its
own parameters. -/
def served (op : Nat) (m : Mgmt) (s : State) : Prop :=
  reaches m.via s.ctl = true ∧ foreign m = false ∧ gate op m s.ctl = none ∧ lastFits op m s.ctl = true

/-- A management command that only its reply shows: what it answers with, and nothing else changed. -/
def answers (op : Nat) (m : Mgmt) (status : Nat) (payload : List Byte) (s t : State) : Prop :=
  t = { s with ctl := replyTo (refOf op m) status 0 payload (takenUp op m s.ctl) }

/-- Nothing waits at a port for room on the line or in the partner: a credit that arrives lets nothing more go. -/
def quiet (q : Port) : Prop := q.respQ = [] ∧ q.mgmtQ = [] ∧ q.notifyQ = [] ∧ q.line.rest = []

/-- A request meets a port that takes requests and has none waiting before it. -/
def portFree (p : Fin 4) (s : State) : Prop :=
  linkUp s.ctl.ports[p] = true ∧ (s.ctl.ports[p]).mute = false ∧ (s.ctl.ports[p]).waiting = [] ∧ s.ctl.power.selfRefresh = false

/-- A request at the head of its port passes every check of R87, finds a tracker entry (R92) and translates without a page
map error: it starts on its path. -/
def admitted (op : Nat) (h : ReqHdr) (s : State) : Prop :=
  portFree h.port s ∧ admission op h s.ctl = none ∧ mustWait op h (tc1Mark op h s.ctl).2 = false ∧ h.pmEcc = 0

/-- The tracker entry of a port's request of the coordinator, a doorbell or a fence. -/
def plainEntry (op : Nat) (o : Op) (h : ReqHdr) (ids : Option (List Nat)) (c : Ctl) : Trk :=
  { id := c.nextId, src := .port h.port, opcode := op, op := o, tag := h.tag, domain := h.domain, addr := h.addr
    tc1 := h.tc, marked := false, cmpl := h.cmpl, release := ids, grans := [], since := c.now }

/-- A mover runs queue `q` and stands at a place of its loop (R171), and no stop is asked for. -/
def movesIn (m : Fin 16) (q : Nat) (at_ : MoverPhase) (s : State) : Prop :=
  (s.ctl.movers[m]).curQueue = some q ∧ (s.ctl.movers[m]).phase = at_ ∧ (s.ctl.movers[m]).stop = none

/-- An access of a mover has ended OK: its tracker entry is `x`. -/
def accessOk (m : Fin 16) (elem : Nat) (x : Trk) (s : State) : Prop :=
  accessOf s.ctl m elem = some x ∧ (∀ g ∈ x.grans, g.phase = .done) ∧ statusOfGrans x.grans = 0

/-- The head descriptor `d` of a mover's queue `q` has been fetched, both granules OK, in the tracker entry `x` (R171). -/
def fetched (m : Fin 16) (q d : Nat) (x : Trk) (s : State) : Prop :=
  movesIn m q .fetch s ∧ accessOk m headElem x s ∧ gransData x.grans = d

/-- The logic when a mover has taken up the descriptor `d` of queue `q`, before it issues anything (R160, R171). -/
def takenDesc (m : Fin 16) (q d : Nat) (c : Ctl) : Ctl :=
  modMover m (fun v => { v with
    desc := BitVec.ofNat 512 d, phase := .running, nextElem := (queueGet c q).resume, inflight := [], countA := 0, countB := 0
    countC := 0, lowFail := none, reports := 0, reportsDue := [], bulkFailed := false, denied := false, blocks := []
    destRetries := 0, destWaits := false, results := [], streamSent := 0, streamLost := false
    stalled := false, allocSince := none }) c

/-- A mover may issue an access, for an element or `elem` of a descriptor, whole: its engine has the entries and the room, MAX_INFLIGHT
holds its granules, none of its accesses waits at allocation, and the page map's entry is sound and refuses none of them (R92, R99, R103, R163). -/
def canIssue (m : Fin 16) (elem domain : Nat) (a : Access) (c : Ctl) : Prop :=
  accessRoom c m elem domain a = true ∧ (c.movers[m]).allocSince = none ∧ (elem < 2 ^ 32 → a.count ≤ entriesAtOnce c) ∧ (∀ g ∈ accessGrans c domain a, g.status ≠ 2) ∧ (c.movers[m]).entryEcc = 0 ∧
    0 < a.count ∧ elemBusy c m + a.count ≤ (c.movers[m]).maxInflight

/-- A mover runs the descriptor `d` of queue `q`. -/
def runs (m : Fin 16) (q d : Nat) (s t : State) : Prop :=
  (t.ctl.movers[m]).desc = BitVec.ofNat 512 d ∧ (t.ctl.movers[m]).phase = .running ∧ (t.ctl.movers[m]).curQueue = some q ∧ onlyLogic s t

/-- The tracker entry of a mover's access, issued in the logic `c`: the access's granules with their data (R163). -/
def isAccess (m : Fin 16) (elem domain : Nat) (a : Access) (c : Ctl) (x : Trk) : Prop :=
  x.src = .mover m elem ∧ x.op = a.op ∧ x.opcode = a.opcode ∧ x.addr = a.addr ∧ x.domain = domain ∧ x.id = c.nextId ∧
    x.writeType = a.writeType ∧ x.grans = (accessGrans c domain a).map (stageGran c 4)

/-- The newest entry of the tracker is a mover's access, issued in the logic `c` whose entries stand before it. -/
def issues (m : Fin 16) (elem domain : Nat) (a : Access) (c : Ctl) (t : State) : Prop :=
  ∃ y, t.ctl.trk = c.trk ++ [y] ∧ isAccess m elem domain a c y

/-- A mover runs a descriptor whose only element makes an access, the newest entry of the tracker; `c` is the logic before it. -/
def issuesFirst (m : Fin 16) (q d : Nat) (a : Access) (c : Ctl) (s t : State) : Prop :=
  runs m q d s t ∧ issues m 0 (queueGet s.ctl q).domain a c t ∧ (t.ctl.movers[m]).nextElem = 1 ∧
    (t.ctl.movers[m]).inflight = [{ k := 0, trk := some c.nextId, addr := a.addr }]

/-- Only the side logic (the I3C target, MCTP, SPDM answers, test access) changes, to `d`. -/
def sideIs (d : Side) (s t : State) : Prop := t = { s with ctl := { s.ctl with side := d } }

/-- A group of a port's lanes can run at width `w` (R41): at most the lane `sp` of it is bad, and then lane 16 is good. -/
def laneGroupOk (good : BitVec 17) (w g : Nat) (sp : Option Nat) : Prop :=
  match sp with
  | none => ∀ i, g * w ≤ i → i < g * w + w → good.getLsbD i = true
  | some b => g * w ≤ b ∧ b < g * w + w ∧ good.getLsbD b = false ∧ good.getLsbD 16 = true ∧
      ∀ i, g * w ≤ i → i < g * w + w → i ≠ b → good.getLsbD i = true

/-- An entry of a supplied page map meets R416's conditions on its own. -/
def entryShapeOk (c : Ctl) (e : PmEntry) : Prop :=
  (e.state = .normal ∨ e.state = .unmapped) ∧ e.mirrored = false ∧
    (e.state = .normal → e.ppn / 16384 < 128 ∧ sliceIsOut c (e.ppn / 16384) = false)

/-- Entry `i` of a supplied page map fails R416, or its page repeats an earlier one's. -/
def imageEntryBad (c : Ctl) (l : List (Nat × PmEntry)) (i : Nat) : Prop :=
  ∃ x, l[i]? = some x ∧
    (¬ entryShapeOk c x.2 ∨ (x.2.state = .normal ∧ ∃ j y, j < i ∧ l[j]? = some y ∧ y.2.state = .normal ∧ y.2.ppn = x.2.ppn))

/-- The commands whose rules let them change DRAM: writes reach it when the write buffer drains, when an atomic unit writes
back, by in-service and built-in tests, by clearing, when a fabric fault completes committed values, and by the loss of power. -/
def storesDram : Instr → Bool
  | .powerOn _ | .brownout | .resetNAssert | .refclkPresent _ | .thermalRestart _ | .arbiterDecision _ _ _ => true
  | .trackerAllocate _ _ | .windowWorkStart _ _ | .istStep _ _ _ | .atomicWriteback _ _ | .hkConversion _ _ | .eraseComplete _ | .zeroizeComplete => true
  | .bistComplete _ _ _ _ | .maintAbort _ _ | .fwActivate _ _ _ | .lifecycleTransition _ _ _ _ _ _ | .resetWarm _ _ => true
  | _ => false

end Sys2Proof.Machine
end

