-- ==== Sys2Proof/WellFormed.lean ====
section
/-! DEFINITION. Well-formed commands: every operand within the width or range that the spec gives it. -/

namespace Sys2Proof

/-- A request header and its slots (Table 5 of R78): TAG, DOMAIN, ADDR, LEN, and what the page map's check bits can show. -/
def reqWellFormed (h : ReqHdr) : Bool :=
  h.tag < 2048 && h.domain < 64 && h.addr < 2 ^ 37 && h.len = h.slots.length && h.len < 256 && h.pmEcc ≤ 3

/-- A TXN or LSEQ_STAGE: what the check bits show of the entry of each of its actions, two bits for each (R99). -/
def actionsWellFormed (h : ReqHdr) : Bool := reqWellFormed { h with pmEcc := 0 } && h.pmEcc < 2 ^ 16

/-- What a management command carries (R387, R392): the fields of its header and envelope. -/
def mgmtWellFormed (m : Mgmt) : Bool :=
  m.tag < 2048 && m.seq < 65536 && m.vendor < 2 ^ 32 && m.bodyLen < 65536 && m.paramLen < 65536 && m.frag < 16 && m.fragLen < 1024
    && (match m.env with | some e => e.signer < 256 && e.credLen < 65536 | none => true)

/-- The bins of a lane in a calibration unit (R313, R316). -/
def histWellFormed (h : LaneHist) : Bool := h.bins.length = 128 && h.pc < 2 && h.lane < 52 && (h.pc = 0 || h.lane < 48)

/-- The self-tests' findings (R321, R324): columns, layers and delay lanes that exist. -/
def postWellFormed (t : Post) : Bool :=
  (t.badBonds.all fun b => b.column < 104 && b.layer ≤ 17) && t.hists.all fun u => u.lanes.all histWellFormed

/-- The columns that an in-service test step names, and the visits (R328, R329). -/
def istWellFormed (bonds : List (Nat × Bool)) (reads : List (Nat × BitVec 320)) : Bool :=
  bonds.all (fun x => x.1 < 104) && reads.all fun x => x.1 < 48

/-- Whether every operand of a command lies in its range. -/
def wellFormed (i : Instr) : Bool :=
  match i with
  | .resetNDeassert t | .refclkPresent t | .thermalRestart t => postWellFormed t
  | .dataReady us => us < 2 ^ 24
  | .signalDetect _ lanes => lanes ≤ 17
  | .prbsCheckComplete _ _ errs _ _ => errs < 2 ^ 32
  | .init _ x => x.slot.toNat % 256 = 0x01
  | .initDone x => x.ctrl.slot.toNat % 256 = 0x02
  | .nak _ x => x.slot.toNat % 256 = 0x10
  | .sleepReq _ x => x.slot.toNat % 256 = 0x20 && (let target := x.slot.toNat / 256 % 256; 1 ≤ target && target ≤ 2)
  | .sleepAck x _ => x.ctrl.slot.toNat % 256 = 0x21
  | .sleepNak _ x => x.slot.toNat % 256 = 0x22
  | .wakeReq x => x.ctrl.slot.toNat % 256 = 0x23
  | .read32 h | .read64 h | .read128 h | .read256 h | .write32 h | .write64 h | .write128 h | .write256 h | .writeMasked32 h
  | .atomic h | .lseqBegin h | .lseqCommit h | .lseqAbort h | .doorbell h | .fence h => reqWellFormed h
  | .txn h | .lseqStage h => actionsWellFormed h
  | .unassignedOpcode op h => op < 256 && reqWellFormed h
  | .shadowWrite hpn => hpn < 2 ^ 21
  | .targetedRefresh _ _ row => row < 32768
  | .openPageTimeout _ slot => slot < 160
  | .calUnitComplete _ hist => hist.all histWellFormed
  | .istStep _ bonds reads => istWellFormed bonds reads
  | .windowWorkStart _ tests => tests.all fun x => istWellFormed x.bonds x.reads
  | .bistComplete _ f _ l =>
    f.rows.all (fun r => r.1 < 136 && r.2.1 < 32) && (f.rows.map (·.2.2)).sum < 2 ^ 31 && l.all fun u => u.lanes.all histWellFormed
  | .mark frac => frac < 65536
  | .leaseExpiry _ _ lsid => lsid < 256
  | .shotClockExpiry seq => 1 ≤ seq && seq < 65536
  | .hkConversion _ r => match r.value with | some x => -2048 ≤ x && x ≤ 4095 | none => true
  | .eraseComplete failed => failed.all (· < 136)
  | .commandFragment m op frag bodyLen paramLen fragLen _ _ =>
    mgmtWellFormed m && op < 65536 && frag < 256 && bodyLen < 65536 && paramLen < 65536 && fragLen < 65536
  | .regRead m addr count => mgmtWellFormed m && addr < 2 ^ 24 && count < 256
  | .regWrite m addr values => mgmtWellFormed m && addr < 2 ^ 24 && values.length < 256
  | .pagemapRead m first _ count => mgmtWellFormed m && first < 2 ^ 32 && count < 65536
  | .pagemapUpdate m changes => mgmtWellFormed m && changes.all fun x => x.hpn < 2 ^ 21 && x.domain < 64 && x.ppn < 2 ^ 22 && x.kind < 16
  | .mirrorSet m hpn _ => mgmtWellFormed m && hpn < 2 ^ 21
  | .mirrorResolve m hpn granule _ => mgmtWellFormed m && hpn < 2 ^ 21 && granule < 2048
  | .benchDonate m hpns => mgmtWellFormed m && hpns.all (· < 2 ^ 21)
  | .queueConfigure m queue mask _ => mgmtWellFormed m && queue < 65536 && mask < 65536
  | .queueEnable m queue | .queueDisable m queue => mgmtWellFormed m && queue < 65536
  | .domainSet m _ _ ownerPort masks => mgmtWellFormed m && ownerPort < 256 && masks.length = 4
  | .regulationSet m reserve masters => mgmtWellFormed m && reserve < 256 && masters.length = 5
  | .beatSetNumber m mode number atNumber => mgmtWellFormed m && mode < 256 && number < 2 ^ 64 && atNumber < 2 ^ 64
  | .changeoverConfigure m _ period phase limit => mgmtWellFormed m && period < 64 && phase < 32 && limit < 64
  | .maintStart m kind tt idx => mgmtWellFormed m && kind < 256 && tt < 256 && idx < 65536
  | .maintStatus m first => mgmtWellFormed m && first < 65536
  | .maintAbort m id => mgmtWellFormed m && id < 65536
  | .faultLogRead m seqFrom count _ => mgmtWellFormed m && seqFrom < 65536 && count < 256
  | .faultAck m first last => mgmtWellFormed m && first < 65536 && last < 65536
  | .layerReset m layer _ _ => mgmtWellFormed m && layer < 256
  | .thermalConfigure m levels limit => mgmtWellFormed m && levels.length = 6 && levels.all (· < 256) && limit < 65536
  | .fwLoadBegin m len => mgmtWellFormed m && len < 2 ^ 32
  | .fwLoadChunk m offset data => mgmtWellFormed m && offset < 2 ^ 32 && data.length ≤ 1008
  | .lifecycleTransition m target phase _ _ x => mgmtWellFormed m && target < 256 && phase < 256 && x.intermediate.length < 65536 && x.device.length < 65536
  | .scorecardRead m first count _ => mgmtWellFormed m && first < 65536 && count < 256
  | .spdmMessage m code _ => mgmtWellFormed m && code < 256
  | .resetWarm m t | .fwActivate m _ t => mgmtWellFormed m && postWellFormed t
  | .bootBlock m kind offset len _ _ data _ => mgmtWellFormed m && kind < 256 && offset < 2 ^ 32 && len < 1024 && data.length = len
  | .identify m | .getStatus m | .fwLoadEnd m _ | .ownerKeySet m _ _ | .zeroize m => mgmtWellFormed m
  | .unassignedCommandOpcode m op => mgmtWellFormed m && op < 65536
  | .getCertificate _ slot offset len => slot < 8 && offset < 65536 && len < 65536
  | .challenge _ slot summary => slot < 256 && summary < 256
  | .getMeasurements _ index _ => index < 256
  | .portMaxRate _ rate => rate < 4
  | .dlyTap _ _ value => value < 128
  | .scClear first count => first < 65536 && count < 128
  | .registerWrite _ addr _ => addr < 2 ^ 24
  | .unsupportedMctpMessageType type => type < 128
  | .unsupportedSpdmRequest _ code => code < 256
  | .elementResult _ r => r.ecc < 4
  | .moverTakeQueue _ soft => soft < 3
  | .eyeScanComplete _ eyes => eyes.all fun e => e.length = 3
  | .istUnitDue _ overdue => overdue < 2 ^ 32
  | .powerOn _ | .brownout | .resetNAssert | .refclkLost | .tsSpeed _ _ _ | .tsTrain _ _ _ | .tsMap _ _ _ | .tsWake _ _ _
  | .bringupTimeout _ | .detectHoldoffExpiry _ | .cdrLockLost _ _ | .alignmentMarker _ _ _ | .streamStart _ | .enterLight _
  | .enterDeep _ | .retrainTimeout _ | .skipFlit _ _ | .skipSend _ | .fecCodeWord _ _ _ | .sleepReplyTimeout _
  | .txLightIdle _ | .txDeepIdle _ | .sleepMinimumEnd _ | .owedAckTimeout _ | .wakeAckTimeout _ | .streamStartTimeout _
  | .pktFlit _ _ | .idleFlit _ _ | .badFlit _ _ | .nakRepeat _ | .replayTimeout _
  | .doorbellTakesEffect _ | .fenceComplete _ | .trackerAllocate _ _ | .copierStart _ | .chunkCopy _ | .chunkHoldRetry _
  | .clearingComplete _ | .pagemapDrainComplete _ | .arbiterDecision _ _ _ | .readDataDecode _ _ _ _ | .atomicWriteback _ _
  | .refreshTick _ | .spreadVisit _ | .deadlineGuard _ _ | .caParityError _ _ _ | .softRowRepairDone _ | .delayApplyPoint _
  | .regTick | .queueLevelUpdate _ | .floorRecompute | .guaranteeScaled | .beatEdge _ _ | .beatMissing | .internalBeat
  | .beatLockTimeout | .freeRunTimeout | .windowBlock _ | .windowBlockLift _ | .windowClose _ | .calPatternFallback _
  | .clkPhaseStep _ | .tailCheck _ | .slotCheck _ | .copy _ | .fill _ | .gather _ | .scatter _
  | .scatterUpdate _ | .verify _ | .fenceDescriptor _ | .notifyDescriptor _ | .elementRetry _ _
  | .descriptorEnd _ | .recordWrite _ | .holdRequest _ _ _ | .holdGrant _ _ | .woundNotice _ | .oldValue _ _ _ | .prepare _ _ _
  | .prepareAnswer _ _ | .commit _ _ _ | .holdRelease _ _ _ | .holdWaitTimeout _ _ | .rowTrackerClear | .hkRoundEnd _ _
  | .selfRefreshEntry | .zeroizeComplete | .fwRecheck _ | .authLockoutEnd | .stagingClaimLapse | .bootClaimLapse
  | .getVersion _ | .getCapabilities _ | .negotiateAlgorithms _ _ | .getDigests _
  | .setEndpointId _ | .getEndpointId | .getMctpVersionSupport | .getMessageTypeSupport | .enec _ | .disec _ | .rstdaa
  | .setdasa _ _ | .setaasa | .setnewda _ | .getpid | .getbcr | .getdcr | .getstatus | .getmwl | .getmrl | .rstact _ | .bypass
  | .idcode | .samplePreload _ | .extest | .clamp | .highz | .trstN | .portEnableSet _ | .portEnableClear _ | .portRetrain _
  | .portRetrainFull _ | .chEnableSet _ | .chEnableClear _ | .srrGo _ | .sliceDrain _ _ | .moverEnable _ _ | .refreshMode _
  | .srRequestSet | .srRequestClear | .squelchDetect _ | .mgmtFault | .fetchFailed _ | .unassignedDescriptorOpcode _
  | .discardedVc2Header _ _ => true

end Sys2Proof
end

