-- ==== Sys2Proof/Certificates/Slice0/Obligations.lean ====
section
/-! DEFINITION. The statements for the provers. -/

open Sys2Proof Sys2Proof.Machine

/-! ## The machine -/

/-- A step takes the command at the front of the queue and is exec of it on the state with the queue's rest. -/
def Obligations.StepRunsFront : Prop :=
  ∀ (i : Instr) (rest : List Instr) (s : State), s.pending = i :: rest → step s = exec i { s with pending := rest }

/-- With no command waiting a nanosecond passes (the model's choice, logs 1 and 66): every port's transmitter sends what its lanes
have time for, the flits sent again and the NAK slots sent are counted, counters of time and the channels' own marks of time go on, and
but for a port of bring-up, which may leave its state, nothing else changes; with the rails off only the clock moves. -/
def Obligations.StepIdles : Prop :=
  ∀ s : State, s.pending = [] → ∃ t, step s = .next t ∧ t.ctl.now = s.ctl.now + 1 ∧ t.dram = s.dram ∧ t.pending = [] ∧
    ((∀ p : Fin 4, (s.ctl.ports[p]).link ≠ .train) →
      t.ctl = { s.ctl with now := s.ctl.now + 1, score := t.ctl.score, ports := t.ctl.ports, chans := t.ctl.chans }) ∧
    (s.ctl.power.stage = .off → t.ctl = { s.ctl with now := s.ctl.now + 1 }) ∧
    (s.ctl.power.stage ≠ .off → (∀ p : Fin 4, (s.ctl.ports[p]).link ≠ .speed ∧ (s.ctl.ports[p]).link ≠ .train ∧ (s.ctl.ports[p]).link ≠ .laneMap) →
      ∀ p : Fin 4, t.ctl.ports[p] =
        { sendPort s.ctl.ports[p] with line := { (sendPort s.ctl.ports[p]).line with again := 0, naks := 0 } })

/-- The state after power-on reset holds the reset values of the register map, no counter, no waiting command, and DRAM in
its canonical form. -/
def Obligations.ResetValues : Prop :=
  State.reset.memOk ∧ State.reset.pending = [] ∧ State.reset.ctl.score = [] ∧ State.reset.ctl.snapshot = [] ∧
  (∀ p : Fin 4, (State.reset.ctl.ports[p]).enable = true ∧ (State.reset.ctl.ports[p]).maxRate = 2 ∧
    (State.reset.ctl.ports[p]).domainMask = 1 ∧ (State.reset.ctl.ports[p]).poolLimit = 1024 ∧ (State.reset.ctl.ports[p]).link = .detect) ∧
  (∀ c : Fin 32, (State.reset.ctl.chans[c]).enable = false ∧ (State.reset.ctl.chans[c]).actAlert = 2048 ∧
    (State.reset.ctl.chans[c]).actMust = 4096 ∧ (State.reset.ctl.chans[c]).throttleFactor = 256 ∧ (State.reset.ctl.chans[c]).sparesFree = 4) ∧
  (∀ m : Fin 16, (State.reset.ctl.movers[m]).enable = true ∧ (State.reset.ctl.movers[m]).maxInflight = 128) ∧
  (∀ r : Fin 4, (State.reset.ctl.regions[r]).arbBase = 0x1AA ∧ (State.reset.ctl.regions[r]).qlHigh = 552) ∧
  State.reset.ctl.umpire.nextSeq = 1 ∧ State.reset.ctl.umpire.shotClock3 = 1000 ∧ State.reset.ctl.therm.creditAllow = 4096 ∧
  State.reset.ctl.power.bootSource = 7 ∧ State.reset.ctl.power.regScale = 65536 ∧ State.reset.ctl.beat.co.period = 32

/-- No step breaks the canonical form of DRAM, whatever the command. -/
def Obligations.StepsKeepMemory : Prop := ∀ s t : State, s.memOk → step s = .next t → t.memOk

/-- Every command answers a next state, and none touches the commands that wait behind it. -/
def Obligations.CommandsKeepQueue : Prop := ∀ (i : Instr) (s : State), ∃ t, exec i s = .next t ∧ t.pending = s.pending

/-! ## Rails, pins and clocks -/

/-- The rails come up into reset, a brownout loses everything, RESET_N released on a stack whose self-tests pass leaves it
waiting for boot blocks with every layer on but those retired, and every channel enabled, and RESET_N asserted on a running stack is a warm
reset. -/
def Obligations.RailsAndResetPin : Prop :=
  (∀ (a : Fin 4) (s : State), s.ctl.power.stage = .off →
    ∃ t, exec (.powerOn a) s = .next t ∧ t.ctl.power.stage = .inReset ∧ t.ctl.power.addrSel = a ∧ t.dram = [] ∧
      t.ctl.score = [] ∧ t.ctl.beat.number = 0 ∧ t.ctl.life.slots = s.ctl.life.slots.map dropGenerated ∧ t.ctl.life.thermA = s.ctl.life.thermA ∧
      t.ctl.life.nonce = Config.drbg s.ctl.draws) ∧
  (∀ s : State, ∃ t, exec .brownout s = .next t ∧ t.ctl.power.stage = .off ∧ t.dram = [] ∧ t.ctl.umpire.class5 = false ∧
    t.ctl.umpire.log = [] ∧ t.ctl.life.fwRunning = false ∧ t.ctl.life.serial = s.ctl.life.serial) ∧
  (∀ (x : Post) (s : State), s.ctl.power.stage = .inReset → s.ctl.power.refclk = true → s.ctl.power.resetCause ≠ 4 →
    s.ctl.life.repairA = s.ctl.life.repairB → recordOk s.ctl.life.repairA = true → s.ctl.life.thermA = s.ctl.life.thermB →
    thermoValid s.ctl.life.thermA = true → lcState s.ctl.life ≤ 2 → s.ctl.life.transition = none →
    (∀ i, s.ctl.life.slotInUse = some i → slotState s.ctl.life.slots[i] = .certified) →
    x.romOk = true → x.pagemapOk = true → x.trackerOk = true → x.mgmtOk = true → x.controlOk = true → x.badBonds = [] →
    x.railLayer = none → x.keyOk = true →
    ∃ t, exec (.resetNDeassert x) s = .next t ∧ t.ctl.power.stage = .boot ∧ t.ctl.power.holdReason = 0 ∧ t.ctl.power.resetN = true ∧
      (∀ i : Fin 17, t.ctl.power.layers[i] = if s.ctl.power.layers[i] = 3 then 3 else 2) ∧ (∀ c : Fin 32, (t.ctl.chans[c]).enable = true) ∧ t.dram = s.dram) ∧
  (∀ s : State, s.ctl.power.stage = .ready → s.ctl.power.everReady = true → s.ctl.umpire.class5 = false →
    ∃ t, exec .resetNAssert s = .next t ∧ t.ctl.power.stage = .heldReset ∧ t.ctl.power.resetCause = 1 ∧ t.ctl.power.resetN = false ∧
      t.ctl.trk = [] ∧ t.ctl.life.fwRunning = false ∧ t.ctl.power.lastResetBeat = s.ctl.beat.number)

/-- REFCLK lost while the stack waits for boot blocks raises the class-4 fault, takes every link down, puts every rank to sleep and
holds the sequence; lost in a data-ready stack it does all but the hold; back again, it ends the HOLD of a warm start with the
retained firmware running, or starts the sequence again with DRAM lost, and outside HOLD it only unlocks the clock; a thermal
restart begins the sequence again when every die is below its re-arm level; the stack becomes data-ready. -/
def Obligations.ClockRestartReady : Prop :=
  (∀ s : State, s.ctl.power.stage = .boot → s.ctl.power.refclk = true →
    ∃ t, exec .refclkLost s = .next t ∧ t.ctl.power.refclk = false ∧ t.ctl.power.stage = .hold ∧ t.ctl.power.holdReason = 9 ∧
      t.ctl.power.pllHold = true ∧ t.ctl.power.ranksAsleep = true ∧ (∀ p : Fin 4, (t.ctl.ports[p]).link = .detect) ∧ t.dram = s.dram) ∧
  (∀ s : State, s.ctl.power.stage = .ready → s.ctl.power.refclk = true →
    ∃ t, exec .refclkLost s = .next t ∧ t.ctl.power.refclk = false ∧ t.ctl.power.stage = .ready ∧ t.ctl.power.pllHold = true ∧
      t.ctl.power.ranksAsleep = true ∧ (∀ p : Fin 4, (t.ctl.ports[p]).link = .detect) ∧ 4 ≤ stackClass t.ctl.umpire ∧ t.dram = s.dram) ∧
  (∀ (x : Post) (s : State), ¬(s.ctl.power.stage = .hold ∧ s.ctl.power.holdReason = 9) →
    ∃ t, exec (.refclkPresent x) s = .next t ∧
      t = { s with ctl := { s.ctl with power := { s.ctl.power with refclk := true, pllHold := false } } }) ∧
  (∀ (x : Post) (i : Firmware) (s : State), s.ctl.power.stage = .hold → s.ctl.power.holdReason = 9 → s.ctl.power.warmStart = true →
    s.ctl.umpire.class5 = false →
    s.ctl.power.resetCause ≠ 3 → s.ctl.power.deferred = [] → s.ctl.life.image = some i → imageOk i s.ctl.life = true →
    x.romOk = true → x.pagemapOk = true → x.trackerOk = true → x.mgmtOk = true →
    ∃ t, exec (.refclkPresent x) s = .next t ∧ t.ctl.power.stage = .starting ∧ t.ctl.power.holdReason = 0 ∧ t.ctl.power.refclk = true ∧
      t.ctl.life.fwRunning = true ∧ t.ctl.life.image = some i ∧ t.ctl.pm.entries = s.ctl.pm.restore ∧ t.dram = s.dram) ∧
  (∀ (x : Post) (s : State), s.ctl.power.stage = .hold → s.ctl.power.holdReason = 9 → s.ctl.power.warmStart = false →
    s.ctl.umpire.class5 = false →
    ∃ t, exec (.refclkPresent x) s = .next t ∧ t.dram = [] ∧ t.pending = s.pending) ∧
  (∀ (x : Post) (s : State), s.ctl.power.stage = .shutdown → s.ctl.power.resetN = true → s.ctl.power.refclk = false →
    s.ctl.therm.restartRefused = false → s.ctl.umpire.class5 = false →
    (∀ d : Fin 18, ∃ e : Int, s.ctl.therm.eff[d] = some e ∧ e < 10 * ((s.ctl.therm.levels.toList.getD (if d.val = 0 then 2 else 5) 0 : Nat) : Int) - 200) →
    ∃ t, exec (.thermalRestart x) s = .next t ∧ t.ctl.therm.thermtripN = true ∧ t.ctl.therm.shutdown = false ∧
      t.ctl.power.resetCause = 4 ∧ t.ctl.power.stage = .hold ∧ t.ctl.power.holdReason = 9 ∧ t.dram = [] ∧
      t.ctl.umpire.nextSeq = s.ctl.umpire.nextSeq ∧ t.ctl.therm.levels = s.ctl.therm.levels) ∧
  (∀ (us : Nat) (s : State), s.ctl.power.stage = .starting → s.ctl.life.fwRunning = true → s.ctl.power.refclk = true →
    s.ctl.life.transition = none →
    ∃ t, exec (.dataReady us) s = .next t ∧ t.ctl.power.stage = .ready ∧ t.ctl.power.dataReadyUs = us ∧
      t.ctl.power.changeoversRun = true ∧ t.ctl.power.ranksAsleep = false ∧ t.dram = s.dram)

/-! ## Warm reset, firmware and boot -/

/-- RESET_WARM and FW_ACTIVATE reset the stack warm after their reply; a management fault is logged and firmware restarts
without a reset of the base die; a boot block that begins a load claims it. -/
def Obligations.WarmResetAndBoot : Prop :=
  (∀ (m : Mgmt) (x : Post) (s : State), served 0xF0 m s → s.ctl.life.transition = none → s.ctl.life.zeroizing = false →
    s.ctl.power.deferred = [] →
    ∃ t, exec (.resetWarm m x) s = .next t ∧ t.ctl.power.resetCause = 2 ∧ t.ctl.trk = [] ∧ t.ctl.umpire.class4 = false ∧
      t.ctl.power.ranksAsleep = true ∧ (∀ p : Fin 4, (t.ctl.ports[p]).link = .detect)) ∧
  (∀ (m : Mgmt) (x : Post) (i : Firmware) (s : State), served 0x83 m s → s.ctl.life.transition = none →
    s.ctl.life.zeroizing = false → s.ctl.power.deferred = [] → s.ctl.mgr.staging.claim = none → s.ctl.mgr.staging.verified = some i →
    imageOk i s.ctl.life = true → s.ctl.power.refclk = true → (∀ c : Fin 32, (s.ctl.chans[c]).au = []) →
    x.romOk = true → x.pagemapOk = true → x.trackerOk = true → x.mgmtOk = true →
    ∃ t, exec (.fwActivate m true x) s = .next t ∧ t.ctl.power.resetCause = 3 ∧ t.ctl.life.image = some i ∧ t.ctl.life.fwRunning = true ∧
      t.ctl.trk = [] ∧ (∀ p : Fin 4, (t.ctl.ports[p]).link = .detect)) ∧
  (∀ s : State, s.ctl.power.stage ≠ .off → s.ctl.life.fwRunning = true → s.ctl.power.deferred = [] →
    ∃ t, exec .mgmtFault s = .next t ∧ t.ctl.power.resetCause = 5 ∧ t.ctl.mgr.parked = [] ∧ t.ctl.mgr.staging = {} ∧ t.dram = s.dram) ∧
  (∀ (m : Mgmt) (len : Nat) (lay fill : Bool) (data : List Byte) (i : Image) (s : State), reaches m.via s.ctl = true →
    s.ctl.power.stage = .boot → s.ctl.umpire.class5 = false → s.ctl.life.fwRunning = false → foreign m = false → framed m = true → m.env = none →
    m.paramLen = 16 → m.frag = 0 → m.fragLen = m.bodyLen →
    s.ctl.mgr.bootLoad.claim = none → 2049 ≤ len → len ≤ 786432 →
    ∃ t, exec (.bootBlock m 1 len 0 lay fill data i) s = .next t ∧ t.ctl.mgr.bootLoad = { claim := some m.via, len := len } ∧
      t.ctl.pm.entries = [] ∧ t.ctl.pm.layout = .blank ∧ t.ctl.pm.restore = s.ctl.pm.restore ∧ t.dram = s.dram) ∧
  (∀ s : State, ∃ t, exec .bootClaimLapse s = .next t ∧ t.ctl.mgr.bootLoad.claim = none ∧
      t.ctl.mgr.bootLoad.len = s.ctl.mgr.bootLoad.len ∧ onlyLogic s t) ∧
  (∀ s : State, ∃ t, exec .stagingClaimLapse s = .next t ∧ t.ctl.mgr.staging.claim = none ∧
      t.ctl.mgr.staging.bytes = s.ctl.mgr.staging.bytes ∧ onlyLogic s t)

/-! ## Life cycle and ownership -/

/-- In MANUFACTURE a LIFECYCLE_TRANSITION to the next state blows a thermometer bit of both copies; an owner key is written
to the next slot and kills the one before it; ZEROIZE is accepted with an operation, and its end clears DRAM; the erase of a
running SERVICE entry ends with every granule zero. -/
def Obligations.LifeCycleCommands : Prop :=
  (∀ (m : Mgmt) (e : Envelope) (h : BitVec 384) (cs : Bool) (x : Chain) (s : State), served 0x90 m s → m.env = some e →
    scrapped s.ctl.life = false → s.ctl.life.thermA = 0 → s.ctl.life.lockout = false → envelopeOk false e s.ctl = true →
    s.ctl.life.transition = none → s.ctl.life.zeroizing = false →
    ∃ t, exec (.lifecycleTransition m 1 0 h cs x) s = .next t ∧ t.ctl.life.thermA = 1 ∧ t.ctl.life.thermB = s.ctl.life.thermB ||| 1 ∧
      t.ctl.life.authRun = 0 ∧ t.dram = s.dram) ∧
  (∀ (m : Mgmt) (e : Envelope) (h : BitVec 384) (cs : Bool) (s : State), served 0x91 m s → m.env = some e →
    lcState s.ctl.life = 2 → s.ctl.life.owners.length < 4 → (liveOwner s.ctl.life).isSome = true → s.ctl.life.lockout = false →
    envelopeOk true e s.ctl = true →
    ∃ t, exec (.ownerKeySet m h cs) s = .next t ∧
      t.ctl.life.owners = s.ctl.life.owners.map (fun o => { o with killed := true }) ++ [{ digest := h, countersign := cs, killed := false }] ∧
      t.dram = s.dram) ∧
  (∀ (m : Mgmt) (e : Envelope) (s : State), served 0x92 m s → m.env = some e → (liveOwner s.ctl.life).isSome = true →
    s.ctl.life.lockout = false → envelopeOk true e s.ctl = true → s.ctl.life.zeroizing = false → s.ctl.life.transition = none →
    ∃ t, exec (.zeroize m) s = .next t ∧ t.ctl.life.zeroizing = true ∧ t.ctl.life.zeroizeOp = s.ctl.mgr.nextOp ∧
      (∀ r : Fin 4, (t.ctl.regions[r]).ready = []) ∧ t.dram = s.dram) ∧
  (∀ s : State, s.ctl.life.zeroizing = true → planeIdle s.ctl = true →
    ∃ t, exec .zeroizeComplete s = .next t ∧ t.ctl.life.zeroizing = false ∧ (∀ c : Fin 32, (t.ctl.chans[c]).wbuf = [] ∧ (t.ctl.chans[c]).au = []) ∧
      (∀ a, s.memOk → layerOn s.ctl (a / 81920 / 16384) = true →
        (s.ctl.chans[sliceChan (a / 81920 / 16384)]).sliceFailed.getLsbD (sliceRank (a / 81920 / 16384)) = false → readByte t.dram a = 0)) ∧
  (∀ (failed : List Nat) (s : State), s.ctl.life.transition = some 3 → s.ctl.power.stage = .ready → scrapped s.ctl.life = false →
    ∃ t, exec (.eraseComplete failed) s = .next t ∧ t.dram = [] ∧ t.ctl.life.transition = none ∧
      t.ctl.life.thermA = s.ctl.life.thermA ||| BitVec.ofNat 24 (2 ^ thermoValue s.ctl.life.thermA) ∧
      t.ctl.life.eraseLatch = (latchOk (blowThermometer s.ctl.life) && !s.ctl.umpire.class5))

/-- The runtime firmware check is counted; a lockout ends; the masks and the owner port are set together; an image that is
staged whole is verified, and its chunks arrive in order. -/
def Obligations.FirmwareAndDomains : Prop :=
  (∀ s : State, s.ctl.life.fwRunning = true →
    ∃ t, exec (.fwRecheck true) s = .next t ∧ scoreGet t.ctl 26 = Nat.min (scoreGet s.ctl 26 + 1) (2 ^ 32 - 1) ∧ t.ctl.life = s.ctl.life ∧ onlyLogic s t) ∧
  (∀ s : State, ∃ t, exec .authLockoutEnd s = .next t ∧ t.ctl.life.lockout = false ∧
      (s.ctl.life.lockout = true → t.ctl.life.authRun = 0) ∧ onlyLogic s t) ∧
  (∀ (m : Mgmt) (e : Envelope) (valid : BitVec 4) (owner : Fin 4) (masks : List (BitVec 64)) (s : State), served 0x40 m s →
    m.env = some e → (liveOwner s.ctl.life).isSome = true → s.ctl.life.lockout = false → envelopeOk true e s.ctl = true →
    ∃ t, exec (.domainSet m valid true owner.val masks) s = .next t ∧ t.ctl.life.ownerPort = some owner ∧
      (∀ p : Fin 4, (t.ctl.ports[p]).domainMask = if valid.getLsbD p.val then masks.getD p.val 0 else (s.ctl.ports[p]).domainMask)) ∧
  (∀ (m : Mgmt) (len : Nat) (s : State), served 0x80 m s → 2049 ≤ len → len ≤ 786432 → s.ctl.mgr.staging.claim = none →
    ∃ t, exec (.fwLoadBegin m len) s = .next t ∧ t.ctl.mgr.staging = { claim := some m.via, len := len, bytes := [], verified := none } ∧ onlyLogic s t) ∧
  (∀ (m : Mgmt) (data : List Byte) (s : State), served 0x81 m s → s.ctl.mgr.staging.claim = some m.via → 1 ≤ data.length →
    data.length ≤ 1000 → s.ctl.mgr.staging.bytes.length + data.length ≤ s.ctl.mgr.staging.len →
    ∃ t, exec (.fwLoadChunk m s.ctl.mgr.staging.bytes.length data) s = .next t ∧ t.ctl.mgr.staging.bytes = s.ctl.mgr.staging.bytes ++ data ∧
      t.ctl.mgr.staging.claim = some m.via ∧ onlyLogic s t) ∧
  (∀ (m : Mgmt) (i : Image) (s : State), served 0x82 m s → s.ctl.mgr.staging.len ≠ 0 →
    s.ctl.mgr.staging.bytes.length = s.ctl.mgr.staging.len → imageOk { bytes := s.ctl.mgr.staging.bytes, found := i } s.ctl.life = true →
    ∃ t, exec (.fwLoadEnd m i) s = .next t ∧ t.ctl.mgr.staging.verified = some { bytes := s.ctl.mgr.staging.bytes, found := i } ∧ t.ctl.mgr.staging.claim = none ∧ onlyLogic s t)

/-! ## Commands that answer -/

/-- IDENTIFY, GET_STATUS, SCORECARD_READ and FAULT_LOG_READ answer with what the state holds and change nothing else. -/
def Obligations.StatusAnswers : Prop :=
  (∀ (m : Mgmt) (s : State), served 0x01 m s →
    ∃ t, exec (.identify m) s = .next t ∧ answers 0x01 m 0 (identifyPayload (takenUp 0x01 m s.ctl)) s t) ∧
  (∀ (m : Mgmt) (s : State), served 0x02 m s →
    ∃ t, exec (.getStatus m) s = .next t ∧ answers 0x02 m 0 (statusPayload (takenUp 0x02 m s.ctl)) s t) ∧
  (∀ (m : Mgmt) (first count : Nat) (s : State), served 0xA0 m s → 1 ≤ count → count ≤ 125 →
    ∃ t, exec (.scorecardRead m first count true) s = .next t ∧
      answers 0xA0 m 0 (toBytes 8 s.ctl.beat.snapshotBeat.toNat ++
        (List.range count).flatMap fun i => toBytes 8 (sparseGet (fun _ => 0) s.ctl.snapshot (first + i))) s t) ∧
  (∀ (m : Mgmt) (count : Nat) (s : State), served 0x70 m s → 1 ≤ count → count ≤ 31 →
    ∃ t, exec (.faultLogRead m 0 count false) s = .next t ∧
      answers 0x70 m 0 (toBytes 2 (s.ctl.umpire.log.take count).length ++ toBytes 14 s.ctl.umpire.nextSeq ++
        (s.ctl.umpire.log.take count).flatMap fun e => toBytes 32 (entryBits e)) s t)

/-- FAULT_ACK acknowledges the open entries of its range and no others; a shot clock that expires raises its entry by one
class; THERMAL_CONFIGURE sets levels within their ranges; a command without an assigned opcode ends UNSUPPORTED, and in-band
WRONG_STATE before firmware runs; a fragment that is not the last is acknowledged and kept. -/
def Obligations.UmpireAndLevels : Prop :=
  (∀ (m : Mgmt) (first last : Nat) (s : State), served 0x71 m s → first ≠ 0 → last ≠ 0 →
    ∃ t, exec (.faultAck m first last) s = .next t ∧ t.ctl.umpire.log.length = s.ctl.umpire.log.length ∧ t.dram = s.dram ∧
      (∀ e ∈ t.ctl.umpire.log, inSeqRange first last e = true → isOpen e = false) ∧
      (∀ i (h : i < s.ctl.umpire.log.length), inSeqRange first last s.ctl.umpire.log[i] = false →
        t.ctl.umpire.log[i]? = some s.ctl.umpire.log[i])) ∧
  (∀ (e : LogEntry) (s : State), s.ctl.umpire.log = [e] → s.ctl.umpire.overflow = none → isOpen e = true → e.clock.isSome = true →
    e.cls = 2 → e.scopeType = 0 → s.ctl.umpire.class4 = false → s.ctl.umpire.class5 = false → s.ctl.power.everReady = true →
    ∃ t, exec (.shotClockExpiry e.seq) s = .next t ∧
      t.ctl.umpire.log = [{ e with cls := 3, raiseCause := 2, raisedBy := 0, clock := some s.ctl.umpire.shotClock3 }] ∧ t.dram = s.dram) ∧
  (∀ (m : Mgmt) (s : State), served 0x73 m s →
    ∃ t, exec (.thermalConfigure m [90, 100, 110, 80, 90, 100] 500) s = .next t ∧
      t.ctl.therm.levels = #v[90, 100, 110, 80, 90, 100] ∧ t.ctl.therm.powerLimit = 500 ∧ onlyLogic s t) ∧
  (∀ (m : Mgmt) (op : Nat) (s : State), reaches m.via s.ctl = true → foreign m = false → opAvailable op m.via = false →
    (s.ctl.life.fwRunning = true ∨ m.via = .i3c) →
    ∃ t, exec (.unassignedCommandOpcode m op) s = .next t ∧
      t = { s with ctl := replyStatus (refOf op m) 8 (spendNonce m (takenUp op m s.ctl)) }) ∧
  (∀ (m : Mgmt) (op : Nat) (p : Fin 4) (s : State), reaches m.via s.ctl = true → opAvailable op m.via = false → m.via = .port p →
    s.ctl.life.fwRunning = false → s.ctl.umpire.class5 = false → s.ctl.power.stage ≠ .scrapped →
    ∃ t, exec (.unassignedCommandOpcode m op) s = .next t ∧
      t = { s with ctl := replyStatus (refOf op m) 4 (spendNonce m (takenUp op m s.ctl)) }) ∧
  (∀ (m : Mgmt) (op bodyLen paramLen : Nat) (signed : Bool) (s : State), reaches m.via s.ctl = true →
    foreign m = false → gate op { m with env := none, bodyLen := 0, paramLen := 0 } s.ctl = none → bodyLen ≤ 16128 →
    ∃ t, exec (.commandFragment m op 0 bodyLen paramLen 1008 signed false) s = .next t ∧
      asmOf m.via t.ctl = some { opcode := op, seq := m.seq, bodyLen := bodyLen, paramLen := paramLen, signed := signed, next := 1, got := 1008 } ∧
      onlyLogic s t)

/-! ## Regulation and the beat -/

/-- BEAT_SET_NUMBER parks with its load, CHANGEOVER_CONFIGURE leaves a set for the next mark, REGULATION_SET that the floor
bears takes effect with the scale at 1. -/
def Obligations.BeatAndRegulationSets : Prop :=
  (∀ (m : Mgmt) (n : Nat) (s : State), served 0x50 m s → n % 1024 = 0 → n < 2 ^ 64 → s.ctl.beat.state = .locked → s.ctl.beat.load = none →
    ∃ t, exec (.beatSetNumber m 0 n 0) s = .next t ∧
      t.ctl.beat.load = some { at_ := none, number := BitVec.ofNat 64 n, via := m.via, tag := m.tag, seq := m.seq, since := s.ctl.now } ∧
      t.ctl.mgr.parked = s.ctl.mgr.parked ++ [refOf 0x50 m] ∧ t.ctl.beat.number = s.ctl.beat.number ∧ onlyLogic s t) ∧
  (∀ (m : Mgmt) (s : State), served 0x51 m s → s.ctl.beat.refreshMode = false →
    ∃ t, exec (.changeoverConfigure m true 16 3 20) s = .next t ∧
      t.ctl.beat.coPending = some { enable := true, period := 16, phase := 3, limit := 20 } ∧ t.ctl.beat.co = s.ctl.beat.co ∧ onlyLogic s t) ∧
  (∀ (m : Mgmt) (x : RegMaster) (reserve : Nat) (s : State), served 0x41 m s → reserve ≤ 160 →
    x = { latTarget := 0, minBw := 0, realtime := false, tc1Rate := 160, tc1Burst := 4096 } →
    ∃ t, exec (.regulationSet m reserve [x, x, x, x, x]) s = .next t ∧ t.ctl.power.regScale = 65536 ∧ t.ctl.power.maintReserve = reserve ∧
      (∀ p : Fin 4, (t.ctl.ports[p]).minBw = 0 ∧ (t.ctl.ports[p]).tc1Burst = 4096 ∧ (t.ctl.ports[p]).realtime = false) ∧ onlyLogic s t)

/-! ## Ports: bring-up, retrains and markers -/

/-- Signal on four lanes ends DETECT, valid TS_SPEED blocks end SPEED, the error window judges a lane, a hold in DETECT ends,
PORT.ENABLE is set, and PORT.MAX_RATE is written on a disabled port and rejected on an enabled one. -/
def Obligations.PortBringUp : Prop :=
  (∀ (p : Fin 4) (lanes : Nat) (s : State), (s.ctl.ports[p]).enable = true → (s.ctl.ports[p]).link = .detect →
    (s.ctl.ports[p]).holdoff = false → 4 ≤ lanes → portsRun s.ctl = true →
    ∃ t, exec (.signalDetect p lanes) s = .next t ∧ (t.ctl.ports[p]).link = .speed ∧ (t.ctl.ports[p]).rate = 0 ∧
      (∀ l : Fin 17, ((t.ctl.ports[p]).rx[l]).tsCount = 0 ∧ ((t.ctl.ports[p]).rx[l]).laneId = none ∧ ((t.ctl.ports[p]).rx[l]).judged = none) ∧
      onlyPort p s t) ∧
  (∀ (p : Fin 4) (l : Fin 17) (b : Block) (x : Nat) (inv : Bool) (s : State), (s.ctl.ports[p]).link = .speed → tsBlock b = some (x, inv) →
    tsType x = 1 → ∃ t, exec (.tsSpeed p l b) s = .next t ∧ ((t.ctl.ports[p]).rx[l]).laneId = some (tsLaneId x) ∧
      ((t.ctl.ports[p]).rx[l]).tsCount = ((s.ctl.ports[p]).rx[l]).tsCount + 1 ∧ ((t.ctl.ports[p]).rx[l]).polarityInv = inv ∧
      (tsRole x = 2 → (s.ctl.ports[p]).badRole = false → (∀ k : Fin 17, 8 ≤ ((s.ctl.ports[p]).rx[k]).tsCount) →
        16 ≤ (s.ctl.ports[p]).doneSent → tsDone x = true → chosenRate (s.ctl.ports[p]) (tsRateCap x) ≠ 0 →
        (t.ctl.ports[p]).link = .train ∧ (t.ctl.ports[p]).rate = chosenRate (s.ctl.ports[p]) (tsRateCap x)) ∧
      onlyPort p s t) ∧
  (∀ (p : Fin 4) (l : Fin 17) (errs : Nat) (lock ok : Bool) (s : State), (s.ctl.ports[p]).link = .train →
    ∃ t, exec (.prbsCheckComplete p l errs lock ok) s = .next t ∧ (t.ctl.ports[p]).link = .train ∧
      (((t.ctl.ports[p]).rx[l]).judged = some true ↔
        errs ≤ 16 ∧ lock = true ∧ ok = true ∧ ((s.ctl.ports[p]).rx[l]).failing = false ∧ ((s.ctl.ports[p]).rx[l]).judged ≠ some false) ∧
      onlyPort p s t) ∧
  (∀ (p : Fin 4) (s : State), ∃ t, exec (.detectHoldoffExpiry p) s = .next t ∧ (t.ctl.ports[p]).holdoff = false ∧
      (t.ctl.ports[p]).link = (s.ctl.ports[p]).link ∧ onlyPort p s t) ∧
  (∀ (p : Fin 4) (s : State), ∃ t, exec (.portEnableSet p) s = .next t ∧ (t.ctl.ports[p]).enable = true ∧
      (t.ctl.ports[p]).failedAttempts = 0 ∧ (t.ctl.ports[p]).link = (s.ctl.ports[p]).link ∧ onlyPort p s t) ∧
  (∀ (p : Fin 4) (r : Nat) (s : State), r = 1 ∨ r = 2 →
    ∃ t, exec (.portMaxRate p r) s = .next t ∧
      ((s.ctl.ports[p]).enable = false → (t.ctl.ports[p]).maxRate = r ∧ (t.ctl.ports[p]).fallback56 = false ∧ onlyPort p s t) ∧
      ((s.ctl.ports[p]).enable = true → (s.ctl.ports[p]).maxRate ≠ r → t.ctl.power.configReject = true ∧ t.ctl.ports = s.ctl.ports ∧
        t.ctl = { s.ctl with power := { s.ctl.power with configReject := true, configRejectAddr := t.ctl.power.configRejectAddr } } ∧ onlyLogic s t))

/-- A TS_TRAIN block with DONE carries RX_GOOD, matching TS_MAP blocks are counted by block time and the sixteenth
starts DESKEW once sixteen frames were sent, TS_WAKE
blocks are counted at a sleeping receiver, a marker aligns its lane, and STREAM_START restarts the flit stream. -/
def Obligations.TrainMapAndStream : Prop :=
  (∀ (p : Fin 4) (l : Fin 17) (b : Block) (x : Nat) (s : State), (s.ctl.ports[p]).link = .train →
    tsBlock b = some (x, ((s.ctl.ports[p]).rx[l]).polarityInv) → tsType x = 2 → allJudged (s.ctl.ports[p]) = false →
    ∃ t, exec (.tsTrain p l b) s = .next t ∧ (t.ctl.ports[p]).link = .train ∧
      (t.ctl.ports[p]).partnerGood = (if tsDone x then tsRxGood x else (s.ctl.ports[p]).partnerGood) ∧
      (t.ctl.ports[p]).rx = (s.ctl.ports[p]).rx ∧ onlyPort p s t) ∧
  (∀ (p : Fin 4) (l : Fin 17) (b : Block) (x : Nat) (s : State), (s.ctl.ports[p]).link = .laneMap →
    tsBlock b = some (x, ((s.ctl.ports[p]).rx[l]).polarityInv) → tsType x = 3 → newTime (s.ctl.ports[p]) x = true →
    laneMap (widthBound (s.ctl.ports[p]) (s.ctl.ports[p]).txMap) (tsRxGood x) = some (s.ctl.ports[p]).txMap → mapMatches (s.ctl.ports[p]).rxMap x = true →
    ∃ t, exec (.tsMap p l b) s = .next t ∧ (t.ctl.ports[p]).mapMatches = (s.ctl.ports[p]).mapMatches + 1 ∧
      (t.ctl.ports[p]).link = (if 15 ≤ (s.ctl.ports[p]).mapMatches ∧ 16 ≤ (s.ctl.ports[p]).doneSent then .deskew else .laneMap) ∧
      (t.ctl.ports[p]).txMap = (s.ctl.ports[p]).txMap ∧ onlyPort p s t) ∧
  (∀ (p : Fin 4) (l : Fin 17) (b : Block) (x : Nat) (s : State), (s.ctl.ports[p]).link = .active → (s.ctl.ports[p]).rxSleep ≠ .active →
    tsBlock b = some (x, ((s.ctl.ports[p]).rx[l]).polarityInv) → tsType x = 4 →
    ∃ t, exec (.tsWake p l b) s = .next t ∧ (t.ctl.ports[p]).wakeBlocks = (s.ctl.ports[p]).wakeBlocks + 1 ∧
      (t.ctl.ports[p]).link = .active ∧ onlyPort p s t) ∧
  (∀ (p : Fin 4) (l : Fin 17) (b : Option Block) (x : Nat) (s : State), ((s.ctl.ports[p]).rx[l]).state = .active →
    amRead ((s.ctl.ports[p]).rx[l]) b = some x → amFits (s.ctl.ports[p]) l x = true → (s.ctl.ports[p]).rxSleep = .active →
    (s.ctl.ports[p]).link = .deskew ∨ rxOpen (s.ctl.ports[p]) = true →
    ∃ t, exec (.alignmentMarker p l b) s = .next t ∧ ((t.ctl.ports[p]).rx[l]).amMissed = 0 ∧
      ((s.ctl.ports[p]).link = .deskew → ((t.ctl.ports[p]).rx[l]).amSeen = true) ∧
      ((s.ctl.ports[p]).link = .active → (t.ctl.ports[p]).link = .active ∧
        (t.ctl.ports[p]).rxSleep = (if lowActive (s.ctl.ports[p]) = some l ∧ bitsOf x 64 4 = 2 then .light
          else if lowActive (s.ctl.ports[p]) = some l ∧ bitsOf x 64 4 = 3 then .deep else .active)) ∧ onlyPort p s t) ∧
  (∀ (p : Fin 4) (l : Fin 17) (s : State), ((s.ctl.ports[p]).rx[l]).state = .active → rxOpen (s.ctl.ports[p]) = true →
    ((s.ctl.ports[p]).rx[l]).amMissed < 2 →
    ∃ t, exec (.alignmentMarker p l none) s = .next t ∧ ((t.ctl.ports[p]).rx[l]).amMissed = ((s.ctl.ports[p]).rx[l]).amMissed + 1 ∧
      (t.ctl.ports[p]).link = .active ∧ scoreGet t.ctl (laneIdx p l.val 2) = Nat.min (scoreGet s.ctl (laneIdx p l.val 2) + 1) (2 ^ 16 - 1) ∧
      onlyPort p s t) ∧
  (∀ (p : Fin 4) (s : State), ((s.ctl.ports[p]).link = .deskew ∧ deskewDone (s.ctl.ports[p]) = true) ∨ (s.ctl.ports[p]).link = .linkInit ∨
      (s.ctl.ports[p]).link = .active →
    ∃ t, exec (.streamStart p) s = .next t ∧ (t.ctl.ports[p]).rxSleep = .active ∧ (t.ctl.ports[p]).awaitStart = false ∧
      (t.ctl.ports[p]).rxFlits = [] ∧ (t.ctl.ports[p]).rxLine = [] ∧ (t.ctl.ports[p]).partialLen = 0 ∧ (t.ctl.ports[p]).rxCw = 0 ∧
      (t.ctl.ports[p]).link = (if (s.ctl.ports[p]).link = .deskew then .linkInit else (s.ctl.ports[p]).link) ∧ onlyPort p s t)

/-- A CDR loss marks its lane failing and starts a retrain, as PORT.RETRAIN does; the seventeenth retrain within a second, a
retrain's timeout, a full retrain, a cleared PORT.ENABLE and the timeout of a bring-up state send the port to DETECT. -/
def Obligations.RetrainsAndDetect : Prop :=
  (∀ (p : Fin 4) (l : Fin 17) (s : State), rxOpen (s.ctl.ports[p]) = true → ((s.ctl.ports[p]).rx[l]).state = .active →
    ((s.ctl.ports[p]).retrainTimes.filter fun t => s.ctl.now < t + 1000000000).length ≤ 16 →
    ∃ t, exec (.cdrLockLost p l) s = .next t ∧ (t.ctl.ports[p]).link = .train ∧ (t.ctl.ports[p]).retraining = true ∧
      ((t.ctl.ports[p]).rx[l]).failing = true ∧ ((t.ctl.ports[p]).rx[l]).judged = some false ∧
      (t.ctl.ports[p]).replay = (s.ctl.ports[p]).replay ∧ onlyPort p s t) ∧
  (∀ (p : Fin 4) (s : State), (s.ctl.ports[p]).link = .active →
    ((s.ctl.ports[p]).retrainTimes.filter fun t => s.ctl.now < t + 1000000000).length ≤ 16 →
    ∃ t, exec (.portRetrain p) s = .next t ∧ (t.ctl.ports[p]).link = .train ∧ (t.ctl.ports[p]).retraining = true ∧
      (t.ctl.ports[p]).replay = (s.ctl.ports[p]).replay ∧ onlyPort p s t) ∧
  (∀ (p : Fin 4) (s : State), (s.ctl.ports[p]).link = .active →
    16 < ((s.ctl.ports[p]).retrainTimes.filter fun t => s.ctl.now < t + 1000000000).length →
    ∃ t, exec (.portRetrain p) s = .next t ∧ (t.ctl.ports[p]).link = .detect ∧ (t.ctl.ports[p]).retraining = false ∧ onlyLogic s t) ∧
  (∀ (p : Fin 4) (s : State), (s.ctl.ports[p]).retraining = true →
    ∃ t, exec (.retrainTimeout p) s = .next t ∧ (t.ctl.ports[p]).link = .detect ∧ (t.ctl.ports[p]).retraining = false ∧
      (t.ctl.ports[p]).rate = 0 ∧ onlyLogic s t) ∧
  (∀ (p : Fin 4) (s : State), (s.ctl.ports[p]).link = .active →
    ∃ t, exec (.portRetrainFull p) s = .next t ∧ (t.ctl.ports[p]).link = .detect ∧ (t.ctl.ports[p]).retraining = false ∧ onlyLogic s t) ∧
  (∀ (p : Fin 4) (s : State), ∃ t, exec (.portEnableClear p) s = .next t ∧ (t.ctl.ports[p]).link = .detect ∧ (t.ctl.ports[p]).enable = false ∧
      (linkUp (s.ctl.ports[p]) = false → onlyPort p s t) ∧ onlyLogic s t) ∧
  (∀ (p : Fin 4) (s : State), (s.ctl.ports[p]).link ≠ .detect → (s.ctl.ports[p]).link ≠ .active → (s.ctl.ports[p]).retraining = false →
    (s.ctl.ports[p]).failedAttempts < 3 → ¬((s.ctl.ports[p]).link = .train ∧ (s.ctl.ports[p]).rate = 2) →
    ∃ t, exec (.bringupTimeout p) s = .next t ∧ (t.ctl.ports[p]).link = .detect ∧ (t.ctl.ports[p]).rate = 0 ∧
      (t.ctl.ports[p]).holdoff = (s.ctl.ports[p]).holdoff ∧ onlyPort p s t)

/-! ## Ports: code words and flits -/

/-- A code word without errors adds its message bits to the flit stream, the sequence expected moves on with an accepted
flit, an IDLE flit's acknowledgement is applied, a bad flit asks for a replay once, SKIP flits are dropped and sent. -/
def Obligations.CodeWordsAndFlits : Prop :=
  (∀ (p : Fin 4) (check : BitVec 300) (word msg : BitVec 5140) (s : State), rxOpen (s.ctl.ports[p]) = true → (s.ctl.ports[p]).partialLen < 576 →
    rsDecode (check ++ word) = some ([], msg) → (s.ctl.ports[p]).rxLine = [] → (s.ctl.ports[p]).rxCw < 4096 →
    ∃ t, exec (.fecCodeWord p check word) s = .next t ∧ (t.ctl.ports[p]).cwCount = (s.ctl.ports[p]).cwCount + 1 ∧
      (t.ctl.ports[p]).partialLen = ((s.ctl.ports[p]).partialLen + 5140) % 576 ∧
      (t.ctl.ports[p]).rxLine = (cutFlits 10 ((s.ctl.ports[p]).partialVal + msg.toNat * 2 ^ (s.ctl.ports[p]).partialLen) ((s.ctl.ports[p]).partialLen + 5140)).1 ∧
      (t.ctl.ports[p]).rxFlits = (s.ctl.ports[p]).rxFlits ∧ (t.ctl.ports[p]).expSeq = (s.ctl.ports[p]).expSeq ∧
      (t.ctl.ports[p]).link = .active ∧ onlyPort p s t) ∧
  (∀ (p : Fin 4) (check : BitVec 300) (word : BitVec 5140) (s : State), rxOpen (s.ctl.ports[p]) = true → rsDecode (check ++ word) = none → (s.ctl.ports[p]).rxLine = [] →
    (s.ctl.ports[p]).rxCw < 4096 → (s.ctl.ports[p]).uncorrAt.length < (s.ctl.ports[p]).uncorrRetrainLimit →
    ∃ t, exec (.fecCodeWord p check word) s = .next t ∧ (s.ctl.ports[p]).cwCount ∈ (t.ctl.ports[p]).uncorrAt ∧ (t.ctl.ports[p]).link = .active ∧
      scoreGet t.ctl (pIdx p 1) = Nat.min (scoreGet s.ctl (pIdx p 1) + 1) (2 ^ 32 - 1) ∧ onlyPort p s t) ∧
  (∀ (p : Fin 4) (f : Flit) (s : State), rxOpen (s.ctl.ports[p]) = true → flitCrcOk f = true → flitType f = 1 →
    flitSeq f = (s.ctl.ports[p]).expSeq → overrun ((flitSlots f).foldl (fun q x => rxSlot x q) (s.ctl.ports[p])) = false →
    ∃ t, exec (.pktFlit p f) s = .next t ∧ (t.ctl.ports[p]).expSeq = ((s.ctl.ports[p]).expSeq + 1) % 4096 ∧
      (t.ctl.ports[p]).nakOut = false ∧ (t.ctl.ports[p]).link = .active ∧
      (t.ctl.ports[p]).asm = ((flitSlots f).foldl (fun q x => rxSlot x q) (s.ctl.ports[p])).asm ∧
      (t.ctl.ports[p]).rxPkts = ((flitSlots f).foldl (fun q x => rxSlot x q) (s.ctl.ports[p])).rxPkts ∧ onlyLogic s t) ∧
  (∀ (p : Fin 4) (f : Flit) (s : State), rxOpen (s.ctl.ports[p]) = true → (s.ctl.ports[p]).rxFlits = [] → (s.ctl.ports[p]).rxLine = [] →
    flitCrcOk f = true → flitType f = 0 → flitCretKind f = 3 → quiet (s.ctl.ports[p]) →
    ∃ t, exec (.idleFlit p f) s = .next t ∧ t.ctl.ports[p] = onAck (flitCretValue f % 4096) (s.ctl.ports[p]) ∧
      onlyPort p s t) ∧
  (∀ (p : Fin 4) (b : Bool) (s : State), rxStream (s.ctl.ports[p]) = true →
    ∃ t, exec (.badFlit p b) s = .next t ∧ (t.ctl.ports[p]).nakOut = true ∧ (t.ctl.ports[p]).expSeq = (s.ctl.ports[p]).expSeq ∧
      (t.ctl.ports[p]).nakQueue = (if (s.ctl.ports[p]).nakOut then (s.ctl.ports[p]).nakQueue else (s.ctl.ports[p]).nakQueue ++ [(s.ctl.ports[p]).expSeq]) ∧
      onlyPort p s t) ∧
  (∀ (p : Fin 4) (f : Flit) (s : State), rxOpen (s.ctl.ports[p]) = true → (s.ctl.ports[p]).rxLine = [] → (s.ctl.ports[p]).ebOn = true →
    ∃ t, exec (.skipFlit p f) s = .next t ∧ (t.ctl.ports[p]).expSeq = (s.ctl.ports[p]).expSeq ∧
      (t.ctl.ports[p]).rxFlits = (if (s.ctl.ports[p]).rxFlits.head? = some f then (s.ctl.ports[p]).rxFlits.tail else (s.ctl.ports[p]).rxFlits) ∧
      onlyPort p s t) ∧
  (∀ (p : Fin 4) (s : State), (s.ctl.ports[p]).link = .active → (s.ctl.ports[p]).txSleep = .active →
    ∃ t, exec (.skipSend p) s = .next t ∧ (t.ctl.ports[p]).sinceSkip = 0 ∧ (t.ctl.ports[p]).line.last = some (flitWord 15 0 0 0 []) ∧
      (t.ctl.ports[p]).line.len = (s.ctl.ports[p]).line.len + 576 ∧
      t.ctl.ports[p] = { s.ctl.ports[p] with sinceSkip := 0, line := (t.ctl.ports[p]).line } ∧ onlyPort p s t)

/-- The INIT exchange brings a port to ACTIVE, a NAK and the replay timer start a replay, a NAK is repeated while it is
outstanding, and a header that VC2 does not carry is dropped and counted. -/
def Obligations.InitAndReplay : Prop :=
  (∀ (p : Fin 4) (x : Slot) (cr : BitVec 16) (s : State), (s.ctl.ports[p]).link = .linkInit → (s.ctl.ports[p]).rxSleep = .active →
    x.toNat % 256 = 1 → initValid x = true → bitOf x.toNat 8 = false → (s.ctl.ports[p]).retraining = false → quiet (s.ctl.ports[p]) →
    ∃ t, exec (.init p ⟨x, cr⟩) s = .next t ∧ t.ctl.ports[p] = { cretPort cr (s.ctl.ports[p]) with adv := initCredits x, initRecv := true } ∧
      onlyPort p s t) ∧
  (∀ (p : Fin 4) (x : Slot) (cr : BitVec 16) (s : State), (s.ctl.ports[p]).link = .linkInit → (s.ctl.ports[p]).rxSleep = .active →
    x.toNat % 256 = 2 → (s.ctl.ports[p]).initRecv = true → (s.ctl.ports[p]).retraining = false →
    ∃ t, exec (.initDone ⟨p, x, cr⟩) s = .next t ∧ (t.ctl.ports[p]).link = .active ∧ (t.ctl.ports[p]).failedAttempts = 0 ∧
      (t.ctl.ports[p]).initDoneRecv = true ∧ (∀ q : Fin 4, q ≠ p → t.ctl.ports[q] = s.ctl.ports[q]) ∧ onlyLogic s t) ∧
  (∀ (p : Fin 4) (x : Slot) (cr : BitVec 16) (s : State), rxOpen (s.ctl.ports[p]) = true → x.toNat % 256 = 16 →
    cretPort cr (s.ctl.ports[p]) = s.ctl.ports[p] → quiet (s.ctl.ports[p]) → bitsOf x.toNat 16 12 = oldestSeq (s.ctl.ports[p]) →
    0 < (s.ctl.ports[p]).replay.length → (s.ctl.ports[p]).replay.length ≤ 512 → (s.ctl.ports[p]).replayLast = none → (s.ctl.ports[p]).replayRepeats < 3 →
    ∃ t, exec (.nak p ⟨x, cr⟩) s = .next t ∧ (t.ctl.ports[p]).replay = (s.ctl.ports[p]).replay ∧
      (t.ctl.ports[p]).line.queue = (s.ctl.ports[p]).replay ∧
      (t.ctl.ports[p]).replayRepeats = (s.ctl.ports[p]).replayRepeats + 1 ∧
      (t.ctl.ports[p]).replayLast = some (oldestSeq (s.ctl.ports[p]), s.ctl.now) ∧ (t.ctl.ports[p]).link = .active ∧ onlyPort p s t) ∧
  (∀ (p : Fin 4) (s : State), (s.ctl.ports[p]).nakOut = true →
    ∃ t, exec (.nakRepeat p) s = .next t ∧
      t.ctl.ports[p] = { s.ctl.ports[p] with nakQueue := (s.ctl.ports[p]).nakQueue ++ [(s.ctl.ports[p]).expSeq] } ∧ onlyPort p s t) ∧
  (∀ (p : Fin 4) (s : State), (s.ctl.ports[p]).link = .active → (s.ctl.ports[p]).rxSleep = .active → (s.ctl.ports[p]).awaitStart = false →
    0 < (s.ctl.ports[p]).replay.length → (s.ctl.ports[p]).replayLast = none → (s.ctl.ports[p]).replayRepeats < 3 →
    ∃ t, exec (.replayTimeout p) s = .next t ∧ (t.ctl.ports[p]).replay = (s.ctl.ports[p]).replay ∧
      (t.ctl.ports[p]).line.queue = (s.ctl.ports[p]).replay ∧
      (t.ctl.ports[p]).replayRepeats = (s.ctl.ports[p]).replayRepeats + 1 ∧ (t.ctl.ports[p]).link = .active ∧
      scoreGet t.ctl (pIdx p 17) = Nat.min (scoreGet s.ctl (pIdx p 17) + 1) (2 ^ 16 - 1) ∧ onlyPort p s t) ∧
  (∀ (p : Fin 4) (x : Slot) (rest : List (List Slot)) (s : State), linkUp (s.ctl.ports[p]) = true → rxVc x = 2 →
    x.toNat % 256 ≠ 0x40 → x.toNat % 256 ≠ 0x44 → (s.ctl.ports[p]).rxPkts = [x] :: rest →
    ∃ t, exec (.discardedVc2Header p x) s = .next t ∧ (t.ctl.ports[p]).rxPkts = rest ∧
      scoreGet t.ctl (pIdx p 23) = Nat.min (scoreGet s.ctl (pIdx p 23) + 1) (2 ^ 32 - 1) ∧ onlyPort p s t)

/-! ## Ports: sleep -/

/-- A marker puts the receiver to sleep, where a stalled transmitter asks for a wake, a SLEEP_REQ is answered as R57 says, a SLEEP_ACK puts a transmitter with nothing to
send to sleep, a SLEEP_NAK and a missing reply keep it awake, WAKE_REQ and an owed acknowledgement wake it. -/
def Obligations.SleepMessages : Prop :=
  (∀ (p : Fin 4) (s : State), rxOpen (s.ctl.ports[p]) = true →
    ∃ t, exec (.enterLight p) s = .next t ∧
      t.ctl.ports[p] = askWake { s.ctl.ports[p] with rxSleep := .light, partialVal := 0, partialLen := 0, rx := (t.ctl.ports[p]).rx } ∧
      (∀ l : Fin 17, (t.ctl.ports[p]).rx[l] = { (s.ctl.ports[p]).rx[l] with rxAdapt := adaptNow p l s.ctl }) ∧ onlyPort p s t) ∧
  (∀ (p : Fin 4) (s : State), rxOpen (s.ctl.ports[p]) = true →
    ∃ t, exec (.enterDeep p) s = .next t ∧
      t.ctl.ports[p] = askWake { s.ctl.ports[p] with rxSleep := .deep, partialVal := 0, partialLen := 0, rx := (t.ctl.ports[p]).rx } ∧
      (∀ l : Fin 17, (t.ctl.ports[p]).rx[l] = { (s.ctl.ports[p]).rx[l] with rxAdapt := adaptNow p l s.ctl }) ∧ onlyPort p s t) ∧
  (∀ (p : Fin 4) (x : Slot) (cr : BitVec 16) (n : Nat) (s : State), rxStream (s.ctl.ports[p]) = true → x.toNat % 256 = 0x20 →
    n = bitsOf x.toNat 8 8 → cretPort cr (s.ctl.ports[p]) = s.ctl.ports[p] → quiet (s.ctl.ports[p]) →
    ∃ t, exec (.sleepReq p ⟨x, cr⟩) s = .next t ∧
      (t.ctl.ports[p]).sleepOut = (s.ctl.ports[p]).sleepOut ++
        [if ((n = 1 ∧ (s.ctl.ports[p]).sleepLight = true) ∨ (n = 2 ∧ (s.ctl.ports[p]).sleepDeep = true)) then
          (if (s.ctl.ports[p]).retraining then (0x22, 2) else if (s.ctl.ports[p]).nakOut then (0x22, 3) else (0x21, n)) else (0x22, 1)] ∧
      onlyPort p s t) ∧
  (∀ (p : Fin 4) (x : Slot) (cr : BitVec 16) (n : Nat) (s : State), rxStream (s.ctl.ports[p]) = true → x.toNat % 256 = 0x21 →
    cretPort cr (s.ctl.ports[p]) = s.ctl.ports[p] → quiet (s.ctl.ports[p]) → (s.ctl.ports[p]).line.queue = [] →
    (s.ctl.ports[p]).sleepReqOut = some n →
    ∃ t, exec (.sleepAck ⟨p, x, cr⟩ true) s = .next t ∧ (t.ctl.ports[p]).txSleep = (if n = 2 then .deep else .light) ∧
      (t.ctl.ports[p]).sleepReqOut = none ∧ (t.ctl.ports[p]).sleepMinimum = true ∧ (t.ctl.ports[p]).nakQueue = [] ∧ (t.ctl.ports[p]).sleepOut = [] ∧
      (t.ctl.ports[p]).line.len = 0 ∧ ((t.ctl.ports[p]).line.marker.map (·.2)) = some (if n = 2 then 3 else 2) ∧ onlyPort p s t) ∧
  (∀ (p : Fin 4) (x : Slot) (cr : BitVec 16) (n : Nat) (s : State), rxStream (s.ctl.ports[p]) = true → x.toNat % 256 = 0x22 →
    (s.ctl.ports[p]).sleepReqOut = some n →
    ∃ t, exec (.sleepNak p ⟨x, cr⟩) s = .next t ∧ (t.ctl.ports[p]).sleepReqOut = none ∧ onlyLogic s t) ∧
  (∀ (p : Fin 4) (n : Nat) (s : State), (s.ctl.ports[p]).sleepReqOut = some n →
    ∃ t, exec (.sleepReplyTimeout p) s = .next t ∧ (t.ctl.ports[p]).sleepReqOut = none ∧
      (quiet (s.ctl.ports[p]) → (t.ctl.ports[p]).line.retryAt = s.ctl.now + 10000) ∧
      scoreGet t.ctl (pIdx p 7) = Nat.min (scoreGet s.ctl (pIdx p 7) + 1) (2 ^ 16 - 1) ∧ onlyLogic s t) ∧
  (∀ (p : Fin 4) (x : Slot) (cr : BitVec 16) (s : State), rxStream (s.ctl.ports[p]) = true → linkUp (s.ctl.ports[p]) = true →
    x.toNat % 256 = 0x23 → (s.ctl.ports[p]).txSleep ≠ .active → (s.ctl.ports[p]).sleepMinimum = false →
    ∃ t, exec (.wakeReq ⟨p, x, cr⟩) s = .next t ∧ (t.ctl.ports[p]).txSleep = .active ∧ (t.ctl.ports[p]).wakeUnacked = true ∧ onlyLogic s t) ∧
  (∀ (p : Fin 4) (s : State), linkUp (s.ctl.ports[p]) = true → (s.ctl.ports[p]).txSleep ≠ .active → (s.ctl.ports[p]).sleepMinimum = false →
    owes (s.ctl.ports[p]) = true →
    ∃ t, exec (.owedAckTimeout p) s = .next t ∧ (t.ctl.ports[p]).txSleep = .active ∧ (t.ctl.ports[p]).wakeUnacked = true ∧ onlyLogic s t)

/-- An idle transmitter asks for sleep, the minimum sleep ends, a wake without acknowledgement or without STREAM_START
starts a retrain, and signal at a sleeping receiver makes it wait for STREAM_START. -/
def Obligations.SleepTimers : Prop :=
  (∀ (p : Fin 4) (s : State), sleepReady s.ctl.now (s.ctl.ports[p]) = true → (s.ctl.ports[p]).sleepLight = true →
    ∃ t, exec (.txLightIdle p) s = .next t ∧
      t.ctl.ports[p] = { s.ctl.ports[p] with sleepReqOut := some 1, sleepOut := (s.ctl.ports[p]).sleepOut ++ [(0x20, 1)] } ∧ onlyPort p s t) ∧
  (∀ (p : Fin 4) (s : State), sleepReady s.ctl.now (s.ctl.ports[p]) = true → (s.ctl.ports[p]).sleepDeep = true → (s.ctl.ports[p]).txDeepIdle ≠ 0 →
    ∃ t, exec (.txDeepIdle p) s = .next t ∧
      t.ctl.ports[p] = { s.ctl.ports[p] with sleepReqOut := some 2, sleepOut := (s.ctl.ports[p]).sleepOut ++ [(0x20, 2)] } ∧ onlyPort p s t) ∧
  (∀ (p : Fin 4) (s : State), (s.ctl.ports[p]).sleepMinimum = true → (s.ctl.ports[p]).txSleep ≠ .active →
    ∃ t, exec (.sleepMinimumEnd p) s = .next t ∧ (t.ctl.ports[p]).sleepMinimum = false ∧
      ((s.ctl.ports[p]).wakeDecided = true → linkUp (s.ctl.ports[p]) = true → (t.ctl.ports[p]).txSleep = .active) ∧
      ((s.ctl.ports[p]).wakeDecided = false → (t.ctl.ports[p]).txSleep = (s.ctl.ports[p]).txSleep ∧ onlyPort p s t) ∧ onlyLogic s t) ∧
  (∀ (p : Fin 4) (s : State), (s.ctl.ports[p]).link = .active → (s.ctl.ports[p]).wakeUnacked = true →
    ((s.ctl.ports[p]).retrainTimes.filter fun t => s.ctl.now < t + 1000000000).length ≤ 16 →
    ∃ t, exec (.wakeAckTimeout p) s = .next t ∧ (t.ctl.ports[p]).link = .train ∧ (t.ctl.ports[p]).retraining = true ∧
      (t.ctl.ports[p]).wakeUnacked = false ∧ onlyPort p s t) ∧
  (∀ (p : Fin 4) (s : State), (s.ctl.ports[p]).link = .active → (s.ctl.ports[p]).awaitStart = true →
    ((s.ctl.ports[p]).retrainTimes.filter fun t => s.ctl.now < t + 1000000000).length ≤ 16 →
    ∃ t, exec (.streamStartTimeout p) s = .next t ∧ (t.ctl.ports[p]).link = .train ∧ (t.ctl.ports[p]).retraining = true ∧
      (t.ctl.ports[p]).awaitStart = false ∧ onlyPort p s t) ∧
  (∀ (p : Fin 4) (s : State), (s.ctl.ports[p]).link = .active → (s.ctl.ports[p]).rxSleep ≠ .active →
    ∃ t, exec (.squelchDetect p) s = .next t ∧ t.ctl.ports[p] = { s.ctl.ports[p] with awaitStart := true, wakeBlocks := 0 } ∧ onlyPort p s t)

/-! ## Requests -/

/-- A read, write or atomic that is admitted and translates whole enters the request tracker with its granules in the queues of
their channels, and nothing of DRAM changes. -/
def Obligations.DataRequestsEnter : Prop :=
  ∀ (h : ReqHdr) (i : Instr) (op : Nat) (s : State),
    (i, op) ∈ [(Instr.read32 h, 0x10), (.read64 h, 0x11), (.read128 h, 0x12), (.read256 h, 0x13), (.write32 h, 0x18), (.write64 h, 0x19),
      (.write128 h, 0x1A), (.write256 h, 0x1B), (.writeMasked32 h, 0x1C), (.atomic h, 0x20)] →
    admitted op h s → (∀ g ∈ requestGrans op h s.ctl, g.phase ≠ .done) →
    ∃ t, exec i s = .next t ∧ t.ctl.nextId = s.ctl.nextId + 1 ∧ onlyLogic s t ∧
      t.ctl.trk = s.ctl.trk ++ [{ id := s.ctl.nextId, src := .port h.port, opcode := op, op := opOf op h, tag := h.tag, domain := h.domain
                                  addr := h.addr, tc1 := h.tc, marked := (tc1Mark op h s.ctl).1, cmpl := h.cmpl
                                  release := if h.release then some (earlierIds h.port releasable s.ctl) else none
                                  grans := (requestGrans op h s.ctl).map (stageGran s.ctl (portMaster h.port)), since := s.ctl.now }] ∧
      t.ctl.chans = s.ctl.chans ∧ t.ctl.pm = s.ctl.pm ∧ t.ctl.regions = s.ctl.regions ∧ t.ctl.movers = s.ctl.movers

/-- A DOORBELL and a FENCE that are admitted enter the tracker and record what they wait for; a request's tracker entry that
is free lets a waiting request go; a doorbell rings its queue, a fence ends, and an unassigned opcode ends MALFORMED. -/
def Obligations.DoorbellsAndFences : Prop :=
  (∀ (h : ReqHdr) (s : State), admitted 0x38 h s →
    ∃ t, exec (.doorbell h) s = .next t ∧ t.ctl.trk = s.ctl.trk ++ [plainEntry 0x38 (opOf 0x38 h) h (some (earlierIds h.port isWriteOp s.ctl)) s.ctl] ∧
      t.ctl.queues = s.ctl.queues ∧ onlyLogic s t) ∧
  (∀ (h : ReqHdr) (s : State), admitted 0x3C h s →
    ∃ t, exec (.fence h) s = .next t ∧
      t.ctl.trk = s.ctl.trk ++ [plainEntry 0x3C .fence h (some ((s.ctl.trk.filter (srcIsPort h.port)).map (·.id))) s.ctl] ∧ onlyLogic s t) ∧
  (∀ (id q : Nat) (x : Trk) (ids : List Nat) (p : Fin 4) (s : State), (s.ctl.trk.find? fun t => t.id = id) = some x → x.op = .doorbell q →
    x.release = some ids → x.src = .port p → x.ended = false → waitsOver s.ctl ids = true → (queueGet s.ctl q).state ≠ 0 →
    (queueGet s.ctl q).domain = x.domain →
    ∃ t, exec (.doorbellTakesEffect id) s = .next t ∧ (queueGet t.ctl q).dbPending = true ∧
      (queueGet t.ctl q).state = (queueGet s.ctl q).state ∧ (queueGet t.ctl q).head = (queueGet s.ctl q).head ∧
      (((queueGet s.ctl q).state = 1 ∨ (queueGet s.ctl q).state = 3) → ∃ k, (q, k) ∈ (t.ctl.regions[queueRegion q]).ready) ∧
      onlyLogic s t) ∧
  (∀ (id : Nat) (x : Trk) (ids : List Nat) (p : Fin 4) (s : State), (s.ctl.trk.find? fun t => t.id = id) = some x → x.op = .fence →
    x.release = some ids → x.src = .port p → x.opcode = 0x3C → x.ended = false → fenceOver s.ctl ids = true →
    ∃ t, exec (.fenceComplete id) s = .next t ∧ (∀ y ∈ t.ctl.trk, y.id = id → y.ended = true) ∧ onlyLogic s t) ∧
  (∀ (op : Nat) (h : ReqHdr) (s : State), opcodeUnassigned op = true → portFree h.port s → mayAllocate s.ctl (.port h.port) = true →
    notServing s.ctl = false →
    ∃ t, exec (.unassignedOpcode op h) s = .next t ∧
      t.ctl = pushResp h.port { opcode := 0x81, tag := h.tag, status := 7, info := 0, addr := h.addr, data := [], trk := some s.ctl.nextId }
        { (bump (pIdx h.port 23) (modPort h.port (takePacket op h) (notePool (.port h.port) s.ctl))) with
          trk := s.ctl.trk ++ [{ plainEntry op .read h none s.ctl with ended := true }], nextId := s.ctl.nextId + 1 } ∧
      onlyLogic s t) ∧
  (∀ (p : Fin 4) (b : Bool) (w : Waiting) (rest : List Waiting) (s : State), (s.ctl.ports[p]).waiting = w :: rest → w.hdr.port = p →
    w.orphan = false → w.admitted = some b → mustWait w.opcode w.hdr s.ctl = false →
    ∃ t, exec (.trackerAllocate (.port p) none) s = .next t ∧
      t.ctl = modPort p (fun q => { q with waiting := q.waiting.drop 1 }) (startReq w.opcode w.hdr b s.ctl) ∧
      (w.opcode = 0x3C → stackClass s.ctl.umpire < 4 → (s.ctl.ports[p]).mute = false → (t.ctl.ports[p]).waiting = rest ∧
        t.ctl.trk = s.ctl.trk ++ [plainEntry 0x3C .fence w.hdr (some ((s.ctl.trk.filter (srcIsPort p)).map (·.id))) s.ctl]) ∧
      onlyLogic s t)

/-! ## Transactions and locked sequences -/

/-- A TXN that translates asks for every hold at once; LSEQ_BEGIN opens a sequence, LSEQ_STAGE asks for its first hold,
LSEQ_COMMIT writes the commit record of the staged values, LSEQ_ABORT and the lease's end free the sequence and its holds. -/
def Obligations.CoordinatorRequests : Prop :=
  (∀ (h : ReqHdr) (l : List Action) (keys : List Key) (s : State), admitted 0x28 h s → actionsOf h = some l →
    translateActions s.ctl h.domain l [] = .ok keys →
    ∃ t, exec (.txn h) s = .next t ∧ t.ctl.trk = s.ctl.trk ++ [plainEntry 0x28 .coord h none s.ctl] ∧
      (∃ y, (t.ctl.regions[h.port]).coord.txns.getLast? = some y ∧ (t.ctl.regions[h.port]).coord.txns.length = (s.ctl.regions[h.port]).coord.txns.length + 1 ∧
        y = { id := s.ctl.nextId + 1, port := h.port, domain := h.domain, trk := s.ctl.nextId, age := s.ctl.now, lsid := none
              epoch := s.ctl.pm.epoch, actions := l, ordered := false, retries := 0, wounded := false, phase := .acquiring, keys := y.keys } ∧
        y.keys.map (fun k => { k with tracked := false }) = keys.map (fun k => { k with state := .requested, since := s.ctl.now, tracked := false })) ∧
      t.ctl.chans = s.ctl.chans ∧ onlyLogic s t) ∧
  (∀ (h : ReqHdr) (s : State), admitted 0x30 h s → seqOf s.ctl h.port h.port (lsidOf h) = none →
    (s.ctl.regions[h.port]).coord.seqs.length < 64 →
    ∃ t, exec (.lseqBegin h) s = .next t ∧
      (t.ctl.regions[h.port]).coord.seqs = (s.ctl.regions[h.port]).coord.seqs ++
        [{ id := s.ctl.nextId + 1, port := h.port, lsid := lsidOf h, domain := h.domain
           lease := if bitsOf h.param.toNat 16 13 = 0 then 64 else bitsOf h.param.toNat 16 13, state := .openSeq, actions := 0 }] ∧
      t.ctl.chans = s.ctl.chans ∧ onlyLogic s t) ∧
  (∀ (h : ReqHdr) (q : LSeq) (l : List Action) (k : Key) (rest : List Key) (s : State), admitted 0x31 h s →
    seqOf s.ctl h.port h.port (lsidOf h) = some q → q.state = .openSeq → q.waiting = [] → seqBusy s.ctl h.port q = false →
    actionsOf h = some l → q.domain = h.domain → q.actions + l.length ≤ 64 → seqHolds s.ctl q.id = [] →
    translateActions s.ctl h.domain l [] = .ok (k :: rest) → k.state = .idle →
    ∃ t, exec (.lseqStage h) s = .next t ∧
      (∃ y, (t.ctl.regions[h.port]).coord.txns.getLast? = some y ∧ (t.ctl.regions[h.port]).coord.txns.length = (s.ctl.regions[h.port]).coord.txns.length + 1 ∧
        y = { id := s.ctl.nextId + 1, port := q.port, domain := q.domain, trk := s.ctl.nextId, age := s.ctl.now, lsid := some q.id
              epoch := s.ctl.pm.epoch, actions := l, ordered := true, retries := 0, wounded := false, phase := .acquiring, keys := y.keys } ∧
        y.keys.map (fun k => { k with tracked := false }) =
          ({ k with state := .requested, since := s.ctl.now } :: rest).map (fun k => { k with tracked := false })) ∧
      t.ctl.chans = s.ctl.chans ∧ onlyLogic s t) ∧
  (∀ (h : ReqHdr) (q : LSeq) (s : State), admitted 0x32 h s → seqOf s.ctl h.port h.port (lsidOf h) = some q → q.state = .openSeq →
    q.waiting = [] → seqBusy s.ctl h.port q = false → ((seqHolds s.ctl q.id).filter fun x => x.stage.isSome) ≠ [] →
    (s.ctl.regions[h.port]).coord.log.length < 128 →
    ∃ t, exec (.lseqCommit h) s = .next t ∧
      (t.ctl.regions[h.port]).coord.log = (s.ctl.regions[h.port]).coord.log ++
        [{ id := s.ctl.nextId + 1, writes := ((seqHolds s.ctl q.id).filter fun x => x.stage.isSome).map fun x => (x.gran, x.stage.getD 0) }] ∧
      (∀ y ∈ (t.ctl.regions[h.port]).coord.seqs, y.id = q.id → y.state = .committing) ∧ onlyLogic s t) ∧
  (∀ (h : ReqHdr) (q : LSeq) (s : State), admitted 0x33 h s → seqOf s.ctl h.port h.port (lsidOf h) = some q → q.state ≠ .committing →
    q.waiting = [] → seqBusy s.ctl h.port q = false →
    ∃ t, exec (.lseqAbort h) s = .next t ∧
      (t.ctl.regions[h.port]).coord.seqs = (s.ctl.regions[h.port]).coord.seqs.filter (fun y => y.id ≠ q.id) ∧
      (∀ c : Fin 32, ∀ x ∈ (t.ctl.chans[c]).holds, x.id ≠ q.id) ∧ onlyLogic s t) ∧
  (∀ (r p : Fin 4) (lsid : Nat) (q : LSeq) (s : State), seqOf s.ctl r p lsid = some q → q.state ≠ .committing → q.lease = 0 →
    ∃ t, exec (.leaseExpiry r p lsid) s = .next t ∧
      (t.ctl.regions[r]).coord.seqs = (s.ctl.regions[r]).coord.seqs.filter (fun y => y.id ≠ q.id) ∧
      (∀ c : Fin 32, ∀ x ∈ (t.ctl.chans[c]).holds, x.id ≠ q.id) ∧ onlyLogic s t)

/-- A hold request that the channel can grant takes a hold entry; the grant, the old value and the PREPARE answer reach the
coordinator and change that key of the transaction, while another of its keys is still awaited. -/
def Obligations.HoldsAndValues : Prop :=
  (∀ (c : Fin 32) (id gran : Nat) (r : Fin 4) (x : Txn) (k : Key) (s : State), findTxn s.ctl id = some (r, x) → keyOf x gran = some k →
    k.state = .requested → k.atMap = false → k.rel = false → keyChan gran = c → earlierAt s.ctl x gran = false →
    accessAllocated s.ctl id gran = true → holdAt s.ctl.chans[c] gran = none → (s.ctl.chans[c]).holds.length < 128 →
    ∃ t, exec (.holdRequest c id gran) s = .next t ∧
      (t.ctl.chans[c]).holds = (s.ctl.chans[c]).holds.filter (fun h => !(h.gran = gran && h.id = holdIdOf x)) ++
        [{ gran := gran, id := holdIdOf x, isSeq := x.lsid.isSome, port := x.port, domain := x.domain, age := x.age, stage := none, state := .acquired }] ∧
      t.ctl.trk = s.ctl.trk ∧ onlyLogic s t) ∧
  (∀ (id gran : Nat) (r : Fin 4) (x : Txn) (k k' : Key) (s : State), findTxn s.ctl id = some (r, x) → keyOf x gran = some k →
    k.state = .grantSent → x.ordered = false → (∀ y ∈ (s.ctl.regions[r]).coord.txns, y.id = id → y = x) →
    k' ∈ x.keys → k'.gran ≠ gran → k'.state = .requested →
    issueNext (modTxn r id (modKey gran fun k => { k with state := .granted }) s.ctl) r = none →
    ∃ t, exec (.holdGrant id gran) s = .next t ∧
      t.ctl = modTxn r id (modKey gran fun k => { k with state := .granted }) s.ctl ∧ onlyLogic s t) ∧
  (∀ (id gran : Nat) (noise : BitVec 320) (r : Fin 4) (x : Txn) (k k' : Key) (d : GranRead) (s : State), findTxn s.ctl id = some (r, x) →
    keyOf x gran = some k → k.state = .granted → k.access = .readAccepted false → k.reads = true → k.old = none → x.lsid = none →
    (pmGet s.ctl k.hpn).mirrored = false → dramDecode s.dram s.ctl gran noise = d → d.poisoned = false → d.uncorrectable = false → d.ce1 = 0 → d.ce2 = 0 →
    k' ∈ x.keys → k'.gran ≠ gran → k'.state = .requested →
    ∃ t y z, exec (.oldValue id gran noise) s = .next t ∧ findTxn t.ctl id = some (r, y) ∧ keyOf y gran = some z ∧
      z = { k with old := some (some d.data), access := .idle } ∧ y.phase = x.phase ∧ onlyLogic s t) ∧
  (∀ (id gran : Nat) (r : Fin 4) (x : Txn) (k k' : Key) (s : State), findTxn s.ctl id = some (r, x) → keyOf x gran = some k →
    k.state = .prepared → k' ∈ x.keys → k'.gran ≠ gran → k'.state = .prepareSent →
    ∃ t y z, exec (.prepareAnswer id gran) s = .next t ∧ findTxn t.ctl id = some (r, y) ∧ keyOf y gran = some z ∧
      z = { k with state := .answered } ∧ t.ctl.chans = s.ctl.chans ∧ onlyLogic s t) ∧
  (∀ (id : Nat) (r : Fin 4) (x : Txn) (s : State), findTxn s.ctl id = some (r, x) → x.wounded = true → x.phase = .acquiring → x.retries < 16 →
    ∃ t y, exec (.woundNotice id) s = .next t ∧ findTxn t.ctl id = some (r, y) ∧ y.retries = x.retries + 1 ∧ y.ordered = true ∧
      y.wounded = false ∧ y.phase = .acquiring ∧ t.ctl.trk = s.ctl.trk ∧ onlyLogic s t)

/-- PREPARE makes a hold PREPARED with its final value, COMMIT makes it COMMITTED and its write waits at the channel, whose
acceptance puts the value into the write buffer and frees the hold; a release frees it, and a transaction whose hold wait passes
the limit ends. -/
def Obligations.PrepareCommitRelease : Prop :=
  (∀ (c : Fin 32) (id gran : Nat) (r : Fin 4) (x : Txn) (k : Key) (s : State), findTxn s.ctl id = some (r, x) → keyOf x gran = some k →
    k.state = .prepareSent → keyChan gran = c →
    ∃ t, exec (.prepare c id gran) s = .next t ∧
      (∀ h ∈ (t.ctl.chans[c]).holds, h.gran = gran → h.id = holdIdOf x → h.state ≠ .orderMarker → h.state = .prepared ∧ h.stage = k.new) ∧
      (t.ctl.chans[c]).holds.length = (s.ctl.chans[c]).holds.length ∧ t.ctl.trk = s.ctl.trk ∧ onlyLogic s t) ∧
  (∀ (c : Fin 32) (id gran : Nat) (r : Fin 4) (x : Txn) (k : Key) (s : State), findTxn s.ctl id = some (r, x) → keyOf x gran = some k →
    k.state = .committing → k.access = .idle → keyChan gran = c →
    ∃ t y z, exec (.commit c id gran) s = .next t ∧ findTxn t.ctl id = some (r, y) ∧ keyOf y gran = some z ∧
      z = { k with access := .writeQueued s.ctl.now } ∧ y.phase = x.phase ∧
      (∀ h ∈ (t.ctl.chans[c]).holds, h.gran = gran → h.id = holdIdOf x → h.state ≠ .orderMarker → h.state = .committed ∧ h.stage = k.new) ∧
      (t.ctl.chans[c]).holds.length = (s.ctl.chans[c]).holds.length ∧ t.ctl.trk = s.ctl.trk ∧ onlyLogic s t) ∧
  (∀ (w : TxnWork) (n : Nat) (k' : Key) (c : Ctl), w.key.access = .writeQueued n → keyFailed c w.key.gran = false →
    (c.regions[w.region]).coord.txns.find? (fun x => x.id = w.txn.id) = some w.txn → k' ∈ w.txn.keys → k'.gran ≠ w.key.gran → k'.state ≠ .released →
    ((acceptTxn w c).chans[keyChan w.key.gran]).wbuf = (c.chans[keyChan w.key.gran]).wbuf ++ [(w.key.gran, granEncode (w.key.new.getD 0))] ∧
      ∀ h ∈ ((acceptTxn w c).chans[keyChan w.key.gran]).holds, ¬(h.gran = w.key.gran ∧ h.id = holdIdOf w.txn)) ∧
  (∀ (c : Fin 32) (id gran : Nat) (r : Fin 4) (x : Txn) (k : Key) (s : State), findTxn s.ctl id = some (r, x) → keyOf x gran = some k →
    k.rel = true → keyChan gran = c → x.phase = .ending →
    ∃ t, exec (.holdRelease c id gran) s = .next t ∧ (∀ h ∈ (t.ctl.chans[c]).holds, ¬(h.gran = gran ∧ h.id = x.id)) ∧
      t.ctl.trk = s.ctl.trk ∧ onlyLogic s t) ∧
  (∀ (c : Fin 32) (id : Nat) (w : HoldWait) (r : Fin 4) (x : Txn) (s : State), (s.ctl.chans[c]).holdWaits.find? (fun w => w.id = id) = some w →
    findTxn s.ctl id = some (r, x) → boundedWait s.ctl c w.gran = true → x.lsid = none →
    ∃ t, exec (.holdWaitTimeout c id) s = .next t ∧ (∀ y ∈ (t.ctl.regions[r]).coord.txns, y.id = id → y.phase = .ending) ∧ onlyLogic s t)

/-! ## Channels and copiers -/

/-- An arbiter decision writes the drained part of the write buffer to DRAM and nothing else of it changes; alone at an idle
channel, a read is granted and accepted; decoded data ends its granule; an atomic unit's value is written back to its
granule's forty bytes, and its entry is free unless a further operation waits; an open row closes; a shadow write joins the
secondary's write buffer. -/
def Obligations.ChannelCommands : Prop :=
  (∀ (c : Fin 32) (n : Nat) (s : State), ∃ t, exec (.arbiterDecision c n none) s = .next t ∧ t.pending = s.pending ∧
      t.dram = dramWrites s.dram (drainSplit s.ctl n (s.ctl.chans[c]).wbuf).1 ∧
      (s.memOk → ∀ a, (∀ w ∈ (drainSplit s.ctl n (s.ctl.chans[c]).wbuf).1, a < 40 * w.1 ∨ 40 * w.1 + 40 ≤ a) → readByte t.dram a = readByte s.dram a)) ∧
  (∀ (c : Fin 32) (x : Trk) (g : Gran) (s : State), chanServes s.ctl c = true → s.ctl.trk = [x] → x.op = .read → x.grans = [g] →
    eligible s.ctl c x g = true → (s.ctl.chans[c]).wbuf = [] → (s.ctl.chans[c]).au = [] → (s.ctl.chans[c]).holds = [] →
    txnQueue s.ctl c = [] → maintQueue s.ctl c = [] → (s.ctl.chans[c]).windowRuns = false →
    (∀ b ∈ (s.ctl.chans[c]).banks, b.2.visitDue = false) → (∀ k : Fin 4, (s.ctl.pm.copiers[k]).out = []) → (s.ctl.chans[c]).srrOut = [] →
    ∃ t, exec (.arbiterDecision c 0 none) s = .next t ∧
      t.ctl.trk = [{ x with grans := [{ g with phase := .accepted, epoch := none, viaAu := false }] }] ∧
      (t.ctl.chans[c]).arbHolder = some (reqOf (masterOf x)) ∧ onlyLogic s t) ∧
  (∀ (c : Fin 32) (id idx : Nat) (noise : BitVec 320) (x : Trk) (g : Gran) (d : GranRead) (s : State),
    (s.ctl.trk.find? fun t => t.id = id) = some x → x.op = .read → x.grans[idx]? = some g → g.phase = .accepted → g.viaAu = false →
    g.fwd = false → g.mirrored = false → keyChan (granKey g.ppn g.g) = c → dramDecode s.dram s.ctl (granKey g.ppn g.g) noise = d → d.poisoned = false →
    d.uncorrectable = false → d.ce1 = 0 → d.ce2 = 0 → (∃ j y, j ≠ idx ∧ x.grans[j]? = some y ∧ y.phase ≠ .done) →
    ∃ t, exec (.readDataDecode c id idx noise) s = .next t ∧
      (t.ctl.trk.find? fun t => t.id = id) =
        some { x with grans := listModify (fun g => { g with phase := .done, status := 0, data := d.data, epoch := none, kind := 0 }) x.grans idx } ∧
      onlyLogic s t) ∧
  (∀ (c : Fin 32) (gran : Nat) (e : AuEntry) (v : GData) (s : State), auFind s.ctl.chans[c] gran = some e → e.value = some v →
    keyChan gran = c → readOutstanding s.ctl gran = false → wbufFind s.ctl.chans[c] gran = none → s.memOk →
    ∃ t, exec (.atomicWriteback c gran) s = .next t ∧
      auFind t.ctl.chans[c] gran = (if auWaiting s.ctl gran then some e else none) ∧
      (∀ b, b < 40 → readByte t.dram (40 * gran + b) = (granEncode v).extractLsb' (8 * b) 8) ∧
      (∀ a, a < 40 * gran ∨ 40 * gran + 40 ≤ a → readByte t.dram a = readByte s.dram a) ∧ t.pending = s.pending) ∧
  (∀ (c : Fin 32) (b : Nat) (s : State), ∃ t, exec (.openPageTimeout c b) s = .next t ∧
      t.ctl.chans[c] = bankPut b { bankGet s.ctl.chans[c] b with openRow := none } s.ctl.chans[c] ∧ onlyChan c s t) ∧
  (∀ (h i g : Nat) (v : BitVec 320) (who : Option (Nat × Nat)) (rest : List (Nat × BitVec 320 × Option (Nat × Nat))) (x : Mirror) (s : State), mirrorOf s.ctl h = some (i, x) →
    x.pending = (g, v, who) :: rest → keyFailed s.ctl (granKey x.secPpn g) = false → shadowRoom s.ctl (shadowKeys s.ctl h) = true →
    (∀ k : Fin 4, (s.ctl.pm.copiers[k]).job = none) →
    ∃ t, exec (.shadowWrite h) s = .next t ∧ mirrorOf t.ctl h = some (i, { x with pending := rest }) ∧
      (t.ctl.chans[keyChan (granKey x.secPpn g)]).wbuf = (s.ctl.chans[keyChan (granKey x.secPpn g)]).wbuf ++ [(granKey x.secPpn g, v)] ∧
      onlyLogic s t)

/-- A free copier takes the one waiting job and sets its first chunk busy unless a hold covers it; a read of it that returns gives the
value of a clean granule as it was, a write that is accepted puts the oldest value read, or zero for a clearing, into the
destination's write buffer; a chunk whose writes have all been accepted moves the cursor on; a chunk that a hold covered is tried
again. -/
def Obligations.CopierCommands : Prop :=
  (∀ (k : Fin 4) (j : CopyJob) (s : State), copiersRun s.ctl = true → (s.ctl.pm.copiers[k]).job = none → s.ctl.pm.substSlice = none →
    s.ctl.pm.jobs = [j] → (∃ b, j.kind = .migrate b) ∨ j.kind = .mirrorCopy ∨ (∃ b, j.kind = .clearing b) → s.ctl.pm.layout = .default →
    ∃ t, exec (.copierStart k) s = .next t ∧ (t.ctl.pm.copiers[k]).job = some j ∧ (t.ctl.pm.copiers[k]).cursor = 0 ∧
      (t.ctl.pm.copiers[k]).busy = (if isClearing j = false ∧ chunkHeld s.ctl j.src 0 = true then none else some 0) ∧
      (∀ i : Fin 4, i ≠ k → t.ctl.pm.copiers[i] = s.ctl.pm.copiers[i]) ∧ t.ctl.pm.jobs = [] ∧ t.ctl.pm.entries = s.ctl.pm.entries ∧
      t.ctl = { s.ctl with pm := t.ctl.pm } ∧ onlyLogic s t) ∧
  (∀ (ch : Fin 32) (m : List Host.Cell) (k : Fin 4) (j : CopyJob) (g : Nat) (f : Bool) (c : Ctl), (c.pm.copiers[k]).job = some j → g < 2048 →
    (c.pm.copiers[k]).out = [(granKey j.src g, f)] → keyChan (granKey j.src g) = ch → (granView m c (granKey j.src g)).poisoned = false →
    (granView m c (granKey j.src g)).uncorrectable = false → (granView m c (granKey j.src g)).ce1 = 0 → (granView m c (granKey j.src g)).ce2 = 0 →
    (copyReturn ch m k c).pm.copiers[k] = { c.pm.copiers[k] with
      out := [], buf := (c.pm.copiers[k]).buf ++ [granEncode (granView m c (granKey j.src g)).data] }) ∧
  (∀ (k : Fin 4) (key : Nat) (c : Ctl), keyFailed c key = false →
    ((acceptCopy k key false c).chans[keyChan key]).wbuf = (c.chans[keyChan key]).wbuf ++ [(key, (c.pm.copiers[k]).buf.headD zeroGran)] ∧
      (acceptCopy k key false c).pm.copiers[k] =
        { c.pm.copiers[k] with writes := (c.pm.copiers[k]).writes + 1, buf := (c.pm.copiers[k]).buf.tail }) ∧
  (∀ (k : Fin 4) (j : CopyJob) (n : Nat) (s : State), copiersRun s.ctl = true → (s.ctl.pm.copiers[k]).job = some j →
    (s.ctl.pm.copiers[k]).busy = some n → n < 32 → chunkReady s.ctl j n = true → chunkBlocked s.ctl j n = false →
    64 ≤ (s.ctl.pm.copiers[k]).writes →
    ∃ t, exec (.chunkCopy k) s = .next t ∧ onlyLogic s t ∧
      (n < 31 → (t.ctl.pm.copiers[k]).job = some j ∧ (t.ctl.pm.copiers[k]).cursor = n + 1 ∧ (t.ctl.pm.copiers[k]).writes = 0) ∧
      (n = 31 → isClearing j = true → t.ctl.pm.copiers[k] =
        { s.ctl.pm.copiers[k] with cursor := 32, busy := none, reads := 0, writes := 0, out := [], buf := [] })) ∧
  (∀ (k : Fin 4) (j : CopyJob) (s : State), (s.ctl.pm.copiers[k]).retry = true → (s.ctl.pm.copiers[k]).job = some j →
    isClearing j = true ∨ chunkHeld s.ctl (heldPage s.ctl j (64 * (s.ctl.pm.copiers[k]).cursor)) (s.ctl.pm.copiers[k]).cursor = false →
    ∃ t, exec (.chunkHoldRetry k) s = .next t ∧
      t.ctl.pm.copiers[k] = { s.ctl.pm.copiers[k] with
        busy := some (s.ctl.pm.copiers[k]).cursor, retry := false, since := s.ctl.now, reads := 0, writes := 0, bw := s.ctl.power.copierBw
        out := [], buf := [] } ∧
      (∀ i : Fin 4, i ≠ k → t.ctl.pm.copiers[i] = s.ctl.pm.copiers[i]) ∧ t.ctl = { s.ctl with pm := t.ctl.pm } ∧ onlyLogic s t)

/-- The last chunk of a clearing makes its page UNUSED, or BENCH for a mirror's secondary, and its copier free; a drain at the head
of its quarter's list ends when nothing of its epoch is in flight: the next one follows, its old page is cleared, and its command
replies. -/
def Obligations.ClearingsAndDrains : Prop :=
  (∀ (k : Fin 4) (j : CopyJob) (b : Bool) (s : State), (s.ctl.pm.copiers[k]).job = some j → j.kind = .clearing b → 32 ≤ (s.ctl.pm.copiers[k]).cursor →
    s.ctl.pm.substSlice = none → s.ctl.pm.waits = [] → pageDoomed s.ctl j.dst = false →
    ∃ t, exec (.clearingComplete k) s = .next t ∧ (t.ctl.pm.copiers[k]).job = none ∧
      (∀ i : Fin 4, i ≠ k → t.ctl.pm.copiers[i] = s.ctl.pm.copiers[i]) ∧
      t.ctl.pm.uses = sparsePut (layoutUse s.ctl.pm.layout) s.ctl.pm.uses j.dst (if b then .bench else .unused) ∧
      t.ctl.pm.entries = s.ctl.pm.entries ∧ t.ctl = { s.ctl with pm := t.ctl.pm } ∧ onlyLogic s t) ∧
  (∀ (q : Fin 4) (d : Drain) (p : Nat) (r : CmdRef) (s : State), s.ctl.pm.drains[q] = [d] → epochBusy s.ctl q d.epoch = false →
    d.oldPages = [(p, .clearing)] → pageHeld s.ctl p = false → useGet s.ctl p ≠ .retired → pageDoomed s.ctl p = false → d.secondaries = [] →
    d.payload = [] → d.reply = some r → (∀ i : Fin 4, i ≠ q → s.ctl.pm.drains[i] = []) → r ∈ s.ctl.mgr.parked → s.ctl.pm.substSlice = none →
    s.ctl.pm.waits = [] →
    ∃ t, exec (.pagemapDrainComplete q) s = .next t ∧ t.ctl.pm.drains[q] = [] ∧
      t.ctl.pm.uses = sparsePut (layoutUse s.ctl.pm.layout) s.ctl.pm.uses p .clearing ∧
      t.ctl.pm.jobs = s.ctl.pm.jobs ++ [{ kind := .clearing false, hpn := 0, src := p, dst := p }] ∧
      t.ctl.mgr.parked = s.ctl.mgr.parked.erase r ∧ t.ctl.pm.entries = s.ctl.pm.entries ∧ t.ctl.chans = s.ctl.chans ∧ onlyLogic s t)

/-! ## The page map and the queues -/

/-- PAGEMAP_READ answers with entries; an ASSIGN of PAGEMAP_UPDATE maps the page, in both copies, and begins a drain with the
other epoch; MIRROR_SET clears a mirror; MIRROR_RESOLVE carries the primary's value to the secondary; BENCH_DONATE unmaps. -/
def Obligations.PageMapCommands : Prop :=
  (∀ (m : Mgmt) (first count : Nat) (s : State), served 0x20 m s → 1 ≤ count → count ≤ 252 → first + count ≤ 2097152 →
    ∃ t, exec (.pagemapRead m first false count) s = .next t ∧
      answers 0x20 m 0 ((List.range count).flatMap fun i => toBytes 4 (pmBits (pmGet s.ctl (first + i)))) s t) ∧
  (∀ (m : Mgmt) (x : PmChange) (s : State), served 0x21 m s → updateParams [x] = none → updateVerdict [x] (takenUp 0x21 m s.ctl) = .go → x.kind = 0 →
    ∃ t, exec (.pagemapUpdate m [x]) s = .next t ∧
      t.ctl.pm.entries = sparsePut (layoutEntry s.ctl.pm.layout) s.ctl.pm.entries x.hpn
        { ppn := x.ppn, domain := x.domain, mirrored := false, shared := x.shared, state := .normal } ∧
      t.ctl.pm.restore = sparsePut (layoutEntry s.ctl.pm.restoreLayout) s.ctl.pm.restore x.hpn
        { ppn := x.ppn, domain := x.domain, mirrored := false, shared := x.shared, state := .normal } ∧
      t.ctl.pm.uses = sparsePut (layoutUse s.ctl.pm.layout) s.ctl.pm.uses x.ppn .mapped ∧
      t.ctl.pm.epoch[quarterOf x.hpn] = (!s.ctl.pm.epoch[quarterOf x.hpn]) ∧
      (t.ctl.pm.drains[quarterOf x.hpn]).length = (s.ctl.pm.drains[quarterOf x.hpn]).length + 1 ∧
      refOf 0x21 m ∈ t.ctl.mgr.parked ∧ t.ctl.chans = s.ctl.chans ∧ onlyLogic s t) ∧
  (∀ (m : Mgmt) (h : Nat) (s : State), served 0x22 m s → h < 2097152 → mirrorVerdict h false (takenUp 0x22 m s.ctl) = .go →
    ∃ t, exec (.mirrorSet m h false) s = .next t ∧ t.ctl.pm.mirrors = s.ctl.pm.mirrors.filter (fun x => x.2.hpn ≠ h) ∧
      t.ctl.pm.entries = sparsePut (layoutEntry s.ctl.pm.layout) s.ctl.pm.entries h { pmGet s.ctl h with mirrored := false } ∧
      t.ctl.pm.epoch[quarterOf h] = (!s.ctl.pm.epoch[quarterOf h]) ∧ t.ctl.chans = s.ctl.chans ∧ onlyLogic s t) ∧
  (∀ (m : Mgmt) (h g i : Nat) (x : Mirror) (s : State), served 0x23 m s → h < 2097152 → g < 2048 → mirrorBusy s.ctl h = false →
    (heldHpns s.ctl).contains h = false → (pmGet s.ctl h).mirrored = true → mirrorOf s.ctl h = some (i, x) → x.pending = [] →
    copiesAgree (granView s.dram s.ctl (granKey (primaryAt s.ctl h g) g)) (granView s.dram s.ctl (granKey x.secPpn g)) = false →
    (granView s.dram s.ctl (granKey (primaryAt s.ctl h g) g)).poisoned = false →
    (granView s.dram s.ctl (granKey (primaryAt s.ctl h g) g)).uncorrectable = false → keyFailed s.ctl (granKey x.secPpn g) = false →
    ∃ t, exec (.mirrorResolve m h g false) s = .next t ∧
      (t.ctl.chans[keyChan (granKey x.secPpn g)]).wbuf = (s.ctl.chans[keyChan (granKey x.secPpn g)]).wbuf ++
        [(granKey x.secPpn g, granEncode (granView s.dram s.ctl (granKey (primaryAt s.ctl h g) g)).data)] ∧
      t.ctl.pm = s.ctl.pm ∧ onlyLogic s t) ∧
  (∀ (m : Mgmt) (h : Nat) (s : State), served 0x24 m s → h < 2097152 → donateVerdict [h] (takenUp 0x24 m s.ctl) = .go →
    ∃ t, exec (.benchDonate m [h]) s = .next t ∧
      t.ctl.pm.entries = sparsePut (layoutEntry s.ctl.pm.layout) s.ctl.pm.entries h { unmappedEntry with domain := (pmGet s.ctl h).domain } ∧
      t.ctl.pm.epoch[quarterOf h] = (!s.ctl.pm.epoch[quarterOf h]) ∧ refOf 0x24 m ∈ t.ctl.mgr.parked ∧ t.ctl.chans = s.ctl.chans ∧ onlyLogic s t)

/-- QUEUE_CONFIGURE writes the selected fields of a DISABLED queue, QUEUE_ENABLE makes it IDLE or PARKED, QUEUE_DISABLE
disables an idle queue at once and stops the mover of a running one. -/
def Obligations.QueueCommands : Prop :=
  (∀ (m : Mgmt) (q mask : Nat) (ctx : BitVec 256) (s : State), served 0x30 m s → q < 32768 → ringOk mask ctx.toNat = true →
    bitsOf ctx.toNat 46 2 ≠ 3 → disablePending s.ctl q = false → (queueGet s.ctl q).state = 0 →
    ∃ t, exec (.queueConfigure m q mask ctx) s = .next t ∧
      t.ctl.queues = sparsePut (fun _ => {}) s.ctl.queues q (writeContext mask ctx.toNat (queueGet s.ctl q)) ∧
      t.ctl.regions = s.ctl.regions ∧ t.ctl.movers = s.ctl.movers ∧ onlyLogic s t) ∧
  (∀ (m : Mgmt) (q : Nat) (s : State), served 0x31 m s → q < 32768 → disablePending s.ctl q = false → (queueGet s.ctl q).state = 0 →
    ∃ t, exec (.queueEnable m q) s = .next t ∧ (queueGet t.ctl q).state = (if (queueGet s.ctl q).headDone then 3 else 1) ∧
      (queueGet t.ctl q).dbPending = false ∧ (queueGet t.ctl q).head = (queueGet s.ctl q).head ∧ t.ctl.movers = s.ctl.movers ∧ onlyLogic s t) ∧
  (∀ (m : Mgmt) (q : Nat) (s : State), served 0x32 m s → q < 32768 → disablePending s.ctl q = false → (queueGet s.ctl q).state = 2 →
    (∃ v : Fin 16, (s.ctl.movers[v]).curQueue = some q) →
    ∃ t, exec (.queueDisable m q) s = .next t ∧ t.ctl.queues = s.ctl.queues ∧ refOf 0x32 m ∈ t.ctl.mgr.parked ∧
      (∀ v : Fin 16, (s.ctl.movers[v]).curQueue = some q → (t.ctl.movers[v]).stop = some (0, false) ∧ (t.ctl.movers[v]).stopReply = some (refOf 0x32 m)) ∧
      (∀ v : Fin 16, (s.ctl.movers[v]).curQueue ≠ some q → t.ctl.movers[v] = s.ctl.movers[v]) ∧ onlyLogic s t) ∧
  (∀ (m : Mgmt) (q : Nat) (s : State), served 0x32 m s → q < 32768 → disablePending s.ctl q = false →
    (queueGet s.ctl q).state = 1 ∨ (queueGet s.ctl q).state = 3 →
    ∃ t, exec (.queueDisable m q) s = .next t ∧
      t.ctl.queues = sparsePut (fun _ => {}) s.ctl.queues q { queueGet s.ctl q with state := 0 } ∧ t.ctl.movers = s.ctl.movers ∧ onlyLogic s t)

/-! ## Refresh, repair and delay lanes -/

/-- A refresh tick adds one to the debt of each bank of the rank, a visit of SPREAD refresh pays the bank whose turn it is and blocks
it for tRFC_PB, or marks it while its accepted granules have not finished, the deadline guard pays a bank whose debt has reached 8,
and a targeted refresh that is due takes its bank for tTRR and its row off the pending list. -/
def Obligations.RefreshCommands : Prop :=
  (∀ (n : Fin 136) (s : State), refreshRuns s.ctl n.val = true → (s.ctl.chans[sliceChan n.val]).windowRuns = false →
    ∃ t, exec (.refreshTick n) s = .next t ∧
      t.ctl.chans[sliceChan n.val] = (rankBanks (sliceRank n.val)).foldl (fun x k => tickBank k x) s.ctl.chans[sliceChan n.val] ∧
      onlyChan (sliceChan n.val) s t) ∧
  (∀ (n : Fin 136) (s : State), refreshRuns s.ctl n.val = true → (s.ctl.chans[sliceChan n.val]).refreshMode = false →
    (∀ b ∈ (s.ctl.chans[sliceChan n.val]).banks, b.2.visitDue = false) →
    ∃ t, exec (.spreadVisit n) s = .next t ∧
      (t.ctl.chans[sliceChan n.val]).rotation.toList.getD (sliceRank n.val) 0 =
        ((s.ctl.chans[sliceChan n.val]).rotation.toList.getD (sliceRank n.val) 0 + 1) % 32 ∧
      (t.ctl.chans[sliceChan n.val]).banks =
        (let k := sliceRank n.val * 32 + (s.ctl.chans[sliceChan n.val]).rotation.toList.getD (sliceRank n.val) 0
         let x := s.ctl.chans[sliceChan n.val]
         if (bankGet x k).debt ≤ -8 then x.banks
         else if bankReady s.ctl (sliceChan n.val) k then (blockBank (s.ctl.now + 160) k (payBank k x)).banks
         else (bankPut k { bankGet x k with visitDue := true } x).banks) ∧
      t.ctl.trk = s.ctl.trk ∧ t.ctl.ports = s.ctl.ports ∧ onlyLogic s t) ∧
  (∀ (n : Fin 136) (b : Fin 32) (s : State), refreshRuns s.ctl n.val = true → (s.ctl.chans[sliceChan n.val]).refreshMode = false →
    8 ≤ (bankGet s.ctl.chans[sliceChan n.val] (sliceRank n.val * 32 + b.val)).debt →
    mustDue s.ctl.chans[sliceChan n.val] (sliceRank n.val * 32 + b.val) = false →
    bankReady s.ctl (sliceChan n.val) (sliceRank n.val * 32 + b.val) = true →
    ∃ t, exec (.deadlineGuard n b) s = .next t ∧
      (let k := sliceRank n.val * 32 + b.val
       let x := caIssue (k % 2) (.refresh k) (blockBank (s.ctl.now + 160) k (payBank k s.ctl.chans[sliceChan n.val]))
       t.ctl.chans[sliceChan n.val] = bankPut k { bankGet x k with guardEnd := (bankGet x k).busyUntil } x) ∧
      scoreGet t.ctl (cIdx (sliceChan n.val) 2) = Nat.min (scoreGet s.ctl (cIdx (sliceChan n.val) 2) + 1) (2 ^ 32 - 1) ∧
      t.ctl.trk = s.ctl.trk ∧ onlyLogic s t) ∧
  (∀ (n : Fin 136) (b : Fin 32) (row k : Nat) (s : State), refreshRuns s.ctl n.val = true →
    ((bankGet s.ctl.chans[sliceChan n.val] (sliceRank n.val * 32 + b.val)).disturb.pending.find? fun x => x.1 = row) = some (row, k, true) →
    bankReady s.ctl (sliceChan n.val) (sliceRank n.val * 32 + b.val) = true →
    ∃ t, exec (.targetedRefresh n b row) s = .next t ∧
      t.ctl.chans[sliceChan n.val] = (let x := s.ctl.chans[sliceChan n.val]
        let y := bankGet x (sliceRank n.val * 32 + b.val)
        caIssue ((sliceRank n.val * 32 + b.val) % 2) (.targeted (sliceRank n.val * 32 + b.val)) (bankPut (sliceRank n.val * 32 + b.val)
          { y with openRow := none, busyUntil := s.ctl.now + 100, disturb := { y.disturb with pending := y.disturb.pending.filter fun z => z.1 ≠ row } } x)) ∧
      t.ctl.trk = s.ctl.trk ∧ onlyLogic s t)

/-- A command parity error is counted, remembered and reported, and the slice's commands run again from the failed one; a soft row repair whose
accesses are made redirects its row to a spare row of its bank, or fails when the bank has none; CH.SRR_GO starts it; CH.ENABLE is set, cleared when every slice is drained and rejected otherwise; CH.SLICE_DRAIN keeps
the bits of the ranks that exist; the row-error trackers clear. -/
def Obligations.ChannelRegisters : Prop :=
  (∀ (c : Fin 32) (r : Fin 5) (f : CaFailure) (s : State), f.repeated = false → (chanRanks c).contains r.val = true → (s.ctl.chans[c]).sliceFailed.getLsbD r.val = false →
    (s.ctl.chans[c]).caRecent = [] →
    ∃ t, exec (.caParityError c r f) s = .next t ∧
      t.ctl = raiseEvent 0x41 6 (sliceOf c r.val) 0 (rerunSlice c r.val f.pc.val f.seq
        (modChan c (fun x => { x with caRepeats := x.caRepeats.set! r.val 0, caRecent := [(r.val, s.ctl.now)] })
          (caIgnore c r.val (some f.seq) (bump (cIdx c 26) s.ctl)))) ∧
      onlyLogic s t) ∧
  (∀ (c : Fin 32) (s : State), srrReady s.ctl.chans[c] = true → (s.ctl.chans[c]).srrWaits = [] →
    ∃ t, exec (.softRowRepairDone c) s = .next t ∧ onlyLogic s t ∧
      (2 ≤ (bankGet s.ctl.chans[c] ((s.ctl.chans[c]).srrRank * 32 + (s.ctl.chans[c]).srrBank * 2 + (s.ctl.chans[c]).srrPc)).repaired.length →
        t.ctl = raiseEvent 0x03 6 (sliceOf c (s.ctl.chans[c]).srrRank) 0 (modChan c (fun x => { x with srrStatus := 3 }) s.ctl)) ∧
      ((bankGet s.ctl.chans[c] ((s.ctl.chans[c]).srrRank * 32 + (s.ctl.chans[c]).srrBank * 2 + (s.ctl.chans[c]).srrPc)).repaired.length < 2 →
        ∃ x : Chan, t.ctl = raiseEvent 0x02 6 (sliceOf c (s.ctl.chans[c]).srrRank) 0 (modChan c (fun _ => x) s.ctl) ∧ x.srrStatus = 2 ∧
          x.banks = (let k := (s.ctl.chans[c]).srrRank * 32 + (s.ctl.chans[c]).srrBank * 2 + (s.ctl.chans[c]).srrPc
            let y := bankGet s.ctl.chans[c] k
            bankPut k { y with repaired := y.repaired ++ [(s.ctl.chans[c]).srrRow], openRow := none } s.ctl.chans[c]).banks)) ∧
  (∀ (c : Fin 32) (s : State), (s.ctl.chans[c]).srrStatus ≠ 1 →
    ∃ t, exec (.srrGo c) s = .next t ∧
      t.ctl.chans[c] = { s.ctl.chans[c] with srrStatus := 1, srrSince := s.ctl.now, srrAccesses := 0, srrOut := [], srrBuf := [] } ∧ onlyChan c s t) ∧
  (∀ (c : Fin 32) (s : State), ∃ t, exec (.chEnableSet c) s = .next t ∧ t.ctl.chans[c] = { s.ctl.chans[c] with enable := true } ∧ onlyChan c s t) ∧
  (∀ (c : Fin 32) (s : State), (s.ctl.chans[c]).enable = true →
    ∃ t, exec (.chEnableClear c) s = .next t ∧
      ((∀ k ∈ chanRanks c, sliceDrained s.ctl c k = true ∨ (s.ctl.chans[c]).sliceOut.getLsbD k = true) →
        t.ctl.chans[c] = { s.ctl.chans[c] with enable := false } ∧ onlyChan c s t) ∧
      (¬(∀ k ∈ chanRanks c, sliceDrained s.ctl c k = true ∨ (s.ctl.chans[c]).sliceOut.getLsbD k = true) →
        t.ctl.power.configReject = true ∧ t.ctl = { s.ctl with power := t.ctl.power } ∧ onlyLogic s t)) ∧
  (∀ (c : Fin 32) (b : BitVec 5) (s : State), ∃ t, exec (.sliceDrain c b) s = .next t ∧
      (∀ k, (t.ctl.chans[c]).sliceDrain.getLsbD k = (b.getLsbD k && (chanRanks c).contains k)) ∧ onlyChan c s t) ∧
  (∀ s : State, ∃ t, exec .rowTrackerClear s = .next t ∧ (∀ c : Fin 32, t.ctl.chans[c] = { s.ctl.chans[c] with rowErrs := [] }) ∧
      t.ctl = { s.ctl with chans := t.ctl.chans } ∧ onlyLogic s t)

/-- An idle apply point takes the pending taps of the lanes that are idle, CH.DLY_TAP is written at once on a stopped channel and within one tap on a running
one, an accepted unit waits for its apply points, an incomplete one falls back to patterns, the clock's phase step is dated. -/
def Obligations.DelayAndCalibration : Prop :=
  (∀ (c : Fin 32) (s : State), (s.ctl.chans[c]).dlyApplyIdle = true → (s.ctl.chans[c]).cal = [] →
    ∃ t, exec (.delayApplyPoint c) s = .next t ∧
      (t.ctl.chans[c]).tapsPending = (s.ctl.chans[c]).tapsPending.filter (fun y => !tapReady s.ctl c y.1) ∧
      (t.ctl.chans[c]).taps =
        (((s.ctl.chans[c]).tapsPending.filter (fun y => tapReady s.ctl c y.1)).foldl (fun x y => tapStep y.1 y.2 x) s.ctl.chans[c]).taps ∧
      onlyChan c s t) ∧
  (∀ (c : Fin 32) (v : Nat) (s : State), v < 128 → selOk c (s.ctl.chans[c]).dlySel = true → layerCalRuns s.ctl (selLayer (s.ctl.chans[c]).dlySel) = false →
    ∃ t, exec (.dlyTap c false v) s = .next t ∧ onlyChan c s t ∧
      ((s.ctl.chans[c]).enable = false → t.ctl.chans[c] = { tapPut (selKey (s.ctl.chans[c]).dlySel) v s.ctl.chans[c] with
        tapsPending := (s.ctl.chans[c]).tapsPending.filter fun y => y.1 ≠ selKey (s.ctl.chans[c]).dlySel }) ∧
      ((s.ctl.chans[c]).enable = true → v ≤ tapGet s.ctl.chans[c] (selKey (s.ctl.chans[c]).dlySel) + 1 → tapGet s.ctl.chans[c] (selKey (s.ctl.chans[c]).dlySel) ≤ v + 1 →
        (selKey (s.ctl.chans[c]).dlySel, v) ∈ (t.ctl.chans[c]).tapsPending ∧ (t.ctl.chans[c]).taps = (s.ctl.chans[c]).taps) ∧
      ((s.ctl.chans[c]).enable = true → (tapGet s.ctl.chans[c] (selKey (s.ctl.chans[c]).dlySel) + 1 < v ∨ v + 1 < tapGet s.ctl.chans[c] (selKey (s.ctl.chans[c]).dlySel)) → t.ctl.chans[c] = s.ctl.chans[c])) ∧
  (∀ (n : Fin 136) (hist : List LaneHist) (a : Activity) (s : State), gathering s.ctl n.val = some a → histComplete hist = true →
    probeNeed s.ctl.chans[sliceChan n.val] (sliceRank n.val) ≤ probeSlots s.ctl.chans[sliceChan n.val] (sliceRank n.val) a.id →
    firstFailing s.ctl.chans[sliceChan n.val] (sliceLayer n.val) hist = none →
    ∃ t, exec (.calUnitComplete n hist) s = .next t ∧
      (t.ctl.chans[sliceChan n.val]).cal = (s.ctl.chans[sliceChan n.val]).cal ++
        [{ rank := sliceRank n.val, targets := unitTargets hist, activity := a.id, temp := layerTemp s.ctl (sliceLayer n.val) }] ∧
      (t.ctl.chans[sliceChan n.val]).calRejectRun.toList.getD (sliceRank n.val) 1 = 0 ∧
      (t.ctl.chans[sliceChan n.val]).taps = (s.ctl.chans[sliceChan n.val]).taps ∧ onlyChan (sliceChan n.val) s t) ∧
  (∀ (n : Fin 136) (a : Activity) (s : State), gathering s.ctl n.val = some a →
    ∃ t, exec (.calPatternFallback n) s = .next t ∧ (t.ctl.chans[sliceChan n.val]).calPattern.getLsbD (sliceRank n.val) = true ∧
      onlyChan (sliceChan n.val) s t) ∧
  (∀ (r : Fin 4) (s : State), s.ctl.power.selfRefresh = false →
    ∃ t, exec (.clkPhaseStep r) s = .next t ∧ t.ctl.regions[r] = { s.ctl.regions[r] with clkPhaseBeat := s.ctl.beat.number } ∧
      (∀ q : Fin 4, q ≠ r → t.ctl.regions[q] = s.ctl.regions[q]) ∧ t.ctl.chans = s.ctl.chans ∧ onlyLogic s t)

/-! ## Regulation -/

/-- Every 250 ns each master's state follows reg_tick, and what its bucket holds by then is noted; a
region restores credit below its low mark and starts a new share window; the floor and its scale are recomputed; a changed
scale is notified once. -/
def Obligations.RegulationTicks : Prop :=
  (∀ s : State, ∃ t, exec .regTick s = .next t ∧ onlyLogic s t ∧ t.ctl.trk = s.ctl.trk ∧
      t.ctl.ports = s.ctl.ports ∧
      (∀ (m : Fin 5) (c : Fin 32), (t.ctl.chans[c]).masters[m] =
        { (tickMaster (masterTarget s.ctl m) (s.ctl.chans[c]).masters[m]).1 with
          bucket := bucketNow s.ctl c m, bucketAt := s.ctl.now })) ∧
  (∀ (r : Fin 4) (s : State), ∃ t, exec (.queueLevelUpdate r) s = .next t ∧ onlyLogic s t ∧
      (∀ c : Fin 32, chanRegion c ≠ r → t.ctl.chans[c] = s.ctl.chans[c]) ∧
      (∀ (c : Fin 32) (m : Fin 5), chanRegion c = r → ((t.ctl.chans[c]).masters[m]).accepted = 0 ∧
        (occupancy s.ctl c ≤ (s.ctl.regions[r]).qlLow → occupancy s.ctl c ≤ (s.ctl.regions[r]).qlHigh → ((t.ctl.chans[c]).masters[m]).withheld = false))) ∧
  (∀ s : State, ∃ t, exec .floorRecompute s = .next t ∧ t.ctl.power.regFloor = floorSum s.ctl s.ctl.power.maintReserve / 256 ∧
      t.ctl.power.flReserve = s.ctl.power.maintReserve ∧
      t.ctl.power.regScale = scaleFor (floorSum s.ctl s.ctl.power.maintReserve) (committedSum s.ctl) ∧ t.ctl.ports = s.ctl.ports ∧ onlyLogic s t) ∧
  (∀ s : State, ∃ t, exec .guaranteeScaled s = .next t ∧ t.ctl.power.regChanged = false ∧ t.ctl.power.regTimer = s.ctl.power.regChanged ∧
      t.ctl.power.regScale = s.ctl.power.regScale ∧ onlyLogic s t)

/-! ## The system beat and its windows -/

/-- A glitch is counted and nothing else; a valid edge in LOCKED counts a beat; a mark there takes the waiting changeover set and
the scorecard's snapshot; a missing edge starts FREE_RUN and counts its beat; the internal beat counts; the first lock and
two seconds of FREE_RUN are timed out. -/
def Obligations.BeatCapture : Prop :=
  (∀ (w v : Nat) (s : State), classify s.ctl.beat w v = .glitch →
    ∃ t, exec (.beatEdge w v) s = .next t ∧ scoreGet t.ctl (gIdx 7) = Nat.min (scoreGet s.ctl (gIdx 7) + 1) (2 ^ 32 - 1) ∧
      t.ctl = { s.ctl with score := t.ctl.score } ∧ onlyLogic s t) ∧
  (∀ (w v : Nat) (s : State), classify s.ctl.beat w v = .beat → s.ctl.beat.state = .locked → 2 * v < 3 * s.ctl.beat.period →
    nearTo s.ctl.beat.period v = true →
    ∃ t, exec (.beatEdge w v) s = .next t ∧ t.ctl.beat.number = s.ctl.beat.number + 1 ∧ t.ctl.beat.state = .locked ∧
      t.ctl.beat.intervals = (v :: s.ctl.beat.intervals).take 8 ∧ t.ctl.beat.bad = 0 ∧ t.ctl.chans = s.ctl.chans ∧ onlyLogic s t) ∧
  (∀ (f : Nat) (s : State), s.ctl.beat.state = .locked → s.ctl.beat.number.toNat % 1024 = 0 → s.ctl.beat.load = none →
    ∃ t, exec (.mark f) s = .next t ∧ t.ctl.beat.number = s.ctl.beat.number ∧ t.ctl.beat.co = s.ctl.beat.coPending.getD s.ctl.beat.co ∧
      t.ctl.beat.coPending = none ∧ t.ctl.snapshot = s.ctl.score ∧ t.ctl.beat.snapshotBeat = s.ctl.beat.number ∧ onlyLogic s t) ∧
  (∀ s : State, s.ctl.beat.state = .locked → s.ctl.beat.load = none → (s.ctl.beat.number + 1).toNat % 1024 ≠ 0 →
    ∃ t, exec .beatMissing s = .next t ∧ t.ctl.beat.state = .freeRun ∧ t.ctl.beat.number = s.ctl.beat.number + 1 ∧ t.ctl.beat.intervals = [] ∧ onlyLogic s t) ∧
  (∀ s : State, s.ctl.beat.state ≠ .locked → (s.ctl.beat.number + 1).toNat % 1024 ≠ 0 →
    ∃ t, exec .internalBeat s = .next t ∧ t.ctl.beat.number = s.ctl.beat.number + 1 ∧ t.ctl.beat.state = s.ctl.beat.state ∧
      t.ctl.chans = s.ctl.chans ∧ onlyLogic s t) ∧
  (∀ s : State, s.ctl.beat.state ≠ .locked → s.ctl.beat.lockReported = false → s.ctl.life.fwRunning = true →
    ∃ t, exec .beatLockTimeout s = .next t ∧ t.ctl.beat = { s.ctl.beat with lockReported := true } ∧ onlyLogic s t) ∧
  (∀ s : State, s.ctl.beat.state = .freeRun → s.ctl.beat.uncertain = false →
    ∃ t, exec .freeRunTimeout s = .next t ∧ t.ctl.beat = { s.ctl.beat with uncertain := true } ∧ onlyLogic s t)

/-- A channel blocks for the beat that will open a window, with the refresh mode then in force, lifts the block when the beat opens
none, does its refresh work and then the test steps of lagging targets until the window end and closes; GLOBAL.REFRESH_MODE is written while changeovers run. -/
def Obligations.ChangeoverWindows : Prop :=
  (∀ (c : Fin 32) (s : State), windowsOpen s.ctl = true → (s.ctl.chans[c]).windowBlocked = none → (s.ctl.chans[c]).windowRuns = false →
    s.ctl.power.ranksAsleep = false → s.ctl.power.selfRefresh = false → inPhase s.ctl.beat (s.ctl.beat.number + 1) = true →
    ∃ t, exec (.windowBlock c) s = .next t ∧
      t.ctl.chans[c] = { s.ctl.chans[c] with windowBlocked := some s.ctl.now, refreshMode := s.ctl.beat.refreshMode } ∧ onlyChan c s t) ∧
  (∀ (c : Fin 32) (s : State), (s.ctl.chans[c]).windowBlocked.isSome = true → (s.ctl.chans[c]).windowRuns = false → s.ctl.beat.windowOpen = false →
    ∃ t, exec (.windowBlockLift c) s = .next t ∧ t.ctl.chans[c] = { s.ctl.chans[c] with windowBlocked := none, windowEnd := s.ctl.now } ∧ onlyChan c s t) ∧
  (∀ (c : Fin 32) (tests : List IstRun) (s : State), (s.ctl.chans[c]).windowBlocked.isSome = true → (s.ctl.chans[c]).windowRuns = false →
    s.ctl.beat.windowOpen = true →
    ∃ t u, exec (.windowWorkStart c tests) s = .next t ∧ (t.dram, t.ctl) = windowTests c tests s.dram u ∧ t.pending = s.pending ∧
      (tests = [] → onlyLogic s t ∧ t.ctl = u) ∧ (u.chans[c]).windowRuns = true ∧
      (u.chans[c]).windowUntil = s.ctl.now + windowLength s.ctl.beat ∧ u.trk = s.ctl.trk ∧ u.beat = s.ctl.beat ∧ u.mgr = s.ctl.mgr) ∧
  (∀ (c : Fin 32) (s : State), (s.ctl.chans[c]).windowRuns = true →
    (windowMore s.ctl c = false ∧ testsMore s.ctl c = false) ∨ (s.ctl.chans[c]).windowUntil ≤ s.ctl.now →
    ∃ t, exec (.windowClose c) s = .next t ∧
      t.ctl.chans[c] = { s.ctl.chans[c] with windowRuns := false, windowBlocked := none, windowEnd := s.ctl.now } ∧ onlyChan c s t) ∧
  (∀ (b : Bool) (s : State), s.ctl.beat.co.enable = true → s.ctl.beat.coPending = none →
    ∃ t, exec (.refreshMode b) s = .next t ∧ t.ctl = { s.ctl with beat := { s.ctl.beat with refreshMode := b } } ∧ onlyLogic s t)

/-- A unit of in-service test joins the units that are due; a step of a bench target on an idle channel makes its visits and stores to no granule of
another page; a step of a layer's bonds tests on, and the last of its unit goes on to the next; a step of a lagging target in a window
blocks the slice under test and is counted. -/
def Obligations.InServiceTest : Prop :=
  (∀ (i : Fin 25) (n : Nat) (s : State), s.ctl.power.stage = .ready →
    ∃ t, exec (.istUnitDue i n) s = .next t ∧
      (t.ctl.mgr.ist[i]).due = (s.ctl.mgr.ist[i]).due ++ [(s.ctl.now : Int) - (n * istPeriod i / 1000 : Nat)] ∧
      (t.ctl.mgr.ist[i]).unit = (s.ctl.mgr.ist[i]).unit ∧ (∃ a ∈ t.ctl.mgr.running, a.id = (istActivity i).2.2.2) ∧ onlyLogic s t) ∧
  (∀ (i : Fin 25) (bonds : List (Nat × Bool)) (reads : List (Nat × BitVec 320)) (x : Activity) (s : State),
    (s.ctl.mgr.running.find? fun a => a.id = (istActivity i).2.2.2) = some x → x.state = 1 →
    s.ctl.power.ranksAsleep = false → s.ctl.power.selfRefresh = false → i.val < 8 → useGet s.ctl (istPage s.ctl i) = .bench →
    (∀ r ∈ istRanks i (istChan s.ctl i), (s.ctl.chans[istChan s.ctl i]).sliceDrain.getLsbD r = false) →
    istFits s.ctl i (istChan s.ctl i) = false → istIdle s.ctl (istChan s.ctl i) = true → (s.ctl.mgr.ist[i]).busyUntil ≤ s.ctl.now →
    (s.ctl.mgr.ist[i]).done + stepVisits < unitVisits → s.memOk →
    ∃ t, exec (.istStep i bonds reads) s = .next t ∧ (t.ctl.mgr.ist[i]).done = (s.ctl.mgr.ist[i]).done + stepVisits ∧
      (t.ctl.mgr.ist[i]).busyUntil = s.ctl.now + 100 ∧ (t.ctl.mgr.ist[i]).unit = (s.ctl.mgr.ist[i]).unit ∧ t.ctl.trk = s.ctl.trk ∧
      t.memOk ∧ t.pending = s.pending ∧
      (∀ a, (∀ g < 2048, a < 40 * granKey (istPage s.ctl i) g ∨ 40 * granKey (istPage s.ctl i) g + 40 ≤ a) → readByte t.dram a = readByte s.dram a)) ∧
  (∀ (i : Fin 25) (reads : List (Nat × BitVec 320)) (x : Activity) (s : State),
    (s.ctl.mgr.running.find? fun a => a.id = (istActivity i).2.2.2) = some x → x.state = 1 →
    s.ctl.power.ranksAsleep = false → s.ctl.power.selfRefresh = false → 8 ≤ i.val →
    (∀ r ∈ istRanks i (istChan s.ctl i), (s.ctl.chans[istChan s.ctl i]).sliceDrain.getLsbD r = false) →
    istFits s.ctl i (istChan s.ctl i) = false → istIdle s.ctl (istChan s.ctl i) = true → (s.ctl.mgr.ist[i]).busyUntil ≤ s.ctl.now →
    (s.ctl.mgr.ist[i]).bonds = [] → (s.ctl.mgr.ist[i]).forward = [] →
    ∃ t, exec (.istStep i [] reads) s = .next t ∧ t.ctl.trk = s.ctl.trk ∧ onlyLogic s t ∧
      ((s.ctl.mgr.ist[i]).done < 3 → (t.ctl.mgr.ist[i]).done = (s.ctl.mgr.ist[i]).done + 1 ∧ (t.ctl.mgr.ist[i]).unit = (s.ctl.mgr.ist[i]).unit ∧
        (t.ctl.mgr.ist[i]).due = (s.ctl.mgr.ist[i]).due) ∧
      ((s.ctl.mgr.ist[i]).done = 3 → (t.ctl.mgr.ist[i]).done = 0 ∧ (t.ctl.mgr.ist[i]).unit = ((s.ctl.mgr.ist[i]).unit + 1) % istUnits i ∧
        (t.ctl.mgr.ist[i]).due = (s.ctl.mgr.ist[i]).due.tail)) ∧
  (∀ (i : Fin 25) (reads : List (Nat × BitVec 320)) (x : Activity) (s : State),
    (s.ctl.mgr.running.find? fun a => a.id = (istActivity i).2.2.2) = some x → x.state = 1 →
    s.ctl.power.ranksAsleep = false → s.ctl.power.selfRefresh = false → 8 ≤ i.val →
    (∀ r ∈ istRanks i (istChan s.ctl i), (s.ctl.chans[istChan s.ctl i]).sliceDrain.getLsbD r = false) →
    istFits s.ctl i (istChan s.ctl i) = true → (s.ctl.mgr.ist[i]).done < 3 →
    ∃ t, exec (.istStep i [] reads) s = .next t ∧ scoreGet t.ctl (gIdx 14) = Nat.min (scoreGet s.ctl (gIdx 14) + 1) (2 ^ 32 - 1) ∧
      (t.ctl.chans[istChan s.ctl i]).windowBusy = Nat.max (s.ctl.chans[istChan s.ctl i]).windowBusy (istWindowEnd s.ctl i (istChan s.ctl i)) ∧
      (t.ctl.mgr.ist[i]).done = (s.ctl.mgr.ist[i]).done + 1 ∧ (t.ctl.mgr.ist[i]).busyUntil = istWindowEnd s.ctl i (istChan s.ctl i) ∧
      (∀ c : Fin 32, c ≠ istChan s.ctl i → t.ctl.chans[c] = s.ctl.chans[c]) ∧ t.ctl.trk = s.ctl.trk ∧ onlyLogic s t)

/-! ## Maintenance -/

/-- MAINT_START of an activity that nothing blocks starts it, MAINT_STATUS lists activities, MAINT_ABORT ends one, LAYER_RESET
of a drained layer is counted, a test's end is recorded with its finding, a BIST's with its failing rows and its target
re-initialised, and an eye scan writes its lanes' fields. -/
def Obligations.MaintenanceCommands : Prop :=
  (∀ (m : Mgmt) (p : Fin 4) (s : State), served 0x60 m s → blocker s.ctl 5 1 p.val = none → overlapping s.ctl 5 1 p.val = [] →
    claimsHeld s.ctl < 64 →
    ∃ t, exec (.maintStart m 5 1 p.val) s = .next t ∧
      (∃ a, t.ctl.mgr.running = s.ctl.mgr.running ++ [a] ∧ a.kind = 5 ∧ a.targetType = 1 ∧ a.target = p.val ∧ a.state = 1 ∧ a.byFirmware = false) ∧
      onlyLogic s t) ∧
  (∀ (m : Mgmt) (first : Nat) (s : State), served 0x61 m s →
    ∃ t, exec (.maintStatus m first) s = .next t ∧
      answers 0x61 m 0 (toBytes 8 (s.ctl.mgr.running ++ s.ctl.mgr.ended).length ++
        (((s.ctl.mgr.running ++ s.ctl.mgr.ended).drop first).take 62).flatMap fun a => toBytes 16 (activityBits a)) s t) ∧
  (∀ (m : Mgmt) (id : Nat) (a : Activity) (s : State), served 0x62 m s → a ∈ s.ctl.mgr.running → a.id = id → a.kind = 5 →
    (∀ x ∈ s.ctl.mgr.running, x.id = id → x = a) →
    ∃ t, exec (.maintAbort m id) s = .next t ∧ (∀ x ∈ t.ctl.mgr.running, x.id ≠ id) ∧
      (∃ x ∈ t.ctl.mgr.ended, x.id = id ∧ x.state = 3 ∧ x.kind = 5) ∧ onlyLogic s t) ∧
  (∀ (m : Mgmt) (l : Nat) (s : State), served 0x72 m s → 1 ≤ l → l ≤ 17 → s.ctl.power.layers.toList.getD (l - 1) 0 = 2 →
    (∀ n ∈ layerSlices l, sliceIsOut s.ctl n = true) → blocker s.ctl 6 5 l = none →
    ∃ t, exec (.layerReset m l true true) s = .next t ∧
      scoreGet t.ctl (gIdx (34 + l)) = Nat.min (scoreGet s.ctl (gIdx (34 + l)) + 1) (2 ^ 16 - 1) ∧ t.ctl.power.layers = s.ctl.power.layers ∧ onlyLogic s t) ∧
  (∀ (id : Nat) (found : BistFinding) (bad : Bool) (hists : List UnitHist) (a : Activity) (s : State),
    (holders s.ctl).find? (fun a => a.id = id) = some a → a.kind = 3 ∨ a.kind = 4 →
    ∃ t, exec (.bistComplete id found bad hists) s = .next t ∧
      (∃ x ∈ t.ctl.mgr.ended, x.id = id ∧ x.state = 2 ∧ x.result = (if bad then 1#32 else 0#32)) ∧
      t.ctl.chans = s.ctl.chans ∧ onlyLogic s t) ∧
  (∀ (id : Nat) (found : BistFinding) (bad : Bool) (hists : List UnitHist) (a : Activity) (s : State),
    (holders s.ctl).find? (fun a => a.id = id) = some a → a.kind = 8 →
    ∃ t, exec (.bistComplete id found bad hists) s = .next t ∧
      (∃ x ∈ t.ctl.mgr.ended, x.id = id ∧ x.state = 2 ∧ x.result = bistResult a.targetType found ∧ x.rows = found.rows) ∧
      t.dram = dramClear s.dram (fun ppn => (bistSlices a.targetType a.target).contains (ppnSlice ppn) &&
        !(s.ctl.chans[sliceChan (ppnSlice ppn)]).sliceFailed.getLsbD (sliceRank (ppnSlice ppn))) ∧
      t.pending = s.pending) ∧
  (∀ (id : Nat) (eyes : List EyeSweep) (a : Activity) (p : Fin 4) (s : State), (holders s.ctl).find? (fun a => a.id = id && a.kind = 5) = some a →
    a.target = p.val → (s.ctl.ports[p]).retraining = false → (s.ctl.ports[p]).rxSleep = .active →
    ∃ t, exec (.eyeScanComplete id eyes) s = .next t ∧
      (∀ l : Fin 17, (t.ctl.ports[p]).rx[l] = eyeLane eyes l.val (s.ctl.ports[p]).rx[l]) ∧ (t.ctl.ports[p]).link = (s.ctl.ports[p]).link ∧
      (∃ x ∈ t.ctl.mgr.ended, x.id = id ∧ x.state = 2) ∧ onlyLogic s t)

/-! ## Movers -/

/-- A free mover takes the ready queue of highest priority and issues the first access of its loop; the tail check parks a queue
whose head has END or goes on with NEXT; the slot check finds a free slot; a failed fetch is recorded in a free slot; MOVER.ENABLE
is written. -/
def Obligations.MoverLoop : Prop :=
  (∀ (m : Fin 16) (q e : Nat) (a : Access) (s : State), (s.ctl.movers[m]).curQueue = none →
    pickQueue (s.ctl.regions[moverRegion m]).ready = some q → (s.ctl.movers[m]).enable = true → moversTake s.ctl = true →
    s.ctl.power.selfRefresh = false → runAccess { s.ctl.movers[m] with phase := nextPhase (queueGet s.ctl q) } (queueGet s.ctl q) = some (e, a) →
    accessOf s.ctl m e = none → canIssue m e (queueGet s.ctl q).domain a s.ctl →
    ∃ t, exec (.moverTakeQueue m 0) s = .next t ∧
      t.ctl.movers[m] = { s.ctl.movers[m] with
        curQueue := some q, phase := nextPhase (queueGet s.ctl q), denied := false, stop := none, stopReply := none
        stalled := false, allocSince := none } ∧
      issues m e (queueGet s.ctl q).domain a s.ctl t ∧
      queueGet t.ctl q = { queueGet s.ctl q with state := 2, dbPending := false, ringWait := false } ∧
      (∀ k, k ≠ q → queueGet t.ctl k = queueGet s.ctl k) ∧ (∀ v : Fin 16, v ≠ m → t.ctl.movers[v] = s.ctl.movers[v]) ∧
      (∀ y ∈ (t.ctl.regions[queueRegion q]).ready, y.1 ≠ q) ∧ onlyLogic s t) ∧
  (∀ (m : Fin 16) (q g : Nat) (x : Trk) (s : State), movesIn m q .tail s → accessOk m headElem x s → gransData x.grans = g →
    (queueGet s.ctl q).state = 2 → (s.ctl.movers[m]).entryEcc = 0 →
    ∃ t, exec (.tailCheck m) s = .next t ∧ onlyLogic s t ∧
      (bitOf g 8 = true → (queueGet s.ctl q).dbPending = false →
        queueGet t.ctl q = { queueGet s.ctl q with state := 3 } ∧ (t.ctl.movers[m]).curQueue = none ∧ (t.ctl.movers[m]).phase = .free ∧
        t.ctl.trk = s.ctl.trk.filter (fun y => y.id ≠ x.id)) ∧
      (bitOf g 8 = false →
        queueGet t.ctl q = { queueGet s.ctl q with head := bitsOf g 70 31, headDone := false, resume := 0 } ∧
        (t.ctl.movers[m]).phase = (if (queueGet s.ctl q).slotFree then .fetch else .slot) ∧ (t.ctl.movers[m]).curQueue = some q)) ∧
  (∀ (m : Fin 16) (q : Nat) (x : Trk) (s : State), movesIn m q .slot s → accessOk m slotElem x s →
    slotValid (queueGet s.ctl q) (gransData x.grans) = false → (queueGet s.ctl q).headDone = false → (s.ctl.movers[m]).entryEcc = 0 →
    ∃ t, exec (.slotCheck m) s = .next t ∧ queueGet t.ctl q = { queueGet s.ctl q with slotFree := true } ∧
      (t.ctl.movers[m]).phase = .fetch ∧ (t.ctl.movers[m]).curQueue = some q ∧ onlyLogic s t) ∧
  (∀ (m : Fin 16) (q st : Nat) (s : State), movesIn m q (.fetchFail st) s → (queueGet s.ctl q).slotFree = true →
    (s.ctl.movers[m]).entryEcc = 0 →
    ∃ t, exec (.fetchFailed m) s = .next t ∧ (t.ctl.movers[m]).phase = .record 2 st ∧ (t.ctl.movers[m]).curQueue = some q ∧
      queueGet t.ctl q = queueGet s.ctl q ∧ onlyLogic s t) ∧
  (∀ (m : Fin 16) (b : Bool) (s : State), (s.ctl.movers[m]).faulted = false →
    ∃ t, exec (.moverEnable m b) s = .next t ∧ onlyMover m s t ∧
      (b = true → t.ctl.movers[m] = { s.ctl.movers[m] with enable := true }) ∧
      (b = false → t.ctl.movers[m] = askStop 1 true { s.ctl.movers[m] with enable := false }))

/-- A valid COPY, FILL or VERIFY runs, and one of a single element issues exactly the access that its fields name; FENCE and
NOTIFY issue nothing; a descriptor whose opcode is not assigned goes to its record with UNSUPPORTED, and the record's write is
issued. -/
def Obligations.MoverDescriptors : Prop :=
  (∀ (m : Fin 16) (q d : Nat) (x : Trk) (s : State), fetched m q d x s → (s.ctl.movers[m]).entryEcc = 0 →
    descStatus (dropAccess x.id s.ctl) (queueGet s.ctl q).domain (BitVec.ofNat 512 d) = 0 →
    (d % 256 = 1 → ∃ t, exec (.copy m) s = .next t ∧ runs m q d s t) ∧
    (d % 256 = 2 → ∃ t, exec (.fill m) s = .next t ∧ runs m q d s t) ∧
    (d % 256 = 6 → ∃ t, exec (.verify m) s = .next t ∧ runs m q d s t) ∧
    (d % 256 = 7 → ∃ t, exec (.fenceDescriptor m) s = .next t ∧ runs m q d s t ∧ t.ctl = takenDesc m q d (dropAccess x.id s.ctl)) ∧
    (d % 256 = 8 → ∃ t, exec (.notifyDescriptor m) s = .next t ∧ runs m q d s t ∧ t.ctl = takenDesc m q d (dropAccess x.id s.ctl))) ∧
  (∀ (m : Fin 16) (q d : Nat) (x : Trk) (a : Access) (s : State), fetched m q d x s →
    descStatus (dropAccess x.id s.ctl) (queueGet s.ctl q).domain (BitVec.ofNat 512 d) = 0 → descCount (BitVec.ofNat 512 d) = 1 →
    (queueGet s.ctl q).resume = 0 → canIssue m 0 (queueGet s.ctl q).domain a (dropAccess x.id s.ctl) →
    (d % 256 = 1 → a = { op := .read, opcode := 0x10, addr := descA (BitVec.ofNat 512 d), count := 1, data := 0 } →
      ∃ t, exec (.copy m) s = .next t ∧ issuesFirst m q d a (dropAccess x.id s.ctl) s t) ∧
    (d % 256 = 2 → a = { op := .write, opcode := 0x18, addr := descA (BitVec.ofNat 512 d), count := 1
                         data := descOperand (BitVec.ofNat 512 d) * (2 ^ 128 + 1) } →
      ∃ t, exec (.fill m) s = .next t ∧ issuesFirst m q d a (dropAccess x.id s.ctl) s t) ∧
    (d % 256 = 6 → a = { op := .verify, opcode := 0x10, addr := descA (BitVec.ofNat 512 d), count := 1, data := 0 } →
      ∃ t, exec (.verify m) s = .next t ∧ issuesFirst m q d a (dropAccess x.id s.ctl) s t)) ∧
  (∀ (m : Fin 16) (q d : Nat) (x : Trk) (a : Access) (s : State), fetched m q d x s → d % 256 = 0 ∨ 8 < d % 256 →
    accessOf (dropAccess x.id s.ctl) m recordElem = none →
    runAccess { (takenDesc m q d (dropAccess x.id s.ctl)).movers[m] with phase := .record 1 7 } (queueGet s.ctl q) = some (recordElem, a) →
    canIssue m recordElem (queueGet s.ctl q).domain a (dropAccess x.id s.ctl) →
    ∃ t, exec (.unassignedDescriptorOpcode m) s = .next t ∧ (t.ctl.movers[m]).phase = .record 1 7 ∧
      (t.ctl.movers[m]).desc = BitVec.ofNat 512 d ∧ (t.ctl.movers[m]).curQueue = some q ∧
      issues m recordElem (queueGet s.ctl q).domain a (dropAccess x.id s.ctl) t ∧ onlyLogic s t)

/-- A GATHER of one element, or a SCATTER_UPDATE that is UNIFORM, first reads the granule of the index table that holds its index;
a SCATTER, or another SCATTER_UPDATE, reads its packed bytes and then that granule; when the index has come, the one element's
access goes to the address BASE + index × scale, in the logic that holds the block. -/
def Obligations.MoverIndexed : Prop :=
  (∀ (m : Fin 16) (q d : Nat) (x : Trk) (a : Access) (s : State), fetched m q d x s →
    descStatus (dropAccess x.id s.ctl) (queueGet s.ctl q).domain (BitVec.ofNat 512 d) = 0 → descCount (BitVec.ofNat 512 d) = 1 →
    (queueGet s.ctl q).resume = 0 → descStream (BitVec.ofNat 512 d) = false →
    accessOf (dropAccess x.id s.ctl) m (indexElem (descA (BitVec.ofNat 512 d) / 256)) = none →
    a = bulkAccess (descA (BitVec.ofNat 512 d)) 1 false → canIssue m (indexElem (descA (BitVec.ofNat 512 d) / 256)) (queueGet s.ctl q).domain a (dropAccess x.id s.ctl) →
    (d % 256 = 3 → ∃ t, exec (.gather m) s = .next t ∧ runs m q d s t ∧ (t.ctl.movers[m]).nextElem = 0 ∧
      issues m (indexElem (descA (BitVec.ofNat 512 d) / 256)) (queueGet s.ctl q).domain a (dropAccess x.id s.ctl) t) ∧
    (d % 256 = 5 → descUniform (BitVec.ofNat 512 d) = true →
      ∃ t, exec (.scatterUpdate m) s = .next t ∧ runs m q d s t ∧ (t.ctl.movers[m]).nextElem = 0 ∧
        issues m (indexElem (descA (BitVec.ofNat 512 d) / 256)) (queueGet s.ctl q).domain a (dropAccess x.id s.ctl) t)) ∧
  (∀ (m : Fin 16) (q d : Nat) (x : Trk) (a b : Access) (s : State), fetched m q d x s →
    descStatus (dropAccess x.id s.ctl) (queueGet s.ctl q).domain (BitVec.ofNat 512 d) = 0 → descCount (BitVec.ofNat 512 d) = 1 →
    (queueGet s.ctl q).resume = 0 → descC (BitVec.ofNat 512 d) % 32 + elemSize (BitVec.ofNat 512 d) ≤ 32 →
    accessOf (dropAccess x.id s.ctl) m (packedElem (descC (BitVec.ofNat 512 d) / 256)) = none →
    accessOf (dropAccess x.id s.ctl) m (indexElem (descA (BitVec.ofNat 512 d) / 256)) = none →
    a = { bulkAccess (descC (BitVec.ofNat 512 d)) 1 true with writeType := true } → b = bulkAccess (descA (BitVec.ofNat 512 d)) 1 false →
    canIssue m (packedElem (descC (BitVec.ofNat 512 d) / 256)) (queueGet s.ctl q).domain a (dropAccess x.id s.ctl) →
    canIssue m (indexElem (descA (BitVec.ofNat 512 d) / 256)) (queueGet s.ctl q).domain b
      (addAccess m (packedElem (descC (BitVec.ofNat 512 d) / 256)) (queueGet s.ctl q).domain a (dropAccess x.id s.ctl)) →
    (∀ i : Instr, (i = .scatter m ∧ d % 256 = 4) ∨ (i = .scatterUpdate m ∧ d % 256 = 5 ∧ descUniform (BitVec.ofNat 512 d) = false) →
      ∃ t, exec i s = .next t ∧ runs m q d s t ∧ (t.ctl.movers[m]).nextElem = 0 ∧
        issues m (indexElem (descA (BitVec.ofNat 512 d) / 256)) (queueGet s.ctl q).domain b
          (addAccess m (packedElem (descC (BitVec.ofNat 512 d) / 256)) (queueGet s.ctl q).domain a (dropAccess x.id s.ctl)) t)) ∧
  (∀ (m : Fin 16) (q b addr packed : Nat) (poison : Bool) (x : Trk) (v : Mover) (a : Access) (s : State), movesIn m q .running s →
    b < 2 ^ 32 → accessOk m (indexElem b) x s → v = { s.ctl.movers[m] with blocks := (s.ctl.movers[m]).blocks ++ [(indexElem b, x.grans)] } →
    descOpcode v.desc = 3 ∨ descOpcode v.desc = 4 ∨ descOpcode v.desc = 5 → descStream v.desc = false →
    v.inflight = [] → v.results = [] → v.reportsDue = [] → v.streamSent = 0 → v.streamLost = false → (queueGet s.ctl q).resume = v.nextElem →
    descCount v.desc = v.nextElem + 1 → elemIssue v v.nextElem = .go addr packed poison →
    a = elemAccess v.desc { k := v.nextElem, addr := addr, packed := packed, packedPoison := poison } →
    canIssue m v.nextElem (queueGet s.ctl q).domain a (dropAccess x.id s.ctl) →
    ∃ t, exec (.elementResult m ⟨indexElem b, 0⟩) s = .next t ∧
      issues m v.nextElem (queueGet s.ctl q).domain a (dropAccess x.id s.ctl) t ∧
      (t.ctl.movers[m]).inflight = [{ k := v.nextElem, trk := some s.ctl.nextId, addr := addr, packed := packed, packedPoison := poison }] ∧
      (t.ctl.movers[m]).nextElem = v.nextElem + 1 ∧ (t.ctl.movers[m]).curQueue = some q ∧ t.ctl.queues = s.ctl.queues ∧ onlyLogic s t) ∧
  (∀ (v : Mover) (k i : Nat), heldBytes v indexElem (descA v.desc + k * idxSize v.desc) (idxSize v.desc) = some (0, i) →
    (descB v.desc + i * 2 ^ scaleLog v.desc < 2 ^ 37 → (descB v.desc + i * 2 ^ scaleLog v.desc) % elemSize v.desc = 0 →
      indexedAddr v k = some (.ok (descB v.desc + i * 2 ^ scaleLog v.desc))) ∧
    (2 ^ 37 ≤ descB v.desc + i * 2 ^ scaleLog v.desc → indexedAddr v k = some (.error 3)) ∧
    (descB v.desc + i * 2 ^ scaleLog v.desc < 2 ^ 37 → (descB v.desc + i * 2 ^ scaleLog v.desc) % elemSize v.desc ≠ 0 →
      indexedAddr v k = some (.error 7)))

/-- A FILL element that ended OK is counted; a COPY element's read goes on to the write of its data, and an access that got
RETRY_LATER is issued again; a FENCE ends when nothing is outstanding and the queue goes on with NEXT; a record that was written
advances the ring. -/
def Obligations.MoverElements : Prop :=
  (∀ (m : Fin 16) (q : Nat) (e : Elem) (x : Trk) (g : Gran) (s : State), (s.ctl.movers[m]).curQueue = some q → (s.ctl.movers[m]).phase = .running →
    e.k < 2 ^ 32 → (s.ctl.movers[m]).inflight = [e] → e.got = [] → e.packedPoison = false → (s.ctl.movers[m]).reportsDue = [] →
    descOpcode (s.ctl.movers[m]).desc = 2 → descCount (s.ctl.movers[m]).desc ≤ (s.ctl.movers[m]).nextElem →
    accessOk m e.k x s → x.grans = [g] → g.kind ≠ 3 →
    ∃ t, exec (.elementResult m ⟨e.k, 0⟩) s = .next t ∧ (t.ctl.movers[m]).countA = (s.ctl.movers[m]).countA + 1 ∧
      (t.ctl.movers[m]).countB = (s.ctl.movers[m]).countB ∧ (t.ctl.movers[m]).inflight = [] ∧
      t.ctl.trk = s.ctl.trk.filter (fun y => y.id ≠ x.id) ∧ t.ctl.queues = s.ctl.queues ∧ onlyLogic s t) ∧
  (∀ (m : Fin 16) (q : Nat) (e : Elem) (x : Trk) (g : Gran) (a : Access) (s : State), (s.ctl.movers[m]).curQueue = some q →
    (s.ctl.movers[m]).phase = .running → e.k < 2 ^ 32 → (s.ctl.movers[m]).inflight = [e] → e.got = [] → e.ended = none → e.waiting = false →
    e.writing = false → (s.ctl.movers[m]).reportsDue = [] → descOpcode (s.ctl.movers[m]).desc = 1 →
    descCount (s.ctl.movers[m]).desc ≤ (s.ctl.movers[m]).nextElem → accessOk m e.k x s → x.grans = [g] →
    a = { op := .write, opcode := 0x18, addr := descB (s.ctl.movers[m]).desc + 32 * e.k, count := 1, data := gransData [g] } →
    canIssue m e.k (queueGet s.ctl q).domain a (dropAccess x.id s.ctl) →
    ∃ t, exec (.elementResult m ⟨e.k, 0⟩) s = .next t ∧ issues m e.k (queueGet s.ctl q).domain a (dropAccess x.id s.ctl) t ∧
      (t.ctl.movers[m]).inflight = [{ e with trk := some s.ctl.nextId, writing := true, packed := gransData [g], packedPoison := false }] ∧
      (t.ctl.movers[m]).countA = (s.ctl.movers[m]).countA ∧ t.ctl.queues = s.ctl.queues ∧ onlyLogic s t) ∧
  (∀ (m : Fin 16) (q : Nat) (e : Elem) (a : Access) (s : State), movesIn m q .running s → (s.ctl.movers[m]).inflight = [e] →
    e.k < 2 ^ 32 → e.waiting = true → e.trk = none → e.ended = none → e.got = [] → (s.ctl.movers[m]).reportsDue = [] →
    descOpcode (s.ctl.movers[m]).desc ≠ 3 → descCount (s.ctl.movers[m]).desc ≤ (s.ctl.movers[m]).nextElem →
    a = elemAccess (s.ctl.movers[m]).desc e → canIssue m e.k (queueGet s.ctl q).domain a s.ctl →
    ∃ t, exec (.elementRetry m e.k) s = .next t ∧ issues m e.k (queueGet s.ctl q).domain a s.ctl t ∧
      (t.ctl.movers[m]).inflight = [{ e with trk := some s.ctl.nextId, waiting := false, retries := e.retries + 1 }] ∧
      t.ctl.queues = s.ctl.queues ∧ onlyLogic s t) ∧
  (∀ (m : Fin 16) (q : Nat) (s : State), movesIn m q .running s → descOpcode (s.ctl.movers[m]).desc = 7 → descCount (s.ctl.movers[m]).desc = 0 →
    accessesBack s.ctl m s.ctl.movers[m] = true → shadowsDone s.ctl q false = true → (s.ctl.movers[m]).countB = 0 → (s.ctl.movers[m]).lowFail = none →
    (s.ctl.movers[m]).bulkFailed = false → (s.ctl.movers[m]).streamLost = false → (s.ctl.movers[m]).entryEcc = 0 →
    descComplete (s.ctl.movers[m]).desc = false → descEnd (s.ctl.movers[m]).desc = false → descYield (s.ctl.movers[m]).desc = false →
    (queueGet s.ctl q).state = 2 →
    ∃ t, exec (.descriptorEnd m) s = .next t ∧
      queueGet t.ctl q = { queueGet s.ctl q with
        head := descNext (s.ctl.movers[m]).desc, headDone := false, resume := 0, descCompleted := ((queueGet s.ctl q).descCompleted + 1) % 2 ^ 32 } ∧
      (t.ctl.movers[m]).curQueue = some q ∧ (t.ctl.movers[m]).phase = (if (queueGet s.ctl q).slotFree then .fetch else .slot) ∧ onlyLogic s t) ∧
  (∀ (m : Fin 16) (q : Nat) (x : Trk) (s : State), movesIn m q (.record 0 0) s → accessOk m recordElem x s → (s.ctl.movers[m]).entryEcc = 0 →
    (queueGet s.ctl q).notifyMode = 0 → (queueGet s.ctl q).state = 2 → descEnd (s.ctl.movers[m]).desc = true → descYield (s.ctl.movers[m]).desc = false →
    ∃ t, exec (.recordWrite m) s = .next t ∧
      queueGet t.ctl q = { queueGet s.ctl q with
        ringProduced := ((queueGet s.ctl q).ringProduced + 1) % 2 ^ 32, slotFree := false, headDone := true
        descCompleted := ((queueGet s.ctl q).descCompleted + 1) % 2 ^ 32 } ∧
      (t.ctl.movers[m]).phase = .tail ∧ (t.ctl.movers[m]).curQueue = some q ∧ onlyLogic s t)

/-! ## Housekeeping -/

/-- A base-die sensor and a voltage monitor convert, and a layer's monitor is out of range when its VPP_L is lost; a round's end sets P_L
and P_EST, the latter from the activity counts and the ports' sleep states (log 34), starts the counts anew and moves
the power throttle from step 0 to step 1 at POWER_LIMIT; STACK_SELF_REFRESH is entered, requested and left. -/
def Obligations.Housekeeping : Prop :=
  (∀ (i : Fin 64) (x : Int) (s : State), i.val < 7 → -400 ≤ x → x ≤ 1500 → s.ctl.power.stage ≠ .off →
    ∃ t, exec (.hkConversion i { value := some x, vppLost := false }) s = .next t ∧
      t = { s with ctl := { s.ctl with therm := { s.ctl.therm with sensors := s.ctl.therm.sensors.set! i.val (some x) } } }) ∧
  (∀ (i : Fin 64) (x : Int) (s : State), 42 ≤ i.val → (vRange (i.val - 42)).1 ≤ x → x ≤ (vRange (i.val - 42)).2 → s.ctl.power.stage ≠ .off →
    ∃ t, exec (.hkConversion i { value := some x, vppLost := false }) s = .next t ∧
      t = { s with ctl := { s.ctl with therm := { s.ctl.therm with
              vmon := s.ctl.therm.vmon.set! (i.val - 42) x.toNat, vOut := s.ctl.therm.vOut.set! (i.val - 42) 0 } } }) ∧
  (∀ (i : Fin 64) (x : Int) (s : State), 47 ≤ i.val → vIgnored s.ctl (i.val - 42) = false → s.ctl.power.everReady = true → s.ctl.power.stage ≠ .off →
    ∃ t, exec (.hkConversion i { value := some x, vppLost := true }) s = .next t ∧
      t = { s with ctl := { s.ctl with therm := { s.ctl.therm with
              vmon := s.ctl.therm.vmon.set! (i.val - 42) (Nat.min 4095 x.toNat)
              vOut := s.ctl.therm.vOut.set! (i.val - 42) (s.ctl.therm.vOut.toList.getD (i.val - 42) 0 + 1) } } }) ∧
  (∀ (xbar movers est : Nat) (p : Vector Nat 17) (s : State), s.ctl.power.stage = .ready → s.ctl.therm.steps.toList.getD 18 0 = 0 →
    (∀ x ∈ s.ctl.therm.vOut.toList, x < 2) → (∀ i : Fin 17, p[i] = layerPower (s.ctl.therm.acts.toList.getD (i.val + 1) 0)) →
    est = stackPower p.toList.sum
      (Config.basePower (s.ctl.therm.xbarActs + xbar) s.ctl.therm.atomicActs (s.ctl.therm.moverActs + movers)) (portPower s.ctl) →
    ∃ t, exec (.hkRoundEnd xbar movers) s = .next t ∧ t.ctl.therm.power = p ∧ t.ctl.therm.powerEst = est ∧
      t.ctl.therm.acts = Vector.replicate 18 0 ∧ t.ctl.therm.xbarActs = 0 ∧ t.ctl.therm.atomicActs = 0 ∧ t.ctl.therm.moverActs = 0 ∧
      t.ctl.therm.sensors = s.ctl.therm.sensors ∧ onlyLogic s t ∧
      (est < s.ctl.therm.powerLimit → t.ctl = { s.ctl with therm := t.ctl.therm } ∧ t.ctl.therm.steps.toList.getD 18 0 = 0) ∧
      (s.ctl.therm.powerLimit ≤ est → t.ctl.therm.steps.toList.getD 18 0 = 1)) ∧
  (∀ s : State, selfRefreshOk s.ctl = true →
    ∃ t, exec .selfRefreshEntry s = .next t ∧ t.ctl.power = { s.ctl.power with selfRefresh := true, changeoversRun := false } ∧
      t.ctl.beat.windowOpen = false ∧ (∀ c : Fin 32, (t.ctl.chans[c]).windowRuns = false) ∧ t.ctl.trk = s.ctl.trk ∧ onlyLogic s t) ∧
  (∀ s : State, ∃ t, exec .srRequestSet s = .next t ∧
      t = { s with ctl := { s.ctl with power := { s.ctl.power with srRequest := true } } }) ∧
  (∀ s : State, ∃ t, exec .srRequestClear s = .next t ∧ t.ctl.power.srRequest = false ∧ t.ctl.power.selfRefresh = false ∧
      (s.ctl.power.selfRefresh = false → t.ctl = { s.ctl with power := { s.ctl.power with srRequest := false } }) ∧
      t.ctl.trk = s.ctl.trk ∧ onlyLogic s t)

/-- When the second sensor of a core layer above the first reads at or above the core dies' shutdown level, whatever the other
sensors show, the stack shuts down in that step: THERMTRIP_N low, every link off, DRAM lost. -/
def Obligations.ThermalShutdown : Prop :=
  ∀ (l : Nat) (i : Fin 64) (x : Int) (s : State), 2 ≤ l → l ≤ 17 → i.val = 9 + 2 * (l - 1) → -400 ≤ x → x ≤ 1500 →
    10 * (s.ctl.therm.levels.toList.getD 5 0 : Int) ≤ x → s.ctl.power.stage ≠ .off → s.ctl.power.stage ≠ .shutdown →
    ∃ t, exec (.hkConversion i { value := some x, vppLost := false }) s = .next t ∧ t.dram = [] ∧ t.ctl.power.stage = .shutdown ∧ t.ctl.therm.shutdown = true ∧
      t.ctl.therm.thermtripN = false ∧ (∀ p : Fin 4, linkUp t.ctl.ports[p] = false) ∧ t.ctl.trk = [] ∧ t.ctl.life.fwRunning = false ∧
      t.pending = s.pending

/-! ## Registers -/

/-- REG_READ answers with the registers' values and REG_WRITE writes them; a write to a register in its range is taken and one
outside it leaves the field, at the umpire's shot clock and at a channel's ROW_CE_LIMIT; SC_CLEAR zeroes the counters of its
range that exist and are not RO, and no other. -/
def Obligations.RegisterAccess : Prop :=
  (∀ (m : Mgmt) (addr n : Nat) (s : State), served 0x10 m s → 1 ≤ n → n ≤ 252 → regRangeOk addr n = true →
    ∃ t, exec (.regRead m addr n) s = .next t ∧
      t = { s with ctl := (replyTo (refOf 0x10 m) 0 0 ((readRegs (srcOf m.via) addr n (takenUp 0x10 m s.ctl)).1.flatMap fun v => toBytes 4 v.toNat)
              (readRegs (srcOf m.via) addr n (takenUp 0x10 m s.ctl)).2) }) ∧
  (∀ (m : Mgmt) (s : State), served 0x10 m s → s.ctl.mgr.latches = [] →
    ∃ t, exec (.regRead m 0x0 1) s = .next t ∧ answers 0x10 m 0 (toBytes 4 0xA1D128) s t) ∧
  (∀ (m : Mgmt) (v : BitVec 32) (s : State), served 0x11 m s →
    ∃ t, exec (.regWrite m 0xF0008 [v]) s = .next t ∧ onlyLogic s t ∧
      (10 ≤ v.toNat % 2 ^ 14 → v.toNat % 2 ^ 14 ≤ 10000 → t.ctl.umpire.shotClock2 = v.toNat % 2 ^ 14) ∧
      (v.toNat % 2 ^ 14 < 10 ∨ 10000 < v.toNat % 2 ^ 14 → t.ctl.umpire.shotClock2 = s.ctl.umpire.shotClock2)) ∧
  (∀ (c : Fin 32) (v : BitVec 32) (s : State), s.ctl.life.fwRunning = true →
    ∃ t, exec (.registerWrite .firmware (0x80010 + 0x1000 * c.val) v) s = .next t ∧ onlyChan c s t ∧
      t.ctl.chans[c] = { s.ctl.chans[c] with
        rowCeLimit := if 2 ≤ v.toNat % 256 then v.toNat % 256 else (s.ctl.chans[c]).rowCeLimit }) ∧
  (∀ (first n : Nat) (s : State), n ≤ 127 → sparseWf (fun _ => 0) s.ctl.score = true →
    ∃ t, exec (.scClear first n) s = .next t ∧ t.ctl = { s.ctl with score := t.ctl.score } ∧ onlyLogic s t ∧
      (∀ i, first ≤ i → i < first + n → counterRo i = false → (counterWidth i).isSome = true → scoreGet t.ctl i = 0) ∧
      (∀ i, i < first ∨ first + n ≤ i ∨ counterRo i = true → scoreGet t.ctl i = scoreGet s.ctl i))

/-! ## Attestation, MCTP, the I3C target and the test access port -/

/-- The responder's answers to the SPDM requests, in order behind the earlier ones; a request and its response join the connection's
transcript, and nothing else changes. Signatures and standard encodings are opaque values of the model (log entry 7), and what the
summary hash of a CHALLENGE for TCB covers is the model's choice (log entry 78). -/
def Obligations.SpdmAnswers : Prop :=
  (∀ (via : Via) (s : State), spdmServed via s.ctl = true →
    ∃ t, exec (.getVersion via) s = .next t ∧ t.ctl.side = { s.ctl.side with answers := s.ctl.side.answers ++ [(0x504, 0x12)] } ∧
      t.ctl.life = (modSpdm via (fun _ => { version := true, transcript := [(0x84, 0), (0x04, 0x12)] }) s.ctl).life ∧
      t.ctl = { s.ctl with side := t.ctl.side, life := t.ctl.life } ∧ onlyLogic s t) ∧
  (∀ (via : Via) (s : State), spdmServed via s.ctl = true →
    ∃ t, exec (.getCapabilities via) s = .next t ∧
      t.ctl.side = { s.ctl.side with answers := s.ctl.side.answers ++ [(0x561, Config.standardValue 0x61 18)] } ∧
      t.ctl.life = (logSpdm via [(0xE1, 0), (0x61, Config.standardValue 0x61 18)] (modSpdm via (fun x => { x with capabilities := true }) s.ctl)).life ∧
      t.ctl = { s.ctl with side := t.ctl.side, life := t.ctl.life } ∧ onlyLogic s t) ∧
  (∀ (via : Via) (b : Bool) (s : State), spdmServed via s.ctl = true →
    ∃ t, exec (.negotiateAlgorithms via b) s = .next t ∧ t.ctl = { s.ctl with side := t.ctl.side, life := t.ctl.life } ∧ onlyLogic s t ∧
      (b = true → t.ctl.life = (logSpdm via [(0xE3, 1), (0x63, Config.standardValue 0x63 0)] (modSpdm via (fun x => { x with algorithms := true }) s.ctl)).life ∧
        t.ctl.side = { s.ctl.side with answers := s.ctl.side.answers ++ [(0x563, Config.standardValue 0x63 0)] }) ∧
      (b = false → t.ctl.life = s.ctl.life ∧ t.ctl.side = { s.ctl.side with answers := s.ctl.side.answers ++ [(0x57F, 2)] })) ∧
  (∀ (via : Via) (v : Nat) (s : State), spdmServed via s.ctl = true → identityLive s.ctl = true →
    v = (Config.sha384 (8 * (52 + (chainCerts s.ctl).length)) (chainOf s.ctl)).toNat →
    ∃ t, exec (.getDigests via) s = .next t ∧ t.ctl.side = { s.ctl.side with answers := s.ctl.side.answers ++ [(0x501, v)] } ∧
      t.ctl.life = (logSpdm via [(0x81, 0), (0x01, v)] s.ctl).life ∧
      t.ctl = { s.ctl with side := t.ctl.side, life := t.ctl.life } ∧ onlyLogic s t) ∧
  (∀ (via : Via) (offset len v : Nat) (s : State), spdmServed via s.ctl = true → identityLive s.ctl = true →
    v = bitsOf (chainOf s.ctl) (8 * offset) (8 * len) →
    ∃ t, exec (.getCertificate via 0 offset len) s = .next t ∧ t.ctl.side = { s.ctl.side with answers := s.ctl.side.answers ++ [(0x502, v)] } ∧
      t.ctl.life = (logSpdm via [(0x82, offset + 2 ^ 16 * len), (0x02, v)] s.ctl).life ∧
      t.ctl = { s.ctl with side := t.ctl.side, life := t.ctl.life } ∧ onlyLogic s t) ∧
  (∀ (via : Via) (k : Nat) (i : Fin 12) (s : State), spdmServed via s.ctl = true → identityLive s.ctl = true → k = 0 ∨ k = 1 ∨ k = 0xFF →
    s.ctl.life.keyReg = some i →
    ∃ t, exec (.challenge via 0 k) s = .next t ∧
      t.ctl.side = { s.ctl.side with answers := s.ctl.side.answers ++ [(0x503, summaryHash k s.ctl),
        (0x503, (Config.signature s.ctl.draws (s.ctl.life.slots[i]).publicKey
          (Config.transcriptHash ((spdmOf via s.ctl).transcript ++ [(0x83, k), (0x03, summaryHash k s.ctl)]))).toNat)] } ∧
      t.ctl.life = (modSpdm via (fun x => { x with transcript := [], measured := [] }) s.ctl).life ∧ t.ctl.draws = s.ctl.draws + 1 ∧
      t.ctl = { s.ctl with side := t.ctl.side, life := t.ctl.life, draws := t.ctl.draws } ∧ onlyLogic s t) ∧
  (∀ (via : Via) (slot k : Nat) (s : State), spdmServed via s.ctl = true → identityLive s.ctl = false ∨ slot ≠ 0 ∨ ¬(k = 0 ∨ k = 1 ∨ k = 0xFF) →
    ∃ t, exec (.challenge via slot k) s = .next t ∧ sideIs { s.ctl.side with answers := s.ctl.side.answers ++ [(0x57F, 1)] } s t) ∧
  (∀ (via : Via) (i : Nat) (s : State), spdmServed via s.ctl = true → 1 ≤ i → i ≤ 5 →
    ∃ t, exec (.getMeasurements via i false) s = .next t ∧
      t.ctl.side = { s.ctl.side with answers := s.ctl.side.answers ++ [(0x600 + i, measurementBlock s.ctl i)] } ∧
      t.ctl.life = (modSpdm via (fun x => { x with measured := x.measured ++ [(0xE0, i), (0x600 + i, measurementBlock s.ctl i)] }) s.ctl).life ∧
      t.ctl = { s.ctl with side := t.ctl.side, life := t.ctl.life } ∧ onlyLogic s t) ∧
  (∀ (via : Via) (code : Nat) (s : State), spdmServed via s.ctl = true →
    ∃ t, exec (.unsupportedSpdmRequest via code) s = .next t ∧ sideIs { s.ctl.side with answers := s.ctl.side.answers ++ [(0x57F, 1)] } s t) ∧
  (∀ (m : Mgmt) (param : Nat) (s : State), served 0xA1 m s → spdmServed m.via (takenUp 0xA1 m s.ctl) = true →
    ∃ t, exec (.spdmMessage m 0xE1 param) s = .next t ∧
      t = { s with ctl := (replyTo (refOf 0xA1 m) 0 0 (toBytes 2 0x561 ++ toBytes 96 (Config.standardValue 0x61 18))
              (logSpdm m.via [(0xE1, 0), (0x61, Config.standardValue 0x61 18)]
                (modSpdm m.via (fun x => { x with capabilities := true }) (takenUp 0xA1 m s.ctl)))) })

/-- The MCTP endpoint: its ID is set unless the value is reserved, and read; versions and message types are answered, and nothing in
class 5; a message of another type is counted and discarded. -/
def Obligations.MctpEndpoint : Prop :=
  (∀ (e : BitVec 8) (s : State), mctpOn s.ctl = true →
    ∃ t, exec (.setEndpointId e) s = .next t ∧
      sideIs { s.ctl.side with
        eid := if e = 0 ∨ e = 0xFF then s.ctl.side.eid else e
        answers := s.ctl.side.answers ++ [(0x101, (if e = 0 ∨ e = 0xFF then s.ctl.side.eid else e).toNat)] } s t) ∧
  (∀ s : State, mctpOn s.ctl = true →
    ∃ t, exec .getEndpointId s = .next t ∧ sideIs { s.ctl.side with answers := s.ctl.side.answers ++ [(0x102, s.ctl.side.eid.toNat)] } s t) ∧
  (∀ s : State, mctpOn s.ctl = true →
    ∃ t, exec .getMctpVersionSupport s = .next t ∧
      sideIs { s.ctl.side with answers := s.ctl.side.answers ++ [(0x104, Config.standardValue 0x104 0)] } s t) ∧
  (∀ s : State, mctpOn s.ctl = true →
    ∃ t, exec .getMessageTypeSupport s = .next t ∧ sideIs { s.ctl.side with answers := s.ctl.side.answers ++ [(0x105, 0x7F0500)] } s t) ∧
  (∀ (i : Instr) (e : BitVec 8) (s : State), i ∈ [Instr.setEndpointId e, .getEndpointId, .getMctpVersionSupport, .getMessageTypeSupport] →
    s.ctl.umpire.class5 = true → exec i s = .next s) ∧
  (∀ (type : Nat) (s : State), sideOn s.ctl = true → type ≠ 0 → type ≠ 5 → type ≠ 0x7F →
    ∃ t, exec (.unsupportedMctpMessageType type) s = .next t ∧ t.ctl = { s.ctl with score := t.ctl.score } ∧ onlyLogic s t ∧
      scoreGet t.ctl (gIdx 32) = Nat.min (scoreGet s.ctl (gIdx 32) + 1) (2 ^ 16 - 1))

/-- The I3C target's command codes: events enabled and disabled, dynamic addresses cleared, taken from the static address and
changed, its characteristics and its status with the interrupt that it raises read once it has a dynamic address, and the reset action written. -/
def Obligations.I3cCommandCodes : Prop :=
  (∀ (e : BitVec 8) (s : State), sideOn s.ctl = true →
    ∃ t, exec (.enec e) s = .next t ∧ sideIs { s.ctl.side with events := s.ctl.side.events ||| e } s t) ∧
  (∀ (e : BitVec 8) (s : State), sideOn s.ctl = true →
    ∃ t, exec (.disec e) s = .next t ∧ sideIs { s.ctl.side with events := s.ctl.side.events &&& ~~~e } s t) ∧
  (∀ s : State, sideOn s.ctl = true → ∃ t, exec .rstdaa s = .next t ∧ sideIs { s.ctl.side with dynAddr := none } s t) ∧
  (∀ (a d : BitVec 7) (s : State), sideOn s.ctl = true →
    ∃ t, exec (.setdasa a d) s = .next t ∧
      (a = BitVec.ofNat 7 (0x48 + s.ctl.power.addrSel.val) → s.ctl.side.dynAddr = none → sideIs { s.ctl.side with dynAddr := some d } s t) ∧
      (a ≠ BitVec.ofNat 7 (0x48 + s.ctl.power.addrSel.val) → t = s)) ∧
  (∀ s : State, sideOn s.ctl = true → s.ctl.side.dynAddr = none →
    ∃ t, exec .setaasa s = .next t ∧ sideIs { s.ctl.side with dynAddr := some (BitVec.ofNat 7 (0x48 + s.ctl.power.addrSel.val)) } s t) ∧
  (∀ (a d : BitVec 7) (s : State), sideOn s.ctl = true → s.ctl.side.dynAddr = some a →
    ∃ t, exec (.setnewda d) s = .next t ∧ sideIs { s.ctl.side with dynAddr := some d } s t) ∧
  (∀ (r : BitVec 8) (s : State), sideOn s.ctl = true →
    ∃ t, exec (.rstact r) s = .next t ∧ sideIs { s.ctl.side with rstAction := r } s t) ∧
  (∀ (i : Instr) (code : Nat) (a : BitVec 7) (s : State),
    (i, code) ∈ [(Instr.getpid, 0x8D), (.getbcr, 0x8E), (.getdcr, 0x8F), (.getmwl, 0x8B), (.getmrl, 0x8C)] →
    sideOn s.ctl = true → s.ctl.side.dynAddr = some a →
    ∃ t, exec i s = .next t ∧ sideIs { s.ctl.side with answers := s.ctl.side.answers ++ [(code, Config.standardValue code 0)] } s t) ∧
  (∀ (a : BitVec 7) (s : State), sideOn s.ctl = true → s.ctl.side.dynAddr = some a →
    ∃ t, exec .getstatus s = .next t ∧
      sideIs { s.ctl.side with answers := s.ctl.side.answers ++ [(0x90, Config.standardValue 0x90 (b2n (ibiRaised s.ctl)))] } s t)

/-- The test access port: BYPASS and IDCODE at any time; the boundary instructions where the life cycle opens the port, and
BYPASS in their place where it does not, with the signal balls driven by EXTEST and CLAMP, and let go by HIGHZ; TRST_N selects IDCODE. -/
def Obligations.TestAccessPort : Prop :=
  (∀ s : State, sideOn s.ctl = true → ∃ t, exec .bypass s = .next t ∧ sideIs { s.ctl.side with tapInstr := 0, pinDrive := 0, tapData := 0 } s t) ∧
  (∀ s : State, sideOn s.ctl = true → ∃ t, exec .idcode s = .next t ∧ sideIs { s.ctl.side with tapInstr := 1, pinDrive := 0, tapData := Config.standardValue 0x149 0 } s t) ∧
  (∀ (b : BitVec 64) (s : State), sideOn s.ctl = true →
    ∃ t, exec (.samplePreload b) s = .next t ∧
      sideIs (if tapOpen s.ctl then { s.ctl.side with tapInstr := 2, pinDrive := 0, tapData := 0, boundary := b } else { s.ctl.side with tapInstr := 0, pinDrive := 0, tapData := 0 }) s t) ∧
  (∀ (i : Instr) (code drive : Nat) (s : State), (i, code, drive) ∈ [(Instr.extest, 3, 1), (.clamp, 4, 1), (.highz, 5, 2)] → sideOn s.ctl = true →
    ∃ t, exec i s = .next t ∧ sideIs { s.ctl.side with tapInstr := if tapOpen s.ctl then code else 0, pinDrive := if tapOpen s.ctl then drive else 0, tapData := 0 } s t) ∧
  (∀ s : State, ∃ t, exec .trstN s = .next t ∧ sideIs { s.ctl.side with tapInstr := 1, pinDrive := 0, tapData := Config.standardValue 0x149 0 } s t)

/-! ## Rules of the whole stack -/

/-- A command that is not among those that store leaves every byte of DRAM. -/
def Obligations.OnlyStorersChangeDram : Prop :=
  ∀ (i : Instr) (s t : State), storesDram i = false → exec i s = .next t → t.dram = s.dram

/-- R271: two claims overlap in its cases, and in no other. -/
def Obligations.ClaimsOverlap : Prop :=
  ∀ a b : Claim, claimsOverlap a b = true ↔
    (∃ n, a = .slice n ∧ b = .slice n) ∨
    (∃ l e f, a = .layer l e ∧ b = .layer l f) ∨
    (∃ n, (a = .layer (sliceLayer n) true ∧ b = .slice n) ∨ (a = .slice n ∧ b = .layer (sliceLayer n) true)) ∨
    (∃ n, (a = .chan (sliceChan n).val ∧ b = .slice n) ∨ (a = .slice n ∧ b = .chan (sliceChan n).val)) ∨
    (∃ k l e, (a = .chan k ∧ b = .layer l e) ∨ (a = .layer l e ∧ b = .chan k)) ∨
    (∃ p, a = .port p ∧ b = .port p)

/-- R23: the default layout, where no slice is out of service. -/
def Obligations.DefaultLayout : Prop :=
  ∀ (result bad : Nat) (c : Ctl), (∀ n, n < 136 → sliceIsOut c n = false) → ∀ h, h < 2097152 →
    pmGet (initDefault result bad c) h =
      { ppn := (h / 32 % 4 * 32 + h % 32) * 16384 + h / 128, domain := 0, mirrored := false, shared := false, state := .normal } ∧
    (pmGet (initDefault result bad c) h).ppn / 16384 < 128 ∧
    sliceChan ((pmGet (initDefault result bad c) h).ppn / 16384) = Fin.ofNat 32 (h % 32) ∧
    sliceRank ((pmGet (initDefault result bad c) h).ppn / 16384) = h / 32 % 4 ∧
    (pmGet (initDefault result bad c) h).ppn % 16384 = h / 128

/-- R41: lane_map answers the widest group that can run, up to the width `most` that R43 allows, and among those of one width the
lowest-numbered; it fails when none can. -/
def Obligations.LaneMapRule : Prop :=
  ∀ (most : Nat) (good : BitVec 17),
    (∀ m, laneMap most good = some m →
      (m.width = 16 ∧ 16 ≤ most ∨ m.width = 8 ∧ 8 ≤ most ∨ m.width = 4) ∧ m.group < 16 / m.width ∧ laneGroupOk good m.width m.group m.spare ∧
      (∀ w g sp, w = 16 ∧ 16 ≤ most ∨ w = 8 ∧ 8 ≤ most ∨ w = 4 → g < 16 / w → m.width < w ∨ (w = m.width ∧ g < m.group) →
        ¬ laneGroupOk good w g sp)) ∧
    (laneMap most good = none → ∀ w g sp, w = 16 ∧ 16 ≤ most ∨ w = 8 ∧ 8 ≤ most ∨ w = 4 → g < 16 / w → ¬ laneGroupOk good w g sp)

/-- R416: a supplied image is accepted exactly when no entry fails the conditions and no page appears twice; on rejection
INIT_BAD_HPN holds the lowest host page whose entry fails or whose page repeats an earlier one. -/
def Obligations.ImageAcceptance : Prop :=
  ∀ c : Ctl, sparseWf (fun _ => unmappedEntry) c.pm.entries = true →
    (firstBad c [] c.pm.entries = none ↔ ∀ i, ¬ imageEntryBad c c.pm.entries i) ∧
    ((initImage c).pm.initResult = 2 ↔ ∃ i, imageEntryBad c c.pm.entries i) ∧
    (∀ i, imageEntryBad c c.pm.entries i → ∃ k x y, c.pm.entries[k]? = some x ∧ c.pm.entries[i]? = some y ∧
      imageEntryBad c c.pm.entries k ∧ (initImage c).pm.initBadHpn = x.1 ∧ x.1 ≤ y.1)

/-- The code: a clean word decodes to its data, one and two bits in error anywhere in the 80 are corrected, and a poisoned word
with up to one bit in error decodes as poison. -/
def Obligations.EccDecoder : Prop :=
  (∀ d : BitVec 64, eccDecode (eccEncode d) = .clean d) ∧
  (∀ (d : BitVec 64) (i : Nat), i < 80 → eccDecode (eccFlip (eccEncode d) i) = .corrected1 d) ∧
  (∀ (d : BitVec 64) (i j : Nat), i < 80 → j < 80 → i ≠ j → eccDecode (eccFlip (eccFlip (eccEncode d) i) j) = .corrected2 d) ∧
  eccDecode poisonWord = .poison ∧ (∀ i, i < 80 → eccDecode (eccFlip poisonWord i) = .poison)

/-- Atomics on whole numbers (R139) as operations on words of 32 or 64 bits: wrapping addition, signed and unsigned comparison,
logic, exchange and compare-and-swap; and a new value changes no bit of the granule outside the operand. -/
def Obligations.AtomicResults : Prop :=
  (∀ (n v x cmp : Nat), n = 32 ∨ n = 64 → v < 2 ^ n → x < 2 ^ n → cmp < 2 ^ n →
    atomicValue 0 n v x cmp = (BitVec.ofNat n v + BitVec.ofNat n x).toNat ∧
    atomicValue 2 n v x cmp = (if (BitVec.ofNat n v).toInt ≤ (BitVec.ofNat n x).toInt then v else x) ∧
    atomicValue 3 n v x cmp = (if (BitVec.ofNat n v).toInt ≤ (BitVec.ofNat n x).toInt then x else v) ∧
    atomicValue 4 n v x cmp = (if v ≤ x then v else x) ∧ atomicValue 5 n v x cmp = (if v ≤ x then x else v) ∧
    (∀ i, (atomicValue 6 n v x cmp).testBit i = (v.testBit i && x.testBit i)) ∧
    (∀ i, (atomicValue 7 n v x cmp).testBit i = (v.testBit i || x.testBit i)) ∧
    (∀ i, (atomicValue 8 n v x cmp).testBit i = (v.testBit i ^^ x.testBit i)) ∧
    atomicValue 9 n v x cmp = x ∧ (v = cmp → atomicValue 10 n v x cmp = x) ∧ (v ≠ cmp → atomicValue 10 n v x cmp = v)) ∧
  (∀ (d : GData) (lo n v i : Nat), lo + n ≤ 256 → i < 256 →
    (granReplace d lo n v).getLsbD i = if lo ≤ i ∧ i < lo + n then v.testBit (i - lo) else d.getLsbD i)

/-- R316: choose_centre answers the middle and the width of the longest run of open bins, of equals the lowest, and width zero
when no bin is open. -/
def Obligations.CentreRule : Prop :=
  ∀ bins : List (Nat × Nat),
    ((∀ b ∈ bins, binOpen b = false) → (chooseCentre bins).2 = 0) ∧
    ((∃ b ∈ bins, binOpen b = true) → ∃ first last, first ≤ last ∧ last < bins.length ∧
      chooseCentre bins = ((first + last) / 2, last - first + 1) ∧
      (∀ i, first ≤ i → i ≤ last → binOpen (bins.getD i (0, 0)) = true) ∧
      (∀ a b, a ≤ b → b < bins.length → (∀ i, a ≤ i → i ≤ b → binOpen (bins.getD i (0, 0)) = true) →
        b - a < last - first ∨ (b - a = last - first ∧ first ≤ a)))

/-! ## What a port sends -/

/-- R65 and R67: a flit that the stack lays out is read back by the receiver field by field, for every type, sequence number, CRET
and up to four slots, and its CRC passes. -/
def Obligations.FlitLayout : Prop :=
  ∀ (kind seq ck cv : Nat) (slots : List Slot), kind < 16 → seq < 4096 → ck < 4 → cv < 16384 → slots.length ≤ 4 →
    flitType (flitWord kind seq ck cv slots) = kind ∧ flitSeq (flitWord kind seq ck cv slots) = seq ∧
    flitCretKind (flitWord kind seq ck cv slots) = ck ∧ flitCretValue (flitWord kind seq ck cv slots) = cv ∧
    flitSlots (flitWord kind seq ck cv slots) = slots ++ List.replicate (4 - slots.length) 0 ∧ flitCrcOk (flitWord kind seq ck cv slots) = true

/-- What a port's transmitter lays next: a SKIP flit when 2,047 flits have followed the last, and never a longer run without one; a
CTRL flit in LINK_INIT and while link-control slots wait; then the flits to send in order, else an IDLE flit; and CRET turns ACK,
VC0, ACK, VC2. -/
def Obligations.TransmitOrder : Prop :=
  (∀ q : Port, q.sinceSkip ≤ 2047 → (layNext q).sinceSkip ≤ 2047 ∧
    (q.sinceSkip = 2047 → (layNext q).line.last = some (flitWord 15 0 0 0 []) ∧ (layNext q).sinceSkip = 0 ∧
      (layNext q).line.queue = q.line.queue)) ∧
  (∀ (first : List Slot) (q : Port), q.sinceSkip ≤ 2047 → (layCtrl first q).sinceSkip ≤ 2047) ∧
  (∀ (q : Port) (x : Nat × List Slot) (l : List (Nat × List Slot)), q.sinceSkip < 2047 → q.link ≠ .linkInit → q.nakQueue = [] →
    q.sleepOut = [] → q.line.queue = x :: l →
    (layNext q).line.last = some (flitWord 1 x.1 (currentCret q).1 (currentCret q).2 x.2) ∧ (layNext q).line.queue = l ∧
      (layNext q).replay = q.replay) ∧
  (∀ q : Port, q.sinceSkip < 2047 → q.link ≠ .linkInit → q.nakQueue = [] → q.sleepOut = [] → q.line.queue = [] →
    (layNext q).line.last = some (flitWord 0 0 (currentCret q).1 (currentCret q).2 [])) ∧
  (∀ (q : Port) (n : Nat), q.sinceSkip < 2047 → q.link ≠ .linkInit → q.nakQueue = [n] → q.sleepOut = [] →
    (layNext q).line.last = some (flitWord 2 0 (currentCret q).1 (currentCret q).2 [linkSlot 0x10 0 n]) ∧
      (layNext q).nakQueue = [] ∧ (layNext q).line.queue = q.line.queue) ∧
  (∀ q : Port, q.sinceSkip < 2047 → q.link = .linkInit → q.nakQueue = [] → q.sleepOut = [] →
    (layNext q).line.last = some (flitWord 2 0 (currentCret q).1 (currentCret q).2 [initSlot q, if q.initRecv then linkSlot 2 0 0 else 0])) ∧
  (∀ (kind seq : Nat) (slots : List Slot) (q : Port),
    (lay kind seq slots q).line.cretTurn = (q.line.cretTurn + 1) % 4 ∧ (lay kind seq slots q).sinceSkip = q.sinceSkip + 1 ∧
    (lay kind seq slots q).line.len = q.line.len + 576 ∧
    (q.line.cretTurn = 0 ∨ q.line.cretTurn = 2 →
      (lay kind seq slots q).line.last = some (flitWord kind seq 3 (ackNow q) slots) ∧ owedAcks (lay kind seq slots q) = 0) ∧
    (q.line.cretTurn = 1 → (lay kind seq slots q).line.last = some (flitWord kind seq 0 (cretOf q 0) slots) ∧
      owedCredit (lay kind seq slots q) 0 = 0) ∧
    (q.line.cretTurn = 3 → (lay kind seq slots q).line.last = some (flitWord kind seq 2 (cretOf q 2) slots) ∧
      owedCredit (lay kind seq slots q) 2 = 0))
end

