-- ==== Sys2Proof/Laws/Line.lean ====
section
/-! SUPPORT. What a port's transmitter can change: its line, the count since the last SKIP flit, and the link-control slots that
it sends. -/

namespace Sys2Proof.Laws

open Sys2Proof Sys2Proof.Machine

/-- The fields of a port that laying flits may write. -/
def SameButLine (p q : Port) : Prop :=
  q = { p with sinceSkip := q.sinceSkip, line := q.line, nakQueue := q.nakQueue, sleepOut := q.sleepOut }

theorem SameButLine.refl (p : Port) : SameButLine p p := rfl

theorem SameButLine.trans {p q r : Port} (h : SameButLine p q) (k : SameButLine q r) : SameButLine p r := by
  unfold SameButLine at *
  rw [h] at k
  exact k

theorem lay_same (kind seq : Nat) (slots : List Slot) (p : Port) : SameButLine p (lay kind seq slots p) := rfl
theorem laySkip_same (p : Port) : SameButLine p (laySkip p) := rfl
theorem skipDue_same (p : Port) : SameButLine p (skipDue p) := by unfold skipDue; split <;> rfl
theorem layCtrl_same (first : List Slot) (p : Port) : SameButLine p (layCtrl first p) := (skipDue_same p).trans rfl

/-- The next flit changes nothing else of its port. -/
theorem layNext_same (p : Port) : SameButLine p (layNext p) := by
  unfold layNext
  split
  · exact laySkip_same p
  · split
    · exact layCtrl_same _ p
    · split
      · exact layCtrl_same _ p
      · split <;> rfl

theorem fillWord_same (n : Nat) : ∀ p : Port, SameButLine p (fillWord n p) := by
  induction n with
  | zero => exact SameButLine.refl
  | succ n ih =>
    intro p
    unfold fillWord
    split
    · exact SameButLine.refl p
    · exact (layNext_same p).trans (ih _)

/-- What the lanes have time for changes nothing else of its port. -/
theorem sendNext_same (p : Port) : SameButLine p (sendNext p) := by
  have h := fillWord_same 9 p
  unfold sendNext
  dsimp only
  split
  · split <;> rfl
  · split
    · split <;> rfl
    · split
      · rfl
      · split
        · rfl
        · exact h.trans rfl

@[simp] theorem lay_link (kind seq : Nat) (slots : List Slot) (p : Port) : (lay kind seq slots p).link = p.link := rfl
@[simp] theorem lay_replay (kind seq : Nat) (slots : List Slot) (p : Port) : (lay kind seq slots p).replay = p.replay := rfl
@[simp] theorem lay_queue (kind seq : Nat) (slots : List Slot) (p : Port) : (lay kind seq slots p).line.queue = p.line.queue := rfl
@[simp] theorem lay_sinceSkip (kind seq : Nat) (slots : List Slot) (p : Port) : (lay kind seq slots p).sinceSkip = p.sinceSkip + 1 := rfl
@[simp] theorem lay_nakQueue (kind seq : Nat) (slots : List Slot) (p : Port) : (lay kind seq slots p).nakQueue = p.nakQueue := rfl
@[simp] theorem laySkip_sinceSkip (p : Port) : (laySkip p).sinceSkip = 0 := rfl
@[simp] theorem laySkip_queue (p : Port) : (laySkip p).line.queue = p.line.queue := rfl

end Sys2Proof.Laws
end

