-- ==== Sys2Proof/Laws/Memory.lean ====
section
/-! SUPPORT. The laws of sparse tables and of DRAM: reads after writes, and that every operation keeps the canonical form. -/

namespace Sys2Proof.Machine

open Sys2Proof

variable {α : Type} [DecidableEq α] {d : Nat → α}

/-! ## Sparse tables -/

/-- The canonical form above a bound holds above a lower one. -/
theorem sparseWfFrom_mono {l : List (Nat × α)} {lo hi : Nat} (h : lo ≤ hi) (w : sparseWfFrom d hi l = true) : sparseWfFrom d lo l = true := by
  cases l with
  | nil => rfl
  | cons x t => simp only [sparseWfFrom, Bool.and_eq_true, decide_eq_true_eq] at w ⊢; exact ⟨⟨by omega, w.1.2⟩, w.2⟩

/-- A key below the bound of a table in canonical form is unlisted. -/
theorem sparseGet_below {l : List (Nat × α)} {lo k : Nat} (w : sparseWfFrom d lo l = true) (h : k < lo) : sparseGet d l k = d k := by
  induction l generalizing lo with
  | nil => rfl
  | cons x t ih =>
    simp only [sparseWfFrom, Bool.and_eq_true, decide_eq_true_eq] at w
    have : k ≠ x.1 := by omega
    simp only [sparseGet, this, if_false]
    exact ih w.2 (by omega)

/-- A write keeps the canonical form. -/
theorem sparsePut_wfFrom {l : List (Nat × α)} {lo k : Nat} {v : α} (w : sparseWfFrom d lo l = true) (h : lo ≤ k) :
    sparseWfFrom d lo (sparsePut d l k v) = true := by
  induction l generalizing lo with
  | nil => unfold sparsePut; split <;> simp_all [sparseWfFrom]
  | cons x t ih =>
    simp only [sparseWfFrom, Bool.and_eq_true, decide_eq_true_eq] at w
    unfold sparsePut
    split
    · rename_i hk
      split <;> simp only [sparseWfFrom, Bool.and_eq_true, decide_eq_true_eq]
      · exact w
      · exact ⟨⟨h, by assumption⟩, ⟨by omega, w.1.2⟩, w.2⟩
    · split
      · split
        · exact sparseWfFrom_mono (by omega) w.2
        · simp only [sparseWfFrom, Bool.and_eq_true, decide_eq_true_eq]
          rename_i hk _
          exact ⟨⟨h, by assumption⟩, hk ▸ w.2⟩
      · simp only [sparseWfFrom, Bool.and_eq_true, decide_eq_true_eq]
        exact ⟨w.1, ih w.2 (by omega)⟩

/-- A key that was written reads as the value written. -/
theorem sparseGet_put_self {l : List (Nat × α)} {lo k : Nat} {v : α} (w : sparseWfFrom d lo l = true) :
    sparseGet d (sparsePut d l k v) k = v := by
  induction l generalizing lo with
  | nil => unfold sparsePut; split <;> simp_all [sparseGet]
  | cons x t ih =>
    simp only [sparseWfFrom, Bool.and_eq_true, decide_eq_true_eq] at w
    unfold sparsePut
    split
    · rename_i hk
      split
      · rename_i hv
        have : k ≠ x.1 := by omega
        simp only [sparseGet, this, if_false]
        rw [sparseGet_below w.2 (by omega), hv]
      · simp [sparseGet]
    · split
      · split
        · rename_i hk hv
          rw [sparseGet_below w.2 (by omega), hv]
        · simp [sparseGet]
      · rename_i h1 h2
        simp only [sparseGet, h2, if_false]
        exact ih w.2

/-- Every other key reads as before. -/
theorem sparseGet_put_other {l : List (Nat × α)} {lo k j : Nat} {v : α} (w : sparseWfFrom d lo l = true) (h : j ≠ k) :
    sparseGet d (sparsePut d l k v) j = sparseGet d l j := by
  induction l generalizing lo with
  | nil => unfold sparsePut; split <;> simp [sparseGet, h]
  | cons x t ih =>
    simp only [sparseWfFrom, Bool.and_eq_true, decide_eq_true_eq] at w
    unfold sparsePut
    split
    · split
      · rfl
      · simp [sparseGet, h]
    · split
      · rename_i hk
        have hx : j ≠ x.1 := hk ▸ h
        split
        · simp [sparseGet, hx]
        · simp [sparseGet, h, hx]
      · by_cases hj : j = x.1
        · simp [sparseGet, hj]
        · simp only [sparseGet, hj, if_false]; exact ih w.2

/-- Leaving entries out keeps the canonical form. -/
theorem sparseWfFrom_filter {l : List (Nat × α)} {lo : Nat} (p : Nat × α → Bool) (w : sparseWfFrom d lo l = true) :
    sparseWfFrom d lo (l.filter p) = true := by
  induction l generalizing lo with
  | nil => rfl
  | cons x t ih =>
    simp only [sparseWfFrom, Bool.and_eq_true, decide_eq_true_eq] at w
    by_cases hp : p x = true
    · simp only [List.filter_cons, hp, if_true, sparseWfFrom, Bool.and_eq_true, decide_eq_true_eq]
      exact ⟨w.1, ih w.2⟩
    · simp only [List.filter_cons, hp]
      exact sparseWfFrom_mono (by omega) (ih w.2)

/-- A range of writes keeps the canonical form. -/
theorem sparsePutRange_wf (f : Nat → α) (n lo : Nat) (l : List (Nat × α)) (w : sparseWf d l = true) :
    sparseWf d (sparsePutRange d f lo n l) = true := by
  induction n generalizing lo l with
  | zero => exact w
  | succ n ih => exact ih (lo + 1) _ (sparsePut_wfFrom w (Nat.zero_le _))

/-- A key outside a range of writes reads as before. -/
theorem sparseGet_putRange_outside (f : Nat → α) (n lo : Nat) (l : List (Nat × α)) (w : sparseWf d l = true) (j : Nat)
    (h : j < lo ∨ lo + n ≤ j) : sparseGet d (sparsePutRange d f lo n l) j = sparseGet d l j := by
  induction n generalizing lo l with
  | zero => rfl
  | succ n ih =>
    have w' : sparseWf d (sparsePut d l lo (f lo)) = true := sparsePut_wfFrom w (Nat.zero_le _)
    rw [sparsePutRange, ih (lo + 1) _ w' (by omega)]
    exact sparseGet_put_other w (by omega)

/-- A key inside a range of writes reads as the value written. -/
theorem sparseGet_putRange_inside (f : Nat → α) (n lo : Nat) (l : List (Nat × α)) (w : sparseWf d l = true) (j : Nat)
    (h : lo ≤ j ∧ j < lo + n) : sparseGet d (sparsePutRange d f lo n l) j = f j := by
  induction n generalizing lo l with
  | zero => omega
  | succ n ih =>
    have w' : sparseWf d (sparsePut d l lo (f lo)) = true := sparsePut_wfFrom w (Nat.zero_le _)
    by_cases hj : j = lo
    · rw [sparsePutRange, sparseGet_putRange_outside _ _ _ _ w' _ (by omega), hj]
      exact sparseGet_put_self w
    · rw [sparsePutRange, ih (lo + 1) _ w' (by omega)]

/-! ## DRAM -/

variable {m : List Host.Cell}

theorem dramWrite_wf (w : Memory.wf m = true) (key : Nat) (v : BitVec 320) : Memory.wf (dramWrite m key v) = true := by
  unfold Memory.wf dramWrite at *
  exact sparsePutRange_wf _ _ _ _ w

theorem dramWrites_wf (l : List (Nat × BitVec 320)) (w : Memory.wf m = true) : Memory.wf (dramWrites m l) = true := by
  induction l generalizing m with
  | nil => exact w
  | cons x t ih =>
    obtain ⟨k, v⟩ := x
    rw [dramWrites]
    exact ih (dramWrite_wf w k v)

theorem dramErase_wf (w : Memory.wf m = true) (lo hi : Nat) : Memory.wf (dramErase m lo hi) = true := by
  unfold Memory.wf sparseWf dramErase at *
  exact sparseWfFrom_filter _ w

theorem dramClear_wf (w : Memory.wf m = true) (hit : Nat → Bool) : Memory.wf (dramClear m hit) = true := by
  unfold Memory.wf sparseWf dramClear at *
  exact sparseWfFrom_filter _ w

/-- A write of a granule leaves every byte outside its 40 bytes as it was. -/
theorem dramWrite_outside (w : Memory.wf m = true) (key : Nat) (v : BitVec 320) (a : Nat) (h : a < 40 * key ∨ 40 * key + 40 ≤ a) :
    readByte (dramWrite m key v) a = readByte m a := by
  unfold readByte dramWrite
  unfold Memory.wf at w
  exact sparseGet_putRange_outside _ _ _ _ w a h

/-- A byte of a written granule reads as the value's byte. -/
theorem dramWrite_inside (w : Memory.wf m = true) (key : Nat) (v : BitVec 320) (k : Nat) (h : k < 40) :
    readByte (dramWrite m key v) (40 * key + k) = v.extractLsb' (8 * k) 8 := by
  unfold readByte dramWrite
  unfold Memory.wf at w
  rw [sparseGet_putRange_inside _ _ _ _ w _ ⟨by omega, by omega⟩]
  congr 2
  omega

end Sys2Proof.Machine
end

