-- ==== Sys2Proof/Laws/State.lean ====
section
/-! SUPPORT. What each update of a part of the state does to every field: one lemma per field per update. -/

namespace Sys2Proof.Machine

variable {c : Ctl}

@[simp] theorem modPort_power (p : Fin 4) (f : Port → Port) : (modPort p f c).power = c.power := rfl
@[simp] theorem modPort_regions (p : Fin 4) (f : Port → Port) : (modPort p f c).regions = c.regions := rfl
@[simp] theorem modPort_movers (p : Fin 4) (f : Port → Port) : (modPort p f c).movers = c.movers := rfl
@[simp] theorem modPort_chans (p : Fin 4) (f : Port → Port) : (modPort p f c).chans = c.chans := rfl
@[simp] theorem modPort_trk (p : Fin 4) (f : Port → Port) : (modPort p f c).trk = c.trk := rfl
@[simp] theorem modPort_poolGrants (p : Fin 4) (f : Port → Port) : (modPort p f c).poolGrants = c.poolGrants := rfl
@[simp] theorem modPort_queues (p : Fin 4) (f : Port → Port) : (modPort p f c).queues = c.queues := rfl
@[simp] theorem modPort_pm (p : Fin 4) (f : Port → Port) : (modPort p f c).pm = c.pm := rfl
@[simp] theorem modPort_umpire (p : Fin 4) (f : Port → Port) : (modPort p f c).umpire = c.umpire := rfl
@[simp] theorem modPort_beat (p : Fin 4) (f : Port → Port) : (modPort p f c).beat = c.beat := rfl
@[simp] theorem modPort_therm (p : Fin 4) (f : Port → Port) : (modPort p f c).therm = c.therm := rfl
@[simp] theorem modPort_life (p : Fin 4) (f : Port → Port) : (modPort p f c).life = c.life := rfl
@[simp] theorem modPort_mgr (p : Fin 4) (f : Port → Port) : (modPort p f c).mgr = c.mgr := rfl
@[simp] theorem modPort_side (p : Fin 4) (f : Port → Port) : (modPort p f c).side = c.side := rfl
@[simp] theorem modPort_score (p : Fin 4) (f : Port → Port) : (modPort p f c).score = c.score := rfl
@[simp] theorem modPort_snapshot (p : Fin 4) (f : Port → Port) : (modPort p f c).snapshot = c.snapshot := rfl
@[simp] theorem modPort_now (p : Fin 4) (f : Port → Port) : (modPort p f c).now = c.now := rfl
@[simp] theorem modPort_draws (p : Fin 4) (f : Port → Port) : (modPort p f c).draws = c.draws := rfl
@[simp] theorem modPort_nextId (p : Fin 4) (f : Port → Port) : (modPort p f c).nextId = c.nextId := rfl
@[simp] theorem modPort_ports (p : Fin 4) (f : Port → Port) : (modPort p f c).ports = c.ports.set p (f c.ports[p]) := rfl
theorem modPort_self (p : Fin 4) (f : Port → Port) : (modPort p f c).ports[p] = f c.ports[p] := by simp
theorem modPort_other (p w : Fin 4) (f : Port → Port) (h : w ≠ p) : (modPort p f c).ports[w] = c.ports[w] := by
  have hv : p.val ≠ w.val := fun e => h (Fin.ext e.symm)
  simp [Vector.getElem_set_ne _ _ hv]

@[simp] theorem modRegion_power (r : Fin 4) (f : Region → Region) : (modRegion r f c).power = c.power := rfl
@[simp] theorem modRegion_ports (r : Fin 4) (f : Region → Region) : (modRegion r f c).ports = c.ports := rfl
@[simp] theorem modRegion_movers (r : Fin 4) (f : Region → Region) : (modRegion r f c).movers = c.movers := rfl
@[simp] theorem modRegion_chans (r : Fin 4) (f : Region → Region) : (modRegion r f c).chans = c.chans := rfl
@[simp] theorem modRegion_trk (r : Fin 4) (f : Region → Region) : (modRegion r f c).trk = c.trk := rfl
@[simp] theorem modRegion_poolGrants (r : Fin 4) (f : Region → Region) : (modRegion r f c).poolGrants = c.poolGrants := rfl
@[simp] theorem modRegion_queues (r : Fin 4) (f : Region → Region) : (modRegion r f c).queues = c.queues := rfl
@[simp] theorem modRegion_pm (r : Fin 4) (f : Region → Region) : (modRegion r f c).pm = c.pm := rfl
@[simp] theorem modRegion_umpire (r : Fin 4) (f : Region → Region) : (modRegion r f c).umpire = c.umpire := rfl
@[simp] theorem modRegion_beat (r : Fin 4) (f : Region → Region) : (modRegion r f c).beat = c.beat := rfl
@[simp] theorem modRegion_therm (r : Fin 4) (f : Region → Region) : (modRegion r f c).therm = c.therm := rfl
@[simp] theorem modRegion_life (r : Fin 4) (f : Region → Region) : (modRegion r f c).life = c.life := rfl
@[simp] theorem modRegion_mgr (r : Fin 4) (f : Region → Region) : (modRegion r f c).mgr = c.mgr := rfl
@[simp] theorem modRegion_side (r : Fin 4) (f : Region → Region) : (modRegion r f c).side = c.side := rfl
@[simp] theorem modRegion_score (r : Fin 4) (f : Region → Region) : (modRegion r f c).score = c.score := rfl
@[simp] theorem modRegion_snapshot (r : Fin 4) (f : Region → Region) : (modRegion r f c).snapshot = c.snapshot := rfl
@[simp] theorem modRegion_now (r : Fin 4) (f : Region → Region) : (modRegion r f c).now = c.now := rfl
@[simp] theorem modRegion_draws (r : Fin 4) (f : Region → Region) : (modRegion r f c).draws = c.draws := rfl
@[simp] theorem modRegion_nextId (r : Fin 4) (f : Region → Region) : (modRegion r f c).nextId = c.nextId := rfl
@[simp] theorem modRegion_regions (r : Fin 4) (f : Region → Region) : (modRegion r f c).regions = c.regions.set r (f c.regions[r]) := rfl
theorem modRegion_self (r : Fin 4) (f : Region → Region) : (modRegion r f c).regions[r] = f c.regions[r] := by simp
theorem modRegion_other (r w : Fin 4) (f : Region → Region) (h : w ≠ r) : (modRegion r f c).regions[w] = c.regions[w] := by
  have hv : r.val ≠ w.val := fun e => h (Fin.ext e.symm)
  simp [Vector.getElem_set_ne _ _ hv]

@[simp] theorem modMover_power (m : Fin 16) (f : Mover → Mover) : (modMover m f c).power = c.power := rfl
@[simp] theorem modMover_ports (m : Fin 16) (f : Mover → Mover) : (modMover m f c).ports = c.ports := rfl
@[simp] theorem modMover_regions (m : Fin 16) (f : Mover → Mover) : (modMover m f c).regions = c.regions := rfl
@[simp] theorem modMover_chans (m : Fin 16) (f : Mover → Mover) : (modMover m f c).chans = c.chans := rfl
@[simp] theorem modMover_trk (m : Fin 16) (f : Mover → Mover) : (modMover m f c).trk = c.trk := rfl
@[simp] theorem modMover_poolGrants (m : Fin 16) (f : Mover → Mover) : (modMover m f c).poolGrants = c.poolGrants := rfl
@[simp] theorem modMover_queues (m : Fin 16) (f : Mover → Mover) : (modMover m f c).queues = c.queues := rfl
@[simp] theorem modMover_pm (m : Fin 16) (f : Mover → Mover) : (modMover m f c).pm = c.pm := rfl
@[simp] theorem modMover_umpire (m : Fin 16) (f : Mover → Mover) : (modMover m f c).umpire = c.umpire := rfl
@[simp] theorem modMover_beat (m : Fin 16) (f : Mover → Mover) : (modMover m f c).beat = c.beat := rfl
@[simp] theorem modMover_therm (m : Fin 16) (f : Mover → Mover) : (modMover m f c).therm = c.therm := rfl
@[simp] theorem modMover_life (m : Fin 16) (f : Mover → Mover) : (modMover m f c).life = c.life := rfl
@[simp] theorem modMover_mgr (m : Fin 16) (f : Mover → Mover) : (modMover m f c).mgr = c.mgr := rfl
@[simp] theorem modMover_side (m : Fin 16) (f : Mover → Mover) : (modMover m f c).side = c.side := rfl
@[simp] theorem modMover_score (m : Fin 16) (f : Mover → Mover) : (modMover m f c).score = c.score := rfl
@[simp] theorem modMover_snapshot (m : Fin 16) (f : Mover → Mover) : (modMover m f c).snapshot = c.snapshot := rfl
@[simp] theorem modMover_now (m : Fin 16) (f : Mover → Mover) : (modMover m f c).now = c.now := rfl
@[simp] theorem modMover_draws (m : Fin 16) (f : Mover → Mover) : (modMover m f c).draws = c.draws := rfl
@[simp] theorem modMover_nextId (m : Fin 16) (f : Mover → Mover) : (modMover m f c).nextId = c.nextId := rfl
@[simp] theorem modMover_movers (m : Fin 16) (f : Mover → Mover) : (modMover m f c).movers = c.movers.set m (f c.movers[m]) := rfl
theorem modMover_self (m : Fin 16) (f : Mover → Mover) : (modMover m f c).movers[m] = f c.movers[m] := by simp
theorem modMover_other (m w : Fin 16) (f : Mover → Mover) (h : w ≠ m) : (modMover m f c).movers[w] = c.movers[w] := by
  have hv : m.val ≠ w.val := fun e => h (Fin.ext e.symm)
  simp [Vector.getElem_set_ne _ _ hv]

@[simp] theorem modChan_power (ch : Fin 32) (f : Chan → Chan) : (modChan ch f c).power = c.power := rfl
@[simp] theorem modChan_ports (ch : Fin 32) (f : Chan → Chan) : (modChan ch f c).ports = c.ports := rfl
@[simp] theorem modChan_regions (ch : Fin 32) (f : Chan → Chan) : (modChan ch f c).regions = c.regions := rfl
@[simp] theorem modChan_movers (ch : Fin 32) (f : Chan → Chan) : (modChan ch f c).movers = c.movers := rfl
@[simp] theorem modChan_trk (ch : Fin 32) (f : Chan → Chan) : (modChan ch f c).trk = c.trk := rfl
@[simp] theorem modChan_poolGrants (ch : Fin 32) (f : Chan → Chan) : (modChan ch f c).poolGrants = c.poolGrants := rfl
@[simp] theorem modChan_queues (ch : Fin 32) (f : Chan → Chan) : (modChan ch f c).queues = c.queues := rfl
@[simp] theorem modChan_pm (ch : Fin 32) (f : Chan → Chan) : (modChan ch f c).pm = c.pm := rfl
@[simp] theorem modChan_umpire (ch : Fin 32) (f : Chan → Chan) : (modChan ch f c).umpire = c.umpire := rfl
@[simp] theorem modChan_beat (ch : Fin 32) (f : Chan → Chan) : (modChan ch f c).beat = c.beat := rfl
@[simp] theorem modChan_therm (ch : Fin 32) (f : Chan → Chan) : (modChan ch f c).therm = c.therm := rfl
@[simp] theorem modChan_life (ch : Fin 32) (f : Chan → Chan) : (modChan ch f c).life = c.life := rfl
@[simp] theorem modChan_mgr (ch : Fin 32) (f : Chan → Chan) : (modChan ch f c).mgr = c.mgr := rfl
@[simp] theorem modChan_side (ch : Fin 32) (f : Chan → Chan) : (modChan ch f c).side = c.side := rfl
@[simp] theorem modChan_score (ch : Fin 32) (f : Chan → Chan) : (modChan ch f c).score = c.score := rfl
@[simp] theorem modChan_snapshot (ch : Fin 32) (f : Chan → Chan) : (modChan ch f c).snapshot = c.snapshot := rfl
@[simp] theorem modChan_now (ch : Fin 32) (f : Chan → Chan) : (modChan ch f c).now = c.now := rfl
@[simp] theorem modChan_draws (ch : Fin 32) (f : Chan → Chan) : (modChan ch f c).draws = c.draws := rfl
@[simp] theorem modChan_nextId (ch : Fin 32) (f : Chan → Chan) : (modChan ch f c).nextId = c.nextId := rfl
@[simp] theorem modChan_chans (ch : Fin 32) (f : Chan → Chan) : (modChan ch f c).chans = c.chans.set ch (f c.chans[ch]) := rfl
theorem modChan_self (ch : Fin 32) (f : Chan → Chan) : (modChan ch f c).chans[ch] = f c.chans[ch] := by simp
theorem modChan_other (ch w : Fin 32) (f : Chan → Chan) (h : w ≠ ch) : (modChan ch f c).chans[w] = c.chans[w] := by
  have hv : ch.val ≠ w.val := fun e => h (Fin.ext e.symm)
  simp [Vector.getElem_set_ne _ _ hv]

@[simp] theorem modPower_power (f : Power → Power) : (modPower f c).power = f c.power := rfl
@[simp] theorem modPower_ports (f : Power → Power) : (modPower f c).ports = c.ports := rfl
@[simp] theorem modPower_regions (f : Power → Power) : (modPower f c).regions = c.regions := rfl
@[simp] theorem modPower_movers (f : Power → Power) : (modPower f c).movers = c.movers := rfl
@[simp] theorem modPower_chans (f : Power → Power) : (modPower f c).chans = c.chans := rfl
@[simp] theorem modPower_trk (f : Power → Power) : (modPower f c).trk = c.trk := rfl
@[simp] theorem modPower_poolGrants (f : Power → Power) : (modPower f c).poolGrants = c.poolGrants := rfl
@[simp] theorem modPower_queues (f : Power → Power) : (modPower f c).queues = c.queues := rfl
@[simp] theorem modPower_pm (f : Power → Power) : (modPower f c).pm = c.pm := rfl
@[simp] theorem modPower_umpire (f : Power → Power) : (modPower f c).umpire = c.umpire := rfl
@[simp] theorem modPower_beat (f : Power → Power) : (modPower f c).beat = c.beat := rfl
@[simp] theorem modPower_therm (f : Power → Power) : (modPower f c).therm = c.therm := rfl
@[simp] theorem modPower_life (f : Power → Power) : (modPower f c).life = c.life := rfl
@[simp] theorem modPower_mgr (f : Power → Power) : (modPower f c).mgr = c.mgr := rfl
@[simp] theorem modPower_side (f : Power → Power) : (modPower f c).side = c.side := rfl
@[simp] theorem modPower_score (f : Power → Power) : (modPower f c).score = c.score := rfl
@[simp] theorem modPower_snapshot (f : Power → Power) : (modPower f c).snapshot = c.snapshot := rfl
@[simp] theorem modPower_now (f : Power → Power) : (modPower f c).now = c.now := rfl
@[simp] theorem modPower_draws (f : Power → Power) : (modPower f c).draws = c.draws := rfl
@[simp] theorem modPower_nextId (f : Power → Power) : (modPower f c).nextId = c.nextId := rfl

@[simp] theorem modPm_power (f : PageMap → PageMap) : (modPm f c).power = c.power := rfl
@[simp] theorem modPm_ports (f : PageMap → PageMap) : (modPm f c).ports = c.ports := rfl
@[simp] theorem modPm_regions (f : PageMap → PageMap) : (modPm f c).regions = c.regions := rfl
@[simp] theorem modPm_movers (f : PageMap → PageMap) : (modPm f c).movers = c.movers := rfl
@[simp] theorem modPm_chans (f : PageMap → PageMap) : (modPm f c).chans = c.chans := rfl
@[simp] theorem modPm_trk (f : PageMap → PageMap) : (modPm f c).trk = c.trk := rfl
@[simp] theorem modPm_poolGrants (f : PageMap → PageMap) : (modPm f c).poolGrants = c.poolGrants := rfl
@[simp] theorem modPm_queues (f : PageMap → PageMap) : (modPm f c).queues = c.queues := rfl
@[simp] theorem modPm_pm (f : PageMap → PageMap) : (modPm f c).pm = f c.pm := rfl
@[simp] theorem modPm_umpire (f : PageMap → PageMap) : (modPm f c).umpire = c.umpire := rfl
@[simp] theorem modPm_beat (f : PageMap → PageMap) : (modPm f c).beat = c.beat := rfl
@[simp] theorem modPm_therm (f : PageMap → PageMap) : (modPm f c).therm = c.therm := rfl
@[simp] theorem modPm_life (f : PageMap → PageMap) : (modPm f c).life = c.life := rfl
@[simp] theorem modPm_mgr (f : PageMap → PageMap) : (modPm f c).mgr = c.mgr := rfl
@[simp] theorem modPm_side (f : PageMap → PageMap) : (modPm f c).side = c.side := rfl
@[simp] theorem modPm_score (f : PageMap → PageMap) : (modPm f c).score = c.score := rfl
@[simp] theorem modPm_snapshot (f : PageMap → PageMap) : (modPm f c).snapshot = c.snapshot := rfl
@[simp] theorem modPm_now (f : PageMap → PageMap) : (modPm f c).now = c.now := rfl
@[simp] theorem modPm_draws (f : PageMap → PageMap) : (modPm f c).draws = c.draws := rfl
@[simp] theorem modPm_nextId (f : PageMap → PageMap) : (modPm f c).nextId = c.nextId := rfl

@[simp] theorem modUmpire_power (f : Umpire → Umpire) : (modUmpire f c).power = c.power := rfl
@[simp] theorem modUmpire_ports (f : Umpire → Umpire) : (modUmpire f c).ports = c.ports := rfl
@[simp] theorem modUmpire_regions (f : Umpire → Umpire) : (modUmpire f c).regions = c.regions := rfl
@[simp] theorem modUmpire_movers (f : Umpire → Umpire) : (modUmpire f c).movers = c.movers := rfl
@[simp] theorem modUmpire_chans (f : Umpire → Umpire) : (modUmpire f c).chans = c.chans := rfl
@[simp] theorem modUmpire_trk (f : Umpire → Umpire) : (modUmpire f c).trk = c.trk := rfl
@[simp] theorem modUmpire_poolGrants (f : Umpire → Umpire) : (modUmpire f c).poolGrants = c.poolGrants := rfl
@[simp] theorem modUmpire_queues (f : Umpire → Umpire) : (modUmpire f c).queues = c.queues := rfl
@[simp] theorem modUmpire_pm (f : Umpire → Umpire) : (modUmpire f c).pm = c.pm := rfl
@[simp] theorem modUmpire_umpire (f : Umpire → Umpire) : (modUmpire f c).umpire = f c.umpire := rfl
@[simp] theorem modUmpire_beat (f : Umpire → Umpire) : (modUmpire f c).beat = c.beat := rfl
@[simp] theorem modUmpire_therm (f : Umpire → Umpire) : (modUmpire f c).therm = c.therm := rfl
@[simp] theorem modUmpire_life (f : Umpire → Umpire) : (modUmpire f c).life = c.life := rfl
@[simp] theorem modUmpire_mgr (f : Umpire → Umpire) : (modUmpire f c).mgr = c.mgr := rfl
@[simp] theorem modUmpire_side (f : Umpire → Umpire) : (modUmpire f c).side = c.side := rfl
@[simp] theorem modUmpire_score (f : Umpire → Umpire) : (modUmpire f c).score = c.score := rfl
@[simp] theorem modUmpire_snapshot (f : Umpire → Umpire) : (modUmpire f c).snapshot = c.snapshot := rfl
@[simp] theorem modUmpire_now (f : Umpire → Umpire) : (modUmpire f c).now = c.now := rfl
@[simp] theorem modUmpire_draws (f : Umpire → Umpire) : (modUmpire f c).draws = c.draws := rfl
@[simp] theorem modUmpire_nextId (f : Umpire → Umpire) : (modUmpire f c).nextId = c.nextId := rfl

@[simp] theorem modBeat_power (f : Beat → Beat) : (modBeat f c).power = c.power := rfl
@[simp] theorem modBeat_ports (f : Beat → Beat) : (modBeat f c).ports = c.ports := rfl
@[simp] theorem modBeat_regions (f : Beat → Beat) : (modBeat f c).regions = c.regions := rfl
@[simp] theorem modBeat_movers (f : Beat → Beat) : (modBeat f c).movers = c.movers := rfl
@[simp] theorem modBeat_chans (f : Beat → Beat) : (modBeat f c).chans = c.chans := rfl
@[simp] theorem modBeat_trk (f : Beat → Beat) : (modBeat f c).trk = c.trk := rfl
@[simp] theorem modBeat_poolGrants (f : Beat → Beat) : (modBeat f c).poolGrants = c.poolGrants := rfl
@[simp] theorem modBeat_queues (f : Beat → Beat) : (modBeat f c).queues = c.queues := rfl
@[simp] theorem modBeat_pm (f : Beat → Beat) : (modBeat f c).pm = c.pm := rfl
@[simp] theorem modBeat_umpire (f : Beat → Beat) : (modBeat f c).umpire = c.umpire := rfl
@[simp] theorem modBeat_beat (f : Beat → Beat) : (modBeat f c).beat = f c.beat := rfl
@[simp] theorem modBeat_therm (f : Beat → Beat) : (modBeat f c).therm = c.therm := rfl
@[simp] theorem modBeat_life (f : Beat → Beat) : (modBeat f c).life = c.life := rfl
@[simp] theorem modBeat_mgr (f : Beat → Beat) : (modBeat f c).mgr = c.mgr := rfl
@[simp] theorem modBeat_side (f : Beat → Beat) : (modBeat f c).side = c.side := rfl
@[simp] theorem modBeat_score (f : Beat → Beat) : (modBeat f c).score = c.score := rfl
@[simp] theorem modBeat_snapshot (f : Beat → Beat) : (modBeat f c).snapshot = c.snapshot := rfl
@[simp] theorem modBeat_now (f : Beat → Beat) : (modBeat f c).now = c.now := rfl
@[simp] theorem modBeat_draws (f : Beat → Beat) : (modBeat f c).draws = c.draws := rfl
@[simp] theorem modBeat_nextId (f : Beat → Beat) : (modBeat f c).nextId = c.nextId := rfl

@[simp] theorem modTherm_power (f : Therm → Therm) : (modTherm f c).power = c.power := rfl
@[simp] theorem modTherm_ports (f : Therm → Therm) : (modTherm f c).ports = c.ports := rfl
@[simp] theorem modTherm_regions (f : Therm → Therm) : (modTherm f c).regions = c.regions := rfl
@[simp] theorem modTherm_movers (f : Therm → Therm) : (modTherm f c).movers = c.movers := rfl
@[simp] theorem modTherm_chans (f : Therm → Therm) : (modTherm f c).chans = c.chans := rfl
@[simp] theorem modTherm_trk (f : Therm → Therm) : (modTherm f c).trk = c.trk := rfl
@[simp] theorem modTherm_poolGrants (f : Therm → Therm) : (modTherm f c).poolGrants = c.poolGrants := rfl
@[simp] theorem modTherm_queues (f : Therm → Therm) : (modTherm f c).queues = c.queues := rfl
@[simp] theorem modTherm_pm (f : Therm → Therm) : (modTherm f c).pm = c.pm := rfl
@[simp] theorem modTherm_umpire (f : Therm → Therm) : (modTherm f c).umpire = c.umpire := rfl
@[simp] theorem modTherm_beat (f : Therm → Therm) : (modTherm f c).beat = c.beat := rfl
@[simp] theorem modTherm_therm (f : Therm → Therm) : (modTherm f c).therm = f c.therm := rfl
@[simp] theorem modTherm_life (f : Therm → Therm) : (modTherm f c).life = c.life := rfl
@[simp] theorem modTherm_mgr (f : Therm → Therm) : (modTherm f c).mgr = c.mgr := rfl
@[simp] theorem modTherm_side (f : Therm → Therm) : (modTherm f c).side = c.side := rfl
@[simp] theorem modTherm_score (f : Therm → Therm) : (modTherm f c).score = c.score := rfl
@[simp] theorem modTherm_snapshot (f : Therm → Therm) : (modTherm f c).snapshot = c.snapshot := rfl
@[simp] theorem modTherm_now (f : Therm → Therm) : (modTherm f c).now = c.now := rfl
@[simp] theorem modTherm_draws (f : Therm → Therm) : (modTherm f c).draws = c.draws := rfl
@[simp] theorem modTherm_nextId (f : Therm → Therm) : (modTherm f c).nextId = c.nextId := rfl

@[simp] theorem modLife_power (f : Life → Life) : (modLife f c).power = c.power := rfl
@[simp] theorem modLife_ports (f : Life → Life) : (modLife f c).ports = c.ports := rfl
@[simp] theorem modLife_regions (f : Life → Life) : (modLife f c).regions = c.regions := rfl
@[simp] theorem modLife_movers (f : Life → Life) : (modLife f c).movers = c.movers := rfl
@[simp] theorem modLife_chans (f : Life → Life) : (modLife f c).chans = c.chans := rfl
@[simp] theorem modLife_trk (f : Life → Life) : (modLife f c).trk = c.trk := rfl
@[simp] theorem modLife_poolGrants (f : Life → Life) : (modLife f c).poolGrants = c.poolGrants := rfl
@[simp] theorem modLife_queues (f : Life → Life) : (modLife f c).queues = c.queues := rfl
@[simp] theorem modLife_pm (f : Life → Life) : (modLife f c).pm = c.pm := rfl
@[simp] theorem modLife_umpire (f : Life → Life) : (modLife f c).umpire = c.umpire := rfl
@[simp] theorem modLife_beat (f : Life → Life) : (modLife f c).beat = c.beat := rfl
@[simp] theorem modLife_therm (f : Life → Life) : (modLife f c).therm = c.therm := rfl
@[simp] theorem modLife_life (f : Life → Life) : (modLife f c).life = f c.life := rfl
@[simp] theorem modLife_mgr (f : Life → Life) : (modLife f c).mgr = c.mgr := rfl
@[simp] theorem modLife_side (f : Life → Life) : (modLife f c).side = c.side := rfl
@[simp] theorem modLife_score (f : Life → Life) : (modLife f c).score = c.score := rfl
@[simp] theorem modLife_snapshot (f : Life → Life) : (modLife f c).snapshot = c.snapshot := rfl
@[simp] theorem modLife_now (f : Life → Life) : (modLife f c).now = c.now := rfl
@[simp] theorem modLife_draws (f : Life → Life) : (modLife f c).draws = c.draws := rfl
@[simp] theorem modLife_nextId (f : Life → Life) : (modLife f c).nextId = c.nextId := rfl

@[simp] theorem modMgr_power (f : Mgr → Mgr) : (modMgr f c).power = c.power := rfl
@[simp] theorem modMgr_ports (f : Mgr → Mgr) : (modMgr f c).ports = c.ports := rfl
@[simp] theorem modMgr_regions (f : Mgr → Mgr) : (modMgr f c).regions = c.regions := rfl
@[simp] theorem modMgr_movers (f : Mgr → Mgr) : (modMgr f c).movers = c.movers := rfl
@[simp] theorem modMgr_chans (f : Mgr → Mgr) : (modMgr f c).chans = c.chans := rfl
@[simp] theorem modMgr_trk (f : Mgr → Mgr) : (modMgr f c).trk = c.trk := rfl
@[simp] theorem modMgr_poolGrants (f : Mgr → Mgr) : (modMgr f c).poolGrants = c.poolGrants := rfl
@[simp] theorem modMgr_queues (f : Mgr → Mgr) : (modMgr f c).queues = c.queues := rfl
@[simp] theorem modMgr_pm (f : Mgr → Mgr) : (modMgr f c).pm = c.pm := rfl
@[simp] theorem modMgr_umpire (f : Mgr → Mgr) : (modMgr f c).umpire = c.umpire := rfl
@[simp] theorem modMgr_beat (f : Mgr → Mgr) : (modMgr f c).beat = c.beat := rfl
@[simp] theorem modMgr_therm (f : Mgr → Mgr) : (modMgr f c).therm = c.therm := rfl
@[simp] theorem modMgr_life (f : Mgr → Mgr) : (modMgr f c).life = c.life := rfl
@[simp] theorem modMgr_mgr (f : Mgr → Mgr) : (modMgr f c).mgr = f c.mgr := rfl
@[simp] theorem modMgr_side (f : Mgr → Mgr) : (modMgr f c).side = c.side := rfl
@[simp] theorem modMgr_score (f : Mgr → Mgr) : (modMgr f c).score = c.score := rfl
@[simp] theorem modMgr_snapshot (f : Mgr → Mgr) : (modMgr f c).snapshot = c.snapshot := rfl
@[simp] theorem modMgr_now (f : Mgr → Mgr) : (modMgr f c).now = c.now := rfl
@[simp] theorem modMgr_draws (f : Mgr → Mgr) : (modMgr f c).draws = c.draws := rfl
@[simp] theorem modMgr_nextId (f : Mgr → Mgr) : (modMgr f c).nextId = c.nextId := rfl

@[simp] theorem modSide_power (f : Side → Side) : (modSide f c).power = c.power := rfl
@[simp] theorem modSide_ports (f : Side → Side) : (modSide f c).ports = c.ports := rfl
@[simp] theorem modSide_regions (f : Side → Side) : (modSide f c).regions = c.regions := rfl
@[simp] theorem modSide_movers (f : Side → Side) : (modSide f c).movers = c.movers := rfl
@[simp] theorem modSide_chans (f : Side → Side) : (modSide f c).chans = c.chans := rfl
@[simp] theorem modSide_trk (f : Side → Side) : (modSide f c).trk = c.trk := rfl
@[simp] theorem modSide_poolGrants (f : Side → Side) : (modSide f c).poolGrants = c.poolGrants := rfl
@[simp] theorem modSide_queues (f : Side → Side) : (modSide f c).queues = c.queues := rfl
@[simp] theorem modSide_pm (f : Side → Side) : (modSide f c).pm = c.pm := rfl
@[simp] theorem modSide_umpire (f : Side → Side) : (modSide f c).umpire = c.umpire := rfl
@[simp] theorem modSide_beat (f : Side → Side) : (modSide f c).beat = c.beat := rfl
@[simp] theorem modSide_therm (f : Side → Side) : (modSide f c).therm = c.therm := rfl
@[simp] theorem modSide_life (f : Side → Side) : (modSide f c).life = c.life := rfl
@[simp] theorem modSide_mgr (f : Side → Side) : (modSide f c).mgr = c.mgr := rfl
@[simp] theorem modSide_side (f : Side → Side) : (modSide f c).side = f c.side := rfl
@[simp] theorem modSide_score (f : Side → Side) : (modSide f c).score = c.score := rfl
@[simp] theorem modSide_snapshot (f : Side → Side) : (modSide f c).snapshot = c.snapshot := rfl
@[simp] theorem modSide_now (f : Side → Side) : (modSide f c).now = c.now := rfl
@[simp] theorem modSide_draws (f : Side → Side) : (modSide f c).draws = c.draws := rfl
@[simp] theorem modSide_nextId (f : Side → Side) : (modSide f c).nextId = c.nextId := rfl

/-! ## Counters -/

@[simp] theorem scoreSet_power (i v : Nat) : (scoreSet i v c).power = c.power := by unfold scoreSet; split <;> rfl
@[simp] theorem scoreSet_ports (i v : Nat) : (scoreSet i v c).ports = c.ports := by unfold scoreSet; split <;> rfl
@[simp] theorem scoreSet_regions (i v : Nat) : (scoreSet i v c).regions = c.regions := by unfold scoreSet; split <;> rfl
@[simp] theorem scoreSet_movers (i v : Nat) : (scoreSet i v c).movers = c.movers := by unfold scoreSet; split <;> rfl
@[simp] theorem scoreSet_chans (i v : Nat) : (scoreSet i v c).chans = c.chans := by unfold scoreSet; split <;> rfl
@[simp] theorem scoreSet_trk (i v : Nat) : (scoreSet i v c).trk = c.trk := by unfold scoreSet; split <;> rfl
@[simp] theorem scoreSet_poolGrants (i v : Nat) : (scoreSet i v c).poolGrants = c.poolGrants := by unfold scoreSet; split <;> rfl
@[simp] theorem scoreSet_queues (i v : Nat) : (scoreSet i v c).queues = c.queues := by unfold scoreSet; split <;> rfl
@[simp] theorem scoreSet_pm (i v : Nat) : (scoreSet i v c).pm = c.pm := by unfold scoreSet; split <;> rfl
@[simp] theorem scoreSet_umpire (i v : Nat) : (scoreSet i v c).umpire = c.umpire := by unfold scoreSet; split <;> rfl
@[simp] theorem scoreSet_beat (i v : Nat) : (scoreSet i v c).beat = c.beat := by unfold scoreSet; split <;> rfl
@[simp] theorem scoreSet_therm (i v : Nat) : (scoreSet i v c).therm = c.therm := by unfold scoreSet; split <;> rfl
@[simp] theorem scoreSet_life (i v : Nat) : (scoreSet i v c).life = c.life := by unfold scoreSet; split <;> rfl
@[simp] theorem scoreSet_mgr (i v : Nat) : (scoreSet i v c).mgr = c.mgr := by unfold scoreSet; split <;> rfl
@[simp] theorem scoreSet_side (i v : Nat) : (scoreSet i v c).side = c.side := by unfold scoreSet; split <;> rfl
@[simp] theorem scoreSet_snapshot (i v : Nat) : (scoreSet i v c).snapshot = c.snapshot := by unfold scoreSet; split <;> rfl
@[simp] theorem scoreSet_now (i v : Nat) : (scoreSet i v c).now = c.now := by unfold scoreSet; split <;> rfl
@[simp] theorem scoreSet_draws (i v : Nat) : (scoreSet i v c).draws = c.draws := by unfold scoreSet; split <;> rfl
@[simp] theorem scoreSet_nextId (i v : Nat) : (scoreSet i v c).nextId = c.nextId := by unfold scoreSet; split <;> rfl
@[simp] theorem bumpBy_power (i n : Nat) : (bumpBy i n c).power = c.power := by simp [bumpBy]
@[simp] theorem bumpBy_ports (i n : Nat) : (bumpBy i n c).ports = c.ports := by simp [bumpBy]
@[simp] theorem bumpBy_regions (i n : Nat) : (bumpBy i n c).regions = c.regions := by simp [bumpBy]
@[simp] theorem bumpBy_movers (i n : Nat) : (bumpBy i n c).movers = c.movers := by simp [bumpBy]
@[simp] theorem bumpBy_chans (i n : Nat) : (bumpBy i n c).chans = c.chans := by simp [bumpBy]
@[simp] theorem bumpBy_trk (i n : Nat) : (bumpBy i n c).trk = c.trk := by simp [bumpBy]
@[simp] theorem bumpBy_poolGrants (i n : Nat) : (bumpBy i n c).poolGrants = c.poolGrants := by simp [bumpBy]
@[simp] theorem bumpBy_queues (i n : Nat) : (bumpBy i n c).queues = c.queues := by simp [bumpBy]
@[simp] theorem bumpBy_pm (i n : Nat) : (bumpBy i n c).pm = c.pm := by simp [bumpBy]
@[simp] theorem bumpBy_umpire (i n : Nat) : (bumpBy i n c).umpire = c.umpire := by simp [bumpBy]
@[simp] theorem bumpBy_beat (i n : Nat) : (bumpBy i n c).beat = c.beat := by simp [bumpBy]
@[simp] theorem bumpBy_therm (i n : Nat) : (bumpBy i n c).therm = c.therm := by simp [bumpBy]
@[simp] theorem bumpBy_life (i n : Nat) : (bumpBy i n c).life = c.life := by simp [bumpBy]
@[simp] theorem bumpBy_mgr (i n : Nat) : (bumpBy i n c).mgr = c.mgr := by simp [bumpBy]
@[simp] theorem bumpBy_side (i n : Nat) : (bumpBy i n c).side = c.side := by simp [bumpBy]
@[simp] theorem bumpBy_snapshot (i n : Nat) : (bumpBy i n c).snapshot = c.snapshot := by simp [bumpBy]
@[simp] theorem bumpBy_now (i n : Nat) : (bumpBy i n c).now = c.now := by simp [bumpBy]
@[simp] theorem bumpBy_draws (i n : Nat) : (bumpBy i n c).draws = c.draws := by simp [bumpBy]
@[simp] theorem bumpBy_nextId (i n : Nat) : (bumpBy i n c).nextId = c.nextId := by simp [bumpBy]
@[simp] theorem bumpMax_power (i n : Nat) : (bumpMax i n c).power = c.power := by simp [bumpMax]
@[simp] theorem bumpMax_ports (i n : Nat) : (bumpMax i n c).ports = c.ports := by simp [bumpMax]
@[simp] theorem bumpMax_regions (i n : Nat) : (bumpMax i n c).regions = c.regions := by simp [bumpMax]
@[simp] theorem bumpMax_movers (i n : Nat) : (bumpMax i n c).movers = c.movers := by simp [bumpMax]
@[simp] theorem bumpMax_chans (i n : Nat) : (bumpMax i n c).chans = c.chans := by simp [bumpMax]
@[simp] theorem bumpMax_trk (i n : Nat) : (bumpMax i n c).trk = c.trk := by simp [bumpMax]
@[simp] theorem bumpMax_poolGrants (i n : Nat) : (bumpMax i n c).poolGrants = c.poolGrants := by simp [bumpMax]
@[simp] theorem bumpMax_queues (i n : Nat) : (bumpMax i n c).queues = c.queues := by simp [bumpMax]
@[simp] theorem bumpMax_pm (i n : Nat) : (bumpMax i n c).pm = c.pm := by simp [bumpMax]
@[simp] theorem bumpMax_umpire (i n : Nat) : (bumpMax i n c).umpire = c.umpire := by simp [bumpMax]
@[simp] theorem bumpMax_beat (i n : Nat) : (bumpMax i n c).beat = c.beat := by simp [bumpMax]
@[simp] theorem bumpMax_therm (i n : Nat) : (bumpMax i n c).therm = c.therm := by simp [bumpMax]
@[simp] theorem bumpMax_life (i n : Nat) : (bumpMax i n c).life = c.life := by simp [bumpMax]
@[simp] theorem bumpMax_mgr (i n : Nat) : (bumpMax i n c).mgr = c.mgr := by simp [bumpMax]
@[simp] theorem bumpMax_side (i n : Nat) : (bumpMax i n c).side = c.side := by simp [bumpMax]
@[simp] theorem bumpMax_snapshot (i n : Nat) : (bumpMax i n c).snapshot = c.snapshot := by simp [bumpMax]
@[simp] theorem bumpMax_now (i n : Nat) : (bumpMax i n c).now = c.now := by simp [bumpMax]
@[simp] theorem bumpMax_draws (i n : Nat) : (bumpMax i n c).draws = c.draws := by simp [bumpMax]
@[simp] theorem bumpMax_nextId (i n : Nat) : (bumpMax i n c).nextId = c.nextId := by simp [bumpMax]
@[simp] theorem bump_power (i : Nat) : (bump i c).power = c.power := by simp [bump]
@[simp] theorem bump_ports (i : Nat) : (bump i c).ports = c.ports := by simp [bump]
@[simp] theorem bump_regions (i : Nat) : (bump i c).regions = c.regions := by simp [bump]
@[simp] theorem bump_movers (i : Nat) : (bump i c).movers = c.movers := by simp [bump]
@[simp] theorem bump_chans (i : Nat) : (bump i c).chans = c.chans := by simp [bump]
@[simp] theorem bump_trk (i : Nat) : (bump i c).trk = c.trk := by simp [bump]
@[simp] theorem bump_poolGrants (i : Nat) : (bump i c).poolGrants = c.poolGrants := by simp [bump]
@[simp] theorem bump_queues (i : Nat) : (bump i c).queues = c.queues := by simp [bump]
@[simp] theorem bump_pm (i : Nat) : (bump i c).pm = c.pm := by simp [bump]
@[simp] theorem bump_umpire (i : Nat) : (bump i c).umpire = c.umpire := by simp [bump]
@[simp] theorem bump_beat (i : Nat) : (bump i c).beat = c.beat := by simp [bump]
@[simp] theorem bump_therm (i : Nat) : (bump i c).therm = c.therm := by simp [bump]
@[simp] theorem bump_life (i : Nat) : (bump i c).life = c.life := by simp [bump]
@[simp] theorem bump_mgr (i : Nat) : (bump i c).mgr = c.mgr := by simp [bump]
@[simp] theorem bump_side (i : Nat) : (bump i c).side = c.side := by simp [bump]
@[simp] theorem bump_snapshot (i : Nat) : (bump i c).snapshot = c.snapshot := by simp [bump]
@[simp] theorem bump_now (i : Nat) : (bump i c).now = c.now := by simp [bump]
@[simp] theorem bump_draws (i : Nat) : (bump i c).draws = c.draws := by simp [bump]
@[simp] theorem bump_nextId (i : Nat) : (bump i c).nextId = c.nextId := by simp [bump]

/-! ## Repetition -/

/-- A fold of updates keeps what each of them keeps. -/
theorem forEach_keeps {α β : Type} (g : Ctl → β) (l : List α) (f : α → Ctl → Ctl) (h : ∀ a c, g (f a c) = g c) (c : Ctl) :
    g (forEach l f c) = g c := by
  induction l generalizing c with
  | nil => rfl
  | cons a t ih => exact (ih (f a c)).trans (h a c)

/-- A fold of updates keeps a property that each of them keeps. -/
theorem forEach_inv {α : Type} (P : Ctl → Prop) (l : List α) (f : α → Ctl → Ctl) (h : ∀ a c, P c → P (f a c)) (c : Ctl) (hc : P c) :
    P (forEach l f c) := by
  induction l generalizing c with
  | nil => exact hc
  | cons a t ih => exact ih (f a c) (h a c hc)

end Sys2Proof.Machine
end

