-- ==== Sys2Proof/Laws/Ops.lean ====
section
/-! SUPPORT. What each shared operation can do: counters, the packets that a port sends, replies, and how a command is
taken up. -/

namespace Sys2Proof.Machine

open Sys2Proof

variable {c : Ctl}

/-! ## Sparse tables in any form -/

section
variable {α : Type} [DecidableEq α] {d : Nat → α}

/-- A write of a value other than the unlisted one is read back, in canonical form or not. -/
theorem sparseGet_put_new (l : List (Nat × α)) {k : Nat} {v : α} (h : v ≠ d k) : sparseGet d (sparsePut d l k v) k = v := by
  induction l with
  | nil => simp [sparsePut, h, sparseGet]
  | cons x t ih =>
    unfold sparsePut
    by_cases h1 : k < x.1
    · simp [h1, h, sparseGet]
    · by_cases h2 : k = x.1
      · simp [h2, h2 ▸ h, sparseGet]
      · simp [h1, h2, sparseGet, ih]

/-- A write leaves every other key, in canonical form or not. -/
theorem sparseGet_put_ne (l : List (Nat × α)) {k j : Nat} {v : α} (h : j ≠ k) : sparseGet d (sparsePut d l k v) j = sparseGet d l j := by
  induction l with
  | nil => unfold sparsePut; split <;> simp [sparseGet, h]
  | cons x t ih =>
    unfold sparsePut
    by_cases h1 : k < x.1
    · by_cases h3 : v = d k <;> simp [h1, h3, sparseGet, h]
    · by_cases h2 : k = x.1
      · by_cases h3 : v = d k <;> subst h2 <;> simp [h3, sparseGet, h]
      · simp [h1, h2, sparseGet, ih]

end

/-! ## Counters -/

/-- A counter that exists is raised and saturates; its width is at least one bit. -/
theorem scoreGet_bumpBy_self {i n w : Nat} (h : counterWidth i = some w) (hw : 0 < w) (hn : 0 < n) :
    scoreGet (bumpBy i n c) i = Nat.min (scoreGet c i + n) (2 ^ w - 1) := by
  have h2 : 2 ≤ 2 ^ w := by
    calc 2 = 2 ^ 1 := rfl
      _ ≤ 2 ^ w := Nat.pow_le_pow_right (by omega) hw
  unfold bumpBy scoreSet scoreGet
  simp only [h]
  refine sparseGet_put_new _ ?_
  have : 0 < Nat.min (sparseGet (fun _ => 0) c.score i + n) (2 ^ w - 1) := Nat.lt_min.mpr ⟨by omega, by omega⟩
  omega

/-- No other counter changes. -/
theorem scoreGet_bumpBy_other {i j n : Nat} (h : j ≠ i) : scoreGet (bumpBy i n c) j = scoreGet c j := by
  unfold bumpBy scoreSet scoreGet
  split
  · exact sparseGet_put_ne _ h
  · rfl

theorem scoreGet_bump_self {i w : Nat} (h : counterWidth i = some w) (hw : 0 < w) :
    scoreGet (bump i c) i = Nat.min (scoreGet c i + 1) (2 ^ w - 1) := scoreGet_bumpBy_self h hw Nat.one_pos
theorem scoreGet_bump_other {i j : Nat} (h : j ≠ i) : scoreGet (bump i c) j = scoreGet c j := scoreGet_bumpBy_other h

/-- A counter update changes nothing but the live counters. -/
theorem bumpBy_frame (i n : Nat) : bumpBy i n c = { c with score := (bumpBy i n c).score } := by
  unfold bumpBy scoreSet; split <;> rfl
theorem bump_frame (i : Nat) : bump i c = { c with score := (bump i c).score } := bumpBy_frame i 1

/-! ## The transmitter (R69 to R76, R94) -/

/-- What sending changes of a port: credits used, flits stored, the next sequence number, what waits for its line, a WAKE_REQ, and
the sleep of the transmitter. -/
def SentFrom (p q : Port) : Prop :=
  q = { p with
    used := q.used, replay := q.replay, nextSeq := q.nextSeq, line := q.line, sleepOut := q.sleepOut, txSleep := q.txSleep
    wakeUnacked := q.wakeUnacked, wakeDecided := q.wakeDecided, respQ := q.respQ, mgmtQ := q.mgmtQ, notifyQ := q.notifyQ }

theorem SentFrom.refl (p : Port) : SentFrom p p := rfl
theorem SentFrom.trans {p q r : Port} (h : SentFrom p q) (k : SentFrom q r) : SentFrom p r := by
  unfold SentFrom at *; rw [k, h]

theorem txFlits_sent (l : List (List Slot)) (p : Port) : SentFrom p (txFlits l p) := by
  induction l generalizing p with
  | nil => rfl
  | cons f t ih =>
    unfold txFlits
    split
    · refine SentFrom.trans ?_ (ih _); rfl
    · rfl

theorem resumeFlits_sent (p : Port) : SentFrom p (resumeFlits p) := by
  unfold resumeFlits
  split
  · refine SentFrom.trans ?_ (txFlits_sent _ _); rfl
  · rfl

theorem askWake_sent (p : Port) : SentFrom p (askWake p) := by
  unfold askWake
  simp only
  split <;> rfl

theorem sendPkt_sent {k : OutPkt} {p q : Port} (h : sendPkt k p = some q) : SentFrom p q := by
  unfold sendPkt at h
  simp only at h
  split at h
  · injection h with h; subst h; refine SentFrom.trans ?_ (txFlits_sent _ _); rfl
  · simp at h

theorem drainQueue_sent (l : List OutPkt) (p : Port) : SentFrom p (drainQueue l p).2 := by
  induction l generalizing p with
  | nil => rfl
  | cons k t ih =>
    unfold drainQueue
    split
    · rename_i q h; exact SentFrom.trans (sendPkt_sent h) (ih q)
    · rfl

theorem wakeTx_sent (p : Port) : SentFrom p (wakeTx p) := by
  unfold wakeTx
  split
  · rfl
  · split <;> rfl

/-- A port's transmission changes the port as SentFrom says, releases tracker entries, counts, and touches nothing else. -/
theorem pumpPort_frame (p : Fin 4) :
    pumpPort p c = { c with ports := (pumpPort p c).ports, trk := (pumpPort p c).trk, score := (pumpPort p c).score } := by
  unfold pumpPort; dsimp only; rw [bumpBy_frame]

theorem SentFrom.queues {p q : Port} (h : SentFrom p q) (a b d : List OutPkt) : SentFrom p { q with respQ := a, mgmtQ := b, notifyQ := d } := by
  refine SentFrom.trans h ?_; rfl

theorem pumpPort_self (p : Fin 4) : SentFrom c.ports[p] (pumpPort p c).ports[p] := by
  have h1 : ∀ q : Port, SentFrom q (resumeFlits (if q.respQ.isEmpty && q.mgmtQ.isEmpty && q.notifyQ.isEmpty then q else wakeTx q)) := by
    intro q; split
    · exact resumeFlits_sent q
    · exact (wakeTx_sent q).trans (resumeFlits_sent _)
  have h2 : ∀ (b : Bool) (l : List OutPkt) (q : Port), SentFrom q (if b then drainQueue l q else (l, q)).2 := by
    intro b l q; split
    · exact drainQueue_sent l q
    · rfl
  unfold pumpPort
  simp only [Fin.getElem_fin, Vector.getElem_set_self]
  exact (SentFrom.queues (((h1 _).trans (drainQueue_sent _ _)).trans ((drainQueue_sent _ _).trans (h2 _ _ _))) _ _ _).trans (askWake_sent _)

theorem pumpPort_other (p w : Fin 4) (h : w ≠ p) : (pumpPort p c).ports[w] = c.ports[w] := by
  have hv : p.val ≠ w.val := fun e => h (Fin.ext e.symm)
  simp [pumpPort, Vector.getElem_set_ne _ _ hv]

/-- Transmission only releases tracker entries. -/
theorem pumpPort_trk (p : Fin 4) : ∀ x ∈ (pumpPort p c).trk, x ∈ c.trk := by
  intro x hx; unfold pumpPort at hx; simp only [List.mem_filter] at hx
  have h := hx.1; rw [bumpBy_frame] at h; exact h

@[simp] theorem pumpPort_power (p : Fin 4) : (pumpPort p c).power = c.power := by rw [pumpPort_frame]
@[simp] theorem pumpPort_regions (p : Fin 4) : (pumpPort p c).regions = c.regions := by rw [pumpPort_frame]
@[simp] theorem pumpPort_movers (p : Fin 4) : (pumpPort p c).movers = c.movers := by rw [pumpPort_frame]
@[simp] theorem pumpPort_chans (p : Fin 4) : (pumpPort p c).chans = c.chans := by rw [pumpPort_frame]
@[simp] theorem pumpPort_queues (p : Fin 4) : (pumpPort p c).queues = c.queues := by rw [pumpPort_frame]
@[simp] theorem pumpPort_pm (p : Fin 4) : (pumpPort p c).pm = c.pm := by rw [pumpPort_frame]
@[simp] theorem pumpPort_umpire (p : Fin 4) : (pumpPort p c).umpire = c.umpire := by rw [pumpPort_frame]
@[simp] theorem pumpPort_beat (p : Fin 4) : (pumpPort p c).beat = c.beat := by rw [pumpPort_frame]
@[simp] theorem pumpPort_therm (p : Fin 4) : (pumpPort p c).therm = c.therm := by rw [pumpPort_frame]
@[simp] theorem pumpPort_life (p : Fin 4) : (pumpPort p c).life = c.life := by rw [pumpPort_frame]
@[simp] theorem pumpPort_mgr (p : Fin 4) : (pumpPort p c).mgr = c.mgr := by rw [pumpPort_frame]
@[simp] theorem pumpPort_side (p : Fin 4) : (pumpPort p c).side = c.side := by rw [pumpPort_frame]
@[simp] theorem pumpPort_snapshot (p : Fin 4) : (pumpPort p c).snapshot = c.snapshot := by rw [pumpPort_frame]
@[simp] theorem pumpPort_now (p : Fin 4) : (pumpPort p c).now = c.now := by rw [pumpPort_frame]
@[simp] theorem pumpPort_draws (p : Fin 4) : (pumpPort p c).draws = c.draws := by rw [pumpPort_frame]
@[simp] theorem pumpPort_nextId (p : Fin 4) : (pumpPort p c).nextId = c.nextId := by rw [pumpPort_frame]
@[simp] theorem pumpPort_poolGrants (p : Fin 4) : (pumpPort p c).poolGrants = c.poolGrants := by rw [pumpPort_frame]

theorem SentFrom.enable {p q : Port} (h : SentFrom p q) : q.enable = p.enable := by rw [h]
theorem SentFrom.maxRate {p q : Port} (h : SentFrom p q) : q.maxRate = p.maxRate := by rw [h]
theorem SentFrom.sleepLight {p q : Port} (h : SentFrom p q) : q.sleepLight = p.sleepLight := by rw [h]
theorem SentFrom.sleepDeep {p q : Port} (h : SentFrom p q) : q.sleepDeep = p.sleepDeep := by rw [h]
theorem SentFrom.regNotify {p q : Port} (h : SentFrom p q) : q.regNotify = p.regNotify := by rw [h]
theorem SentFrom.faultNotifyMin {p q : Port} (h : SentFrom p q) : q.faultNotifyMin = p.faultNotifyMin := by rw [h]
theorem SentFrom.laneFailThreshold {p q : Port} (h : SentFrom p q) : q.laneFailThreshold = p.laneFailThreshold := by rw [h]
theorem SentFrom.uncorrRetrainLimit {p q : Port} (h : SentFrom p q) : q.uncorrRetrainLimit = p.uncorrRetrainLimit := by rw [h]
theorem SentFrom.replayTimeout {p q : Port} (h : SentFrom p q) : q.replayTimeout = p.replayTimeout := by rw [h]
theorem SentFrom.txLightIdle {p q : Port} (h : SentFrom p q) : q.txLightIdle = p.txLightIdle := by rw [h]
theorem SentFrom.txDeepIdle {p q : Port} (h : SentFrom p q) : q.txDeepIdle = p.txDeepIdle := by rw [h]
theorem SentFrom.poolLimit {p q : Port} (h : SentFrom p q) : q.poolLimit = p.poolLimit := by rw [h]
theorem SentFrom.domainMask {p q : Port} (h : SentFrom p q) : q.domainMask = p.domainMask := by rw [h]
theorem SentFrom.latTarget {p q : Port} (h : SentFrom p q) : q.latTarget = p.latTarget := by rw [h]
theorem SentFrom.minBw {p q : Port} (h : SentFrom p q) : q.minBw = p.minBw := by rw [h]
theorem SentFrom.realtime {p q : Port} (h : SentFrom p q) : q.realtime = p.realtime := by rw [h]
theorem SentFrom.tc1Rate {p q : Port} (h : SentFrom p q) : q.tc1Rate = p.tc1Rate := by rw [h]
theorem SentFrom.tc1Burst {p q : Port} (h : SentFrom p q) : q.tc1Burst = p.tc1Burst := by rw [h]
theorem SentFrom.tc1Bucket {p q : Port} (h : SentFrom p q) : q.tc1Bucket = p.tc1Bucket := by rw [h]
theorem SentFrom.link {p q : Port} (h : SentFrom p q) : q.link = p.link := by rw [h]
theorem SentFrom.retraining {p q : Port} (h : SentFrom p q) : q.retraining = p.retraining := by rw [h]
theorem SentFrom.rate {p q : Port} (h : SentFrom p q) : q.rate = p.rate := by rw [h]
theorem SentFrom.fallback56 {p q : Port} (h : SentFrom p q) : q.fallback56 = p.fallback56 := by rw [h]
theorem SentFrom.failedAttempts {p q : Port} (h : SentFrom p q) : q.failedAttempts = p.failedAttempts := by rw [h]
theorem SentFrom.holdoff {p q : Port} (h : SentFrom p q) : q.holdoff = p.holdoff := by rw [h]
theorem SentFrom.portDownSent {p q : Port} (h : SentFrom p q) : q.portDownSent = p.portDownSent := by rw [h]
theorem SentFrom.doneSent {p q : Port} (h : SentFrom p q) : q.doneSent = p.doneSent := by rw [h]
theorem SentFrom.doneRecv {p q : Port} (h : SentFrom p q) : q.doneRecv = p.doneRecv := by rw [h]
theorem SentFrom.partnerGood {p q : Port} (h : SentFrom p q) : q.partnerGood = p.partnerGood := by rw [h]
theorem SentFrom.txMap {p q : Port} (h : SentFrom p q) : q.txMap = p.txMap := by rw [h]
theorem SentFrom.rxMap {p q : Port} (h : SentFrom p q) : q.rxMap = p.rxMap := by rw [h]
theorem SentFrom.reversed {p q : Port} (h : SentFrom p q) : q.reversed = p.reversed := by rw [h]
theorem SentFrom.mapMatches {p q : Port} (h : SentFrom p q) : q.mapMatches = p.mapMatches := by rw [h]
theorem SentFrom.alignedMarkers {p q : Port} (h : SentFrom p q) : q.alignedMarkers = p.alignedMarkers := by rw [h]
theorem SentFrom.retrainTimes {p q : Port} (h : SentFrom p q) : q.retrainTimes = p.retrainTimes := by rw [h]
theorem SentFrom.cwCount {p q : Port} (h : SentFrom p q) : q.cwCount = p.cwCount := by rw [h]
theorem SentFrom.uncorrAt {p q : Port} (h : SentFrom p q) : q.uncorrAt = p.uncorrAt := by rw [h]
theorem SentFrom.badRole {p q : Port} (h : SentFrom p q) : q.badRole = p.badRole := by rw [h]
theorem SentFrom.tsSeen {p q : Port} (h : SentFrom p q) : q.tsSeen = p.tsSeen := by rw [h]
theorem SentFrom.mapChanged {p q : Port} (h : SentFrom p q) : q.mapChanged = p.mapChanged := by rw [h]
theorem SentFrom.rx {p q : Port} (h : SentFrom p q) : q.rx = p.rx := by rw [h]
theorem SentFrom.tx {p q : Port} (h : SentFrom p q) : q.tx = p.tx := by rw [h]
theorem SentFrom.rxSleep {p q : Port} (h : SentFrom p q) : q.rxSleep = p.rxSleep := by rw [h]
theorem SentFrom.sleepReqOut {p q : Port} (h : SentFrom p q) : q.sleepReqOut = p.sleepReqOut := by rw [h]
theorem SentFrom.sleepMinimum {p q : Port} (h : SentFrom p q) : q.sleepMinimum = p.sleepMinimum := by rw [h]
theorem SentFrom.awaitStart {p q : Port} (h : SentFrom p q) : q.awaitStart = p.awaitStart := by rw [h]
theorem SentFrom.wakeBlocks {p q : Port} (h : SentFrom p q) : q.wakeBlocks = p.wakeBlocks := by rw [h]
theorem SentFrom.sinceSkip {p q : Port} (h : SentFrom p q) : q.sinceSkip = p.sinceSkip := by rw [h]
theorem SentFrom.rateSel {p q : Port} (h : SentFrom p q) : q.rateSel = p.rateSel := by rw [h]
theorem SentFrom.rxCw {p q : Port} (h : SentFrom p q) : q.rxCw = p.rxCw := by rw [h]
theorem SentFrom.rxLine {p q : Port} (h : SentFrom p q) : q.rxLine = p.rxLine := by rw [h]
theorem SentFrom.ebOn {p q : Port} (h : SentFrom p q) : q.ebOn = p.ebOn := by rw [h]
theorem SentFrom.mute {p q : Port} (h : SentFrom p q) : q.mute = p.mute := by rw [h]
theorem SentFrom.partialVal {p q : Port} (h : SentFrom p q) : q.partialVal = p.partialVal := by rw [h]
theorem SentFrom.partialLen {p q : Port} (h : SentFrom p q) : q.partialLen = p.partialLen := by rw [h]
theorem SentFrom.rxFlits {p q : Port} (h : SentFrom p q) : q.rxFlits = p.rxFlits := by rw [h]
theorem SentFrom.expSeq {p q : Port} (h : SentFrom p q) : q.expSeq = p.expSeq := by rw [h]
theorem SentFrom.nakOut {p q : Port} (h : SentFrom p q) : q.nakOut = p.nakOut := by rw [h]
theorem SentFrom.nakQueue {p q : Port} (h : SentFrom p q) : q.nakQueue = p.nakQueue := by rw [h]
theorem SentFrom.replayRepeats {p q : Port} (h : SentFrom p q) : q.replayRepeats = p.replayRepeats := by rw [h]
theorem SentFrom.replayLast {p q : Port} (h : SentFrom p q) : q.replayLast = p.replayLast := by rw [h]
theorem SentFrom.initRecv {p q : Port} (h : SentFrom p q) : q.initRecv = p.initRecv := by rw [h]
theorem SentFrom.initDoneRecv {p q : Port} (h : SentFrom p q) : q.initDoneRecv = p.initDoneRecv := by rw [h]
theorem SentFrom.resumeSent {p q : Port} (h : SentFrom p q) : q.resumeSent = p.resumeSent := by rw [h]
theorem SentFrom.adv {p q : Port} (h : SentFrom p q) : q.adv = p.adv := by rw [h]
theorem SentFrom.ret {p q : Port} (h : SentFrom p q) : q.ret = p.ret := by rw [h]
theorem SentFrom.recvd {p q : Port} (h : SentFrom p q) : q.recvd = p.recvd := by rw [h]
theorem SentFrom.freed {p q : Port} (h : SentFrom p q) : q.freed = p.freed := by rw [h]
theorem SentFrom.withheld {p q : Port} (h : SentFrom p q) : q.withheld = p.withheld := by rw [h]
theorem SentFrom.holdBack {p q : Port} (h : SentFrom p q) : q.holdBack = p.holdBack := by rw [h]
theorem SentFrom.asm {p q : Port} (h : SentFrom p q) : q.asm = p.asm := by rw [h]
theorem SentFrom.rxPkts {p q : Port} (h : SentFrom p q) : q.rxPkts = p.rxPkts := by rw [h]
theorem SentFrom.waiting {p q : Port} (h : SentFrom p q) : q.waiting = p.waiting := by rw [h]

/-! ## Responses, NOTIFY packets and replies -/

/-- A change of one port that sends, beside counters: the shape of pushResp, pushNotify and sendReply. -/
theorem pushResp_frame (p : Fin 4) (k : OutPkt) :
    pushResp p k c = { c with ports := (pushResp p k c).ports, trk := (pushResp p k c).trk, score := (pushResp p k c).score } := by
  unfold pushResp
  split
  · rfl
  · rw [pumpPort_frame]; rfl

theorem sent_modPort {p : Fin 4} {f : Port → Port} (h : SentFrom c.ports[p] (f c.ports[p])) :
    SentFrom c.ports[p] (pumpPort p (modPort p f c)).ports[p] := by
  have := pumpPort_self (c := modPort p f c) p
  rw [modPort_self] at this
  exact h.trans this

theorem pushResp_self (p : Fin 4) (k : OutPkt) : SentFrom c.ports[p] (pushResp p k c).ports[p] := by
  unfold pushResp
  split
  · rfl
  · exact sent_modPort rfl

theorem pushResp_other (p w : Fin 4) (k : OutPkt) (h : w ≠ p) : (pushResp p k c).ports[w] = c.ports[w] := by
  unfold pushResp
  split
  · rfl
  · rw [pumpPort_other _ _ h, modPort_other _ _ _ h]

theorem pushResp_trk (p : Fin 4) (k : OutPkt) : ∀ x ∈ (pushResp p k c).trk, x ∈ c.trk := by
  intro x hx
  unfold pushResp at hx
  split at hx
  · simp only [List.mem_filter] at hx; exact hx.1
  · have h2 := pumpPort_trk _ _ hx; rwa [modPort_trk] at h2

theorem pushNotify_frame (p : Fin 4) (k e : Nat) :
    pushNotify p k e c = { c with ports := (pushNotify p k e c).ports, trk := (pushNotify p k e c).trk, score := (pushNotify p k e c).score } := by
  unfold pushNotify
  split
  · dsimp only; rw [pumpPort_frame]; rfl
  · rw [bump_frame]

theorem pushNotify_self (p : Fin 4) (k e : Nat) : SentFrom c.ports[p] (pushNotify p k e c).ports[p] := by
  by_cases h : c.ports[p].notifyQ.length < 64
  · simp only [pushNotify, h, if_true]; exact sent_modPort rfl
  · simp only [pushNotify, h, if_false, bump_ports]; exact SentFrom.refl _

theorem pushNotify_other (p w : Fin 4) (k e : Nat) (h : w ≠ p) : (pushNotify p k e c).ports[w] = c.ports[w] := by
  unfold pushNotify
  split
  · rw [pumpPort_other _ _ h, modPort_other _ _ _ h]
  · simp

theorem pushNotify_trk (p : Fin 4) (k e : Nat) : ∀ x ∈ (pushNotify p k e c).trk, x ∈ c.trk := by
  intro x hx
  by_cases h : c.ports[p].notifyQ.length < 64
  · simp only [pushNotify, h, if_true] at hx; have h2 := pumpPort_trk _ _ hx; rwa [modPort_trk] at h2
  · simpa only [pushNotify, h, if_false, bump_trk] using hx

/-- The mgr of a state after a reply keeps all but the I3C target's queue. -/
theorem sendReply_frame (r : Reply) :
    sendReply r c = { c with ports := (sendReply r c).ports, trk := (sendReply r c).trk, score := (sendReply r c).score, mgr := { c.mgr with i3cOut := (sendReply r c).mgr.i3cOut } } := by
  unfold sendReply
  split
  · rfl
  · split
    · rfl
    · dsimp only; rw [pumpPort_frame]; rfl

theorem sendReply_self (r : Reply) (p : Fin 4) : SentFrom c.ports[p] (sendReply r c).ports[p] := by
  unfold sendReply
  split
  · rfl
  · rename_i q _
    split
    · rfl
    · by_cases h : p = q
      · subst h; exact sent_modPort rfl
      · rw [pumpPort_other _ _ h, modPort_other _ _ _ h]; rfl

theorem sendReply_trk (r : Reply) : ∀ x ∈ (sendReply r c).trk, x ∈ c.trk := by
  intro x hx
  unfold sendReply at hx
  split at hx
  · exact hx
  · split at hx
    · exact hx
    · simp only at hx; have h2 := pumpPort_trk _ _ hx; rwa [modPort_trk] at h2

theorem replyTo_frame (ref : CmdRef) (st op : Nat) (l : List Byte) :
    replyTo ref st op l c =
      { c with ports := (replyTo ref st op l c).ports, trk := (replyTo ref st op l c).trk, score := (replyTo ref st op l c).score, mgr := { c.mgr with i3cOut := (replyTo ref st op l c).mgr.i3cOut } } :=
  sendReply_frame _
theorem replyTo_self (ref : CmdRef) (st op : Nat) (l : List Byte) (p : Fin 4) : SentFrom c.ports[p] (replyTo ref st op l c).ports[p] :=
  sendReply_self _ _
theorem replyTo_trk (ref : CmdRef) (st op : Nat) (l : List Byte) : ∀ x ∈ (replyTo ref st op l c).trk, x ∈ c.trk := sendReply_trk _

@[simp] theorem pushResp_power (p : Fin 4) (k : OutPkt) : (pushResp p k c).power = c.power := by rw [pushResp_frame]
@[simp] theorem pushResp_regions (p : Fin 4) (k : OutPkt) : (pushResp p k c).regions = c.regions := by rw [pushResp_frame]
@[simp] theorem pushResp_movers (p : Fin 4) (k : OutPkt) : (pushResp p k c).movers = c.movers := by rw [pushResp_frame]
@[simp] theorem pushResp_chans (p : Fin 4) (k : OutPkt) : (pushResp p k c).chans = c.chans := by rw [pushResp_frame]
@[simp] theorem pushResp_queues (p : Fin 4) (k : OutPkt) : (pushResp p k c).queues = c.queues := by rw [pushResp_frame]
@[simp] theorem pushResp_pm (p : Fin 4) (k : OutPkt) : (pushResp p k c).pm = c.pm := by rw [pushResp_frame]
@[simp] theorem pushResp_umpire (p : Fin 4) (k : OutPkt) : (pushResp p k c).umpire = c.umpire := by rw [pushResp_frame]
@[simp] theorem pushResp_beat (p : Fin 4) (k : OutPkt) : (pushResp p k c).beat = c.beat := by rw [pushResp_frame]
@[simp] theorem pushResp_therm (p : Fin 4) (k : OutPkt) : (pushResp p k c).therm = c.therm := by rw [pushResp_frame]
@[simp] theorem pushResp_life (p : Fin 4) (k : OutPkt) : (pushResp p k c).life = c.life := by rw [pushResp_frame]
@[simp] theorem pushResp_mgr (p : Fin 4) (k : OutPkt) : (pushResp p k c).mgr = c.mgr := by rw [pushResp_frame]
@[simp] theorem pushResp_side (p : Fin 4) (k : OutPkt) : (pushResp p k c).side = c.side := by rw [pushResp_frame]
@[simp] theorem pushResp_snapshot (p : Fin 4) (k : OutPkt) : (pushResp p k c).snapshot = c.snapshot := by rw [pushResp_frame]
@[simp] theorem pushResp_now (p : Fin 4) (k : OutPkt) : (pushResp p k c).now = c.now := by rw [pushResp_frame]
@[simp] theorem pushResp_draws (p : Fin 4) (k : OutPkt) : (pushResp p k c).draws = c.draws := by rw [pushResp_frame]
@[simp] theorem pushResp_nextId (p : Fin 4) (k : OutPkt) : (pushResp p k c).nextId = c.nextId := by rw [pushResp_frame]
@[simp] theorem pushResp_poolGrants (p : Fin 4) (k : OutPkt) : (pushResp p k c).poolGrants = c.poolGrants := by rw [pushResp_frame]
@[simp] theorem pushNotify_power (p : Fin 4) (k e : Nat) : (pushNotify p k e c).power = c.power := by rw [pushNotify_frame]
@[simp] theorem pushNotify_regions (p : Fin 4) (k e : Nat) : (pushNotify p k e c).regions = c.regions := by rw [pushNotify_frame]
@[simp] theorem pushNotify_movers (p : Fin 4) (k e : Nat) : (pushNotify p k e c).movers = c.movers := by rw [pushNotify_frame]
@[simp] theorem pushNotify_chans (p : Fin 4) (k e : Nat) : (pushNotify p k e c).chans = c.chans := by rw [pushNotify_frame]
@[simp] theorem pushNotify_queues (p : Fin 4) (k e : Nat) : (pushNotify p k e c).queues = c.queues := by rw [pushNotify_frame]
@[simp] theorem pushNotify_pm (p : Fin 4) (k e : Nat) : (pushNotify p k e c).pm = c.pm := by rw [pushNotify_frame]
@[simp] theorem pushNotify_umpire (p : Fin 4) (k e : Nat) : (pushNotify p k e c).umpire = c.umpire := by rw [pushNotify_frame]
@[simp] theorem pushNotify_beat (p : Fin 4) (k e : Nat) : (pushNotify p k e c).beat = c.beat := by rw [pushNotify_frame]
@[simp] theorem pushNotify_therm (p : Fin 4) (k e : Nat) : (pushNotify p k e c).therm = c.therm := by rw [pushNotify_frame]
@[simp] theorem pushNotify_life (p : Fin 4) (k e : Nat) : (pushNotify p k e c).life = c.life := by rw [pushNotify_frame]
@[simp] theorem pushNotify_mgr (p : Fin 4) (k e : Nat) : (pushNotify p k e c).mgr = c.mgr := by rw [pushNotify_frame]
@[simp] theorem pushNotify_side (p : Fin 4) (k e : Nat) : (pushNotify p k e c).side = c.side := by rw [pushNotify_frame]
@[simp] theorem pushNotify_snapshot (p : Fin 4) (k e : Nat) : (pushNotify p k e c).snapshot = c.snapshot := by rw [pushNotify_frame]
@[simp] theorem pushNotify_now (p : Fin 4) (k e : Nat) : (pushNotify p k e c).now = c.now := by rw [pushNotify_frame]
@[simp] theorem pushNotify_draws (p : Fin 4) (k e : Nat) : (pushNotify p k e c).draws = c.draws := by rw [pushNotify_frame]
@[simp] theorem pushNotify_nextId (p : Fin 4) (k e : Nat) : (pushNotify p k e c).nextId = c.nextId := by rw [pushNotify_frame]
@[simp] theorem pushNotify_poolGrants (p : Fin 4) (k e : Nat) : (pushNotify p k e c).poolGrants = c.poolGrants := by rw [pushNotify_frame]
@[simp] theorem sendReply_power (r : Reply) : (sendReply r c).power = c.power := by rw [sendReply_frame]
@[simp] theorem sendReply_regions (r : Reply) : (sendReply r c).regions = c.regions := by rw [sendReply_frame]
@[simp] theorem sendReply_movers (r : Reply) : (sendReply r c).movers = c.movers := by rw [sendReply_frame]
@[simp] theorem sendReply_chans (r : Reply) : (sendReply r c).chans = c.chans := by rw [sendReply_frame]
@[simp] theorem sendReply_queues (r : Reply) : (sendReply r c).queues = c.queues := by rw [sendReply_frame]
@[simp] theorem sendReply_pm (r : Reply) : (sendReply r c).pm = c.pm := by rw [sendReply_frame]
@[simp] theorem sendReply_umpire (r : Reply) : (sendReply r c).umpire = c.umpire := by rw [sendReply_frame]
@[simp] theorem sendReply_beat (r : Reply) : (sendReply r c).beat = c.beat := by rw [sendReply_frame]
@[simp] theorem sendReply_therm (r : Reply) : (sendReply r c).therm = c.therm := by rw [sendReply_frame]
@[simp] theorem sendReply_life (r : Reply) : (sendReply r c).life = c.life := by rw [sendReply_frame]
@[simp] theorem sendReply_side (r : Reply) : (sendReply r c).side = c.side := by rw [sendReply_frame]
@[simp] theorem sendReply_snapshot (r : Reply) : (sendReply r c).snapshot = c.snapshot := by rw [sendReply_frame]
@[simp] theorem sendReply_now (r : Reply) : (sendReply r c).now = c.now := by rw [sendReply_frame]
@[simp] theorem sendReply_draws (r : Reply) : (sendReply r c).draws = c.draws := by rw [sendReply_frame]
@[simp] theorem sendReply_nextId (r : Reply) : (sendReply r c).nextId = c.nextId := by rw [sendReply_frame]
@[simp] theorem sendReply_poolGrants (r : Reply) : (sendReply r c).poolGrants = c.poolGrants := by rw [sendReply_frame]
@[simp] theorem replyTo_power (ref : CmdRef) (st op : Nat) (l : List Byte) : (replyTo ref st op l c).power = c.power := by rw [replyTo_frame]
@[simp] theorem replyTo_regions (ref : CmdRef) (st op : Nat) (l : List Byte) : (replyTo ref st op l c).regions = c.regions := by rw [replyTo_frame]
@[simp] theorem replyTo_movers (ref : CmdRef) (st op : Nat) (l : List Byte) : (replyTo ref st op l c).movers = c.movers := by rw [replyTo_frame]
@[simp] theorem replyTo_chans (ref : CmdRef) (st op : Nat) (l : List Byte) : (replyTo ref st op l c).chans = c.chans := by rw [replyTo_frame]
@[simp] theorem replyTo_queues (ref : CmdRef) (st op : Nat) (l : List Byte) : (replyTo ref st op l c).queues = c.queues := by rw [replyTo_frame]
@[simp] theorem replyTo_pm (ref : CmdRef) (st op : Nat) (l : List Byte) : (replyTo ref st op l c).pm = c.pm := by rw [replyTo_frame]
@[simp] theorem replyTo_umpire (ref : CmdRef) (st op : Nat) (l : List Byte) : (replyTo ref st op l c).umpire = c.umpire := by rw [replyTo_frame]
@[simp] theorem replyTo_beat (ref : CmdRef) (st op : Nat) (l : List Byte) : (replyTo ref st op l c).beat = c.beat := by rw [replyTo_frame]
@[simp] theorem replyTo_therm (ref : CmdRef) (st op : Nat) (l : List Byte) : (replyTo ref st op l c).therm = c.therm := by rw [replyTo_frame]
@[simp] theorem replyTo_life (ref : CmdRef) (st op : Nat) (l : List Byte) : (replyTo ref st op l c).life = c.life := by rw [replyTo_frame]
@[simp] theorem replyTo_side (ref : CmdRef) (st op : Nat) (l : List Byte) : (replyTo ref st op l c).side = c.side := by rw [replyTo_frame]
@[simp] theorem replyTo_snapshot (ref : CmdRef) (st op : Nat) (l : List Byte) : (replyTo ref st op l c).snapshot = c.snapshot := by rw [replyTo_frame]
@[simp] theorem replyTo_now (ref : CmdRef) (st op : Nat) (l : List Byte) : (replyTo ref st op l c).now = c.now := by rw [replyTo_frame]
@[simp] theorem replyTo_draws (ref : CmdRef) (st op : Nat) (l : List Byte) : (replyTo ref st op l c).draws = c.draws := by rw [replyTo_frame]
@[simp] theorem replyTo_nextId (ref : CmdRef) (st op : Nat) (l : List Byte) : (replyTo ref st op l c).nextId = c.nextId := by rw [replyTo_frame]
@[simp] theorem replyTo_poolGrants (ref : CmdRef) (st op : Nat) (l : List Byte) : (replyTo ref st op l c).poolGrants = c.poolGrants := by rw [replyTo_frame]

@[simp] theorem replyStatus_eq (ref : CmdRef) (st : Nat) : replyStatus ref st = replyTo ref st 0 [] := rfl


/-! ## How a command is taken up (R391, R405) -/

/-- What firmware finds when a command reaches it: its packet has left the receive buffer and has ended the assembly of its transport,
and the command is counted, all but FAULT_ACK. -/
theorem command_eq (op : Nat) (m : Mgmt) (body : CmdRef → Ctl → Ctl) (h : reaches m.via c = true) (hf : foreign m = false) :
    command op m body c =
      (let a := arrive 0x40 m.via m.tag (isCommand op m) c
       let d := setAsm m.via none (if op = 0x71 then a else countCmd m.via a)
       match gate op m d with
       | some st => replyStatus (refOf op m) st (spendNonce m d)
       | none => if lastFits op m a then body (refOf op m) d else replyStatus (refOf op m) 2 (spendNonce m d)) := by
  unfold command deliver
  simp only [h, hf, Bool.not_true, Bool.false_eq_true, if_false] <;> rfl

/-- Dropping the assembly of a transport changes management's own state. -/
theorem setAsm_frame (via : Via) (a : Option Assembly) : setAsm via a c = { c with mgr := (setAsm via a c).mgr } := rfl

/-- The arrival of a command's packet changes its port's receive side and nothing else. -/
theorem arrive_frame (pkt : Nat) (via : Via) (tag : Nat) (cmd : Slot → Bool) : arrive pkt via tag cmd c = { c with ports := (arrive pkt via tag cmd c).ports } := by
  unfold arrive; split <;> rfl

theorem countCmd_frame (via : Via) : countCmd via c = { c with score := (countCmd via c).score } := by
  unfold countCmd; split
  · exact bump_frame _
  · rfl

@[simp] theorem arrive_power (pkt : Nat) (via : Via) (tag : Nat) (cmd : Slot → Bool) : (arrive pkt via tag cmd c).power = c.power := by rw [arrive_frame]
@[simp] theorem arrive_regions (pkt : Nat) (via : Via) (tag : Nat) (cmd : Slot → Bool) : (arrive pkt via tag cmd c).regions = c.regions := by rw [arrive_frame]
@[simp] theorem arrive_movers (pkt : Nat) (via : Via) (tag : Nat) (cmd : Slot → Bool) : (arrive pkt via tag cmd c).movers = c.movers := by rw [arrive_frame]
@[simp] theorem arrive_chans (pkt : Nat) (via : Via) (tag : Nat) (cmd : Slot → Bool) : (arrive pkt via tag cmd c).chans = c.chans := by rw [arrive_frame]
@[simp] theorem arrive_trk (pkt : Nat) (via : Via) (tag : Nat) (cmd : Slot → Bool) : (arrive pkt via tag cmd c).trk = c.trk := by rw [arrive_frame]
@[simp] theorem arrive_queues (pkt : Nat) (via : Via) (tag : Nat) (cmd : Slot → Bool) : (arrive pkt via tag cmd c).queues = c.queues := by rw [arrive_frame]
@[simp] theorem arrive_pm (pkt : Nat) (via : Via) (tag : Nat) (cmd : Slot → Bool) : (arrive pkt via tag cmd c).pm = c.pm := by rw [arrive_frame]
@[simp] theorem arrive_umpire (pkt : Nat) (via : Via) (tag : Nat) (cmd : Slot → Bool) : (arrive pkt via tag cmd c).umpire = c.umpire := by rw [arrive_frame]
@[simp] theorem arrive_beat (pkt : Nat) (via : Via) (tag : Nat) (cmd : Slot → Bool) : (arrive pkt via tag cmd c).beat = c.beat := by rw [arrive_frame]
@[simp] theorem arrive_therm (pkt : Nat) (via : Via) (tag : Nat) (cmd : Slot → Bool) : (arrive pkt via tag cmd c).therm = c.therm := by rw [arrive_frame]
@[simp] theorem arrive_life (pkt : Nat) (via : Via) (tag : Nat) (cmd : Slot → Bool) : (arrive pkt via tag cmd c).life = c.life := by rw [arrive_frame]
@[simp] theorem arrive_mgr (pkt : Nat) (via : Via) (tag : Nat) (cmd : Slot → Bool) : (arrive pkt via tag cmd c).mgr = c.mgr := by rw [arrive_frame]
@[simp] theorem arrive_side (pkt : Nat) (via : Via) (tag : Nat) (cmd : Slot → Bool) : (arrive pkt via tag cmd c).side = c.side := by rw [arrive_frame]
@[simp] theorem arrive_score (pkt : Nat) (via : Via) (tag : Nat) (cmd : Slot → Bool) : (arrive pkt via tag cmd c).score = c.score := by rw [arrive_frame]
@[simp] theorem arrive_snapshot (pkt : Nat) (via : Via) (tag : Nat) (cmd : Slot → Bool) : (arrive pkt via tag cmd c).snapshot = c.snapshot := by rw [arrive_frame]
@[simp] theorem arrive_now (pkt : Nat) (via : Via) (tag : Nat) (cmd : Slot → Bool) : (arrive pkt via tag cmd c).now = c.now := by rw [arrive_frame]
@[simp] theorem arrive_draws (pkt : Nat) (via : Via) (tag : Nat) (cmd : Slot → Bool) : (arrive pkt via tag cmd c).draws = c.draws := by rw [arrive_frame]
@[simp] theorem arrive_nextId (pkt : Nat) (via : Via) (tag : Nat) (cmd : Slot → Bool) : (arrive pkt via tag cmd c).nextId = c.nextId := by rw [arrive_frame]
@[simp] theorem arrive_poolGrants (pkt : Nat) (via : Via) (tag : Nat) (cmd : Slot → Bool) : (arrive pkt via tag cmd c).poolGrants = c.poolGrants := by rw [arrive_frame]
@[simp] theorem countCmd_power (via : Via) : (countCmd via c).power = c.power := by rw [countCmd_frame]
@[simp] theorem countCmd_ports (via : Via) : (countCmd via c).ports = c.ports := by rw [countCmd_frame]
@[simp] theorem countCmd_regions (via : Via) : (countCmd via c).regions = c.regions := by rw [countCmd_frame]
@[simp] theorem countCmd_movers (via : Via) : (countCmd via c).movers = c.movers := by rw [countCmd_frame]
@[simp] theorem countCmd_chans (via : Via) : (countCmd via c).chans = c.chans := by rw [countCmd_frame]
@[simp] theorem countCmd_trk (via : Via) : (countCmd via c).trk = c.trk := by rw [countCmd_frame]
@[simp] theorem countCmd_queues (via : Via) : (countCmd via c).queues = c.queues := by rw [countCmd_frame]
@[simp] theorem countCmd_pm (via : Via) : (countCmd via c).pm = c.pm := by rw [countCmd_frame]
@[simp] theorem countCmd_umpire (via : Via) : (countCmd via c).umpire = c.umpire := by rw [countCmd_frame]
@[simp] theorem countCmd_beat (via : Via) : (countCmd via c).beat = c.beat := by rw [countCmd_frame]
@[simp] theorem countCmd_therm (via : Via) : (countCmd via c).therm = c.therm := by rw [countCmd_frame]
@[simp] theorem countCmd_life (via : Via) : (countCmd via c).life = c.life := by rw [countCmd_frame]
@[simp] theorem countCmd_mgr (via : Via) : (countCmd via c).mgr = c.mgr := by rw [countCmd_frame]
@[simp] theorem countCmd_side (via : Via) : (countCmd via c).side = c.side := by rw [countCmd_frame]
@[simp] theorem countCmd_snapshot (via : Via) : (countCmd via c).snapshot = c.snapshot := by rw [countCmd_frame]
@[simp] theorem countCmd_now (via : Via) : (countCmd via c).now = c.now := by rw [countCmd_frame]
@[simp] theorem countCmd_draws (via : Via) : (countCmd via c).draws = c.draws := by rw [countCmd_frame]
@[simp] theorem countCmd_nextId (via : Via) : (countCmd via c).nextId = c.nextId := by rw [countCmd_frame]
@[simp] theorem countCmd_poolGrants (via : Via) : (countCmd via c).poolGrants = c.poolGrants := by rw [countCmd_frame]

/-- The checks of R391 before the parameters read only the umpire, the stage, the life cycle and the owner port. -/
theorem gate_congr {a : Ctl} (op : Nat) (m : Mgmt) (h1 : a.umpire = c.umpire) (h2 : a.power = c.power) (h3 : a.life = c.life) :
    gate op m a = gate op m c := by
  have hs : stateRefuses op m.via a = stateRefuses op m.via c := by simp only [stateRefuses, h1, h2, h3]
  have ho : notOwner m.via a = notOwner m.via c := by unfold notOwner; rw [h3]
  unfold gate; rw [hs, ho, h3]

/-- Whether a command's last fragment fits depends on the assembly of its transport alone. -/
theorem lastFits_congr {a : Ctl} (op : Nat) (m : Mgmt) (h : a.mgr = c.mgr) : lastFits op m a = lastFits op m c := by
  unfold lastFits heldBody asmOf; rw [h]

/-! ## The end of a request (R84, R90) -/

theorem finishWith_frame (st : Nat) (info : BitVec 32) (data : List Slot) (t : Trk) :
    finishWith st info data t c = { c with
      ports := (finishWith st info data t c).ports, trk := (finishWith st info data t c).trk, score := (finishWith st info data t c).score } := by
  unfold finishWith
  split
  · rfl
  · split
    · rfl
    · split
      · rw [pushResp_frame]; rfl
      · rfl

theorem finishTrk_frame (t : Trk) :
    finishTrk t c = { c with ports := (finishTrk t c).ports, trk := (finishTrk t c).trk, score := (finishTrk t c).score } :=
  finishWith_frame _ _ _ _

theorem finishIfDone_frame (id : Nat) :
    finishIfDone id c = { c with ports := (finishIfDone id c).ports, trk := (finishIfDone id c).trk, score := (finishIfDone id c).score } := by
  unfold finishIfDone
  split
  · split
    · exact finishTrk_frame _
    · rfl
  · rfl

theorem endGran_frame (id idx status : Nat) (data : GData) :
    endGran id idx status data c =
      { c with ports := (endGran id idx status data c).ports, trk := (endGran id idx status data c).trk, score := (endGran id idx status data c).score } := by
  unfold endGran; rw [finishIfDone_frame]; rfl

theorem endTrkWith_frame (id status : Nat) (info : BitVec 32) (data : List Slot) :
    endTrkWith id status info data c =
      { c with ports := (endTrkWith id status info data c).ports, trk := (endTrkWith id status info data c).trk
               score := (endTrkWith id status info data c).score } := by
  unfold endTrkWith
  split
  · rfl
  · rw [finishWith_frame]

theorem endTrk_frame (id status : Nat) :
    endTrk id status c = { c with ports := (endTrk id status c).ports, trk := (endTrk id status c).trk, score := (endTrk id status c).score } :=
  endTrkWith_frame _ _ _ _

@[simp] theorem finishWith_power (st : Nat) (info : BitVec 32) (data : List Slot) (t : Trk) : (finishWith st info data t c).power = c.power := by rw [finishWith_frame]
@[simp] theorem finishWith_regions (st : Nat) (info : BitVec 32) (data : List Slot) (t : Trk) : (finishWith st info data t c).regions = c.regions := by rw [finishWith_frame]
@[simp] theorem finishWith_movers (st : Nat) (info : BitVec 32) (data : List Slot) (t : Trk) : (finishWith st info data t c).movers = c.movers := by rw [finishWith_frame]
@[simp] theorem finishWith_chans (st : Nat) (info : BitVec 32) (data : List Slot) (t : Trk) : (finishWith st info data t c).chans = c.chans := by rw [finishWith_frame]
@[simp] theorem finishWith_queues (st : Nat) (info : BitVec 32) (data : List Slot) (t : Trk) : (finishWith st info data t c).queues = c.queues := by rw [finishWith_frame]
@[simp] theorem finishWith_pm (st : Nat) (info : BitVec 32) (data : List Slot) (t : Trk) : (finishWith st info data t c).pm = c.pm := by rw [finishWith_frame]
@[simp] theorem finishWith_umpire (st : Nat) (info : BitVec 32) (data : List Slot) (t : Trk) : (finishWith st info data t c).umpire = c.umpire := by rw [finishWith_frame]
@[simp] theorem finishWith_beat (st : Nat) (info : BitVec 32) (data : List Slot) (t : Trk) : (finishWith st info data t c).beat = c.beat := by rw [finishWith_frame]
@[simp] theorem finishWith_therm (st : Nat) (info : BitVec 32) (data : List Slot) (t : Trk) : (finishWith st info data t c).therm = c.therm := by rw [finishWith_frame]
@[simp] theorem finishWith_life (st : Nat) (info : BitVec 32) (data : List Slot) (t : Trk) : (finishWith st info data t c).life = c.life := by rw [finishWith_frame]
@[simp] theorem finishWith_mgr (st : Nat) (info : BitVec 32) (data : List Slot) (t : Trk) : (finishWith st info data t c).mgr = c.mgr := by rw [finishWith_frame]
@[simp] theorem finishWith_side (st : Nat) (info : BitVec 32) (data : List Slot) (t : Trk) : (finishWith st info data t c).side = c.side := by rw [finishWith_frame]
@[simp] theorem finishWith_snapshot (st : Nat) (info : BitVec 32) (data : List Slot) (t : Trk) : (finishWith st info data t c).snapshot = c.snapshot := by rw [finishWith_frame]
@[simp] theorem finishWith_now (st : Nat) (info : BitVec 32) (data : List Slot) (t : Trk) : (finishWith st info data t c).now = c.now := by rw [finishWith_frame]
@[simp] theorem finishWith_draws (st : Nat) (info : BitVec 32) (data : List Slot) (t : Trk) : (finishWith st info data t c).draws = c.draws := by rw [finishWith_frame]
@[simp] theorem finishWith_nextId (st : Nat) (info : BitVec 32) (data : List Slot) (t : Trk) : (finishWith st info data t c).nextId = c.nextId := by rw [finishWith_frame]
@[simp] theorem finishWith_poolGrants (st : Nat) (info : BitVec 32) (data : List Slot) (t : Trk) : (finishWith st info data t c).poolGrants = c.poolGrants := by rw [finishWith_frame]
@[simp] theorem finishTrk_power (t : Trk) : (finishTrk t c).power = c.power := by rw [finishTrk_frame]
@[simp] theorem finishTrk_regions (t : Trk) : (finishTrk t c).regions = c.regions := by rw [finishTrk_frame]
@[simp] theorem finishTrk_movers (t : Trk) : (finishTrk t c).movers = c.movers := by rw [finishTrk_frame]
@[simp] theorem finishTrk_chans (t : Trk) : (finishTrk t c).chans = c.chans := by rw [finishTrk_frame]
@[simp] theorem finishTrk_queues (t : Trk) : (finishTrk t c).queues = c.queues := by rw [finishTrk_frame]
@[simp] theorem finishTrk_pm (t : Trk) : (finishTrk t c).pm = c.pm := by rw [finishTrk_frame]
@[simp] theorem finishTrk_umpire (t : Trk) : (finishTrk t c).umpire = c.umpire := by rw [finishTrk_frame]
@[simp] theorem finishTrk_beat (t : Trk) : (finishTrk t c).beat = c.beat := by rw [finishTrk_frame]
@[simp] theorem finishTrk_therm (t : Trk) : (finishTrk t c).therm = c.therm := by rw [finishTrk_frame]
@[simp] theorem finishTrk_life (t : Trk) : (finishTrk t c).life = c.life := by rw [finishTrk_frame]
@[simp] theorem finishTrk_mgr (t : Trk) : (finishTrk t c).mgr = c.mgr := by rw [finishTrk_frame]
@[simp] theorem finishTrk_side (t : Trk) : (finishTrk t c).side = c.side := by rw [finishTrk_frame]
@[simp] theorem finishTrk_snapshot (t : Trk) : (finishTrk t c).snapshot = c.snapshot := by rw [finishTrk_frame]
@[simp] theorem finishTrk_now (t : Trk) : (finishTrk t c).now = c.now := by rw [finishTrk_frame]
@[simp] theorem finishTrk_draws (t : Trk) : (finishTrk t c).draws = c.draws := by rw [finishTrk_frame]
@[simp] theorem finishTrk_nextId (t : Trk) : (finishTrk t c).nextId = c.nextId := by rw [finishTrk_frame]
@[simp] theorem finishTrk_poolGrants (t : Trk) : (finishTrk t c).poolGrants = c.poolGrants := by rw [finishTrk_frame]
@[simp] theorem finishIfDone_power (id : Nat) : (finishIfDone id c).power = c.power := by rw [finishIfDone_frame]
@[simp] theorem finishIfDone_regions (id : Nat) : (finishIfDone id c).regions = c.regions := by rw [finishIfDone_frame]
@[simp] theorem finishIfDone_movers (id : Nat) : (finishIfDone id c).movers = c.movers := by rw [finishIfDone_frame]
@[simp] theorem finishIfDone_chans (id : Nat) : (finishIfDone id c).chans = c.chans := by rw [finishIfDone_frame]
@[simp] theorem finishIfDone_queues (id : Nat) : (finishIfDone id c).queues = c.queues := by rw [finishIfDone_frame]
@[simp] theorem finishIfDone_pm (id : Nat) : (finishIfDone id c).pm = c.pm := by rw [finishIfDone_frame]
@[simp] theorem finishIfDone_umpire (id : Nat) : (finishIfDone id c).umpire = c.umpire := by rw [finishIfDone_frame]
@[simp] theorem finishIfDone_beat (id : Nat) : (finishIfDone id c).beat = c.beat := by rw [finishIfDone_frame]
@[simp] theorem finishIfDone_therm (id : Nat) : (finishIfDone id c).therm = c.therm := by rw [finishIfDone_frame]
@[simp] theorem finishIfDone_life (id : Nat) : (finishIfDone id c).life = c.life := by rw [finishIfDone_frame]
@[simp] theorem finishIfDone_mgr (id : Nat) : (finishIfDone id c).mgr = c.mgr := by rw [finishIfDone_frame]
@[simp] theorem finishIfDone_side (id : Nat) : (finishIfDone id c).side = c.side := by rw [finishIfDone_frame]
@[simp] theorem finishIfDone_snapshot (id : Nat) : (finishIfDone id c).snapshot = c.snapshot := by rw [finishIfDone_frame]
@[simp] theorem finishIfDone_now (id : Nat) : (finishIfDone id c).now = c.now := by rw [finishIfDone_frame]
@[simp] theorem finishIfDone_draws (id : Nat) : (finishIfDone id c).draws = c.draws := by rw [finishIfDone_frame]
@[simp] theorem finishIfDone_nextId (id : Nat) : (finishIfDone id c).nextId = c.nextId := by rw [finishIfDone_frame]
@[simp] theorem finishIfDone_poolGrants (id : Nat) : (finishIfDone id c).poolGrants = c.poolGrants := by rw [finishIfDone_frame]
@[simp] theorem endGran_power (id idx status : Nat) (data : GData) : (endGran id idx status data c).power = c.power := by rw [endGran_frame]
@[simp] theorem endGran_regions (id idx status : Nat) (data : GData) : (endGran id idx status data c).regions = c.regions := by rw [endGran_frame]
@[simp] theorem endGran_movers (id idx status : Nat) (data : GData) : (endGran id idx status data c).movers = c.movers := by rw [endGran_frame]
@[simp] theorem endGran_chans (id idx status : Nat) (data : GData) : (endGran id idx status data c).chans = c.chans := by rw [endGran_frame]
@[simp] theorem endGran_queues (id idx status : Nat) (data : GData) : (endGran id idx status data c).queues = c.queues := by rw [endGran_frame]
@[simp] theorem endGran_pm (id idx status : Nat) (data : GData) : (endGran id idx status data c).pm = c.pm := by rw [endGran_frame]
@[simp] theorem endGran_umpire (id idx status : Nat) (data : GData) : (endGran id idx status data c).umpire = c.umpire := by rw [endGran_frame]
@[simp] theorem endGran_beat (id idx status : Nat) (data : GData) : (endGran id idx status data c).beat = c.beat := by rw [endGran_frame]
@[simp] theorem endGran_therm (id idx status : Nat) (data : GData) : (endGran id idx status data c).therm = c.therm := by rw [endGran_frame]
@[simp] theorem endGran_life (id idx status : Nat) (data : GData) : (endGran id idx status data c).life = c.life := by rw [endGran_frame]
@[simp] theorem endGran_mgr (id idx status : Nat) (data : GData) : (endGran id idx status data c).mgr = c.mgr := by rw [endGran_frame]
@[simp] theorem endGran_side (id idx status : Nat) (data : GData) : (endGran id idx status data c).side = c.side := by rw [endGran_frame]
@[simp] theorem endGran_snapshot (id idx status : Nat) (data : GData) : (endGran id idx status data c).snapshot = c.snapshot := by rw [endGran_frame]
@[simp] theorem endGran_now (id idx status : Nat) (data : GData) : (endGran id idx status data c).now = c.now := by rw [endGran_frame]
@[simp] theorem endGran_draws (id idx status : Nat) (data : GData) : (endGran id idx status data c).draws = c.draws := by rw [endGran_frame]
@[simp] theorem endGran_nextId (id idx status : Nat) (data : GData) : (endGran id idx status data c).nextId = c.nextId := by rw [endGran_frame]
@[simp] theorem endGran_poolGrants (id idx status : Nat) (data : GData) : (endGran id idx status data c).poolGrants = c.poolGrants := by rw [endGran_frame]
@[simp] theorem endTrkWith_power (id status : Nat) (info : BitVec 32) (data : List Slot) : (endTrkWith id status info data c).power = c.power := by rw [endTrkWith_frame]
@[simp] theorem endTrkWith_regions (id status : Nat) (info : BitVec 32) (data : List Slot) : (endTrkWith id status info data c).regions = c.regions := by rw [endTrkWith_frame]
@[simp] theorem endTrkWith_movers (id status : Nat) (info : BitVec 32) (data : List Slot) : (endTrkWith id status info data c).movers = c.movers := by rw [endTrkWith_frame]
@[simp] theorem endTrkWith_chans (id status : Nat) (info : BitVec 32) (data : List Slot) : (endTrkWith id status info data c).chans = c.chans := by rw [endTrkWith_frame]
@[simp] theorem endTrkWith_queues (id status : Nat) (info : BitVec 32) (data : List Slot) : (endTrkWith id status info data c).queues = c.queues := by rw [endTrkWith_frame]
@[simp] theorem endTrkWith_pm (id status : Nat) (info : BitVec 32) (data : List Slot) : (endTrkWith id status info data c).pm = c.pm := by rw [endTrkWith_frame]
@[simp] theorem endTrkWith_umpire (id status : Nat) (info : BitVec 32) (data : List Slot) : (endTrkWith id status info data c).umpire = c.umpire := by rw [endTrkWith_frame]
@[simp] theorem endTrkWith_beat (id status : Nat) (info : BitVec 32) (data : List Slot) : (endTrkWith id status info data c).beat = c.beat := by rw [endTrkWith_frame]
@[simp] theorem endTrkWith_therm (id status : Nat) (info : BitVec 32) (data : List Slot) : (endTrkWith id status info data c).therm = c.therm := by rw [endTrkWith_frame]
@[simp] theorem endTrkWith_life (id status : Nat) (info : BitVec 32) (data : List Slot) : (endTrkWith id status info data c).life = c.life := by rw [endTrkWith_frame]
@[simp] theorem endTrkWith_mgr (id status : Nat) (info : BitVec 32) (data : List Slot) : (endTrkWith id status info data c).mgr = c.mgr := by rw [endTrkWith_frame]
@[simp] theorem endTrkWith_side (id status : Nat) (info : BitVec 32) (data : List Slot) : (endTrkWith id status info data c).side = c.side := by rw [endTrkWith_frame]
@[simp] theorem endTrkWith_snapshot (id status : Nat) (info : BitVec 32) (data : List Slot) : (endTrkWith id status info data c).snapshot = c.snapshot := by rw [endTrkWith_frame]
@[simp] theorem endTrkWith_now (id status : Nat) (info : BitVec 32) (data : List Slot) : (endTrkWith id status info data c).now = c.now := by rw [endTrkWith_frame]
@[simp] theorem endTrkWith_draws (id status : Nat) (info : BitVec 32) (data : List Slot) : (endTrkWith id status info data c).draws = c.draws := by rw [endTrkWith_frame]
@[simp] theorem endTrkWith_nextId (id status : Nat) (info : BitVec 32) (data : List Slot) : (endTrkWith id status info data c).nextId = c.nextId := by rw [endTrkWith_frame]
@[simp] theorem endTrkWith_poolGrants (id status : Nat) (info : BitVec 32) (data : List Slot) : (endTrkWith id status info data c).poolGrants = c.poolGrants := by rw [endTrkWith_frame]
@[simp] theorem endTrk_power (id status : Nat) : (endTrk id status c).power = c.power := by rw [endTrk_frame]
@[simp] theorem endTrk_regions (id status : Nat) : (endTrk id status c).regions = c.regions := by rw [endTrk_frame]
@[simp] theorem endTrk_movers (id status : Nat) : (endTrk id status c).movers = c.movers := by rw [endTrk_frame]
@[simp] theorem endTrk_chans (id status : Nat) : (endTrk id status c).chans = c.chans := by rw [endTrk_frame]
@[simp] theorem endTrk_queues (id status : Nat) : (endTrk id status c).queues = c.queues := by rw [endTrk_frame]
@[simp] theorem endTrk_pm (id status : Nat) : (endTrk id status c).pm = c.pm := by rw [endTrk_frame]
@[simp] theorem endTrk_umpire (id status : Nat) : (endTrk id status c).umpire = c.umpire := by rw [endTrk_frame]
@[simp] theorem endTrk_beat (id status : Nat) : (endTrk id status c).beat = c.beat := by rw [endTrk_frame]
@[simp] theorem endTrk_therm (id status : Nat) : (endTrk id status c).therm = c.therm := by rw [endTrk_frame]
@[simp] theorem endTrk_life (id status : Nat) : (endTrk id status c).life = c.life := by rw [endTrk_frame]
@[simp] theorem endTrk_mgr (id status : Nat) : (endTrk id status c).mgr = c.mgr := by rw [endTrk_frame]
@[simp] theorem endTrk_side (id status : Nat) : (endTrk id status c).side = c.side := by rw [endTrk_frame]
@[simp] theorem endTrk_snapshot (id status : Nat) : (endTrk id status c).snapshot = c.snapshot := by rw [endTrk_frame]
@[simp] theorem endTrk_now (id status : Nat) : (endTrk id status c).now = c.now := by rw [endTrk_frame]
@[simp] theorem endTrk_draws (id status : Nat) : (endTrk id status c).draws = c.draws := by rw [endTrk_frame]
@[simp] theorem endTrk_nextId (id status : Nat) : (endTrk id status c).nextId = c.nextId := by rw [endTrk_frame]
@[simp] theorem endTrk_poolGrants (id status : Nat) : (endTrk id status c).poolGrants = c.poolGrants := by rw [endTrk_frame]
end Sys2Proof.Machine
end

