-- ==== Sys2Proof/Laws/Umpire.lean ====
section
/-! SUPPORT. What the umpire does with an event that is no fault, what a NOTIFY changes, and how a served command runs. -/

namespace Sys2Proof.Machine

open Sys2Proof

variable {c : Ctl}

/-! ## NOTIFY and events of class 0 (R284, R299, R301) -/

/-- The NOTIFY packets of an entry change ports as sending does, release tracker entries and count drops. -/
theorem notifyEntry_frame (e : LogEntry) :
    notifyEntry e c = { c with ports := (notifyEntry e c).ports, trk := (notifyEntry e c).trk, score := (notifyEntry e c).score } := by
  refine forEach_inv (fun x => x = { c with ports := x.ports, trk := x.trk, score := x.score }) allPorts _ ?_ c rfl
  intro p x hx
  show (if _ then _ else _) = _
  split
  · rw [pushNotify_frame]; rw [hx]
  · exact hx

theorem notifyEntry_self (e : LogEntry) (p : Fin 4) : SentFrom c.ports[p] (notifyEntry e c).ports[p] := by
  refine forEach_inv (fun x => SentFrom c.ports[p] x.ports[p]) allPorts _ ?_ c (SentFrom.refl _)
  intro q x hx
  by_cases hn : notifyEligible x e q = true
  · simp only [hn, if_true]
    by_cases h : p = q
    · subst h; exact hx.trans (pushNotify_self _ _ _)
    · rw [pushNotify_other _ _ _ _ h]; exact hx
  · simp only [hn]; exact hx

theorem notifyEntry_trk (e : LogEntry) : ∀ x ∈ (notifyEntry e c).trk, x ∈ c.trk := by
  refine forEach_inv (fun y => ∀ x ∈ y.trk, x ∈ c.trk) allPorts _ ?_ c (fun _ h => h)
  intro q x hx y hy
  by_cases hn : notifyEligible x e q = true
  · simp only [hn, if_true] at hy; exact hx _ (pushNotify_trk _ _ _ _ hy)
  · simp only [hn] at hy; exact hx _ hy

theorem logPlain_frame (e : LogEntry) :
    logPlain e c = { c with ports := (logPlain e c).ports, trk := (logPlain e c).trk, umpire := (logPlain e c).umpire, score := (logPlain e c).score } := by
  cases h : logPlace e c.umpire.log with
  | none => simp only [logPlain, h]
  | some l =>
    simp only [logPlain, h]
    generalize hc : modUmpire (fun u => { u with log := l, nextSeq := nextSeqOf u.nextSeq }) c = x
    have hu : (notifyEntry e x).umpire = x.umpire := by rw [notifyEntry_frame]
    refine (notifyEntry_frame e).trans ?_
    rw [hu, ← hc]; rfl

theorem logPlain_self (e : LogEntry) (p : Fin 4) : SentFrom c.ports[p] (logPlain e c).ports[p] := by
  cases h : logPlace e c.umpire.log with
  | none => simp only [logPlain, h]; exact SentFrom.refl _
  | some l =>
    simp only [logPlain, h]
    have := notifyEntry_self (c := modUmpire (fun u => { u with log := l, nextSeq := nextSeqOf u.nextSeq }) c) e p
    simpa only [modUmpire_ports] using this

/-- An event of class 0 is counted, at most logged and notified (R299, R300). -/
theorem raiseEvent_plain (code st idx detail : Nat) (h : eventClass code = 0) :
    raiseEvent code st idx detail c =
      updateAlert (logPlain (newEntry (bump (gIdx 16) c) code 0 st idx detail) (bump (gIdx 16) c)) := by
  have hlt : code < 0x20 := by
    by_contra hc; revert h; unfold eventClass; rw [if_neg hc]; repeat' split
    all_goals simp
  have h1 : isSliceCode code = false := by unfold isSliceCode; simp; omega
  have h2 : ¬ code = 0x22 := by omega
  unfold raiseEvent recordEvent
  simp only [h1, h, Bool.false_and, h2, decide_false, ne_eq, not_true_eq_false, decide_true, Bool.true_or, if_true]
  simp only [Bool.and_false, Bool.false_eq_true, if_false]

theorem raiseEvent_plain_frame (code st idx detail : Nat) (h : eventClass code = 0) :
    raiseEvent code st idx detail c =
      { c with ports := (raiseEvent code st idx detail c).ports, trk := (raiseEvent code st idx detail c).trk
               umpire := (raiseEvent code st idx detail c).umpire, score := (raiseEvent code st idx detail c).score } := by
  rw [raiseEvent_plain _ _ _ _ h, updateAlert, logPlain_frame, bump_frame]; rfl

theorem raiseEvent_plain_self (code st idx detail : Nat) (h : eventClass code = 0) (p : Fin 4) :
    SentFrom c.ports[p] (raiseEvent code st idx detail c).ports[p] := by
  have := logPlain_self (c := bump (gIdx 16) c) (newEntry (bump (gIdx 16) c) code 0 st idx detail) p
  rw [raiseEvent_plain _ _ _ _ h]
  simpa only [updateAlert, modUmpire_ports, bump_ports] using this

@[simp] theorem notifyEntry_power (e : LogEntry) : (notifyEntry e c).power = c.power := by rw [notifyEntry_frame]
@[simp] theorem notifyEntry_regions (e : LogEntry) : (notifyEntry e c).regions = c.regions := by rw [notifyEntry_frame]
@[simp] theorem notifyEntry_movers (e : LogEntry) : (notifyEntry e c).movers = c.movers := by rw [notifyEntry_frame]
@[simp] theorem notifyEntry_chans (e : LogEntry) : (notifyEntry e c).chans = c.chans := by rw [notifyEntry_frame]
@[simp] theorem notifyEntry_queues (e : LogEntry) : (notifyEntry e c).queues = c.queues := by rw [notifyEntry_frame]
@[simp] theorem notifyEntry_pm (e : LogEntry) : (notifyEntry e c).pm = c.pm := by rw [notifyEntry_frame]
@[simp] theorem notifyEntry_beat (e : LogEntry) : (notifyEntry e c).beat = c.beat := by rw [notifyEntry_frame]
@[simp] theorem notifyEntry_therm (e : LogEntry) : (notifyEntry e c).therm = c.therm := by rw [notifyEntry_frame]
@[simp] theorem notifyEntry_life (e : LogEntry) : (notifyEntry e c).life = c.life := by rw [notifyEntry_frame]
@[simp] theorem notifyEntry_mgr (e : LogEntry) : (notifyEntry e c).mgr = c.mgr := by rw [notifyEntry_frame]
@[simp] theorem notifyEntry_side (e : LogEntry) : (notifyEntry e c).side = c.side := by rw [notifyEntry_frame]
@[simp] theorem notifyEntry_snapshot (e : LogEntry) : (notifyEntry e c).snapshot = c.snapshot := by rw [notifyEntry_frame]
@[simp] theorem notifyEntry_now (e : LogEntry) : (notifyEntry e c).now = c.now := by rw [notifyEntry_frame]
@[simp] theorem notifyEntry_draws (e : LogEntry) : (notifyEntry e c).draws = c.draws := by rw [notifyEntry_frame]
@[simp] theorem notifyEntry_nextId (e : LogEntry) : (notifyEntry e c).nextId = c.nextId := by rw [notifyEntry_frame]
@[simp] theorem notifyEntry_poolGrants (e : LogEntry) : (notifyEntry e c).poolGrants = c.poolGrants := by rw [notifyEntry_frame]
@[simp] theorem notifyEntry_umpire (e : LogEntry) : (notifyEntry e c).umpire = c.umpire := by rw [notifyEntry_frame]
theorem raiseEvent_plain_power {code st idx detail : Nat} (h : eventClass code = 0) : (raiseEvent code st idx detail c).power = c.power := by rw [raiseEvent_plain_frame _ _ _ _ h]
theorem raiseEvent_plain_regions {code st idx detail : Nat} (h : eventClass code = 0) : (raiseEvent code st idx detail c).regions = c.regions := by rw [raiseEvent_plain_frame _ _ _ _ h]
theorem raiseEvent_plain_movers {code st idx detail : Nat} (h : eventClass code = 0) : (raiseEvent code st idx detail c).movers = c.movers := by rw [raiseEvent_plain_frame _ _ _ _ h]
theorem raiseEvent_plain_chans {code st idx detail : Nat} (h : eventClass code = 0) : (raiseEvent code st idx detail c).chans = c.chans := by rw [raiseEvent_plain_frame _ _ _ _ h]
theorem raiseEvent_plain_queues {code st idx detail : Nat} (h : eventClass code = 0) : (raiseEvent code st idx detail c).queues = c.queues := by rw [raiseEvent_plain_frame _ _ _ _ h]
theorem raiseEvent_plain_pm {code st idx detail : Nat} (h : eventClass code = 0) : (raiseEvent code st idx detail c).pm = c.pm := by rw [raiseEvent_plain_frame _ _ _ _ h]
theorem raiseEvent_plain_beat {code st idx detail : Nat} (h : eventClass code = 0) : (raiseEvent code st idx detail c).beat = c.beat := by rw [raiseEvent_plain_frame _ _ _ _ h]
theorem raiseEvent_plain_therm {code st idx detail : Nat} (h : eventClass code = 0) : (raiseEvent code st idx detail c).therm = c.therm := by rw [raiseEvent_plain_frame _ _ _ _ h]
theorem raiseEvent_plain_life {code st idx detail : Nat} (h : eventClass code = 0) : (raiseEvent code st idx detail c).life = c.life := by rw [raiseEvent_plain_frame _ _ _ _ h]
theorem raiseEvent_plain_mgr {code st idx detail : Nat} (h : eventClass code = 0) : (raiseEvent code st idx detail c).mgr = c.mgr := by rw [raiseEvent_plain_frame _ _ _ _ h]
theorem raiseEvent_plain_side {code st idx detail : Nat} (h : eventClass code = 0) : (raiseEvent code st idx detail c).side = c.side := by rw [raiseEvent_plain_frame _ _ _ _ h]
theorem raiseEvent_plain_snapshot {code st idx detail : Nat} (h : eventClass code = 0) : (raiseEvent code st idx detail c).snapshot = c.snapshot := by rw [raiseEvent_plain_frame _ _ _ _ h]
theorem raiseEvent_plain_now {code st idx detail : Nat} (h : eventClass code = 0) : (raiseEvent code st idx detail c).now = c.now := by rw [raiseEvent_plain_frame _ _ _ _ h]
theorem raiseEvent_plain_draws {code st idx detail : Nat} (h : eventClass code = 0) : (raiseEvent code st idx detail c).draws = c.draws := by rw [raiseEvent_plain_frame _ _ _ _ h]
theorem raiseEvent_plain_nextId {code st idx detail : Nat} (h : eventClass code = 0) : (raiseEvent code st idx detail c).nextId = c.nextId := by rw [raiseEvent_plain_frame _ _ _ _ h]

/-! ## Served commands -/

/-- A command that reaches the stack and passes the first checks of R391 runs its body on the logic after its arrival. -/
theorem command_served {op : Nat} {m : Mgmt} {s : State} (h : served op m s) (body : CmdRef → Ctl → Ctl) :
    command op m body s.ctl = body (refOf op m) (takenUp op m s.ctl) := by
  have g : gate op m (takenUp op m s.ctl) = none := by
    rw [← h.2.2.1]
    by_cases h2 : op = 0x71 <;>
      exact gate_congr _ _ (by simp [takenUp, setAsm, h2]) (by simp [takenUp, setAsm, h2]) (by simp [takenUp, setAsm, h2])
  have f : lastFits op m (arrive 0x40 m.via m.tag (isCommand op m) s.ctl) = true := by
    rw [← h.2.2.2]; exact lastFits_congr _ _ (by simp)
  rw [command_eq _ _ _ h.1 h.2.1]
  unfold takenUp at g ⊢
  dsimp only at g ⊢
  rw [g]
  simp only [f, if_true]

@[simp] theorem takenUp_power (op : Nat) (m : Mgmt) : (takenUp op m c).power = c.power := by by_cases h : op = 0x71 <;> simp [takenUp, setAsm, h]
@[simp] theorem takenUp_regions (op : Nat) (m : Mgmt) : (takenUp op m c).regions = c.regions := by by_cases h : op = 0x71 <;> simp [takenUp, setAsm, h]
@[simp] theorem takenUp_movers (op : Nat) (m : Mgmt) : (takenUp op m c).movers = c.movers := by by_cases h : op = 0x71 <;> simp [takenUp, setAsm, h]
@[simp] theorem takenUp_chans (op : Nat) (m : Mgmt) : (takenUp op m c).chans = c.chans := by by_cases h : op = 0x71 <;> simp [takenUp, setAsm, h]
@[simp] theorem takenUp_trk (op : Nat) (m : Mgmt) : (takenUp op m c).trk = c.trk := by by_cases h : op = 0x71 <;> simp [takenUp, setAsm, h]
@[simp] theorem takenUp_queues (op : Nat) (m : Mgmt) : (takenUp op m c).queues = c.queues := by by_cases h : op = 0x71 <;> simp [takenUp, setAsm, h]
@[simp] theorem takenUp_pm (op : Nat) (m : Mgmt) : (takenUp op m c).pm = c.pm := by by_cases h : op = 0x71 <;> simp [takenUp, setAsm, h]
@[simp] theorem takenUp_umpire (op : Nat) (m : Mgmt) : (takenUp op m c).umpire = c.umpire := by by_cases h : op = 0x71 <;> simp [takenUp, setAsm, h]
@[simp] theorem takenUp_beat (op : Nat) (m : Mgmt) : (takenUp op m c).beat = c.beat := by by_cases h : op = 0x71 <;> simp [takenUp, setAsm, h]
@[simp] theorem takenUp_therm (op : Nat) (m : Mgmt) : (takenUp op m c).therm = c.therm := by by_cases h : op = 0x71 <;> simp [takenUp, setAsm, h]
@[simp] theorem takenUp_life (op : Nat) (m : Mgmt) : (takenUp op m c).life = c.life := by by_cases h : op = 0x71 <;> simp [takenUp, setAsm, h]
@[simp] theorem takenUp_mgr (op : Nat) (m : Mgmt) : (takenUp op m c).mgr = (setAsm m.via none c).mgr := by by_cases h : op = 0x71 <;> simp [takenUp, setAsm, h]
@[simp] theorem takenUp_side (op : Nat) (m : Mgmt) : (takenUp op m c).side = c.side := by by_cases h : op = 0x71 <;> simp [takenUp, setAsm, h]
@[simp] theorem takenUp_snapshot (op : Nat) (m : Mgmt) : (takenUp op m c).snapshot = c.snapshot := by by_cases h : op = 0x71 <;> simp [takenUp, setAsm, h]
@[simp] theorem takenUp_now (op : Nat) (m : Mgmt) : (takenUp op m c).now = c.now := by by_cases h : op = 0x71 <;> simp [takenUp, setAsm, h]
@[simp] theorem takenUp_draws (op : Nat) (m : Mgmt) : (takenUp op m c).draws = c.draws := by by_cases h : op = 0x71 <;> simp [takenUp, setAsm, h]
@[simp] theorem takenUp_nextId (op : Nat) (m : Mgmt) : (takenUp op m c).nextId = c.nextId := by by_cases h : op = 0x71 <;> simp [takenUp, setAsm, h]
@[simp] theorem takenUp_poolGrants (op : Nat) (m : Mgmt) : (takenUp op m c).poolGrants = c.poolGrants := by by_cases h : op = 0x71 <;> simp [takenUp, setAsm, h]

end Sys2Proof.Machine
end

