-- ==== Sys2Proof/Tests/Slice0.lean ====
section
/-! SUPPORT. The author's own tests: the checks of WellFormed, single commands whose results are worked out from the spec, and
for each statement a state and operands that meet the hypotheses of each of its clauses. -/

namespace Sys2Proof.Tests

open Sys2Proof Sys2Proof.Machine

-- One proof after another: each is evaluated by the kernel, and many at once would take the memory of the check.
set_option Elab.async false

/-! ## States -/

def mg : Mgmt := { via := .port 0, tag := 5, seq := 1, lenOk := true, env := none }
def owner : OwnerSlot := { digest := 7, countersign := false, killed := false }
def ownEnv : Envelope := { signer := 1, credDigest := 7, nonce := 0, mathOk := true }
def kamEnv : Envelope := { signer := 2, credDigest := 0, nonce := 0, mathOk := true }
/-- A command signed by an envelope of 200 bytes, without parameters. -/
def signed (e : Envelope) : Mgmt := { mg with bodyLen := 200, fragLen := 200, env := some e }
def goodPost : Post :=
  { romOk := true, pagemapOk := true, trackerOk := true, mgmtOk := true, controlOk := true, badBonds := [], hists := []
    railLayer := none, keyOk := true }
/-- An image with the header of Table 4 of R367 (a body of one byte, SVN 1, version 1, body digest 9, a certificate of 256 bytes). -/
def imageBytes : List Byte :=
  [0x17, 0x0A, 0x4E, 0x5D, 1, 0, 0, 0, 1, 0, 0, 0, 1, 0, 0, 0, 1, 0, 0, 0, 0, 0, 0, 0] ++
  (List.replicate 8 0 ++ 9 :: List.replicate 47 0) ++ [0, 1] ++ List.replicate 1967 0
def found : Image := { bodyHash := 9, kamondOk := true, ownerDigest := 7, ownerOk := true }
def image : Firmware := { bytes := imageBytes, found := found }

/-- A port that is ACTIVE at full width. -/
def upPort : Port := { link := .active, rate := 2, txMap := { width := 16 }, rxMap := { width := 16 }, rx := Vector.replicate 17 { state := .active, laneId := some 0 } }

/-- A stack in FIELD that is data-ready with firmware running, all links up, port 0 the owner port. -/
def up : Ctl :=
  { power := { stage := .ready, everReady := true, resetN := true, layers := Vector.replicate 17 2, changeoversRun := true }
    ports := Vector.replicate 4 upPort
    chans := Vector.replicate 32 { enable := true }
    pm := { layout := .default, restoreLayout := .default }
    life := { thermA := 3, thermB := 3, owners := [owner], ownerPort := some 0, fwRunning := true, image := some image, slotInUse := some 0
              keyReg := some 0, slots := Vector.replicate 12 { keyed := true, certs := some ([], []) } }
    beat := { state := .locked, period := 10000, number := 5 } }

def st (c : Ctl) : State := { ctl := c }

/-- `up` with port 0, channel 0, mover 0, queue 3, or region 0 given. -/
def withPort (p : Port) : Ctl := { up with ports := up.ports.set 0 p }
def withChan (x : Chan) : Ctl := { up with chans := up.chans.set 0 x }
def withMover (v : Mover) (x : Queue) : Ctl := { up with movers := up.movers.set 0 v, queues := [(3, x)] }
def withCoord (g : Coord) : Ctl := { up with regions := up.regions.set 0 { coord := g } }

/-! ## The machine, rails and start -/

theorem wit_StepRunsFront : ({ pending := [.regTick, .brownout] } : State).pending = .regTick :: [.brownout] := rfl
theorem wit_StepIdles : State.reset.pending = [] := rfl
theorem wit_StepsKeepMemory : State.reset.memOk ∧ ∃ t, step State.reset = .next t := ⟨by unfold State.memOk; decide +kernel, _, rfl⟩

theorem wit_RailsAndResetPin :
    (State.reset.ctl.power.stage = .off) ∧
    (let s := st { power := { stage := .inReset } }
     s.ctl.power.stage = .inReset ∧ s.ctl.power.refclk = true ∧ s.ctl.power.resetCause ≠ 4 ∧
      s.ctl.life.repairA = s.ctl.life.repairB ∧ recordOk s.ctl.life.repairA = true ∧ s.ctl.life.thermA = s.ctl.life.thermB ∧
      thermoValid s.ctl.life.thermA = true ∧ lcState s.ctl.life ≤ 2 ∧ s.ctl.life.transition = none ∧
      (∀ i, s.ctl.life.slotInUse = some i → slotState s.ctl.life.slots[i] = .certified) ∧
      goodPost.romOk = true ∧ goodPost.pagemapOk = true ∧ goodPost.trackerOk = true ∧ goodPost.mgmtOk = true ∧ goodPost.controlOk = true ∧
      goodPost.badBonds = [] ∧ goodPost.railLayer = none ∧ goodPost.keyOk = true) ∧
    (up.power.stage = .ready ∧ up.power.everReady = true ∧ up.umpire.class5 = false) := by decide +kernel

def hotOff : Ctl := { up with power := { up.power with stage := .shutdown, refclk := false }, therm := { eff := Vector.replicate 18 (some 250) } }

theorem wit_ClockRestartReady :
    ({ up.power with stage := .boot }.stage = .boot ∧ up.power.refclk = true) ∧ ¬(up.power.stage = .hold ∧ up.power.holdReason = 9) ∧
    (let w : Power := { up.power with stage := .hold, holdReason := 9, warmStart := true }
     w.stage = .hold ∧ w.holdReason = 9 ∧ w.warmStart = true ∧ up.umpire.class5 = false ∧ w.resetCause ≠ 3 ∧ w.deferred = [] ∧ up.life.image = some image ∧
      imageOk image up.life = true ∧ goodPost.romOk = true ∧ goodPost.pagemapOk = true ∧ goodPost.trackerOk = true ∧ goodPost.mgmtOk = true) ∧
    (let w : Power := { up.power with stage := .hold, holdReason := 9 }
     w.stage = .hold ∧ w.holdReason = 9 ∧ w.warmStart = false ∧ up.umpire.class5 = false) ∧
    (hotOff.power.stage = .shutdown ∧ hotOff.power.resetN = true ∧ hotOff.power.refclk = false ∧ hotOff.therm.restartRefused = false ∧
      hotOff.umpire.class5 = false) ∧
    (let w : Power := { up.power with stage := .starting }
     w.stage = .starting ∧ up.life.fwRunning = true ∧ w.refclk = true ∧ up.life.transition = none) := by
  decide +kernel
theorem wit_ClockRestartReady_cool (d : Fin 18) : ∃ e : Int, hotOff.therm.eff[d] = some e ∧
    e < 10 * ((hotOff.therm.levels.toList.getD (if d.val = 0 then 2 else 5) 0 : Nat) : Int) - 200 := ⟨250, by revert d; decide +kernel⟩

theorem wit_WarmResetAndBoot :
    (served 0xF0 mg (st up) ∧ up.life.transition = none ∧ up.life.zeroizing = false ∧ up.power.deferred = []) ∧
    (let s := st { up with mgr := { staging := { verified := some image } } }
     served 0x83 mg s ∧ s.ctl.life.transition = none ∧ s.ctl.life.zeroizing = false ∧ s.ctl.power.deferred = [] ∧
      s.ctl.mgr.staging.claim = none ∧ s.ctl.mgr.staging.verified = some image ∧ imageOk image s.ctl.life = true ∧ s.ctl.power.refclk = true ∧ (∀ c : Fin 32, (s.ctl.chans[c]).au = []) ∧
      goodPost.romOk = true ∧ goodPost.pagemapOk = true ∧ goodPost.trackerOk = true ∧ goodPost.mgmtOk = true) ∧
    (up.power.stage ≠ .off ∧ up.life.fwRunning = true ∧ up.power.deferred = []) ∧
    (let m := { mg with bodyLen := 16, paramLen := 16, fragLen := 16 }
     let s := st { up with power := { up.power with stage := .boot }, life := { up.life with fwRunning := false } }
     reaches m.via s.ctl = true ∧ s.ctl.power.stage = .boot ∧ s.ctl.umpire.class5 = false ∧ s.ctl.life.fwRunning = false ∧ foreign m = false ∧ framed m = true ∧
      m.env = none ∧ m.paramLen = 16 ∧ m.frag = 0 ∧ m.fragLen = m.bodyLen ∧ s.ctl.mgr.bootLoad.claim = none ∧ 2049 ≤ 4096 ∧ 4096 ≤ 786432) := by
  unfold served; decide +kernel

/-! ## Life cycle, status, faults, settings -/

theorem wit_LifeCycleCommands :
    (let s := st { up with life := { up.life with thermA := 0, thermB := 0 } }
     let m := signed kamEnv
     served 0x90 m s ∧ m.env = some kamEnv ∧ scrapped s.ctl.life = false ∧ s.ctl.life.thermA = 0 ∧ s.ctl.life.lockout = false ∧
      envelopeOk false kamEnv s.ctl = true ∧ s.ctl.life.transition = none ∧ s.ctl.life.zeroizing = false) ∧
    (let m := signed ownEnv
     served 0x91 m (st up) ∧ m.env = some ownEnv ∧ lcState up.life = 2 ∧ up.life.owners.length < 4 ∧ (liveOwner up.life).isSome = true ∧
      up.life.lockout = false ∧ envelopeOk true ownEnv up = true) ∧
    (let m := signed ownEnv
     served 0x92 m (st up) ∧ m.env = some ownEnv ∧ (liveOwner up.life).isSome = true ∧ up.life.lockout = false ∧
      envelopeOk true ownEnv up = true ∧ up.life.zeroizing = false ∧ up.life.transition = none) ∧
    (let s := st { up with life := { up.life with zeroizing := true } }
     s.ctl.life.zeroizing = true ∧ planeIdle s.ctl = true ∧ s.memOk ∧ layerOn s.ctl (0 / 81920 / 16384) = true ∧
      (s.ctl.chans[sliceChan (0 / 81920 / 16384)]).sliceFailed.getLsbD (sliceRank (0 / 81920 / 16384)) = false) ∧
    (let s := st { up with life := { up.life with transition := some 3 } }
     s.ctl.life.transition = some 3 ∧ s.ctl.power.stage = .ready ∧ scrapped s.ctl.life = false) := by
  unfold served State.memOk; decide +kernel

theorem wit_FirmwareAndDomains :
    (up.life.fwRunning = true) ∧ (({ up.life with lockout := true } : Life).lockout = true) ∧
    (let m := signed ownEnv
     served 0x40 m (st up) ∧ m.env = some ownEnv ∧ (liveOwner up.life).isSome = true ∧ up.life.lockout = false ∧ envelopeOk true ownEnv up = true) ∧
    (served 0x80 mg (st up) ∧ 2049 ≤ 4096 ∧ 4096 ≤ 786432 ∧ up.mgr.staging.claim = none) ∧
    (let s := st { up with mgr := { staging := { claim := some mg.via, len := 4096 } } }
     let data : List Byte := List.replicate 1000 0
     served 0x81 mg s ∧ s.ctl.mgr.staging.claim = some mg.via ∧ 1 ≤ data.length ∧ data.length ≤ 1000 ∧
      s.ctl.mgr.staging.bytes.length + data.length ≤ s.ctl.mgr.staging.len) ∧
    (let s := st { up with mgr := { staging := { claim := some mg.via, len := 2049, bytes := imageBytes } } }
     served 0x82 mg s ∧ s.ctl.mgr.staging.len ≠ 0 ∧ s.ctl.mgr.staging.bytes.length = s.ctl.mgr.staging.len ∧
      imageOk { bytes := s.ctl.mgr.staging.bytes, found := found } s.ctl.life = true) := by
  unfold served; decide +kernel

theorem wit_StatusAnswers : served 0x01 mg (st up) ∧ served 0x02 mg (st up) ∧ served 0xA0 mg (st up) ∧ 1 ≤ 125 ∧ 125 ≤ 125 ∧
    served 0x70 mg (st up) ∧ 1 ≤ 31 ∧ 31 ≤ 31 := by unfold served; decide +kernel

def fault (cls seq : Nat) : LogEntry :=
  { seq := seq, code := 0x49, cls := cls, origCls := 2, raiseCause := 0, scopeType := 0, ackRequired := true, acked := false, ackSource := 0
    scopeIndex := 0, beat := 0, detail := 0, count := 1, raisedBy := 0, lastDelta := 0, at_ := 0, clock := some 100 }

theorem wit_UmpireAndLevels :
    (let s := st { up with umpire := { log := [fault 2 1, fault 1 2] } }
     served 0x71 mg s ∧ 1 ≠ 0 ∧ fault 2 1 ∈ s.ctl.umpire.log ∧ inSeqRange 1 1 (fault 2 1) = true ∧ inSeqRange 1 1 (fault 1 2) = false) ∧
    (let s := st { up with umpire := { log := [fault 2 1] } }
     s.ctl.umpire.log = [fault 2 1] ∧ s.ctl.umpire.overflow = none ∧ isOpen (fault 2 1) = true ∧ (fault 2 1).clock.isSome = true ∧
      (fault 2 1).cls = 2 ∧ (fault 2 1).scopeType = 0 ∧ s.ctl.umpire.class4 = false ∧ s.ctl.umpire.class5 = false ∧ s.ctl.power.everReady = true) ∧
    served 0x73 mg (st up) ∧ (reaches mg.via up = true ∧ foreign mg = false ∧ opAvailable 0x7F mg.via = false ∧ up.life.fwRunning = true) ∧
    (let c : Ctl := { up with life := { up.life with fwRunning := false }, power := { up.power with stage := .boot } }
     reaches mg.via c = true ∧ opAvailable 0x7F mg.via = false ∧ mg.via = .port 0 ∧ c.life.fwRunning = false ∧ c.umpire.class5 = false ∧
      c.power.stage ≠ .scrapped) ∧
    (reaches mg.via up = true ∧ foreign mg = false ∧ gate 0x21 { mg with env := none, bodyLen := 0, paramLen := 0 } up = none ∧ 2000 ≤ 16128) := by
  unfold served; decide +kernel

theorem wit_BeatAndRegulationSets :
    (served 0x50 mg (st up) ∧ 2048 % 1024 = 0 ∧ 2048 < 2 ^ 64 ∧ up.beat.state = .locked ∧ up.beat.load = none) ∧
    (served 0x51 mg (st up) ∧ up.beat.refreshMode = false) ∧ (served 0x41 mg (st up) ∧ 160 ≤ 160) := by unfold served; decide +kernel

/-! ## Ports -/

/-- A training block with the given bits above its sync word, and its CRC. -/
def tsOf (x : Nat) : Block :=
  let b := tsSyncTrue + 2 ^ 32 * x
  BitVec.ofNat 128 (b + 2 ^ 96 * crc16 96 b + 2 ^ 112 * 0x0FF0)
def tsX (x : Nat) : Nat := (tsOf x).toNat

/-- A PKT flit and an IDLE flit with empty payloads and their CRC-32C (R67), worked out apart from the model. -/
def pktF : Flit := 0xc41462d30000000000000000000000000000000000000000000000000000000000000000000000000000000000000000000000000000000000000000000000000000000000000001#576
def idleF : Flit := 0x734a417b0000000000000000000000000000000000000000000000000000000000000000000000000000000000000000000000000000000000000000000000000000000000030000#576

/-- The CRC register after the bits from `i` on. -/
def crcPart (x i r : Nat) : Nat := (List.range' i 136).foldl (fun r i => crc32cBit r (bitOf x i)) r
theorem crc_parts (x : Nat) : crc32c 68 x = Nat.xor (crcPart x 408 (crcPart x 272 (crcPart x 136 (crcPart x 0 0xFFFFFFFF)))) 0xFFFFFFFF := by
  have h : List.range (8 * 68) = List.range' 0 136 ++ (List.range' 136 136 ++ (List.range' 272 136 ++ List.range' 408 136)) := by decide +kernel
  simp only [crc32c, h, List.foldl_append, crcPart]
theorem pktF_crc : flitCrcOk pktF = true := by
  have a : crcPart pktF.toNat 0 0xFFFFFFFF = 2062975049 := by decide +kernel
  have b : crcPart pktF.toNat 136 2062975049 = 1479658905 := by decide +kernel
  have c : crcPart pktF.toNat 272 1479658905 = 348663344 := by decide +kernel
  have d : crcPart pktF.toNat 408 348663344 = 1005296940 := by decide +kernel
  unfold flitCrcOk
  rw [crc_parts, a, b, c, d]
  decide +kernel
theorem idleF_crc : flitCrcOk idleF = true := by
  have a : crcPart idleF.toNat 0 0xFFFFFFFF = 2374064917 := by decide +kernel
  have b : crcPart idleF.toNat 136 2374064917 = 1613641493 := by decide +kernel
  have c : crcPart idleF.toNat 272 1613641493 = 1619501121 := by decide +kernel
  have d : crcPart idleF.toNat 408 1619501121 = 2360721028 := by decide +kernel
  unfold flitCrcOk
  rw [crc_parts, a, b, c, d]
  decide +kernel

def trainPort : Port := { link := .train, rate := 2 }
def mapPort : Port :=
  { upPort with link := .laneMap, mapMatches := 15, rx := Vector.replicate 17 { state := .active, laneId := some 0 } }
def speedPort : Port := { link := .speed, doneSent := 16, rx := Vector.replicate 17 { tsCount := 8 } }
def downPort : Port := { enable := false }

/-- A received word that no 15 symbols in error explain: its syndromes are zero but for the last. -/
def badCheck : BitVec 300 := BitVec.ofNat 300 0x743ad8d2668cfc1009b55cb9fcb00bdcd2d60d77b918a70d1a34c8dfcf2fdd4c5a420147c01
def badWord : BitVec 5440 := badCheck ++ 0#5140
def badTail : List Nat := symbolsOf 30 0x743ad8d2668cfc1009b55cb9fcb00bdcd2d60d77b918a70d1a34c8dfcf2fdd4c5a420147c01
theorem gfMul_zero (x : Nat) : gfMul 0 x = 0 := by
  simp [gfMul, gfDouble, List.range, List.range.loop]
theorem gfEval_zeros (x n : Nat) (l : List Nat) : gfEval x (List.replicate n 0 ++ l) = gfEval x l := by
  induction n with
  | zero => rfl
  | succ n ih => 
    rw [List.replicate_succ]
    show (List.replicate n 0 ++ l).foldl _ (Nat.xor (gfMul 0 x) 0) = _
    rw [gfMul_zero]; exact ih
theorem syn_zeros (n : Nat) (l : List Nat) : rsSyndromes (List.replicate n 0 ++ l) = rsSyndromes l := by
  simp [rsSyndromes, gfEval_zeros]
theorem test_zeroWord : rsDecode 0 = some ([], 0) := by
  have h : symbolsOf 544 (0 : BitVec 5440).toNat = List.replicate 544 0 ++ [] := by decide +kernel
  have k : (rsSyndromes []).all (· = 0) = true := by decide +kernel
  unfold rsDecode
  simp only [h, syn_zeros, k, if_true]
  simp
theorem zero_append : (0#300 ++ 0#5140 : BitVec 5440) = 0 := by decide +kernel
theorem test_zeroAppend : rsDecode (0#300 ++ 0#5140) = some ([], 0) := by rw [zero_append]; exact test_zeroWord
theorem test_badWord : rsDecode badWord = none := by
  have h : symbolsOf 544 badWord.toNat = List.replicate 514 0 ++ badTail := by decide +kernel
  have k : (rsSyndromes badTail).all (· = 0) = false := by decide +kernel
  have e : decide (((List.range 30).foldl (rsStep (rsSyndromes badTail)) {}).errors ≤ 15) = false := by decide +kernel
  unfold rsDecode
  simp only [h, syn_zeros, k, e, Bool.false_and]
  rfl

theorem wit_PortBringUp :
    (let s := st (withPort {})
     (s.ctl.ports[(0 : Fin 4)]).enable = true ∧ (s.ctl.ports[(0 : Fin 4)]).link = .detect ∧ (s.ctl.ports[(0 : Fin 4)]).holdoff = false ∧ 4 ≤ 4 ∧ portsRun s.ctl = true) ∧
    (let x := 1 + 2 ^ 4 + 2 ^ 7 + 3 * 2 ^ 16
     speedPort.link = .speed ∧ tsBlock (tsOf x) = some (tsX x, false) ∧ tsType (tsX x) = 1 ∧ tsRole (tsX x) = 2 ∧ speedPort.badRole = false ∧
      (∀ k : Fin 17, 8 ≤ (speedPort.rx[k]).tsCount) ∧ 16 ≤ speedPort.doneSent ∧ tsDone (tsX x) = true ∧ chosenRate speedPort (tsRateCap (tsX x)) ≠ 0) ∧
    trainPort.link = .train ∧ (1 = 1 ∨ 1 = 2) ∧ downPort.enable = false ∧ upPort.enable = true ∧ upPort.maxRate ≠ 1 := by decide +kernel

theorem wit_TrainMapAndStream :
    (let x := 2 + 2 ^ 4 + (2 ^ 17 - 1) * 2 ^ 28
     trainPort.link = .train ∧ tsBlock (tsOf x) = some (tsX x, (trainPort.rx[(0 : Fin 17)]).polarityInv) ∧ tsType (tsX x) = 2 ∧ allJudged trainPort = false) ∧
    (let x := 3 + 31 * 2 ^ 20 + (2 ^ 17 - 1) * 2 ^ 28
     mapPort.link = .laneMap ∧ tsBlock (tsOf x) = some (tsX x, (mapPort.rx[(0 : Fin 17)]).polarityInv) ∧ tsType (tsX x) = 3 ∧
      newTime mapPort (tsX x) = true ∧ laneMap (widthBound mapPort mapPort.txMap) (tsRxGood (tsX x)) = some mapPort.txMap ∧ mapMatches mapPort.rxMap (tsX x) = true) ∧
    (let p : Port := { upPort with rxSleep := .deep }
     p.link = .active ∧ p.rxSleep ≠ .active ∧ tsBlock (tsOf 4) = some (tsX 4, (p.rx[(0 : Fin 17)]).polarityInv) ∧ tsType (tsX 4) = 4) ∧
    (let b := 0x5A3CC3A5
     let m := BitVec.ofNat 128 (b + 2 ^ 80 * crc16 80 b + 2 ^ 96 * 0xA5C33C5A)
     (upPort.rx[(0 : Fin 17)]).state = .active ∧ amRead (upPort.rx[(0 : Fin 17)]) (some m) = some m.toNat ∧ amFits upPort 0 m.toNat = true ∧
      upPort.rxSleep = .active ∧ rxOpen upPort = true ∧ ({ upPort with link := .deskew } : Port).link = .deskew ∧
      (upPort.rx[(0 : Fin 17)]).amMissed < 2) ∧
    (let p : Port := { upPort with link := .deskew, alignedMarkers := 4, rx := Vector.replicate 17 { state := .active, amSeen := true } }
     p.link = .deskew ∧ deskewDone p = true) := by decide +kernel

theorem wit_RetrainsAndDetect :
    (rxOpen upPort = true ∧ (upPort.rx[(0 : Fin 17)]).state = .active ∧ (upPort.retrainTimes.filter fun t => up.now < t + 1000000000).length ≤ 16) ∧
    upPort.link = .active ∧
    16 < (({ upPort with retrainTimes := List.replicate 17 0 } : Port).retrainTimes.filter fun t => up.now < t + 1000000000).length ∧
    ({ trainPort with retraining := true } : Port).retraining = true ∧ linkUp downPort = false ∧
    (speedPort.link ≠ .detect ∧ speedPort.link ≠ .active ∧ speedPort.retraining = false ∧ speedPort.failedAttempts < 3 ∧
      ¬(speedPort.link = .train ∧ speedPort.rate = 2)) := by decide +kernel

theorem wit_CodeWordsAndFlits :
    (rsDecode (0#300 ++ 0#5140) = some ([], 0) ∧ rsDecode (badCheck ++ 0#5140) = none) ∧ flitCrcOk pktF = true ∧ flitCrcOk idleF = true ∧
    (rxOpen upPort = true ∧ rxStream upPort = true ∧ upPort.partialLen < 576 ∧ upPort.rxLine = [] ∧ upPort.rxCw < 4096 ∧
      upPort.uncorrAt.length < upPort.uncorrRetrainLimit) ∧
    (flitType pktF = 1 ∧ flitSeq pktF = upPort.expSeq ∧
      overrun ((flitSlots pktF).foldl (fun q x => rxSlot x q) upPort) = false) ∧
    (upPort.rxFlits = [] ∧ flitType idleF = 0 ∧ flitCretKind idleF = 3 ∧
      quiet upPort) ∧ ({ upPort with ebOn := true } : Port).ebOn = true ∧ upPort.link = .active ∧ upPort.txSleep = .active :=
  ⟨⟨test_zeroAppend, test_badWord⟩, pktF_crc, idleF_crc, by unfold quiet; decide +kernel⟩

theorem wit_InitAndReplay :
    (let x : Slot := BitVec.ofNat 128 (1 + 2 ^ 32 * 64 + 2 ^ 48 * 512 + 2 ^ 64 * 80)
     let p : Port := { upPort with link := .linkInit, initRecv := true }
     p.link = .linkInit ∧ p.rxSleep = .active ∧ x.toNat % 256 = 1 ∧ initValid x = true ∧ bitOf x.toNat 8 = false ∧ p.retraining = false ∧
      quiet p ∧ (2#128).toNat % 256 = 2 ∧ p.initRecv = true) ∧
    (let p : Port := { upPort with nextSeq := 1, replay := [(0, [])], nakOut := true }
     rxOpen p = true ∧ (16#128).toNat % 256 = 16 ∧ cretPort 0#16 p = p ∧ quiet p ∧ bitsOf (16#128).toNat 16 12 = oldestSeq p ∧ 0 < p.replay.length ∧ p.replay.length ≤ 512 ∧
      p.replayLast = none ∧ p.replayRepeats < 3 ∧ p.nakOut = true ∧ p.link = .active ∧ p.rxSleep = .active ∧ p.awaitStart = false) ∧
    (let p : Port := { upPort with rxPkts := [[0x88#128]] }
     linkUp p = true ∧ rxVc 0x88#128 = 2 ∧ (0x88#128).toNat % 256 ≠ 0x40 ∧ (0x88#128).toNat % 256 ≠ 0x44 ∧ p.rxPkts = [0x88#128] :: []) := by
  unfold quiet; decide +kernel

theorem wit_SleepMessages :
    (rxOpen upPort = true ∧ rxStream upPort = true ∧ linkUp upPort = true ∧ (0x120#128).toNat % 256 = 0x20 ∧
      bitsOf (0x120#128).toNat 8 8 = 1 ∧ cretPort 0#16 upPort = upPort ∧ quiet upPort) ∧
    (let p : Port := { upPort with sleepReqOut := some 2 }
     rxStream p = true ∧ (0x21#128).toNat % 256 = 0x21 ∧ (0x22#128).toNat % 256 = 0x22 ∧ cretPort 0#16 p = p ∧ quiet p ∧
      p.line.queue = [] ∧ p.sleepReqOut = some 2) ∧
    (let p : Port := { upPort with txSleep := .deep, expSeq := 1 }
     rxStream p = true ∧ linkUp p = true ∧ (0x23#128).toNat % 256 = 0x23 ∧ p.txSleep ≠ .active ∧ p.sleepMinimum = false ∧ owes p = true) := by
  unfold quiet; decide +kernel

theorem wit_SleepTimers :
    (sleepReady up.now upPort = true ∧ upPort.sleepLight = true ∧ upPort.sleepDeep = true ∧ upPort.txDeepIdle ≠ 0) ∧
    (let p : Port := { upPort with sleepMinimum := true, txSleep := .light, wakeDecided := true }
     p.sleepMinimum = true ∧ p.txSleep ≠ .active ∧ p.wakeDecided = true ∧ linkUp p = true) ∧
    (let p : Port := { upPort with wakeUnacked := true, awaitStart := true, rxSleep := .light }
     p.link = .active ∧ p.wakeUnacked = true ∧ p.awaitStart = true ∧ p.rxSleep ≠ .active ∧
      (p.retrainTimes.filter fun t => up.now < t + 1000000000).length ≤ 16) := by decide +kernel

/-! ## Requests, transactions and sequences -/

def hdr (addr len : Nat) (param : BitVec 32) (slots : List Slot) : ReqHdr :=
  { port := 0, tag := 1, domain := 0, tc := false, cmpl := true, release := false, param := param, addr := addr, len := len, slots := slots, pmEcc := 0 }

theorem wit_DataRequestsEnter :
    (admitted 0x10 (hdr (2 ^ 37 - 32) 0 0 []) (st up) ∧ ∀ g ∈ requestGrans 0x10 (hdr (2 ^ 37 - 32) 0 0 []) up, g.phase ≠ .done) ∧
    (admitted 0x1B (hdr 256 16 0 (List.replicate 16 0)) (st up) ∧ ∀ g ∈ requestGrans 0x1B (hdr 256 16 0 (List.replicate 16 0)) up, g.phase ≠ .done) ∧
    (admitted 0x1C (hdr 32 2 0xFF [0, 0]) (st up) ∧ ∀ g ∈ requestGrans 0x1C (hdr 32 2 0xFF [0, 0]) up, g.phase ≠ .done) ∧
    (admitted 0x20 (hdr 8 1 0x10 [1]) (st up) ∧ ∀ g ∈ requestGrans 0x20 (hdr 8 1 0x10 [1]) up, g.phase ≠ .done) := by
  unfold admitted portFree; decide +kernel

def trkOf (id : Nat) (op : Op) (opcode : Nat) (rel : Option (List Nat)) (gs : List Gran) : Trk :=
  { id := id, src := .port 0, opcode := opcode, op := op, tag := 1, domain := 0, addr := 0, tc1 := false, marked := false, cmpl := true
    release := rel, grans := gs, since := 0 }
def withTrk (l : List Trk) (x : Queue) : Ctl := { up with trk := l, queues := [(3, x)] }

theorem wit_DoorbellsAndFences :
    admitted 0x38 (hdr 0 0 3 []) (st up) ∧ admitted 0x3C (hdr 0 0 0 []) (st up) ∧
    (let x := trkOf 7 (.doorbell 3) 0x38 (some []) []
     let c := withTrk [x] { state := 3 }
     (c.trk.find? fun t => t.id = 7) = some x ∧ x.op = .doorbell 3 ∧ x.release = some [] ∧ x.src = .port 0 ∧ x.ended = false ∧
      waitsOver c [] = true ∧ (queueGet c 3).state ≠ 0 ∧ (queueGet c 3).domain = x.domain) ∧
    (let x := trkOf 7 .fence 0x3C (some []) []
     let c := withTrk [x] {}
     (c.trk.find? fun t => t.id = 7) = some x ∧ x.op = .fence ∧ x.release = some [] ∧ x.src = .port 0 ∧ x.opcode = 0x3C ∧ x.ended = false ∧
      fenceOver c [] = true) ∧
    (opcodeUnassigned 0x14 = true ∧ portFree 0 (st up) ∧ mayAllocate up (.port 0) = true ∧ notServing up = false) ∧
    (let w : Waiting := { opcode := 0x3C, hdr := hdr 0 0 0 [], since := 0, admitted := some true }
     let c := withPort { upPort with waiting := [w] }
     (c.ports[(0 : Fin 4)]).waiting = w :: [] ∧ w.hdr.port = 0 ∧ w.orphan = false ∧ w.admitted = some true ∧
      mustWait w.opcode w.hdr c = false ∧ stackClass c.umpire < 4 ∧ (c.ports[(0 : Fin 4)]).mute = false) := by
  unfold admitted portFree; decide +kernel

def act0 : Action := { act := 0, gran := false, addr := 0, operand := 0, value := 0 }
def key0 (st : KeyState) : Key := { gran := 0, reads := true, writes := false, state := st, old := none, new := none, hpn := 0 }
def key1 (st : KeyState) : Key := { gran := 1, reads := true, writes := false, state := st, old := none, new := none, hpn := 0 }
def seq0 (state : SeqState) (lease : Nat) : LSeq := { id := 9, port := 0, lsid := 2, domain := 0, lease := lease, state := state, actions := 0 }
def txnOf (phase : TxnPhase) (wounded : Bool) (ks : List Key) : Txn :=
  { id := 4, port := 0, domain := 0, trk := 3, age := 4, lsid := none, epoch := Vector.replicate 4 false, actions := [act0], ordered := false
    retries := 15, wounded := wounded, phase := phase, keys := ks }
def holdOf (id : Nat) (stage : Option GData) : Hold :=
  { gran := 0, id := id, isSeq := true, port := 0, domain := 0, age := 1, stage := stage, state := .acquired }

theorem wit_CoordinatorRequests :
    (admitted 0x28 (hdr 0 1 0 [0]) (st up) ∧ actionsOf (hdr 0 1 0 [0]) = some [act0]) ∧
    (admitted 0x30 (hdr 0 0 0x10000200 []) (st up) ∧ seqOf up 0 0 (lsidOf (hdr 0 0 0x10000200 [])) = none ∧ (up.regions[(0 : Fin 4)]).coord.seqs.length < 64) ∧
    (let c := withCoord { seqs := [seq0 .openSeq 5] }
     let h := hdr 0 1 0x200 [0]
     admitted 0x31 h (st c) ∧ seqOf c 0 0 (lsidOf h) = some (seq0 .openSeq 5) ∧ (seq0 .openSeq 5).state = .openSeq ∧ (seq0 .openSeq 5).waiting = [] ∧
      seqBusy c 0 (seq0 .openSeq 5) = false ∧ actionsOf h = some [act0] ∧ (seq0 .openSeq 5).domain = h.domain ∧
      (seq0 .openSeq 5).actions + [act0].length ≤ 64 ∧ seqHolds c (seq0 .openSeq 5).id = [] ∧ (key0 .idle).state = .idle) := by
  unfold admitted portFree; decide +kernel
theorem wit_CoordinatorRequests_ends :
    (let c := { withCoord { seqs := [seq0 .openSeq 5] } with chans := up.chans.set 0 { enable := true, holds := [holdOf 9 (some 1)] } }
     let h := hdr 0 0 0x200 []
     admitted 0x32 h (st c) ∧ seqOf c 0 0 (lsidOf h) = some (seq0 .openSeq 5) ∧ (seq0 .openSeq 5).state = .openSeq ∧
      (seq0 .openSeq 5).waiting = [] ∧ seqBusy c 0 (seq0 .openSeq 5) = false ∧
      ((seqHolds c (seq0 .openSeq 5).id).filter fun x => x.stage.isSome) ≠ [] ∧ (c.regions[(0 : Fin 4)]).coord.log.length < 128) ∧
    (let c := withCoord { seqs := [seq0 .doomed 5] }
     let h := hdr 0 0 0x200 []
     admitted 0x33 h (st c) ∧ seqOf c 0 0 (lsidOf h) = some (seq0 .doomed 5) ∧ (seq0 .doomed 5).state ≠ .committing ∧
      (seq0 .doomed 5).waiting = [] ∧ seqBusy c 0 (seq0 .doomed 5) = false) ∧
    (let c := withCoord { seqs := [seq0 .openSeq 0] }
     seqOf c 0 0 2 = some (seq0 .openSeq 0) ∧ (seq0 .openSeq 0).state ≠ .committing ∧ (seq0 .openSeq 0).lease = 0) := by
  unfold admitted portFree; decide +kernel
theorem wit_CoordinatorRequests_keys : translateActions up 0 [act0] [] = .ok [key0 .idle] := by rfl

theorem wit_HoldsAndValues :
    (let k := { key0 .requested with tracked := true }
     let x := txnOf .acquiring false [k]
     let c := withCoord { txns := [x] }
     findTxn c 4 = some (0, x) ∧ keyOf x 0 = some k ∧ k.state = .requested ∧ k.atMap = false ∧ k.rel = false ∧ keyChan 0 = 0 ∧
      earlierAt c x 0 = false ∧ accessAllocated c 4 0 = true ∧
      holdAt c.chans[(0 : Fin 32)] 0 = none ∧ (c.chans[(0 : Fin 32)]).holds.length < 128) ∧
    (let k := { key0 .granted with access := .readAccepted false }
     let x := txnOf .acquiring false [k, key1 .requested]
     let c := withCoord { txns := [x] }
     findTxn c 4 = some (0, x) ∧ keyOf x 0 = some k ∧ k.state = .granted ∧ k.access = .readAccepted false ∧ k.reads = true ∧ k.old = none ∧
      x.lsid = none ∧ (pmGet c k.hpn).mirrored = false ∧ (dramDecode [] c 0 0).poisoned = false ∧
      (dramDecode [] c 0 0).uncorrectable = false ∧ (dramDecode [] c 0 0).ce1 = 0 ∧ (dramDecode [] c 0 0).ce2 = 0 ∧ key1 .requested ∈ x.keys) ∧
    (let x := txnOf .preparing false [key0 .prepared, key1 .prepareSent]
     let c := withCoord { txns := [x] }
     findTxn c 4 = some (0, x) ∧ keyOf x 0 = some (key0 .prepared) ∧ key1 .prepareSent ∈ x.keys ∧ (key1 .prepareSent).gran ≠ 0) ∧
    (let x := txnOf .acquiring true [key0 .granted]
     let c := withCoord { txns := [x] }
     findTxn c 4 = some (0, x) ∧ x.wounded = true ∧ x.phase = .acquiring ∧ x.retries < 16) := by decide +kernel
theorem wit_HoldsAndValues_grant :
    let k := { key0 .grantSent with tracked := true }
    let k' := { key1 .requested with tracked := true }
    let x := txnOf .acquiring false [k, k']
    let c := withCoord { txns := [x] }
    findTxn c 4 = some (0, x) ∧ keyOf x 0 = some k ∧ k.state = .grantSent ∧ x.ordered = false ∧
      (∀ y ∈ (c.regions[(0 : Fin 4)]).coord.txns, y.id = 4 → y = x) ∧ k' ∈ x.keys ∧ k'.gran ≠ 0 ∧ k'.state = .requested ∧
      issueNext (modTxn 0 4 (modKey 0 fun k => { k with state := .granted }) c) 0 = none := by decide +kernel

theorem wit_PrepareCommitRelease :
    (let x := txnOf .preparing false [key0 .prepareSent]
     let c := withCoord { txns := [x] }
     findTxn c 4 = some (0, x) ∧ keyOf x 0 = some (key0 .prepareSent) ∧ keyChan 0 = 0) ∧
    (let x := txnOf .committing false [key0 .committing, key1 .committing]
     let c := withCoord { txns := [x] }
     findTxn c 4 = some (0, x) ∧ keyOf x 0 = some (key0 .committing) ∧ (key0 .committing).access = .idle ∧ keyChan 0 = 0) ∧
    (let k := { key0 .committing with access := .writeQueued 3 }
     let x := txnOf .committing false [k, key1 .committing]
     let c := withCoord { txns := [x] }
     let w : TxnWork := { region := 0, txn := x, key := k }
     w.key.access = .writeQueued 3 ∧ keyFailed c w.key.gran = false ∧
      (c.regions[w.region]).coord.txns.find? (fun x => x.id = w.txn.id) = some w.txn ∧ key1 .committing ∈ w.txn.keys ∧
      (key1 .committing).gran ≠ w.key.gran ∧ (key1 .committing).state ≠ .released) ∧
    (let k := { key0 .released with rel := true }
     let x := txnOf .ending false [k]
     let c := withCoord { txns := [x] }
     findTxn c 4 = some (0, x) ∧ keyOf x 0 = some k ∧ k.rel = true ∧ keyChan 0 = 0 ∧ x.phase = .ending) ∧
    (let x := txnOf .acquiring false [key0 .requested]
     let w : HoldWait := { gran := 0, id := 4, since := 0 }
     let c := { withCoord { txns := [x] } with chans := up.chans.set 0 { enable := true, holdWaits := [w] } }
     (c.chans[(0 : Fin 32)]).holdWaits.find? (fun w => w.id = 4) = some w ∧ findTxn c 4 = some (0, x) ∧ boundedWait c 0 w.gran = true ∧ x.lsid = none) := by
  decide +kernel

/-! ## Channels, copiers, page map, queues -/

def gran0 (phase : Phase) : Gran := { g := 0, phase := phase }
def readTrk (gs : List Gran) : Trk := trkOf 7 .read 0x10 none gs

theorem wit_ChannelCommands :
    (chanServes up 0 = true ∧ (st up).memOk) ∧
    (let c := withTrk [readTrk [gran0 .queued]] {}
     chanServes c 0 = true ∧ c.trk = [readTrk [gran0 .queued]] ∧ (readTrk [gran0 .queued]).op = .read ∧
      eligible c 0 (readTrk [gran0 .queued]) (gran0 .queued) = true ∧ (c.chans[(0 : Fin 32)]).wbuf = [] ∧ (c.chans[(0 : Fin 32)]).au = [] ∧
      (c.chans[(0 : Fin 32)]).holds = [] ∧ txnQueue c 0 = [] ∧ maintQueue c 0 = [] ∧ (c.chans[(0 : Fin 32)]).windowRuns = false ∧
      (∀ b ∈ (c.chans[(0 : Fin 32)]).banks, b.2.visitDue = false) ∧ (∀ k : Fin 4, (c.pm.copiers[k]).out = []) ∧ (c.chans[(0 : Fin 32)]).srrOut = []) ∧
    (let x := readTrk [gran0 .accepted, { g := 1, phase := .queued }]
     let c := withTrk [x] {}
     (c.trk.find? fun t => t.id = 7) = some x ∧ x.op = .read ∧ x.grans[0]? = some (gran0 .accepted) ∧ (gran0 .accepted).phase = .accepted ∧
      (gran0 .accepted).viaAu = false ∧ (gran0 .accepted).fwd = false ∧ (gran0 .accepted).mirrored = false ∧ keyChan (granKey 0 0) = 0 ∧
      (dramDecode [] c (granKey 0 0) 0).poisoned = false ∧ (dramDecode [] c (granKey 0 0) 0).uncorrectable = false ∧
      (dramDecode [] c (granKey 0 0) 0).ce1 = 0 ∧ (dramDecode [] c (granKey 0 0) 0).ce2 = 0 ∧
      1 ≠ 0 ∧ x.grans[1]? = some { g := 1, phase := .queued }) ∧
    (let e : AuEntry := { gran := 0, value := some 1, waiting := [] }
     let c := withChan { enable := true, au := [e] }
     auFind c.chans[(0 : Fin 32)] 0 = some e ∧ e.value = some 1 ∧ keyChan 0 = 0 ∧ readOutstanding c 0 = false ∧ wbufFind c.chans[(0 : Fin 32)] 0 = none) ∧
    (let x : Mirror := { secPpn := 1, hpn := 0, synced := true, pending := [(5, 0, none)] }
     let c := { up with pm := { up.pm with mirrors := [(0, x)] } }
     mirrorOf c 0 = some (0, x) ∧ x.pending = (5, 0, none) :: [] ∧ keyFailed c (granKey x.secPpn 5) = false ∧
      shadowRoom c (shadowKeys c 0) = true ∧ ∀ k : Fin 4, (c.pm.copiers[k]).job = none) := by
  unfold State.memOk; decide +kernel

def job (k : CopyKind) : CopyJob := { kind := k, hpn := 0, src := 0, dst := 2097152 }
def withCopier (x : Copier) : Ctl := { up with pm := { up.pm with copiers := up.pm.copiers.set 0 x } }

theorem wit_CopierCommands :
    (let c := { up with pm := { up.pm with jobs := [job (.migrate false)] } }
     copiersRun c = true ∧ (c.pm.copiers[(0 : Fin 4)]).job = none ∧ c.pm.substSlice = none ∧ c.pm.jobs = [job (.migrate false)] ∧
      (job (.migrate false)).kind = .migrate false ∧ c.pm.layout = .default) ∧
    (let j := job (.migrate false)
     let c := withCopier { job := some j, busy := some 0, out := [(granKey j.src 2047, false)] }
     (c.pm.copiers[(0 : Fin 4)]).job = some j ∧ 2047 < 2048 ∧ (c.pm.copiers[(0 : Fin 4)]).out = [(granKey j.src 2047, false)] ∧
      keyChan (granKey j.src 2047) = 0 ∧ (granView [] c (granKey j.src 2047)).poisoned = false ∧
      (granView [] c (granKey j.src 2047)).uncorrectable = false ∧ (granView [] c (granKey j.src 2047)).ce1 = 0 ∧
      (granView [] c (granKey j.src 2047)).ce2 = 0 ∧ keyFailed c (granKey j.dst 2047) = false) ∧
    (let j := job (.clearing false)
     let c := withCopier { job := some j, busy := some 31, writes := 64 }
     copiersRun c = true ∧ (c.pm.copiers[(0 : Fin 4)]).job = some j ∧ (c.pm.copiers[(0 : Fin 4)]).busy = some 31 ∧ 31 < 32 ∧
      chunkReady c j 31 = true ∧ chunkBlocked c j 31 = false ∧ 64 ≤ (c.pm.copiers[(0 : Fin 4)]).writes ∧ isClearing j = true) ∧
    (let j := job (.migrate false)
     let c := withCopier { job := some j, busy := some 0, reads := 64, writes := 64 }
     copiersRun c = true ∧ (c.pm.copiers[(0 : Fin 4)]).job = some j ∧ (c.pm.copiers[(0 : Fin 4)]).busy = some 0 ∧
      chunkReady c j 0 = true ∧ chunkBlocked c j 0 = false ∧ 64 ≤ (c.pm.copiers[(0 : Fin 4)]).writes) ∧
    (let c := withCopier { job := some (job .single), retry := true }
     (c.pm.copiers[(0 : Fin 4)]).retry = true ∧ (c.pm.copiers[(0 : Fin 4)]).job = some (job .single) ∧
      chunkHeld c (heldPage c (job .single) (64 * (c.pm.copiers[(0 : Fin 4)]).cursor)) (c.pm.copiers[(0 : Fin 4)]).cursor = false) := by
  decide +kernel

theorem wit_ClearingsAndDrains :
    (let j := job (.clearing true)
     let c := withCopier { job := some j, cursor := 32 }
     (c.pm.copiers[(0 : Fin 4)]).job = some j ∧ j.kind = .clearing true ∧ 32 ≤ (c.pm.copiers[(0 : Fin 4)]).cursor ∧
      c.pm.substSlice = none ∧ c.pm.waits = [] ∧ pageDoomed c j.dst = false) ∧
    (let r := refOf 0x21 mg
     let d : Drain := { epoch := false, oldPages := [(5, .clearing)], secondaries := [], hpns := [0], reply := some r, payload := [], since := 0 }
     let c := { up with pm := { up.pm with drains := up.pm.drains.set 0 [d] }, mgr := { parked := [r] } }
     c.pm.drains[(0 : Fin 4)] = [d] ∧ epochBusy c 0 d.epoch = false ∧ d.oldPages = [(5, .clearing)] ∧ pageHeld c 5 = false ∧
      useGet c 5 ≠ .retired ∧ pageDoomed c 5 = false ∧ d.secondaries = [] ∧ d.payload = [] ∧ d.reply = some r ∧
      (∀ i : Fin 4, i ≠ 0 → c.pm.drains[i] = []) ∧ r ∈ c.mgr.parked ∧ c.pm.substSlice = none ∧ c.pm.waits = []) := by decide +kernel

theorem wit_PageMapCommands :
    (served 0x20 mg (st up) ∧ 1 ≤ 252 ∧ 252 ≤ 252 ∧ 2096900 + 252 ≤ 2097152) ∧
    (let x : PmChange := { hpn := 3, kind := 0, domain := 2, shared := false, ppn := 3 }
     let c := { up with pm := { layout := .image true, restoreLayout := .image true } }
     served 0x21 mg (st c) ∧ updateParams [x] = none ∧ updateVerdict [x] (takenUp 0x21 mg c) = .go ∧ x.kind = 0) ∧
    (let x : Mirror := { secPpn := 2097152, hpn := 0, synced := true }
     let c := { up with pm := { up.pm with mirrors := [(0, x)], entries := [(0, { pmGet up 0 with mirrored := true })] }
                        chans := up.chans.set 0 { enable := true, wbuf := [(granKey 0 4, granEncode 1)] } }
     served 0x22 mg (st c) ∧ 0 < 2097152 ∧ mirrorVerdict 0 false (takenUp 0x22 mg c) = .go ∧
      served 0x23 mg (st c) ∧ 4 < 2048 ∧ mirrorBusy c 0 = false ∧ (heldHpns c).contains 0 = false ∧ (pmGet c 0).mirrored = true ∧
      mirrorOf c 0 = some (0, x) ∧ x.pending = [] ∧
      copiesAgree (granView [] c (granKey (pmGet c 0).ppn 4)) (granView [] c (granKey x.secPpn 4)) = false ∧
      (granView [] c (granKey (pmGet c 0).ppn 4)).poisoned = false ∧ (granView [] c (granKey (pmGet c 0).ppn 4)).uncorrectable = false ∧
      keyFailed c (granKey x.secPpn 4) = false) ∧
    (served 0x24 mg (st up) ∧ 2097151 < 2097152 ∧ donateVerdict [2097151] (takenUp 0x24 mg up) = .go) := by
  unfold served; decide +kernel

theorem wit_QueueCommands :
    (served 0x30 mg (st up) ∧ 32767 < 32768 ∧ ringOk 0x3F (2 ^ 96 * 4) = true ∧ bitsOf (2 ^ 96 * 4) 46 2 ≠ 3 ∧ disablePending up 32767 = false ∧
      (queueGet up 32767).state = 0) ∧
    (served 0x31 mg (st up)) ∧
    (let c := withMover { curQueue := some 3 } { state := 2 }
     served 0x32 mg (st c) ∧ 3 < 32768 ∧ disablePending c 3 = false ∧ (queueGet c 3).state = 2 ∧ (c.movers[(0 : Fin 16)]).curQueue = some 3) ∧
    (let c := withTrk [] { state := 3 }
     served 0x32 mg (st c) ∧ disablePending c 3 = false ∧ ((queueGet c 3).state = 1 ∨ (queueGet c 3).state = 3)) := by
  unfold served; decide +kernel

/-! ## Refresh, calibration, regulation, beat -/

theorem wit_RefreshCommands :
    (refreshRuns up 135 = true ∧ (up.chans[sliceChan 135]).windowRuns = false ∧ (up.chans[sliceChan 135]).refreshMode = false ∧
      ∀ b ∈ (up.chans[sliceChan 135]).banks, b.2.visitDue = false) ∧
    (let c := withChan { enable := true, banks := [(3, { debt := 8, disturb := { pending := [(40, 4096, false)] } })] }
     refreshRuns c 0 = true ∧ (c.chans[sliceChan 0]).refreshMode = false ∧ 8 ≤ (bankGet c.chans[sliceChan 0] (sliceRank 0 * 32 + 3)).debt ∧
      mustDue c.chans[sliceChan 0] (sliceRank 0 * 32 + 3) = false ∧ bankReady c (sliceChan 0) (sliceRank 0 * 32 + 3) = true) ∧
    (let c := withChan { enable := true, banks := [(3, { disturb := { pending := [(40, 4096, true)] } })] }
     refreshRuns c 0 = true ∧
      ((bankGet c.chans[sliceChan 0] (sliceRank 0 * 32 + 3)).disturb.pending.find? fun x => x.1 = 40) = some (40, 4096, true) ∧
      bankReady c (sliceChan 0) (sliceRank 0 * 32 + 3) = true) := by decide +kernel

theorem wit_ChannelRegisters :
    (({ pc := 1, seq := 15 } : CaFailure).repeated = false ∧ (chanRanks 0).contains 4 = true ∧ (up.chans[(0 : Fin 32)]).sliceFailed.getLsbD 4 = false ∧ (up.chans[(0 : Fin 32)]).caRecent = []) ∧
    (let x : Chan := { srrStatus := 1, srrAccesses := 64 }
     srrReady x = true ∧ x.srrWaits = [] ∧ (bankGet x 0).repaired.length < 2) ∧
    (let x : Chan := { srrStatus := 1, banks := [(0, { repaired := [1, 2] })] }
     srrReady x = true ∧ x.srrWaits = [] ∧ 2 ≤ (bankGet x 0).repaired.length) ∧ (up.chans[(0 : Fin 32)]).srrStatus ≠ 1 ∧ (up.chans[(0 : Fin 32)]).enable = true := by
  decide +kernel

def calAct : Activity := { id := 6, kind := 2, targetType := 5, target := 1, state := 1, result := 0, beat := 0, byFirmware := true }
def withAct (a : Activity) : Ctl := { up with mgr := { running := [a] } }

theorem wit_DelayAndCalibration :
    (({ dlyApplyIdle := true } : Chan).dlyApplyIdle = true ∧ ({ dlyApplyIdle := true } : Chan).cal = []) ∧
    (let x : Chan := { enable := true, dlySel := 1 }
     let c := withChan x
     65 < 128 ∧ selOk 0 x.dlySel = true ∧ layerCalRuns c (selLayer x.dlySel) = false ∧ x.enable = true ∧ 65 ≤ tapGet x (selKey x.dlySel) + 1 ∧
      tapGet x (selKey x.dlySel) ≤ 65 + 1 ∧ tapGet x (selKey x.dlySel) + 1 < 66) ∧
    (let c := { withAct calAct with chans := up.chans.set 0 { enable := true, probes := Vector.replicate 5 { act := 6, slots := 256 } } }
     gathering c 0 = some calAct ∧ probeNeed c.chans[sliceChan 0] (sliceRank 0) ≤ probeSlots c.chans[sliceChan 0] (sliceRank 0) calAct.id) ∧ up.power.selfRefresh = false := by decide +kernel

/-- Every lane of a unit with an open eye around the reset tap: 1,024 bits compared in each bin, and disagreement outside. -/
def openEye : List LaneHist :=
  unitLanes.map fun l => { lane := l.2, pc := l.1, bins := List.replicate 30 (1024, 9) ++ (List.replicate 69 (1024, 0) ++ List.replicate 29 (1024, 9)) }
theorem wit_DelayAndCalibration_eye : histComplete openEye = true ∧
    firstFailing (withAct calAct).chans[sliceChan 0] (sliceLayer 0) openEye = none := by decide +kernel

def freeBeat : Beat := { state := .freeRun, period := 10000, number := 5 }

theorem wit_BeatCapture :
    classify up.beat 50 4999 = .glitch ∧
    (classify up.beat 20 10000 = .beat ∧ up.beat.state = .locked ∧ 2 * 10000 < 3 * up.beat.period ∧ nearTo up.beat.period 10000 = true) ∧
    (let b : Beat := { up.beat with number := 1024 }
     b.state = .locked ∧ b.number.toNat % 1024 = 0 ∧ b.load = none) ∧
    (up.beat.load = none ∧ (up.beat.number + 1).toNat % 1024 ≠ 0) ∧
    (freeBeat.state ≠ .locked ∧ (freeBeat.number + 1).toNat % 1024 ≠ 0 ∧ freeBeat.lockReported = false ∧ up.life.fwRunning = true ∧
      freeBeat.state = .freeRun ∧ freeBeat.uncertain = false) := by decide +kernel

theorem wit_ChangeoverWindows :
    (let c := { up with beat := { up.beat with number := 31 } }
     windowsOpen c = true ∧ (c.chans[(0 : Fin 32)]).windowBlocked = none ∧ (c.chans[(0 : Fin 32)]).windowRuns = false ∧
      c.power.ranksAsleep = false ∧ c.power.selfRefresh = false ∧ inPhase c.beat (c.beat.number + 1) = true) ∧
    (let x : Chan := { windowBlocked := some 0 }
     x.windowBlocked.isSome = true ∧ x.windowRuns = false ∧ up.beat.windowOpen = false ∧ ({ up.beat with windowOpen := true } : Beat).windowOpen = true) ∧
    (let c := withChan { enable := true, windowRuns := true }
     (c.chans[(0 : Fin 32)]).windowRuns = true ∧ windowMore c 0 = false ∧ testsMore c 0 = false) ∧ up.beat.co.enable = true ∧ up.beat.coPending = none := by decide +kernel

def istAct : Activity := { id := 0xFF18, kind := 10, targetType := 5, target := 8, state := 1, result := 0, beat := 0, byFirmware := true }
def benchAct : Activity := { istAct with id := 0xFF07, kind := 9, targetType := 6, target := 135 }
theorem wit_InServiceTest :
    up.power.stage = .ready ∧
    (let c : Ctl := { withAct benchAct with now := 200, pm := { up.pm with uses := [(135 * 16384, .bench)] } }
     (c.mgr.running.find? fun a => a.id = (istActivity 7).2.2.2) = some benchAct ∧ benchAct.state = 1 ∧ c.power.ranksAsleep = false ∧
      c.power.selfRefresh = false ∧ (7 : Fin 25).val < 8 ∧ useGet c (istPage c 7) = .bench ∧
      (∀ r ∈ istRanks 7 (istChan c 7), (c.chans[istChan c 7]).sliceDrain.getLsbD r = false) ∧ istFits c 7 (istChan c 7) = false ∧
      istIdle c (istChan c 7) = true ∧ (c.mgr.ist[(7 : Fin 25)]).busyUntil ≤ c.now ∧ (c.mgr.ist[(7 : Fin 25)]).done + stepVisits < unitVisits ∧
      (st c).memOk) ∧
    (let ist : Nat → Ctl := fun n => { withAct istAct with
       now := 200, mgr := { (withAct istAct).mgr with ist := (withAct istAct).mgr.ist.set 15 { done := n, due := [0] } } }
     ∀ n ∈ [2, 3], (let c := ist n
      (c.mgr.running.find? fun a => a.id = (istActivity 15).2.2.2) = some istAct ∧ istAct.state = 1 ∧ c.power.ranksAsleep = false ∧
      c.power.selfRefresh = false ∧ 8 ≤ (15 : Fin 25).val ∧
      (∀ r ∈ istRanks 15 (istChan c 15), (c.chans[istChan c 15]).sliceDrain.getLsbD r = false) ∧ istFits c 15 (istChan c 15) = false ∧
      istIdle c (istChan c 15) = true ∧ (c.mgr.ist[(15 : Fin 25)]).busyUntil ≤ c.now ∧ (c.mgr.ist[(15 : Fin 25)]).bonds = [] ∧
      (c.mgr.ist[(15 : Fin 25)]).forward = [] ∧ (c.mgr.ist[(15 : Fin 25)]).done = n)) ∧
    (let c : Ctl := { withAct istAct with
       chans := up.chans.set 0 { windowRuns := true, windowUntil := 100 }
       mgr := { (withAct istAct).mgr with ist := (withAct istAct).mgr.ist.set 15 { due := [-3600000000000] } } }
     (c.mgr.running.find? fun a => a.id = (istActivity 15).2.2.2) = some istAct ∧ c.power.ranksAsleep = false ∧ c.power.selfRefresh = false ∧
      8 ≤ (15 : Fin 25).val ∧ (∀ r ∈ istRanks 15 (istChan c 15), (c.chans[istChan c 15]).sliceDrain.getLsbD r = false) ∧
      istFits c 15 (istChan c 15) = true ∧ (c.mgr.ist[(15 : Fin 25)]).done < 3) := by unfold State.memOk; decide +kernel

def eyeAct : Activity := { id := 6, kind := 5, targetType := 1, target := 0, state := 1, result := 0, beat := 0, byFirmware := false }
def bistAct : Activity := { id := 6, kind := 3, targetType := 5, target := 1, state := 1, result := 0, beat := 0, byFirmware := false }
theorem wit_MaintenanceCommands :
    (served 0x60 mg (st up) ∧ blocker up 5 1 0 = none ∧ overlapping up 5 1 0 = [] ∧ claimsHeld up < 64) ∧ served 0x61 mg (st up) ∧
    (let c := withAct eyeAct
     served 0x62 mg (st c) ∧ eyeAct ∈ c.mgr.running ∧ eyeAct.id = 6 ∧ eyeAct.kind = 5 ∧ (∀ x ∈ c.mgr.running, x.id = 6 → x = eyeAct) ∧
      (holders c).find? (fun a => a.id = 6 && a.kind = 5) = some eyeAct ∧ eyeAct.target = (0 : Fin 4).val ∧ (c.ports[(0 : Fin 4)]).retraining = false ∧
      (c.ports[(0 : Fin 4)]).rxSleep = .active) ∧
    (let c := { up with chans := Vector.replicate 32 { enable := true, sliceOut := 0x10 } }
     served 0x72 mg (st c) ∧ 1 ≤ 17 ∧ 17 ≤ 17 ∧ c.power.layers.toList.getD (17 - 1) 0 = 2 ∧ (∀ n ∈ layerSlices 17, sliceIsOut c n = true) ∧
      blocker c 6 5 17 = none) ∧
    ((holders (withAct bistAct)).find? (fun a => a.id = 6) = some bistAct ∧ bistAct.kind = 3) ∧
    ((holders (withAct { bistAct with kind := 8 })).find? (fun a => a.id = 6) = some { bistAct with kind := 8 }) := by unfold served; decide +kernel

/-! ## Movers -/

/-- A FILL of one granule, a COPY of one granule and a GATHER of one 32-byte element, as descriptor words (R157). -/
def fillD : Nat := 2 + 2 ^ 32 + 2 ^ 128 * 64 + 2 ^ 384 * 5
def copyD : Nat := 1 + 2 ^ 32 + 2 ^ 192 * 96
def fenceD : Nat := 7
def queueRun : Queue := { state := 2, head := 8, slotFree := true, ringLog2 := 4 }

/-- A mover's access that has ended OK. -/
def accTrk (elem : Nat) (op : Op) (gs : List Gran) : Trk := { trkOf 7 op 0x18 none gs with src := .mover 0 elem }
def doneGran (g : Nat) (d : Nat) : Gran := { g := g, phase := .done, data := BitVec.ofNat 256 d }
/-- Queue 3 runs on mover 0, and the tracker holds `x`. -/
def withAcc (x : Trk) (phase : MoverPhase) : Ctl := { withMover { curQueue := some 3, phase := phase } queueRun with trk := [x] }

theorem wit_MoverLoop :
    (let a : Access := bulkAccess 512 2 true
     let c := { up with regions := up.regions.set 0 { ready := [(3, 0)] }, queues := [(3, { state := 1, dbPending := true, head := 8, slotFree := true })] }
     (c.movers[(0 : Fin 16)]).curQueue = none ∧ pickQueue (c.regions[moverRegion 0]).ready = some 3 ∧ (c.movers[(0 : Fin 16)]).enable = true ∧
      moversTake c = true ∧ c.power.selfRefresh = false ∧
      runAccess { c.movers[(0 : Fin 16)] with phase := nextPhase (queueGet c 3) } (queueGet c 3) = some (headElem, a) ∧
      accessOf c 0 headElem = none ∧ canIssue 0 headElem (queueGet c 3).domain a c) ∧
    (let x := accTrk headElem .read [doneGran 16 256]
     let s := st (withAcc x .tail)
     movesIn 0 3 .tail s ∧ accessOk 0 headElem x s ∧ bitOf (gransData x.grans) 8 = true ∧ (queueGet s.ctl 3).state = 2 ∧
      (queueGet s.ctl 3).dbPending = false ∧ (s.ctl.movers[(0 : Fin 16)]).entryEcc = 0) ∧
    (let x := accTrk headElem .read [doneGran 16 (5 * 2 ^ 70)]
     let s := st (withAcc x .tail)
     accessOk 0 headElem x s ∧ bitOf (gransData x.grans) 8 = false) ∧
    (let x := accTrk slotElem .read [doneGran 0 0]
     let s := st (withAcc x .slot)
     movesIn 0 3 .slot s ∧ accessOk 0 slotElem x s ∧ slotValid (queueGet s.ctl 3) (gransData x.grans) = false ∧ (queueGet s.ctl 3).headDone = false ∧
      (s.ctl.movers[(0 : Fin 16)]).entryEcc = 0) ∧
    (let s := st (withMover { curQueue := some 3, phase := .fetchFail 2 } queueRun)
     movesIn 0 3 (.fetchFail 2) s ∧ (queueGet s.ctl 3).slotFree = true ∧ (s.ctl.movers[(0 : Fin 16)]).entryEcc = 0 ∧
      (s.ctl.movers[(0 : Fin 16)]).faulted = false) := by
  unfold canIssue movesIn accessOk; decide +kernel

/-- The two granules of the descriptor `d` as the fetch of queue 3's head returns them. -/
def headTrk (d : Nat) : Trk := accTrk headElem .read [doneGran 16 d, doneGran 17 (d / 2 ^ 256)]

/-- The head of queue 3 is the descriptor `d`, and an access of its mover can be issued afterwards. -/
def fetchedOk (d e : Nat) (a : Access) : Prop :=
  let s := st (withAcc (headTrk d) .fetch)
  fetched 0 3 d (headTrk d) s ∧ (s.ctl.movers[(0 : Fin 16)]).entryEcc = 0 ∧
    descStatus (dropAccess 7 s.ctl) (queueGet s.ctl 3).domain (BitVec.ofNat 512 d) = 0 ∧ (queueGet s.ctl 3).resume = 0 ∧
    canIssue 0 e (queueGet s.ctl 3).domain a (dropAccess 7 s.ctl)

theorem wit_MoverDescriptors_fill :
    fetchedOk fillD 0 { op := .write, opcode := 0x18, addr := 64, count := 1, data := 5 * (2 ^ 128 + 1) } ∧ fillD % 256 = 2 ∧
      descCount (BitVec.ofNat 512 fillD) = 1 ∧ descA (BitVec.ofNat 512 fillD) = 64 ∧ descOperand (BitVec.ofNat 512 fillD) = 5 := by
  unfold fetchedOk fetched movesIn accessOk canIssue; decide +kernel
theorem wit_MoverDescriptors_copy :
    fetchedOk copyD 0 { op := .read, opcode := 0x10, addr := 0, count := 1, data := 0 } ∧ copyD % 256 = 1 ∧
      descCount (BitVec.ofNat 512 copyD) = 1 ∧ descA (BitVec.ofNat 512 copyD) = 0 := by
  unfold fetchedOk fetched movesIn accessOk canIssue; decide +kernel
theorem wit_MoverDescriptors_verify :
    fetchedOk (6 + 2 ^ 32) 0 { op := .verify, opcode := 0x10, addr := 0, count := 1, data := 0 } ∧ (6 + 2 ^ 32) % 256 = 6 ∧
      descCount (BitVec.ofNat 512 (6 + 2 ^ 32)) = 1 := by unfold fetchedOk fetched movesIn accessOk canIssue; decide +kernel
theorem wit_MoverDescriptors_fence :
    fetchedOk fenceD 0 { op := .read, opcode := 0x10, addr := 0, count := 1, data := 0 } ∧
      fetchedOk 8 0 { op := .read, opcode := 0x10, addr := 0, count := 1, data := 0 } := by
  unfold fetchedOk fetched movesIn accessOk canIssue; decide +kernel
theorem wit_MoverDescriptors_other :
    let s := st (withAcc (headTrk 9) .fetch)
    let a : Access := { op := .masked 0xFFFF, opcode := 0x1C, addr := 0, count := 1, data := 1 + 2 * 1 + 2 ^ 4 * 7 + 2 ^ 8 * 9 }
    let a : Access := { a with data := a.data + 2 ^ 96 * 0xFFFFFFFF * 0 }
    fetched 0 3 9 (headTrk 9) s ∧ 8 < 9 % 256 ∧ accessOf (dropAccess 7 s.ctl) 0 recordElem = none ∧
      runAccess { (takenDesc 0 3 9 (dropAccess 7 s.ctl)).movers[(0 : Fin 16)] with phase := .record 1 7 } (queueGet s.ctl 3) = some (recordElem, a) ∧
      canIssue 0 recordElem (queueGet s.ctl 3).domain a (dropAccess 7 s.ctl) := by
  unfold fetched movesIn accessOk canIssue; decide +kernel

def gatherD : Nat := 3 + 2 ^ 32 + 2 ^ 256 * 4096 + 2 ^ 320 * (5 * 2 ^ 4 + 5 * 2 ^ 8)
def scatterD : Nat := 4 + 2 ^ 32 + 2 ^ 256 * 4096 + 2 ^ 320 * (3 * 2 ^ 4)
def updateD (uniform : Nat) : Nat := 5 + 2 ^ 32 + 2 ^ 256 * 4096 + 2 ^ 320 * (2 * 2 ^ 4 + 2 ^ 36 * uniform)

/-- What the first bulk reads of the one element of the descriptor `d` ask. -/
def bulkOk (d : Nat) : Prop :=
  let b := BitVec.ofNat 512 d
  let c := dropAccess 7 (withAcc (headTrk d) .fetch)
  let x : Access := { bulkAccess (descC b) 1 true with writeType := true }
  descCount b = 1 ∧ descStream b = false ∧ accessOf c 0 (indexElem (descA b / 256)) = none ∧ accessOf c 0 (packedElem (descC b / 256)) = none ∧
    descC b % 32 + elemSize b ≤ 32 ∧ canIssue 0 (packedElem (descC b / 256)) 0 x c ∧
    canIssue 0 (indexElem (descA b / 256)) 0 (bulkAccess (descA b) 1 false) (addAccess 0 (packedElem (descC b / 256)) 0 x c)

theorem wit_MoverIndexed_gather :
    fetchedOk gatherD (indexElem 0) (bulkAccess (descA (BitVec.ofNat 512 gatherD)) 1 false) ∧ bulkOk gatherD ∧ gatherD % 256 = 3 := by
  unfold fetchedOk bulkOk fetched movesIn accessOk canIssue; decide +kernel
theorem wit_MoverIndexed_scatter :
    fetchedOk scatterD (packedElem 0) { bulkAccess (descC (BitVec.ofNat 512 scatterD)) 1 true with writeType := true } ∧ bulkOk scatterD ∧ scatterD % 256 = 4 := by
  unfold fetchedOk bulkOk fetched movesIn accessOk canIssue; decide +kernel
theorem wit_MoverIndexed_update :
    fetchedOk (updateD 1) (indexElem 0) (bulkAccess (descA (BitVec.ofNat 512 (updateD 1))) 1 false) ∧ bulkOk (updateD 1) ∧
      descUniform (BitVec.ofNat 512 (updateD 1)) = true := by
  unfold fetchedOk bulkOk fetched movesIn accessOk canIssue; decide +kernel
theorem wit_MoverIndexed_packed :
    fetchedOk (updateD 0) (packedElem 0) { bulkAccess (descC (BitVec.ofNat 512 (updateD 0))) 1 true with writeType := true } ∧ bulkOk (updateD 0) ∧
      descUniform (BitVec.ofNat 512 (updateD 0)) = false := by
  unfold fetchedOk bulkOk fetched movesIn accessOk canIssue; decide +kernel
/-- The block that holds index 2 of the one element of a GATHER has come, and gives its address. -/
def indexedMover : Mover := { curQueue := some 3, phase := .running, desc := BitVec.ofNat 512 gatherD }
theorem wit_MoverIndexed_element :
    let x := accTrk (indexElem (descA indexedMover.desc / 256)) .read [doneGran 0 2]
    let c := { withMover indexedMover queueRun with trk := [x] }
    let v : Mover := { c.movers[(0 : Fin 16)] with blocks := (c.movers[(0 : Fin 16)]).blocks ++ [(indexElem (descA indexedMover.desc / 256), x.grans)] }
    movesIn 0 3 .running (st c) ∧ descA indexedMover.desc / 256 < 2 ^ 32 ∧ accessOk 0 (indexElem (descA indexedMover.desc / 256)) x (st c) ∧
      descOpcode v.desc = 3 ∧ descStream v.desc = false ∧ v.inflight = [] ∧ v.results = [] ∧ v.reportsDue = [] ∧ v.streamSent = 0 ∧
      v.streamLost = false ∧ (queueGet c 3).resume = v.nextElem ∧ descCount v.desc = v.nextElem + 1 ∧
      heldBytes v indexElem (descA v.desc + 0 * idxSize v.desc) (idxSize v.desc) = some (0, 2) ∧
      indexedAddr v 0 = some (.ok (descB v.desc + 2 * 2 ^ scaleLog v.desc)) ∧
      elemIssue v v.nextElem = .go (descB v.desc + 2 * 2 ^ scaleLog v.desc) (descOperand v.desc) false ∧
      canIssue 0 v.nextElem 0 (elemAccess v.desc { k := v.nextElem, addr := descB v.desc + 2 * 2 ^ scaleLog v.desc, packed := descOperand v.desc }) (dropAccess 7 c) := by
  unfold movesIn accessOk canIssue; decide +kernel

def running (d : Nat) (e : List Elem) (next : Nat) : Mover :=
  { curQueue := some 3, phase := .running, desc := BitVec.ofNat 512 d, inflight := e, nextElem := next }

theorem wit_MoverElements :
    (let e : Elem := { k := 0, trk := some 7 }
     let v := running fillD [e] 1
     let x := accTrk 0 .write [doneGran 2 0]
     let c := { withMover v queueRun with trk := [x] }
     v.curQueue = some 3 ∧ v.phase = .running ∧ e.k < 2 ^ 32 ∧ v.inflight = [e] ∧ e.got = [] ∧ e.packedPoison = false ∧ v.reportsDue = [] ∧
      descOpcode v.desc = 2 ∧ descCount v.desc ≤ v.nextElem ∧ accessOk 0 e.k x (st c) ∧ (doneGran 2 0).kind ≠ 3) ∧
    (let e : Elem := { k := 0, trk := some 7 }
     let v := running copyD [e] 1
     let x := accTrk 0 .read [doneGran 0 6]
     let c := { withMover v queueRun with trk := [x] }
     let a : Access := { op := .write, opcode := 0x18, addr := descB v.desc + 32 * e.k, count := 1, data := gransData [doneGran 0 6] }
     e.ended = none ∧ e.waiting = false ∧ e.writing = false ∧ descOpcode v.desc = 1 ∧ descCount v.desc ≤ v.nextElem ∧ accessOk 0 e.k x (st c) ∧
      canIssue 0 e.k (queueGet c 3).domain a (dropAccess x.id c)) ∧
    (let e : Elem := { k := 0, waiting := true, writing := true }
     let v := running copyD [e] 1
     let c := withMover v queueRun
     movesIn 0 3 .running (st c) ∧ v.inflight = [e] ∧ e.waiting = true ∧ e.trk = none ∧ e.ended = none ∧ e.got = [] ∧ descOpcode v.desc ≠ 3 ∧
      canIssue 0 e.k (queueGet c 3).domain (elemAccess v.desc e) c) := by
  unfold movesIn accessOk canIssue; decide +kernel
theorem wit_MoverElements_ends :
    (let v := running fenceD [] 0
     let c := withMover v queueRun
     movesIn 0 3 .running (st c) ∧ descOpcode v.desc = 7 ∧ descCount v.desc = 0 ∧ accessesBack c 0 c.movers[(0 : Fin 16)] = true ∧ shadowsDone c 3 false = true ∧
      v.countB = 0 ∧ v.lowFail = none ∧ v.bulkFailed = false ∧ v.streamLost = false ∧ v.entryEcc = 0 ∧
      descComplete v.desc = false ∧ descEnd v.desc = false ∧ descYield v.desc = false ∧ (queueGet c 3).state = 2) ∧
    (let v : Mover := { running (2 + 2 ^ 8) [] 0 with phase := .record 0 0 }
     let x := accTrk recordElem .write [doneGran 2 0]
     let c := { withMover v queueRun with trk := [x] }
     movesIn 0 3 (.record 0 0) (st c) ∧ accessOk 0 recordElem x (st c) ∧ v.entryEcc = 0 ∧ (queueGet c 3).notifyMode = 0 ∧
      (queueGet c 3).state = 2 ∧ descEnd v.desc = true ∧ descYield v.desc = false) := by
  unfold movesIn accessOk; decide +kernel

/-! ## Housekeeping, registers, side logic, rules -/

theorem wit_Housekeeping :
    ((6 : Fin 64).val < 7 ∧ up.power.stage ≠ .off) ∧ (42 ≤ (63 : Fin 64).val ∧ (vRange (63 - 42)).1 ≤ 1000 ∧ 1000 ≤ (vRange (63 - 42)).2) ∧
    (up.power.stage = .ready ∧ up.therm.steps.toList.getD 18 0 = 0 ∧ (∀ x ∈ up.therm.vOut.toList, x < 2) ∧
      (∀ i : Fin 17, (Vector.replicate 17 12)[i] = layerPower (up.therm.acts.toList.getD (i.val + 1) 0)) ∧
      ∃ est, est = stackPower (Vector.replicate 17 12).toList.sum
        (Config.basePower (up.therm.xbarActs + 5) up.therm.atomicActs (up.therm.moverActs + 6)) (portPower up)) ∧
    (47 ≤ (63 : Fin 64).val ∧ vIgnored up (63 - 42) = false ∧ up.power.everReady = true) ∧
    selfRefreshOk { up with power := { up.power with srRequest := true } } = true ∧ up.power.selfRefresh = false :=
  ⟨by decide +kernel, by decide +kernel, ⟨by decide +kernel, by decide +kernel, by decide +kernel, by decide +kernel, _, rfl⟩,
    by decide +kernel, by decide +kernel, by decide +kernel⟩

theorem wit_ThermalShutdown : 2 ≤ 17 ∧ 17 ≤ 17 ∧ (41 : Fin 64).val = 9 + 2 * (17 - 1) ∧
    10 * (up.therm.levels.toList.getD 5 0 : Int) ≤ 1050 ∧ up.power.stage ≠ .off ∧ up.power.stage ≠ .shutdown := by decide +kernel

theorem wit_RegisterAccess :
    (served 0x10 mg (st up) ∧ 1 ≤ 252 ∧ 252 ≤ 252 ∧ regRangeOk 0x0 252 = true ∧ up.mgr.latches = []) ∧ served 0x11 mg (st up) ∧
    up.life.fwRunning = true ∧ 127 ≤ 127 ∧ sparseWf (fun _ => 0) [(1, 4), (9, 2)] = true ∧ counterRo 1 = false ∧ (counterWidth 1).isSome = true := by
  unfold served; decide +kernel

theorem wit_SpdmAnswers : spdmServed (.port 0) up = true ∧ identityLive up = true ∧ up.life.keyReg = some 0 ∧ identityLive { up with life := { up.life with slotInUse := none } } = false ∧
    served 0xA1 mg (st up) ∧ spdmServed mg.via (takenUp 0xA1 mg up) = true ∧ 1 ≤ 5 := by unfold served; decide +kernel
theorem wit_MctpEndpoint : mctpOn up = true ∧ sideOn up = true ∧ ({ class5 := true } : Umpire).class5 = true ∧ 1 ≠ 0 ∧ 1 ≠ 5 ∧ 1 ≠ 0x7F := by decide +kernel
theorem wit_I3cCommandCodes : sideOn up = true ∧ (0x48 : BitVec 7) = BitVec.ofNat 7 (0x48 + up.power.addrSel.val) ∧ up.side.dynAddr = none ∧
    ({ dynAddr := some 9 } : Side).dynAddr = some 9 := by decide +kernel
theorem wit_TestAccessPort : sideOn up = true ∧ tapOpen up = false ∧ tapOpen { up with life := {} } = true := by decide +kernel
theorem wit_OnlyStorersChangeDram : storesDram .regTick = false ∧ ∃ t, exec .regTick State.reset = .next t := ⟨rfl, _, rfl⟩
theorem wit_DefaultLayout : (∀ n, n < 136 → sliceIsOut up n = false) ∧ 2097151 < 2097152 := by decide +kernel
theorem wit_LaneMapRule : laneMap 16 0x0FFFF = some { width := 16, group := 0, spare := none } ∧ laneMap 16 0x1FFFE = some { width := 16, group := 0, spare := some 0 } ∧
    laneMap 16 0x0FF00 = some { width := 8, group := 1, spare := none } ∧ laneMap 16 0x1EEEE = some { width := 4, group := 0, spare := some 0 } ∧ laneMap 16 0x0EEEE = none := by
  decide +kernel
theorem wit_ImageAcceptance :
    sparseWf (fun _ => unmappedEntry) [(0, layoutEntry .default 0), (5, layoutEntry .default 0)] = true ∧
    firstBad up [] [(0, layoutEntry .default 0), (5, layoutEntry .default 0)] = some 5 ∧
    firstBad up [] [(0, layoutEntry .default 0), (5, layoutEntry .default 5)] = none := by decide +kernel

/-! ## WellFormed: one ill-formed command for each check -/

def hdr0 : ReqHdr := { port := 0, tag := 1, domain := 0, tc := false, cmpl := true, release := false, param := 0, addr := 0, len := 0, slots := [], pmEcc := 0 }
def noChain : Chain := { intermediate := [], device := [], devKey := 0, verifies := true }
def histOk : LaneHist := { lane := 0, pc := 0, bins := List.replicate 128 (0, 0) }

theorem test_wf_accepts :
    wellFormed (.read32 hdr0) = true ∧ wellFormed (.identify mg) = true ∧ wellFormed (.resetWarm mg goodPost) = true ∧
      wellFormed (.calUnitComplete 0 [histOk]) = true ∧ wellFormed (.sleepReq 0 ⟨0x220, 0⟩) = true ∧ wellFormed .regTick = true := by decide +kernel

theorem test_wf_refuses_request :
    wellFormed (.read32 { hdr0 with tag := 2048 }) = false ∧ wellFormed (.read64 { hdr0 with domain := 64 }) = false ∧
      wellFormed (.read128 { hdr0 with addr := 2 ^ 37 }) = false ∧ wellFormed (.write32 { hdr0 with len := 1 }) = false ∧
      wellFormed (.write256 { hdr0 with len := 256, slots := List.replicate 256 0 }) = false ∧ wellFormed (.fence { hdr0 with pmEcc := 4 }) = false ∧
      wellFormed (.unassignedOpcode 256 hdr0) = false := by decide +kernel

theorem test_wf_refuses_self_test :
    wellFormed (.resetNDeassert { goodPost with badBonds := [{ chan := 0, column := 104, layer := 0 }] }) = false ∧
      wellFormed (.refclkPresent { goodPost with badBonds := [{ chan := 0, column := 0, layer := 18 }] }) = false ∧
      wellFormed (.thermalRestart { goodPost with hists := [⟨0, [{ histOk with bins := [] }]⟩] }) = false ∧
      wellFormed (.resetWarm mg { goodPost with hists := [⟨135, [{ histOk with pc := 2 }]⟩] }) = false ∧
      wellFormed (.fwActivate mg true { goodPost with hists := [⟨0, [{ histOk with lane := 52 }]⟩] }) = false := by decide +kernel

theorem test_wf_refuses_histogram :
    wellFormed (.calUnitComplete 0 [{ histOk with bins := [] }]) = false ∧ wellFormed (.calUnitComplete 0 [{ histOk with pc := 2 }]) = false ∧
      wellFormed (.calUnitComplete 0 [{ histOk with lane := 52 }]) = false ∧ wellFormed (.calUnitComplete 0 [{ histOk with pc := 1, lane := 48 }]) = false := by
  decide +kernel

theorem test_wf_refuses_event :
    wellFormed (.dataReady (2 ^ 24)) = false ∧ wellFormed (.signalDetect 0 18) = false ∧ wellFormed (.prbsCheckComplete 0 0 (2 ^ 32) true true) = false ∧
      wellFormed (.init 0 ⟨2, 0⟩) = false ∧ wellFormed (.initDone ⟨0, 1, 0⟩) = false ∧ wellFormed (.nak 0 ⟨0x11, 0⟩) = false ∧
      wellFormed (.sleepReq 0 ⟨0x20, 0⟩) = false ∧ wellFormed (.sleepReq 0 ⟨0x320, 0⟩) = false ∧ wellFormed (.sleepAck ⟨0, 0x20, 0⟩ true) = false ∧
      wellFormed (.sleepNak 0 ⟨0x21, 0⟩) = false ∧ wellFormed (.wakeReq ⟨0, 0x22, 0⟩) = false ∧ wellFormed (.elementResult 0 ⟨0, 4⟩) = false ∧
      wellFormed (.eyeScanComplete 0 [[]]) = false ∧ wellFormed (.moverTakeQueue 0 3) = false ∧ wellFormed (.shadowWrite (2 ^ 21)) = false ∧ wellFormed (.targetedRefresh 0 0 32768) = false ∧
      wellFormed (.openPageTimeout 0 160) = false ∧ wellFormed (.istStep 0 [(104, true)] []) = false ∧ wellFormed (.istStep 0 [] [(48, 0)]) = false ∧
      wellFormed (.windowWorkStart 0 [⟨0, [(104, true)], []⟩]) = false ∧ wellFormed (.bistComplete 1 ⟨[(136, 0, 1)], false, false, false⟩ false []) = false ∧
      wellFormed (.bistComplete 1 ⟨[(0, 32, 1)], false, false, false⟩ false []) = false ∧
      wellFormed (.bistComplete 1 ⟨[(0, 0, 2 ^ 31)], false, false, false⟩ false []) = false ∧ wellFormed (.mark 65536) = false ∧
      wellFormed (.leaseExpiry 0 0 256) = false ∧ wellFormed (.shotClockExpiry 0) = false ∧ wellFormed (.shotClockExpiry 65536) = false ∧
      wellFormed (.hkConversion 0 ⟨some 4096, false⟩) = false ∧ wellFormed (.hkConversion 0 ⟨some (-2049), false⟩) = false ∧ wellFormed (.eraseComplete [136]) = false ∧
      wellFormed (.istUnitDue 0 (2 ^ 32)) = false ∧ wellFormed (.txn { hdr0 with pmEcc := 65536 }) = false := by decide +kernel

theorem test_wf_refuses_management :
    wellFormed (.identify { mg with tag := 2048 }) = false ∧ wellFormed (.identify { mg with vendor := 2 ^ 32 }) = false ∧
      wellFormed (.identify { mg with bodyLen := 65536 }) = false ∧ wellFormed (.identify { mg with frag := 16 }) = false ∧
      wellFormed (.identify { mg with fragLen := 1024 }) = false ∧ wellFormed (.getStatus { mg with seq := 65536 }) = false ∧
      wellFormed (.commandFragment mg 65536 0 0 0 0 false true) = false ∧ wellFormed (.commandFragment mg 0 256 0 0 0 false true) = false ∧
      wellFormed (.commandFragment mg 0 0 65536 0 0 false true) = false ∧ wellFormed (.commandFragment mg 0 0 0 65536 0 false true) = false ∧
      wellFormed (.commandFragment mg 0 0 0 0 65536 false true) = false ∧ wellFormed (.regRead mg (2 ^ 24) 1) = false ∧
      wellFormed (.regRead mg 0 256) = false ∧ wellFormed (.regWrite mg (2 ^ 24) []) = false ∧
      wellFormed (.regWrite mg 0 (List.replicate 256 0)) = false ∧ wellFormed (.pagemapRead mg (2 ^ 32) false 1) = false ∧
      wellFormed (.pagemapRead mg 0 false 65536) = false := by decide +kernel

theorem test_wf_refuses_page_map :
    wellFormed (.pagemapUpdate mg [{ hpn := 2 ^ 21, kind := 0, domain := 0, shared := false, ppn := 0 }]) = false ∧
      wellFormed (.pagemapUpdate mg [{ hpn := 0, kind := 16, domain := 0, shared := false, ppn := 0 }]) = false ∧
      wellFormed (.pagemapUpdate mg [{ hpn := 0, kind := 0, domain := 64, shared := false, ppn := 0 }]) = false ∧
      wellFormed (.pagemapUpdate mg [{ hpn := 0, kind := 0, domain := 0, shared := false, ppn := 2 ^ 22 }]) = false ∧
      wellFormed (.mirrorSet mg (2 ^ 21) true) = false ∧ wellFormed (.mirrorResolve mg (2 ^ 21) 0 true) = false ∧
      wellFormed (.mirrorResolve mg 0 2048 true) = false ∧ wellFormed (.benchDonate mg [2 ^ 21]) = false := by decide +kernel

theorem test_wf_refuses_settings :
    wellFormed (.queueConfigure mg 65536 0 0) = false ∧ wellFormed (.queueConfigure mg 0 65536 0) = false ∧ wellFormed (.queueEnable mg 65536) = false ∧
      wellFormed (.domainSet mg 0 false 256 [0, 0, 0, 0]) = false ∧ wellFormed (.domainSet mg 0 false 0 []) = false ∧
      wellFormed (.regulationSet mg 256 []) = false ∧ wellFormed (.regulationSet mg 0 []) = false ∧ wellFormed (.beatSetNumber mg 256 0 0) = false ∧
      wellFormed (.beatSetNumber mg 0 (2 ^ 64) 0) = false ∧ wellFormed (.beatSetNumber mg 0 0 (2 ^ 64)) = false ∧
      wellFormed (.changeoverConfigure mg true 64 0 0) = false ∧ wellFormed (.changeoverConfigure mg true 0 32 0) = false ∧
      wellFormed (.changeoverConfigure mg true 0 0 64) = false ∧ wellFormed (.thermalConfigure mg [] 0) = false ∧
      wellFormed (.thermalConfigure mg [0, 0, 0, 0, 0, 256] 0) = false ∧ wellFormed (.thermalConfigure mg [0, 0, 0, 0, 0, 0] 65536) = false := by
  decide +kernel

theorem test_wf_refuses_maintenance :
    wellFormed (.maintStart mg 256 0 0) = false ∧ wellFormed (.maintStart mg 0 256 0) = false ∧ wellFormed (.maintStart mg 0 0 65536) = false ∧
      wellFormed (.maintStatus mg 65536) = false ∧ wellFormed (.maintAbort mg 65536) = false ∧ wellFormed (.faultLogRead mg 65536 0 false) = false ∧
      wellFormed (.faultLogRead mg 0 256 false) = false ∧ wellFormed (.faultAck mg 65536 0) = false ∧ wellFormed (.faultAck mg 0 65536) = false ∧
      wellFormed (.layerReset mg 256 true true) = false ∧ wellFormed (.scorecardRead mg 65536 0 false) = false ∧
      wellFormed (.scorecardRead mg 0 256 false) = false := by decide +kernel

theorem test_wf_refuses_firmware :
    wellFormed (.fwLoadBegin mg (2 ^ 32)) = false ∧ wellFormed (.fwLoadChunk mg (2 ^ 32) []) = false ∧ wellFormed (.fwLoadChunk mg 0 (List.replicate 1009 0)) = false ∧
      wellFormed (.lifecycleTransition mg 256 0 0 false noChain) = false ∧ wellFormed (.lifecycleTransition mg 0 256 0 false noChain) = false ∧
      wellFormed (.spdmMessage mg 256 0) = false ∧ wellFormed (.bootBlock mg 256 0 0 false false [] found) = false ∧
      wellFormed (.bootBlock mg 0 (2 ^ 32) 0 false false [] found) = false ∧ wellFormed (.bootBlock mg 0 0 1024 false false (List.replicate 1024 0) found) = false ∧
      wellFormed (.bootBlock mg 0 0 0 false false [0] found) = false ∧ wellFormed (.unassignedCommandOpcode mg 65536) = false := by
  decide +kernel

theorem test_wf_refuses_sideband :
    wellFormed (.getCertificate .i3c 8 0 0) = false ∧ wellFormed (.getCertificate .i3c 0 65536 0) = false ∧ wellFormed (.getCertificate .i3c 0 0 65536) = false ∧
      wellFormed (.challenge .i3c 256 0) = false ∧ wellFormed (.challenge .i3c 0 256) = false ∧ wellFormed (.getMeasurements .i3c 256 true) = false ∧
      wellFormed (.unsupportedMctpMessageType 128) = false ∧ wellFormed (.unsupportedSpdmRequest .i3c 256) = false ∧ wellFormed (.portMaxRate 0 4) = false ∧
      wellFormed (.dlyTap 0 true 128) = false ∧ wellFormed (.scClear 65536 1) = false ∧ wellFormed (.scClear 0 128) = false ∧
      wellFormed (.registerWrite .i3c (2 ^ 24) 0) = false := by decide +kernel

/-- The four steps of a unit of IST_TSV at layer 3 of channel 0, with the bonds that fail. -/
def bondUnit (bonds : List (Nat × Bool)) (c : Ctl) : Ctl := (List.range 4).foldl (fun c _ => bondStep 10 0 bonds c) c
/-- R329: a bond that fails at reduced drive is marginal, one that fails again is remapped, one that passes is marginal no more, one that
fails at full drive is remapped in its step, and a column that a spare carries is not tested. -/
theorem test_tsv_marginal :
    ((bondUnit [(5, true)] {}).chans[0]).marginal = [(5, 3)] ∧
      ((bondUnit [] (bondUnit [(5, true)] {})).chans[0]).marginal = [] ∧
      ((bondUnit [(5, true)] (bondUnit [(5, true)] {})).chans[0]).spareMap = 0x85 ∧
      ((bondStep 10 0 [(5, false)] {}).chans[0]).sparesFree = 3 ∧
      ((bondUnit [(5, false)] (bondUnit [(5, false)] {})).chans[0]).sparesFree = 3 := by decide +kernel

/-- R462: ALERT_N is released in HOLD whatever the log holds, and asserted in class 5. -/
theorem test_alert_ball :
    alertBall { up with power := { up.power with holdReason := 8 }, umpire := { up.umpire with class4 := true } } = true ∧
      alertBall { up with power := { up.power with holdReason := 7 }, umpire := { up.umpire with class5 := true } } = false ∧
      alertBall { up with umpire := { up.umpire with class4 := true } } = false := by decide +kernel

/-! ## The worked examples of the spec -/

/-- The address example: host page 732,238, granule 978 (R20 to R24). -/
theorem test_address_example :
    (layoutEntry .default 732238).ppn = 0x139658 ∧ ppnSlice 0x139658 = 78 ∧ ppnChan 0x139658 = 14 ∧ ppnRank 0x139658 = 2 ∧ sliceLayer 78 = 11 ∧
      keyPc (granKey 0x139658 978) = 0 ∧ keyBank (granKey 0x139658 978) = 9 ∧ keyRow (granKey 0x139658 978) = 11440 := by decide +kernel

/-- Lane 11 bad: x16 with lane 11 on the spare; lanes 3 and 11 bad: x8, group 0, lane 3 on the spare (R41). -/
theorem test_lane_map_example :
    laneMap 16 (BitVec.ofNat 17 (0x1FFFF - 2 ^ 11)) = some { width := 16, group := 0, spare := some 11 } ∧
      laneMap 16 (BitVec.ofNat 17 (0x1FFFF - 2 ^ 11 - 2 ^ 3)) = some { width := 8, group := 0, spare := some 3 } := by decide +kernel

/-- 0.1 + 0.2 in binary64 (R140). -/
theorem test_fp_example : fpAdd binary64 0x3FB999999999999A 0x3FC999999999999A = 0x3FD3333333333334 := by decide +kernel

/-- A descriptor's control word (R157), and the DETAIL of a rejected calibration (R316, R317). -/
theorem test_descriptor_example :
    (let d : BitVec 512 := BitVec.ofNat 512 0x0000271000110903
     descOpcode d = 3 ∧ descTag d = 0x11 ∧ descCount d = 10000) ∧ calDetail 45 1 27 3 67 36 = 0x2487B72D := by decide +kernel

/-- The calibration examples: the centre and the half width of three eyes (R316). -/
theorem test_centre_example :
    (chooseCentre ((List.range 128).map fun i => if 38 ≤ i ∧ i ≤ 101 then (2048, 0) else (2048, 1))) = (69, 64) ∧
      (chooseCentre ((List.range 128).map fun i => if 30 ≤ i ∧ i ≤ 95 then (2048, 0) else (2048, 1))) = (62, 66) ∧
      (chooseCentre ((List.range 128).map fun i => if 50 ≤ i ∧ i ≤ 85 then (2048, 0) else (2048, 1))) = (67, 36) := by decide +kernel

/-- The regulation example: a floor of 1,712.1 GB/s for 1,760.0 (R251), and the indices of two counters (R445). -/
theorem test_scale_and_index_example : scaleFor (17121 * 256) 17600 = 63752 ∧ cIdx 13 2 = 0x1342 ∧ laneIdx 2 10 0 = 0x2B0 := by decide +kernel

theorem wit_AtomicResults : (32 = 32 ∨ 32 = 64) ∧ 2 ^ 32 - 1 < 2 ^ 32 ∧ 224 + 32 ≤ 256 ∧ 255 < 256 := by decide +kernel
theorem wit_CentreRule : (∀ b ∈ [((1023 : Nat), (0 : Nat)), (1024, 1)], binOpen b = false) ∧ ∃ b ∈ [((1023 : Nat), (0 : Nat)), (1024, 0)], binOpen b = true := by
  decide +kernel
theorem wit_FlitLayout : 15 < 16 ∧ 4095 < 4096 ∧ 3 < 4 ∧ 16383 < 16384 ∧ [(0 : Slot), 0, 0, 0].length ≤ 4 := by decide
theorem wit_TransmitOrder :
    ({ upPort with sinceSkip := 2047 } : Port).sinceSkip = 2047 ∧
    (let q : Port := { upPort with sinceSkip := 2046, line := { queue := [(5, [])] } }
     q.sinceSkip < 2047 ∧ q.link ≠ .linkInit ∧ q.nakQueue = [] ∧ q.sleepOut = [] ∧ q.line.queue = [(5, [])]) ∧
    (upPort.sinceSkip < 2047 ∧ upPort.link ≠ .linkInit ∧ upPort.nakQueue = [] ∧ upPort.sleepOut = [] ∧ upPort.line.queue = []) ∧
    ({ upPort with nakQueue := [4095] } : Port).nakQueue = [4095] ∧ ({ upPort with link := .linkInit } : Port).link = .linkInit ∧
    ({ cretTurn := 3 } : TxLine).cretTurn = 3 := by decide +kernel

/-- An empty PKT flit laid out from its fields is the flit whose CRC-32C (R67) was worked out apart from the model. -/
theorem test_flitWord : flitWord 1 0 0 0 [] = pktF := by
  have z : ∀ x, x = 1 → BitVec.ofNat 576 (x + 2 ^ 544 * crc32c 68 x) = pktF := by
    intro x h
    subst h
    have a : crcPart 1 0 0xFFFFFFFF = 2062975049 := by decide +kernel
    have b : crcPart 1 136 2062975049 = 1479658905 := by decide +kernel
    have c : crcPart 1 272 1479658905 = 348663344 := by decide +kernel
    have d : crcPart 1 408 348663344 = 1005296940 := by decide +kernel
    rw [crc_parts, a, b, c, d]
    decide +kernel
  exact z _ (by decide +kernel)

end Sys2Proof.Tests
end

section
/-! SUPPORT. The state after power-on reset: an empty DRAM is in canonical form, and every unit of a kind starts at the Reset column
of its register table. -/

namespace Sys2Proof.Machine

/-- A state that lists nothing in DRAM holds it in canonical form. -/
theorem memOk_of_dram_nil {s : State} (h : s.dram = []) : s.memOk := by
  rw [State.memOk, h]; rfl

/-- Each port starts at the reset values of R438. -/
theorem reset_port (p : Fin 4) : State.reset.ctl.ports[p] = {} := Vector.getElem_replicate p.isLt

/-- Each channel controller starts at the reset values of R442. -/
theorem reset_chan (c : Fin 32) : State.reset.ctl.chans[c] = {} := Vector.getElem_replicate c.isLt

/-- Each mover starts at the reset values of R441. -/
theorem reset_mover (m : Fin 16) : State.reset.ctl.movers[m] = {} := Vector.getElem_replicate m.isLt

/-- Each region starts at the reset values of R440. -/
theorem reset_region (r : Fin 4) : State.reset.ctl.regions[r] = {} := Vector.getElem_replicate r.isLt

/-- Settles O3: DRAM is empty, each array holds copies of one unit at its reset values, and the registers of GLOBAL and of the umpire
stand at theirs (R435, R437). -/
theorem resetValues : Obligations.ResetValues := by
  refine ⟨memOk_of_dram_nil rfl, rfl, rfl, rfl, fun p => ?port, fun c => ?chan, fun m => ?mover, fun r => ?region,
    rfl, rfl, rfl, rfl, rfl, rfl⟩
  case port => rw [reset_port]; exact ⟨rfl, rfl, rfl, rfl, rfl⟩
  case chan => rw [reset_chan]; exact ⟨rfl, rfl, rfl, rfl, rfl⟩
  case mover => rw [reset_mover]; exact ⟨rfl, rfl⟩
  case region => rw [reset_region]; exact ⟨rfl, rfl⟩

end Sys2Proof.Machine
end

section
/-! SUPPORT. The default layout of the page map (R23, R417) in a stack with every slice in service. -/

namespace Sys2Proof.Machine

open Sys2Proof

variable {c : Ctl}

/-- No slice of a range is listed when none of them satisfies the test. -/
theorem slicesWith_eq_nil {p : Nat → Bool} {lo n : Nat} (h : ∀ i, i < n → p (lo + i) = false) : slicesWith p lo n = [] := by
  unfold slicesWith
  rw [List.filter_eq_nil_iff]
  intro s hs
  obtain ⟨i, hi, rfl⟩ := List.mem_map.mp hs
  simp [h i (List.mem_range.mp hi)]

/-- With every user slice in service no host page is displaced (R417): the map lists no entry beside its layout's. -/
theorem initDefault_entries (result bad : Nat) (h : ∀ n, n < 128 → sliceIsOut c n = false) :
    (initDefault result bad c).pm.entries = [] := by
  have hs : slicesWith (sliceIsOut c) 0 128 = [] := slicesWith_eq_nil fun i hi => by rw [Nat.zero_add]; exact h i hi
  unfold initDefault freshMap
  rw [hs]
  rfl

/-- The page map then reads as R23 lays it out. -/
theorem pmGet_initDefault (result bad : Nat) (h : ∀ n, n < 128 → sliceIsOut c n = false) (hpn : Nat) :
    pmGet (initDefault result bad c) hpn = layoutEntry .default hpn := by
  unfold pmGet
  rw [initDefault_entries result bad h]
  rfl

/-- The slice of a rank and a channel below the spare slices has that channel and that rank (R21). -/
theorem slice_chan_rank {rank chan : Nat} (hr : rank < 4) (hc : chan < 32) :
    rank * 32 + chan < 128 ∧ sliceChan (rank * 32 + chan) = Fin.ofNat 32 chan ∧ sliceRank (rank * 32 + chan) = rank := by
  have hs : rank * 32 + chan < 128 := by omega
  refine ⟨hs, ?chan, ?rank⟩
  case chan => rw [sliceChan, if_pos hs]; apply Fin.ext; simp [Fin.ofNat]
  case rank => rw [sliceRank, if_pos hs]; omega

/-- Settles O52: with every slice in service the map reads as its layout (R417), and the layout's page number splits into rank,
channel and page within the slice as R21 has it. -/
theorem defaultLayout : Obligations.DefaultLayout := by
  intro result bad c hin h hh
  have he : pmGet (initDefault result bad c) h = layoutEntry .default h :=
    pmGet_initDefault result bad (fun n hn => hin n (by omega)) h
  have hdiv : ((h / 32 % 4 * 32 + h % 32) * 16384 + h / 128) / 16384 = h / 32 % 4 * 32 + h % 32 := by omega
  have hmod : ((h / 32 % 4 * 32 + h % 32) * 16384 + h / 128) % 16384 = h / 128 := by omega
  obtain ⟨hlt, hchan, hrank⟩ := slice_chan_rank (rank := h / 32 % 4) (chan := h % 32) (by omega) (by omega)
  have hppn : (layoutEntry .default h).ppn = (h / 32 % 4 * 32 + h % 32) * 16384 + h / 128 := rfl
  rw [he, hppn, hdiv, hmod]
  exact ⟨rfl, hlt, hchan, hrank, rfl⟩

end Sys2Proof.Machine
end

section
/-! SUPPORT. What the umpire's reactions and the loss of a link can do to power, links and the umpire's classes (R51, R285 to R296): of
power they touch the ranks' sleep, self-refresh and the changeovers alone, a link stays as it is or goes to DETECT, and class 4, once
entered, stays. -/

namespace Sys2Proof.Machine

open Sys2Proof

variable {c d : Ctl}

/-- A state that a reaction leaves, seen from the state that it found. -/
structure Reacted (c d : Ctl) : Prop where
  power : d.power = { c.power with
    ranksAsleep := d.power.ranksAsleep, selfRefresh := d.power.selfRefresh, changeoversRun := d.power.changeoversRun }
  link : ∀ p : Fin 4, d.ports[p].link = c.ports[p].link ∨ d.ports[p].link = .detect
  class4 : c.umpire.class4 = true → d.umpire.class4 = true

namespace Reacted

theorem refl (c : Ctl) : Reacted c c := ⟨rfl, fun _ => .inl rfl, id⟩

theorem trans {e : Ctl} (h : Reacted c d) (k : Reacted d e) : Reacted c e where
  power := by rw [k.power, h.power]
  link p := by
    obtain hk | hk := k.link p
    · rw [hk]; exact h.link p
    · exact .inr hk
  class4 := k.class4 ∘ h.class4

/-- An operation outside power, ports and the umpire. -/
theorem of_eq (hpower : d.power = c.power) (hports : d.ports = c.ports) (humpire : d.umpire = c.umpire) : Reacted c d :=
  ⟨by rw [hpower], fun p => .inl (by rw [hports]), by rw [humpire]; exact id⟩

/-- An operation that changes ports as sending does, outside power and the umpire. -/
theorem of_sent (hpower : d.power = c.power) (hsent : ∀ p : Fin 4, SentFrom c.ports[p] d.ports[p]) (humpire : d.umpire = c.umpire) :
    Reacted c d :=
  ⟨by rw [hpower], fun p => .inl (hsent p).link, by rw [humpire]; exact id⟩

/-- A link that is in DETECT stays there. -/
theorem detect (h : Reacted c d) {p : Fin 4} (hp : c.ports[p].link = .detect) : d.ports[p].link = .detect := by
  obtain hk | hk := h.link p
  · rw [hk, hp]
  · exact hk

theorem refclk (h : Reacted c d) : d.power.refclk = c.power.refclk := by rw [h.power]
theorem pllHold (h : Reacted c d) : d.power.pllHold = c.power.pllHold := by rw [h.power]
theorem stage (h : Reacted c d) : d.power.stage = c.power.stage := by rw [h.power]

end Reacted

theorem foldl_reacted {α : Type} (l : List α) {f : Ctl → α → Ctl} (h : ∀ c a, Reacted c (f c a)) (c : Ctl) : Reacted c (l.foldl f c) := by
  induction l generalizing c with
  | nil => exact .refl c
  | cons a t ih => exact (h c a).trans (ih (f c a))

theorem forEach_reacted {α : Type} (l : List α) {f : α → Ctl → Ctl} (h : ∀ a c, Reacted c (f a c)) (c : Ctl) : Reacted c (forEach l f c) :=
  foldl_reacted l (fun c a => h a c) c

/-! ## Updates of one part -/

theorem bumpBy_reacted (i n : Nat) : Reacted c (bumpBy i n c) := .of_eq (by simp) (by simp) (by simp)
theorem bump_reacted (i : Nat) : Reacted c (bump i c) := bumpBy_reacted i 1
theorem setTrk_reacted (l : List Trk) : Reacted c { c with trk := l } := .of_eq rfl rfl rfl
theorem setMovers_reacted (l : Vector Mover 16) : Reacted c { c with movers := l } := .of_eq rfl rfl rfl
theorem setChans_reacted (l : Vector Chan 32) : Reacted c { c with chans := l } := .of_eq rfl rfl rfl
theorem setDraws_reacted (n : Nat) : Reacted c { c with draws := n } := .of_eq rfl rfl rfl
theorem modPm_reacted (f : PageMap → PageMap) : Reacted c (modPm f c) := .of_eq rfl rfl rfl
theorem modMgr_reacted (f : Mgr → Mgr) : Reacted c (modMgr f c) := .of_eq rfl rfl rfl
theorem modLife_reacted (f : Life → Life) : Reacted c (modLife f c) := .of_eq rfl rfl rfl
theorem modBeat_reacted (f : Beat → Beat) : Reacted c (modBeat f c) := .of_eq rfl rfl rfl
theorem modRegion_reacted (r : Fin 4) (f : Region → Region) : Reacted c (modRegion r f c) := .of_eq rfl rfl rfl
theorem modChan_reacted (ch : Fin 32) (f : Chan → Chan) : Reacted c (modChan ch f c) := .of_eq rfl rfl rfl
theorem modMover_reacted (m : Fin 16) (f : Mover → Mover) : Reacted c (modMover m f c) := .of_eq rfl rfl rfl
theorem queuePut_reacted (q : Nat) (v : Queue) : Reacted c (queuePut q v c) := .of_eq rfl rfl rfl
theorem usePut_reacted (ppn : Nat) (u : Use) : Reacted c (usePut ppn u c) := modPm_reacted _

theorem modUmpire_reacted {f : Umpire → Umpire} (h : c.umpire.class4 = true → (f c.umpire).class4 = true) : Reacted c (modUmpire f c) :=
  ⟨rfl, fun _ => .inl rfl, h⟩

/-- An update of power that leaves all but the ranks' sleep, self-refresh and the changeovers. -/
theorem modPower_reacted {f : Power → Power} (h : ∀ w, f w = { w with
      ranksAsleep := (f w).ranksAsleep, selfRefresh := (f w).selfRefresh, changeoversRun := (f w).changeoversRun }) :
    Reacted c (modPower f c) := ⟨h c.power, fun _ => .inl rfl, id⟩

theorem updateAlert_reacted : Reacted c (updateAlert c) := modUmpire_reacted id

theorem modPort_reacted (p : Fin 4) {f : Port → Port} (h : (f c.ports[p]).link = c.ports[p].link ∨ (f c.ports[p]).link = .detect) :
    Reacted c (modPort p f c) := by
  refine ⟨rfl, fun w => ?_, id⟩
  by_cases hw : w = p
  · subst hw; rw [modPort_self]; exact h
  · rw [modPort_other _ _ _ hw]; exact .inl rfl

/-! ## Responses and replies -/

theorem finishWith_self (st : Nat) (info : BitVec 32) (data : List Slot) (t : Trk) (p : Fin 4) :
    SentFrom c.ports[p] (finishWith st info data t c).ports[p] := by
  unfold finishWith
  split
  · rfl
  · split
    · rfl
    · split
      · rename_i q _ _ _ _ _
        by_cases h : p = q
        · subst h; exact pushResp_self (c := modTrk _ _ c) _ _
        · rw [pushResp_other _ _ _ h]; rfl
      · rfl

theorem endTrkWith_self (id st : Nat) (info : BitVec 32) (data : List Slot) (p : Fin 4) :
    SentFrom c.ports[p] (endTrkWith id st info data c).ports[p] := by
  unfold endTrkWith
  split
  · rfl
  · exact finishWith_self (c := { c with trk := _ }) _ _ _ _ p

theorem endTrkWith_reacted (id st : Nat) (info : BitVec 32) (data : List Slot) : Reacted c (endTrkWith id st info data c) :=
  .of_sent (by simp) (endTrkWith_self id st info data) (by simp)

theorem endTrk_reacted (id st : Nat) : Reacted c (endTrk id st c) := endTrkWith_reacted _ _ _ _

theorem replyTo_reacted (ref : CmdRef) (st op : Nat) (l : List Byte) : Reacted c (replyTo ref st op l c) :=
  .of_sent (by simp) (replyTo_self ref st op l) (by simp)

theorem replyParked_reacted (ref : CmdRef) (st : Nat) (l : List Byte) : Reacted c (replyParked ref st l c) := by
  unfold replyParked
  split
  · exact (modMgr_reacted _).trans (replyTo_reacted _ _ _ _)
  · exact .refl c

theorem notifyEntry_reacted (e : LogEntry) : Reacted c (notifyEntry e c) := .of_sent (by simp) (notifyEntry_self e) (by simp)

theorem logPlain_reacted (e : LogEntry) : Reacted c (logPlain e c) := by
  unfold logPlain
  split
  · exact (modUmpire_reacted id).trans (notifyEntry_reacted e)
  · exact .refl c

/-! ## Maintenance activities -/

theorem preemptAll_reacted (l : List Activity) : Reacted c (preemptAll l c) := by
  unfold preemptAll
  refine ((bumpBy_reacted _ _).trans (foldl_reacted l (fun x a => ?_) _)).trans (modMgr_reacted _)
  split
  · exact modMgr_reacted _
  · exact .refl x

theorem holdSpare_reacted (kind : Nat) : Reacted c (holdSpare kind c) := by
  unfold holdSpare
  split
  · exact modPm_reacted _
  · exact .refl c

theorem grantWaiting_reacted : Reacted c (grantWaiting c) := by
  refine forEach_reacted _ (fun a x => ?_) c
  split
  · exact ((preemptAll_reacted _).trans (holdSpare_reacted _)).trans (modMgr_reacted _)
  · exact .refl x

theorem askActivity_reacted (kind tt target : Nat) : Reacted c (askActivity kind tt target c) :=
  (modMgr_reacted _).trans grantWaiting_reacted

theorem endActivity_reacted (id st : Nat) (result : BitVec 32) : Reacted c (endActivity id st result c) := by
  unfold endActivity
  split
  · exact .refl c
  · refine .trans ?_ ((modMgr_reacted _).trans grantWaiting_reacted)
    split
    · exact modPm_reacted _
    · exact .refl c

/-! ## Slices and pages out of service (R290, R291) -/

theorem leaveSelfRefresh_reacted : Reacted c (leaveSelfRefresh c) := by
  unfold leaveSelfRefresh
  split
  · exact ⟨rfl, fun _ => .inl rfl, id⟩
  · exact .refl c

theorem startSubstitution_reacted (s : Nat) : Reacted c (startSubstitution s c) := by
  unfold startSubstitution
  split
  · exact .refl c
  · exact (leaveSelfRefresh_reacted.trans (modPm_reacted _)).trans (askActivity_reacted _ _ _)

theorem sliceOutOfService_reacted (s : Nat) : Reacted c (sliceOutOfService s c) := by
  unfold sliceOutOfService
  split
  · exact .refl c
  · exact (modChan_reacted _ _).trans (startSubstitution_reacted s)

theorem substitutePage_reacted (ppn : Nat) : Reacted c (substitutePage ppn c) := by
  have copy (d : Nat) (f : PageMap → PageMap) : Reacted c (modPm f (usePut d .target (leaveSelfRefresh c))) :=
    (leaveSelfRefresh_reacted.trans (usePut_reacted _ _)).trans (modPm_reacted f)
  unfold substitutePage
  split
  · exact usePut_reacted _ _
  · split
    · exact bump_reacted _
    · exact copy _ _
  · split
    · exact bump_reacted _
    · exact copy _ _
  · exact .refl c

/-! ## Class 4 (R287) -/

theorem dropHolds_reacted (id : Nat) : Reacted c (dropHolds id c) := .of_eq rfl rfl rfl

theorem endSeq_reacted (r : Fin 4) (q : LSeq) (st : Nat) : Reacted c (endSeq r q st c) := by
  have count : Reacted c (if q.state = .committing then c else bump (rIdx r 17) c) := by
    split
    · exact .refl c
    · exact bump_reacted _
  unfold endSeq
  extract_lets c1 stages c2 c3
  have h2 : Reacted c c2 := (count.trans (dropHolds_reacted _)).trans (modRegion_reacted _ _)
  have h3 : Reacted c2 c3 := forEach_reacted stages (fun _ _ => (dropHolds_reacted _).trans (endTrk_reacted _ _)) c2
  exact (h2.trans h3).trans (forEach_reacted _ (fun _ _ => endTrk_reacted _ _) c3)

theorem coordHalt_reacted (r : Fin 4) : Reacted c (coordHalt r c) := by
  unfold coordHalt
  extract_lets ts c1 c2 undone
  have h1 : Reacted c c1 := forEach_reacted ts (fun _ _ => (dropHolds_reacted _).trans (endTrkWith_reacted _ _ _ _)) c
  have h2 : Reacted c1 c2 := modRegion_reacted _ _
  exact (h1.trans h2).trans (forEach_reacted _ (fun _ _ => endSeq_reacted _ _ _) c2)

theorem pushShadow_reacted (who : Option (Nat × Nat)) (hpn g : Nat) (v : BitVec 320) : Reacted c (pushShadow who hpn g v c) := by
  unfold pushShadow
  exact modPm_reacted _

theorem acceptWrite_reacted (key : Nat) (v : BitVec 320) (hpn : Option Nat) : Reacted c (acceptWrite key v hpn c) := by
  have put (x : Ctl) (f : Chan → Chan) : Reacted x (if keyFailed x key then x else modChan (keyChan key) f x) := by
    split
    · exact .refl x
    · exact modChan_reacted _ _
  cases hpn with
  | none => exact put c _
  | some h => exact (pushShadow_reacted none h (keyGran key) v).trans (put _ _)

theorem finishKey_reacted (id : Nat) (k : Key) : Reacted c (finishKey id k c) := by
  unfold finishKey
  split
  · exact (acceptWrite_reacted _ _ _).trans (modChan_reacted _ _)
  · exact .refl c

theorem coordFinish_reacted (r : Fin 4) : Reacted c (coordFinish r c) := by
  unfold coordFinish
  extract_lets ts c1
  have h1 : Reacted c c1 := forEach_reacted ts (fun _ x => forEach_reacted _ (fun _ _ => finishKey_reacted _ _) x) c
  exact h1.trans (modRegion_reacted _ _)

theorem moverHalt_reacted (m : Fin 16) : Reacted c (moverHalt m c) := by
  unfold moverHalt
  extract_lets v disabled ran
  split
  · exact .refl c
  · extract_lets x c1 c2 c3 c4
    have h1 : Reacted c c1 := queuePut_reacted _ _
    have h2 : Reacted c1 c2 := setTrk_reacted _
    have h3 : Reacted c2 c3 := by
      unfold c3
      split
      · exact replyParked_reacted _ _ _
      · exact .refl c2
    have h4 : Reacted c3 c4 := bumpBy_reacted _ _
    exact (((h1.trans h2).trans h3).trans h4).trans (modMover_reacted _ _)

theorem enterHalt_reacted : Reacted c (enterHalt c) := by
  unfold enterHalt
  extract_lets c1 c2 c3 c4
  have h1 : Reacted c c1 :=
    leaveSelfRefresh_reacted.trans (forEach_reacted allRegions (fun r _ => (coordHalt_reacted r).trans (coordFinish_reacted r)) _)
  have h2 : Reacted c1 c2 := forEach_reacted _ (fun _ _ => endTrk_reacted _ _) c1
  have h3 : Reacted c2 c3 := forEach_reacted allMovers (fun m _ => moverHalt_reacted m) c2
  have h4 : Reacted c3 c4 := setChans_reacted _
  refine ((((h1.trans h2).trans h3).trans h4).trans ?_).trans (modBeat_reacted _)
  exact modPower_reacted fun _ => rfl

/-! ## Link loss and class 5 (R51, R288) -/

theorem endSeqsOf_reacted (p : Fin 4) : Reacted c (endSeqsOf p c) := forEach_reacted _ (fun _ _ => endSeq_reacted _ _ _) c

theorem linkLoss_reacted (p : Fin 4) : Reacted c (linkLoss p c) := by
  unfold linkLoss
  extract_lets sent c1 c2 c3 c4 c5 c6
  have h1 : Reacted c c1 := setTrk_reacted _
  have h2 : Reacted c1 c2 := (bump_reacted _).trans (modPort_reacted p (.inl rfl))
  have h3 : Reacted c2 c3 := endSeqsOf_reacted p
  have h4 : Reacted c3 c4 := setMovers_reacted _
  have h6 : Reacted c4 c6 := (bumpBy_reacted _ _).trans (modMgr_reacted _)
  have lost : Reacted c c6 := ((((h1.trans h2).trans h3).trans h4).trans h6)
  split
  · exact lost.trans (endActivity_reacted _ _ _)
  · exact lost

theorem portLockdown_reacted (p : Fin 4) : Reacted c (portLockdown p c) := by
  unfold portLockdown
  extract_lets c1 c2 off
  have h1 : Reacted c c1 := by
    unfold c1
    split
    · exact bumpBy_reacted _ _
    · exact .refl c
  have h2 : Reacted c1 c2 := by
    unfold c2
    split
    · exact linkLoss_reacted p
    · exact .refl c1
  exact (h1.trans h2).trans (modPort_reacted p (.inr rfl))

theorem enterLockdown_reacted : Reacted c (enterLockdown c) := by
  unfold enterLockdown
  extract_lets c1 c2 c3
  have h1 : Reacted c c1 := enterHalt_reacted.trans (forEach_reacted allPorts (fun p _ => portLockdown_reacted p) _)
  have h2 : Reacted c1 c2 := setDraws_reacted _
  exact ((h1.trans h2).trans (modLife_reacted _)).trans (modMgr_reacted _)

/-! ## Reactions and events (R285 to R300) -/

theorem slicesOut_reacted (f : Nat → Nat) (l : List Nat) : Reacted c (forEach l (fun k c => sliceOutOfService (f k) c) c) :=
  forEach_reacted l (fun _ _ => sliceOutOfService_reacted _) c

theorem codeReaction_reacted (code idx detail : Nat) : Reacted c (codeReaction code idx detail c) := by
  unfold codeReaction
  split
  · exact sliceOutOfService_reacted _
  split
  · exact (modChan_reacted _ _).trans (slicesOut_reacted _ _)
  split
  · exact usePut_reacted _ _
  split
  · exact modMover_reacted _ _
  split
  · exact queuePut_reacted _ _
  split
  · exact slicesOut_reacted _ _
  · exact .refl c

/-- The reaction of class 4 enters it. -/
theorem classReaction_four_class4 (code orig st idx detail : Nat) : (classReaction code orig st idx detail 4 c).umpire.class4 = true := by
  unfold classReaction
  simp only [Nat.reduceEqDiff, if_false, if_true]
  split
  · rfl
  · exact enterHalt_reacted.class4 rfl

theorem classReaction_reacted (code orig st idx detail k : Nat) : Reacted c (classReaction code orig st idx detail k c) := by
  unfold classReaction
  split
  · split
    · exact codeReaction_reacted _ _ _
    split
    · exact substitutePage_reacted _
    split
    · exact sliceOutOfService_reacted _
    · exact .refl c
  split
  · exact .of_eq rfl rfl rfl
  split
  · split
    · exact modUmpire_reacted fun _ => rfl
    · exact (modUmpire_reacted fun _ => rfl).trans enterHalt_reacted
  split
  · split
    · exact .refl c
    · exact (modUmpire_reacted id).trans enterLockdown_reacted
  · exact .refl c

theorem reactTo_reacted (e : LogEntry) : Reacted c (reactTo e c) := by
  unfold reactTo
  dsimp only
  split
  · exact (classReaction_reacted _ _ _ _ _ _).trans (classReaction_reacted _ _ _ _ _ _)
  · exact classReaction_reacted _ _ _ _ _ _

theorem raiseOverflow_reacted : Reacted c (raiseOverflow c) := by
  have log : ∀ e : LogEntry, Reacted c (notifyEntry e (reactTo e (bump (gIdx 19)
      (modUmpire (fun u => { u with overflow := some e, nextSeq := nextSeqOf u.nextSeq }) c)))) := fun e =>
    (((modUmpire_reacted id).trans (bump_reacted _)).trans (reactTo_reacted e)).trans (notifyEntry_reacted e)
  unfold raiseOverflow
  split
  · split
    · exact modUmpire_reacted id
    · exact log _
  · exact log _

theorem logFault_reacted (e : LogEntry) : Reacted c (logFault e c) := by
  unfold logFault
  dsimp only
  split
  · exact ((modUmpire_reacted id).trans (reactTo_reacted _)).trans (notifyEntry_reacted _)
  · exact ((bump_reacted _).trans (reactTo_reacted e)).trans raiseOverflow_reacted

/-- The umpire's record of an event, with the reactions that it takes (R284 to R302). -/
theorem recordEvent_reacted (code st idx detail : Nat) : Reacted c (recordEvent code st idx detail c) := by
  unfold recordEvent
  extract_lets known sliceOpen again merged plain counted c'
  have hagain (x : Ctl) : Reacted x (again x) := by
    unfold again
    split
    · exact classReaction_reacted _ _ _ _ _ _
    · exact .refl x
  have hmerged (p : LogEntry → Bool) (x : Ctl) : Reacted x (merged p x) := modUmpire_reacted id
  have hcounted : Reacted c counted := bump_reacted _
  have h : Reacted c c' := by
    unfold c'
    split
    · split
      · exact (bump_reacted _).trans (hmerged _ _)
      · exact (bump_reacted _).trans (logPlain_reacted _)
    split
    · exact (bump_reacted _).trans (modUmpire_reacted id)
    refine hcounted.trans ?_
    split
    · exact (hmerged _ _).trans (hagain _)
    split
    · exact logPlain_reacted _
    · exact logFault_reacted _
  exact h.trans updateAlert_reacted

theorem raiseEvent_reacted (code st idx detail : Nat) : Reacted c (raiseEvent code st idx detail c) := by
  unfold raiseEvent
  split
  · unfold benchCheck
    split
    · exact (recordEvent_reacted _ _ _ _).trans (recordEvent_reacted _ _ _ _)
    · exact recordEvent_reacted _ _ _ _
  · exact recordEvent_reacted _ _ _ _

/-! ## Class 4 is entered (R286, R294, R300) -/

theorem escalate_origCls (e : LogEntry) : (escalate c e).origCls = e.origCls := by
  unfold escalate
  split <;> rfl

theorem reactTo_class4 {e : LogEntry} (h : e.origCls = 4) : (reactTo e c).umpire.class4 = true := by
  unfold reactTo
  extract_lets r c1
  have h1 : c1.umpire.class4 = true := by
    unfold c1 r
    rw [h]
    exact classReaction_four_class4 _ _ _ _ _
  split
  · exact (classReaction_reacted _ _ _ _ _ _).class4 h1
  · exact h1

/-- A fault of class 4 takes its reaction with a slot of the log and without one. -/
theorem logFault_class4 {e : LogEntry} (h : e.origCls = 4) : (logFault e c).umpire.class4 = true := by
  unfold logFault
  extract_lets x
  split
  · exact (notifyEntry_reacted x).class4 (reactTo_class4 ((escalate_origCls e).trans h))
  · exact raiseOverflow_reacted.class4 (reactTo_class4 h)

/-- An event of class 4 leaves the stack in class 4, whether it merges or has an entry of its own. -/
theorem recordEvent_class4 {code : Nat} (st idx detail : Nat) (h : eventClass code = 4) :
    (recordEvent code st idx detail c).umpire.class4 = true := by
  have hge : 0x80 ≤ code := by
    by_contra hlt; revert h; unfold eventClass; repeat' split
    all_goals omega
  have hslice : isSliceCode code = false := by unfold isSliceCode; simp; omega
  have hloss : code ≠ 0x22 := by omega
  have hreq : isRequestEvent code = false := by unfold isRequestEvent; simp; omega
  unfold recordEvent
  simp only [hslice, hloss, hreq, h, Bool.false_and, Bool.false_eq_true, decide_false, if_false]
  refine updateAlert_reacted.class4 ?_
  split
  · exact classReaction_four_class4 code 4 st idx detail
  · exact logFault_class4 h

theorem raiseEvent_class4 {code st : Nat} (idx detail : Nat) (h : eventClass code = 4) (hst : st ≠ 7) :
    (raiseEvent code st idx detail c).umpire.class4 = true := by
  unfold raiseEvent
  simp only [hst, decide_false, Bool.false_and, Bool.false_eq_true, if_false]
  exact recordEvent_class4 st idx detail h

theorem stackClass_of_class4 {u : Umpire} (h : u.class4 = true) : 4 ≤ stackClass u := by
  unfold stackClass
  rw [if_pos h]
  split <;> omega

/-! ## DETECT (R35, R51) -/

theorem toDetect_steps (p : Fin 4) : ∃ d, Reacted c d ∧ d.ports[p].link = .detect ∧ Reacted d (toDetect p c) := by
  unfold toDetect
  extract_lets q lost failed n rx c1 c2
  have h1 : Reacted c c1 := by
    unfold c1
    split
    · exact linkLoss_reacted p
    · exact modPort_reacted p (.inl rfl)
  have h2 : Reacted c1 c2 := modPort_reacted p (.inr rfl)
  refine ⟨c2, h1.trans h2, by unfold c2; rw [modPort_self], ?_⟩
  split
  · exact (modPort_reacted p (.inl rfl)).trans (raiseEvent_reacted _ _ _ _)
  · exact .refl c2

theorem toDetect_reacted (p : Fin 4) : Reacted c (toDetect p c) := by
  obtain ⟨d, hd, _, ht⟩ := toDetect_steps (c := c) p
  exact hd.trans ht

theorem toDetect_link (p : Fin 4) : (toDetect p c).ports[p].link = .detect := by
  obtain ⟨d, _, hl, ht⟩ := toDetect_steps (c := c) p
  exact ht.detect hl

theorem forEach_toDetect_link {p : Fin 4} {l : List (Fin 4)} (h : p ∈ l) : (forEach l toDetect c).ports[p].link = .detect := by
  induction l generalizing c with
  | nil => exact absurd h List.not_mem_nil
  | cons a t ih =>
    obtain rfl | ht := List.mem_cons.mp h
    · exact (forEach_reacted t (fun q _ => toDetect_reacted q) _).detect (toDetect_link p)
    · exact ih ht

end Sys2Proof.Machine
end

section
/-! SUPPORT. REFCLK, HOLD, the thermal restart and data-ready (R29, R344, R414, R419): an equation for each case of the model's
functions, and what the floor's recomputation leaves of power. -/

namespace Sys2Proof.Machine

open Sys2Proof

variable {c : Ctl}

/-! ## HOLD (R414) -/

@[simp] theorem hold_power (reason : Nat) : (hold reason c).power = { c.power with stage := .hold, holdReason := reason } := rfl
@[simp] theorem hold_ports (reason : Nat) : (hold reason c).ports = c.ports := rfl
@[simp] theorem hold_therm (reason : Nat) : (hold reason c).therm = c.therm := rfl
@[simp] theorem hold_nextSeq (reason : Nat) : (hold reason c).umpire.nextSeq = c.umpire.nextSeq := rfl

/-! ## The loss of REFCLK (R29) -/

theorem clockGone_reacted : Reacted c (clockGone c) := by
  unfold clockGone
  refine .trans ?_ (modPower_reacted fun _ => rfl)
  exact (raiseEvent_reacted 0x80 0 0 0).trans (forEach_reacted allPorts (fun p _ => toDetect_reacted p) _)

theorem clockGone_asleep : (clockGone c).power.ranksAsleep = true := by
  unfold clockGone
  rw [modPower_power]

theorem clockGone_link (p : Fin 4) : (clockGone c).ports[p].link = .detect := by
  unfold clockGone
  rw [modPower_ports]
  exact forEach_toDetect_link (List.mem_finRange p)

theorem clockGone_stackClass : 4 ≤ stackClass (clockGone c).umpire := by
  unfold clockGone
  rw [modPower_umpire]
  refine stackClass_of_class4 ((forEach_reacted allPorts (fun p _ => toDetect_reacted p) _).class4 ?_)
  exact raiseEvent_class4 0 0 rfl (by decide)

/-- The clock's own state once REFCLK is lost: absent, with the timebase held. -/
def clockOff (c : Ctl) : Ctl := modPower (fun w => { w with refclk := false, pllHold := true }) c

@[simp] theorem clockOff_refclk : (clockOff c).power.refclk = false := rfl
@[simp] theorem clockOff_pllHold : (clockOff c).power.pllHold = true := rfl

/-- While the stack waits for boot blocks the loss of REFCLK holds the sequence as well (R414). -/
theorem refclkLost_boot (hs : c.power.stage = .boot) (hr : c.power.refclk = true) :
    refclkLost c = modPower (fun w => { w with warmStart := w.warmStart && (clockOff c).power.stage = .boot }) (hold 9 (clockGone (clockOff c))) := by
  unfold refclkLost
  simp [hs, hr, clockOff]

/-- In a data-ready stack it does not. -/
theorem refclkLost_ready (hs : c.power.stage = .ready) (hr : c.power.refclk = true) : refclkLost c = clockGone (clockOff c) := by
  unfold refclkLost
  simp [hs, hr, clockOff]

/-! ## REFCLK is back (R414) -/

/-- The state with the clock present and unlocked from its hold. -/
def clockOn (c : Ctl) : Ctl := modPower (fun w => { w with refclk := true, pllHold := false }) c

theorem refclkPresent_eq (t : Post) (m : List Host.Cell) (c : Ctl) : refclkPresent t m c =
    if c.power.stage = .hold && c.power.holdReason = 9 && !c.umpire.class5 then
      (if c.power.warmStart then (m, updateAlert (warmUp t (clockOn c))) else ([], updateAlert (powerUp t (restartState (clockOn c)))))
    else (m, clockOn c) := rfl

/-- Outside HOLD for its absence only the clock changes. -/
theorem refclkPresent_outside (t : Post) (m : List Host.Cell) (h : ¬(c.power.stage = .hold ∧ c.power.holdReason = 9)) :
    refclkPresent t m c = (m, clockOn c) := by
  rw [refclkPresent_eq, if_neg]
  simp only [Bool.and_eq_true, decide_eq_true_eq]
  exact fun hk => h hk.1

/-- In HOLD a warm start goes on with DRAM as it is. -/
theorem refclkPresent_warm (t : Post) (m : List Host.Cell) (hs : c.power.stage = .hold) (hr : c.power.holdReason = 9)
    (hw : c.power.warmStart = true) (h5 : c.umpire.class5 = false) :
    refclkPresent t m c = (m, updateAlert (warmUp t (clockOn c))) := by
  simp [refclkPresent_eq, hs, hr, hw, h5]

/-- Any other start in HOLD begins again, and DRAM is lost. -/
theorem refclkPresent_cold (t : Post) (m : List Host.Cell) (hs : c.power.stage = .hold) (hr : c.power.holdReason = 9)
    (hw : c.power.warmStart = false) (h5 : c.umpire.class5 = false) :
    refclkPresent t m c = ([], updateAlert (powerUp t (restartState (clockOn c)))) := by
  simp [refclkPresent_eq, hs, hr, hw, h5]

/-- Firmware that starts with no event waiting for it changes the life cycle alone (R369). -/
theorem startFirmware_quiet (i : Firmware) (h : c.power.deferred = []) :
    startFirmware i c = modPower (fun w => { w with deferred := [] })
      (modLife (fun l => { l with fwRunning := true, running := some i, image := some i, svnFused := Nat.max l.svnFused (fwSvn i) }) c) := by
  unfold startFirmware
  simp only [modLife_power, h]
  rfl

/-- What a warm start has behind it when it comes to the image to run (R421). -/
def warmTested (c : Ctl) : Ctl :=
  modMgr (fun g => { g with staging := {} })
    (modPower (fun w => { w with holdReason := 0, warmStart := false }) (modUmpire resetUmpire c))

/-- A warm start that activates no staged image runs the retained one when it verifies (R423). -/
theorem warmUp_retained {t : Post} {i : Firmware} (hclk : c.power.refclk = true) (hcause : c.power.resetCause ≠ 3)
    (himage : c.life.image = some i) (hok : imageOk i c.life = true) (htest : selfTest t true = none) :
    warmUp t c = setStage .starting (reloadMap (startFirmware i (warmTested c))) := by
  unfold warmUp
  simp only [hclk, htest, modPower_power, modPower_life, modMgr_life, hcause, himage, hok, Bool.not_true,
    Bool.false_eq_true, Option.isSome_none, Bool.false_and, if_false, if_true]
  rfl

/-! ## The thermal restart (R344) -/

theorem powerUp_noClock (t : Post) (h : c.power.refclk = false) : powerUp t c = hold 9 c := by
  unfold powerUp
  simp [h]

theorem rearmed_of_cool {t : Therm}
    (h : ∀ d : Fin 18, ∃ e : Int, t.eff[d] = some e ∧ e < 10 * ((t.levels.toList.getD (if d.val = 0 then 2 else 5) 0 : Nat) : Int) - 200) :
    rearmed t = true := by
  unfold rearmed
  rw [List.all_eq_true]
  intro d hd
  have hlt : d < 18 := List.mem_range.mp hd
  obtain ⟨e, he, hcool⟩ := h ⟨d, hlt⟩
  have hget : t.eff.toList.getD d none = some e := by
    rw [← he]; simp [List.getD, hlt]
  rw [hget]
  exact decide_eq_true hcool

theorem thermalRestart_cool (t : Post) (m : List Host.Cell) (hs : c.power.stage = .shutdown) (hr : c.power.resetN = true)
    (hx : c.therm.restartRefused = false) (h5 : c.umpire.class5 = false) (hcool : rearmed c.therm = true) :
    thermalRestart t m c = ([], powerUp t (deferRestart (thermalCold c))) := by
  unfold thermalRestart
  simp [hs, hr, hx, h5, hcool]

/-! What a thermal restart begins with (Table 8 of R426). -/

theorem thermalCold_refclk : (deferRestart (thermalCold c)).power.refclk = c.power.refclk := rfl
theorem thermalCold_resetCause : (deferRestart (thermalCold c)).power.resetCause = 4 := rfl
theorem thermalCold_therm : (deferRestart (thermalCold c)).therm = { c.therm with shutdown := false, thermtripN := true } := rfl
theorem thermalCold_nextSeq : (deferRestart (thermalCold c)).umpire.nextSeq = c.umpire.nextSeq := rfl

/-! ## Data-ready (R419) -/

theorem setBusy_power (k : Fin 4) : (setBusy k c).power = c.power := by
  unfold setBusy
  extract_lets x
  split <;> rfl

theorem resumeCopiers_power : (resumeCopiers c).power = c.power := forEach_keeps Ctl.power _ _ (fun _ _ => setBusy_power _) c

theorem settleBuckets_power : (settleBuckets c).power = c.power :=
  forEach_keeps Ctl.power _ _ (fun _ _ => modChan_power _ _) c

theorem setScale_power (s causes : Nat) : (setScale s causes c).power = { c.power with
    regScale := (setScale s causes c).power.regScale, regChanged := (setScale s causes c).power.regChanged
    regCauses := (setScale s causes c).power.regCauses } := by
  unfold setScale
  split
  · rfl
  · rw [bump_power]; rfl

theorem takeFloorInputs_power : (takeFloorInputs c).power = { c.power with
    flReserve := c.power.maintReserve, regFloor := (takeFloorInputs c).power.regFloor } := by
  unfold takeFloorInputs
  extract_lets d
  have h : d.power = c.power := forEach_keeps Ctl.power _ _ (fun _ _ => modChan_power _ _) c
  rw [modPower_power, h]

/-- The recomputed floor and scale are all of power that R253 changes. -/
theorem floorRecompute_power : (floorRecompute c).power = { c.power with
    flReserve := (floorRecompute c).power.flReserve, regFloor := (floorRecompute c).power.regFloor
    regScale := (floorRecompute c).power.regScale, regChanged := (floorRecompute c).power.regChanged
    regCauses := (floorRecompute c).power.regCauses } := by
  have h : (takeFloorInputs (settleBuckets c)).power = { c.power with
      flReserve := c.power.maintReserve, regFloor := (takeFloorInputs (settleBuckets c)).power.regFloor } := by
    rw [takeFloorInputs_power, settleBuckets_power]
  unfold floorRecompute
  rw [setScale_power, h]

/-- The power of a stack that has just become data-ready, before its floor is recomputed. -/
def readyPower (us : Nat) (w : Power) : Power :=
  { w with stage := .ready, everReady := true, dataReadyUs := us, changeoversRun := true, ranksAsleep := false }

/-- A start whose firmware runs ends data-ready, and its last act is to recompute the floor. -/
theorem dataReady_floor (us : Nat) (hs : c.power.stage = .starting) (hfw : c.life.fwRunning = true) (hclk : c.power.refclk = true)
    (ht : c.life.transition = none) : ∃ d, d.power = readyPower us c.power ∧ dataReady us c = floorRecompute d := by
  unfold dataReady
  rw [if_pos (by simp [hs, hfw, hclk, ht])]
  extract_lets full c1 c2 c3 c4 ready
  refine ⟨{ c4 with regions := Vector.ofFn ready }, ?_, rfl⟩
  calc c4.power = c3.power := by unfold c4; split <;> rfl
    _ = c2.power := by unfold c3; split <;> rfl
    _ = c1.power := resumeCopiers_power
    _ = readyPower us c.power := rfl

/-! ## The obligation -/

theorem refclkLost_boot_effect {s : State} (hs : s.ctl.power.stage = .boot) (hr : s.ctl.power.refclk = true) :
    ∃ t, exec .refclkLost s = .next t ∧ t.ctl.power.refclk = false ∧ t.ctl.power.stage = .hold ∧ t.ctl.power.holdReason = 9 ∧
      t.ctl.power.pllHold = true ∧ t.ctl.power.ranksAsleep = true ∧ (∀ p : Fin 4, (t.ctl.ports[p]).link = .detect) ∧ t.dram = s.dram := by
  refine ⟨{ s with ctl := refclkLost s.ctl }, rfl, ?_⟩
  rw [refclkLost_boot hs hr]
  simp only [modPower_power, modPower_ports, hold_power, hold_ports, clockGone_reacted.refclk, clockGone_reacted.pllHold, clockOff_refclk,
    clockOff_pllHold, clockGone_asleep, true_and]
  exact ⟨clockGone_link, trivial⟩

theorem refclkLost_ready_effect {s : State} (hs : s.ctl.power.stage = .ready) (hr : s.ctl.power.refclk = true) :
    ∃ t, exec .refclkLost s = .next t ∧ t.ctl.power.refclk = false ∧ t.ctl.power.stage = .ready ∧ t.ctl.power.pllHold = true ∧
      t.ctl.power.ranksAsleep = true ∧ (∀ p : Fin 4, (t.ctl.ports[p]).link = .detect) ∧ 4 ≤ stackClass t.ctl.umpire ∧ t.dram = s.dram := by
  refine ⟨{ s with ctl := refclkLost s.ctl }, rfl, ?_⟩
  rw [refclkLost_ready hs hr]
  exact ⟨clockGone_reacted.refclk, clockGone_reacted.stage.trans hs, clockGone_reacted.pllHold, clockGone_asleep, clockGone_link,
    clockGone_stackClass, rfl⟩

theorem refclkPresent_outside_effect {s : State} (x : Post) (h : ¬(s.ctl.power.stage = .hold ∧ s.ctl.power.holdReason = 9)) :
    ∃ t, exec (.refclkPresent x) s = .next t ∧
      t = { s with ctl := { s.ctl with power := { s.ctl.power with refclk := true, pllHold := false } } } := by
  refine ⟨_, rfl, ?_⟩
  rw [refclkPresent_outside x s.dram h]
  rfl

theorem refclkPresent_warm_effect {s : State} {x : Post} {i : Firmware} (hs : s.ctl.power.stage = .hold) (hr : s.ctl.power.holdReason = 9)
    (hw : s.ctl.power.warmStart = true) (h5 : s.ctl.umpire.class5 = false) (hcause : s.ctl.power.resetCause ≠ 3)
    (hd : s.ctl.power.deferred = []) (himage : s.ctl.life.image = some i) (hok : imageOk i s.ctl.life = true)
    (htest : selfTest x true = none) :
    ∃ t, exec (.refclkPresent x) s = .next t ∧ t.ctl.power.stage = .starting ∧ t.ctl.power.holdReason = 0 ∧ t.ctl.power.refclk = true ∧
      t.ctl.life.fwRunning = true ∧ t.ctl.life.image = some i ∧ t.ctl.pm.entries = s.ctl.pm.restore ∧ t.dram = s.dram := by
  refine ⟨_, rfl, ?_⟩
  have hquiet : (warmTested (clockOn s.ctl)).power.deferred = [] := hd
  rw [refclkPresent_warm x s.dram hs hr hw h5, warmUp_retained (c := clockOn s.ctl) rfl hcause himage hok htest, startFirmware_quiet i hquiet]
  exact ⟨rfl, rfl, rfl, rfl, rfl, rfl, rfl⟩

theorem refclkPresent_cold_effect {s : State} (x : Post) (hs : s.ctl.power.stage = .hold) (hr : s.ctl.power.holdReason = 9)
    (hw : s.ctl.power.warmStart = false) (h5 : s.ctl.umpire.class5 = false) :
    ∃ t, exec (.refclkPresent x) s = .next t ∧ t.dram = [] ∧ t.pending = s.pending := by
  refine ⟨_, rfl, ?_, rfl⟩
  rw [refclkPresent_cold x s.dram hs hr hw h5]

theorem thermalRestart_effect {s : State} (x : Post) (hs : s.ctl.power.stage = .shutdown) (hr : s.ctl.power.resetN = true)
    (hclk : s.ctl.power.refclk = false) (hx : s.ctl.therm.restartRefused = false) (h5 : s.ctl.umpire.class5 = false)
    (hcool : rearmed s.ctl.therm = true) :
    ∃ t, exec (.thermalRestart x) s = .next t ∧ t.ctl.therm.thermtripN = true ∧ t.ctl.therm.shutdown = false ∧
      t.ctl.power.resetCause = 4 ∧ t.ctl.power.stage = .hold ∧ t.ctl.power.holdReason = 9 ∧ t.dram = [] ∧
      t.ctl.umpire.nextSeq = s.ctl.umpire.nextSeq ∧ t.ctl.therm.levels = s.ctl.therm.levels := by
  refine ⟨_, rfl, ?_⟩
  rw [thermalRestart_cool x s.dram hs hr hx h5 hcool, powerUp_noClock x (thermalCold_refclk.trans hclk)]
  simp only [hold_therm, hold_power, hold_nextSeq, thermalCold_therm, thermalCold_resetCause, thermalCold_nextSeq, and_self]

theorem dataReady_effect {s : State} (us : Nat) (hs : s.ctl.power.stage = .starting) (hfw : s.ctl.life.fwRunning = true)
    (hclk : s.ctl.power.refclk = true) (ht : s.ctl.life.transition = none) :
    ∃ t, exec (.dataReady us) s = .next t ∧ t.ctl.power.stage = .ready ∧ t.ctl.power.dataReadyUs = us ∧
      t.ctl.power.changeoversRun = true ∧ t.ctl.power.ranksAsleep = false ∧ t.dram = s.dram := by
  obtain ⟨d, hd, hfloor⟩ := dataReady_floor us hs hfw hclk ht
  refine ⟨{ s with ctl := dataReady us s.ctl }, rfl, ?_⟩
  rw [hfloor, floorRecompute_power, hd]
  exact ⟨rfl, rfl, rfl, rfl, rfl⟩

/-- Settles O7, clause by clause: the loss of REFCLK before and after data-ready, its return outside HOLD, to a warm start and to a
cold one, the thermal restart, and data-ready. -/
theorem clockRestartReady : Obligations.ClockRestartReady := by
  refine ⟨fun s => refclkLost_boot_effect, fun s => refclkLost_ready_effect, fun x s => refclkPresent_outside_effect x, ?warm,
    fun x s => refclkPresent_cold_effect x, ?thermal, fun us s => dataReady_effect us⟩
  case warm =>
    intro x i s hs hr hw h5 hcause hd himage hok hrom hpm htrk hmgmt
    have htest : selfTest x true = none := by simp [selfTest, hrom, hpm, htrk, hmgmt]
    exact refclkPresent_warm_effect hs hr hw h5 hcause hd himage hok htest
  case thermal =>
    intro x s hs hr hclk hx h5 hcool
    exact thermalRestart_effect x hs hr hclk hx h5 (rearmed_of_cool hcool)

end Sys2Proof.Machine
end

section
/-! SUPPORT. lane_map (R41): which groups of lanes can run, and which of them it answers. -/

namespace Sys2Proof.Machine

open Sys2Proof

variable {good : BitVec 17} {w g n : Nat}

/-- The lanes of a group that are bad, numbered from the group's first. -/
def badLanes (good : BitVec 17) (w g : Nat) : List Nat := (List.range w).filter fun i => !good.getLsbD (g * w + i)

theorem mem_badLanes {i : Nat} : i ∈ badLanes good w g ↔ i < w ∧ good.getLsbD (g * w + i) = false := by
  simp [badLanes]

theorem badLanes_eq_singleton {k : Nat} (h : ∀ i, i ∈ badLanes good w g ↔ i = k) : badLanes good w g = [k] :=
  List.perm_singleton.mp ((List.perm_ext_iff_of_nodup (List.nodup_range.filter _) (List.nodup_singleton k)).mpr fun i =>
    (h i).trans List.mem_singleton.symm)

/-- A group runs without a spare exactly when none of its lanes is bad. -/
theorem laneGroupOk_none_iff : laneGroupOk good w g none ↔ badLanes good w g = [] := by
  rw [List.eq_nil_iff_forall_not_mem]
  simp only [mem_badLanes, laneGroupOk, not_and, Bool.not_eq_false]
  constructor
  · exact fun h i hi => h _ (by omega) (by omega)
  · intro h i hlo hhi
    have := h (i - g * w) (by omega)
    rwa [Nat.add_sub_cancel' hlo] at this

/-- A group runs with lane 16 for one of its lanes exactly when that lane is its only bad one and lane 16 is good. -/
theorem laneGroupOk_some_iff {b : Nat} :
    laneGroupOk good w g (some b) ↔ ∃ k, b = g * w + k ∧ badLanes good w g = [k] ∧ good.getLsbD 16 = true := by
  constructor
  · rintro ⟨hlo, hhi, hbad, h16, hrest⟩
    refine ⟨b - g * w, by omega, badLanes_eq_singleton fun i => ?_, h16⟩
    rw [mem_badLanes]
    constructor
    · rintro ⟨hi, hfalse⟩
      by_contra hne
      exact Bool.false_ne_true (hfalse.symm.trans (hrest _ (by omega) (by omega) (by omega)))
    · rintro rfl
      exact ⟨by omega, by rwa [Nat.add_sub_cancel' hlo]⟩
  · rintro ⟨k, rfl, hk, h16⟩
    have hmem : ∀ i, i ∈ badLanes good w g ↔ i = k := by simp [hk]
    obtain ⟨hkw, hbad⟩ := mem_badLanes.mp ((hmem k).mpr rfl)
    refine ⟨by omega, by omega, hbad, h16, fun i hlo hhi hne => ?_⟩
    by_contra hfalse
    have : i - g * w ∈ badLanes good w g :=
      mem_badLanes.mpr ⟨by omega, by rwa [Nat.add_sub_cancel' hlo, ← Bool.not_eq_true]⟩
    have := (hmem _).mp this
    omega

/-- The spare that lane_map finds for a group is the one with which the group runs; it finds none exactly when it cannot run. -/
theorem groupSpare_eq_some_iff {sp : Option Nat} : groupSpare good w g = some sp ↔ laneGroupOk good w g sp := by
  have hdef : groupSpare good w g = match badLanes good w g with
      | [] => some none
      | [b] => if good.getLsbD 16 then some (some (g * w + b)) else none
      | _ => none := by unfold groupSpare badLanes; rfl
  rw [hdef]
  cases sp with
  | none =>
    rw [laneGroupOk_none_iff]
    split
    · simp [*]
    · split <;> simp [*]
    · simp_all
  | some b =>
    rw [laneGroupOk_some_iff]
    split
    · simp [*]
    · rename_i k hk
      cases h16 : good.getLsbD 16 <;> simp [hk, eq_comm]
    · rename_i hnil hone
      simp only [reduceCtorEq, false_iff]
      rintro ⟨k, -, hk, -⟩
      exact hone k hk

/-- No group of a width can run from group `g` up to `g + n`. -/
def noneRuns (good : BitVec 17) (w g n : Nat) : Prop := ∀ k sp, g ≤ k → k < g + n → ¬ laneGroupOk good w k sp

theorem noneRuns_one (h : groupSpare good w g = none) : noneRuns good w g 1 := by
  intro k sp hlo hhi hok
  obtain rfl : k = g := by omega
  rw [groupSpare_eq_some_iff.mpr hok] at h
  cases h

theorem noneRuns_cons {m : Nat} (h : groupSpare good w g = none) (ht : noneRuns good w (g + 1) m) : noneRuns good w g (m + 1) := by
  intro k sp hlo hhi
  by_cases hk : k = g
  · exact noneRuns_one h k sp hlo (by omega)
  · exact ht k sp (by omega) (by omega)

theorem groupFrom_eq_none (h : groupFrom good w g n = none) : noneRuns good w g n := by
  induction n generalizing g with
  | zero => intro k sp hlo hhi; omega
  | succ n ih =>
    unfold groupFrom at h
    split at h
    · cases h
    · rename_i hg
      exact noneRuns_cons hg (ih h)

/-- The group that the search answers can run, and none before it can. -/
theorem groupFrom_eq_some {m : DirMap} (h : groupFrom good w g n = some m) :
    m.width = w ∧ g ≤ m.group ∧ m.group < g + n ∧ laneGroupOk good w m.group m.spare ∧ noneRuns good w g (m.group - g) := by
  induction n generalizing g with
  | zero => cases h
  | succ n ih =>
    unfold groupFrom at h
    split at h
    · rename_i sp hg
      obtain rfl := Option.some.inj h
      exact ⟨rfl, le_refl _, by simp, groupSpare_eq_some_iff.mp hg, fun k sp hlo hhi => by simp at hhi; omega⟩
    · rename_i hg
      obtain ⟨hwid, hlo, hhi, hok, hbefore⟩ := ih h
      refine ⟨hwid, by omega, by omega, hok, ?_⟩
      rw [show m.group - g = m.group - (g + 1) + 1 by omega]
      exact noneRuns_cons hg hbefore

/-- lane_map's answer is that of the first width whose search has one, the widest first. -/
theorem laneMap_widths {most : Nat} {m : DirMap} (h : laneMap most good = some m) :
    (16 ≤ most ∧ groupFrom good 16 0 1 = some m) ∨
    ((16 ≤ most → groupFrom good 16 0 1 = none) ∧ 8 ≤ most ∧ groupFrom good 8 0 2 = some m) ∨
    ((16 ≤ most → groupFrom good 16 0 1 = none) ∧ (8 ≤ most → groupFrom good 8 0 2 = none) ∧ groupFrom good 4 0 4 = some m) := by
  unfold laneMap at h
  split at h
  · rename_i h16; split at h16 <;> simp_all
  · rename_i h16
    split at h
    · rename_i h8; split at h8 <;> simp_all
    · simp_all

theorem laneMap_none {most : Nat} (h : laneMap most good = none) :
    (16 ≤ most → groupFrom good 16 0 1 = none) ∧ (8 ≤ most → groupFrom good 8 0 2 = none) ∧ groupFrom good 4 0 4 = none := by
  unfold laneMap at h
  split at h
  · cases h
  · split at h
    · cases h
    · simp_all

/-- The widths that lane_map tries when R43 allows none above `most`. -/
def widthAllowed (most w : Nat) : Prop := w = 16 ∧ 16 ≤ most ∨ w = 8 ∧ 8 ≤ most ∨ w = 4

/-- The first group of a width that can run is lane_map's best answer when no wider one can. -/
theorem groupFrom_best {most : Nat} {m : DirMap} (hw : widthAllowed most w) (hg : groupFrom good w 0 (16 / w) = some m)
    (hwider : ∀ v, widthAllowed most v → w < v → noneRuns good v 0 (16 / v)) :
    widthAllowed most m.width ∧ m.group < 16 / m.width ∧ laneGroupOk good m.width m.group m.spare ∧
      ∀ v g sp, widthAllowed most v → g < 16 / v → m.width < v ∨ (v = m.width ∧ g < m.group) → ¬ laneGroupOk good v g sp := by
  obtain ⟨rfl, -, hlt, hok, hbefore⟩ := groupFrom_eq_some hg
  refine ⟨hw, by omega, hok, fun v g sp hv hgv => ?_⟩
  rintro (hlarger | ⟨rfl, hlower⟩)
  · exact hwider v hv hlarger g sp (by omega) (by omega)
  · exact hbefore g sp (by omega) (by omega)

/-- Settles O53: the searches of the three widths, the widest first, each answer their first group that can run or show that none can. -/
theorem laneMapRule : Obligations.LaneMapRule := by
  intro most good
  constructor
  · intro m h
    obtain ⟨h16, hg⟩ | ⟨h16, h8, hg⟩ | ⟨h16, h8, hg⟩ := laneMap_widths h
    · exact groupFrom_best (.inl ⟨rfl, h16⟩) hg fun v hv hlt => by unfold widthAllowed at hv; omega
    · refine groupFrom_best (.inr (.inl ⟨rfl, h8⟩)) hg fun v hv hlt => ?_
      obtain ⟨rfl, hm⟩ | ⟨rfl, -⟩ | rfl := hv
      · exact groupFrom_eq_none (h16 hm)
      · omega
      · omega
    · refine groupFrom_best (.inr (.inr rfl)) hg fun v hv hlt => ?_
      obtain ⟨rfl, hm⟩ | ⟨rfl, hm⟩ | rfl := hv
      · exact groupFrom_eq_none (h16 hm)
      · exact groupFrom_eq_none (h8 hm)
      · omega
  · intro h w g sp hw hg
    obtain ⟨h16, h8, h4⟩ := laneMap_none h
    obtain ⟨rfl, hm⟩ | ⟨rfl, hm⟩ | rfl := hw
    · exact groupFrom_eq_none (h16 hm) g sp (by omega) (by omega)
    · exact groupFrom_eq_none (h8 hm) g sp (by omega) (by omega)
    · exact groupFrom_eq_none h4 g sp (by omega) (by omega)

end Sys2Proof.Machine
end

section
/-! SUPPORT. What a port's transmitter lays next (R53, R66, R68, R71) and the turn of CRET. -/

namespace Sys2Proof.Laws

open Sys2Proof Sys2Proof.Machine

variable {q : Port}

/-! ## The turn of CRET (R68) -/

theorem lay_cretTurn (kind seq : Nat) (slots : List Slot) : (lay kind seq slots q).line.cretTurn = (q.line.cretTurn + 1) % 4 := rfl
theorem lay_len (kind seq : Nat) (slots : List Slot) : (lay kind seq slots q).line.len = q.line.len + 576 := rfl
theorem lay_last (kind seq : Nat) (slots : List Slot) :
    (lay kind seq slots q).line.last = some (flitWord kind seq (currentCret q).1 (currentCret q).2 slots) := rfl

theorem currentCret_ack (h : q.line.cretTurn = 0 ∨ q.line.cretTurn = 2) : currentCret q = (3, ackNow q) := by
  unfold currentCret
  rw [if_neg (by omega), if_neg (by omega)]

theorem currentCret_vc0 (h : q.line.cretTurn = 1) : currentCret q = (0, cretOf q 0) := if_pos h

theorem currentCret_vc2 (h : q.line.cretTurn = 3) : currentCret q = (2, cretOf q 2) := by
  unfold currentCret
  rw [if_neg (by omega), if_pos h]

/-- A flit that reports the acknowledgement leaves none owed. -/
theorem owedAcks_lay {v : Nat} (kind seq : Nat) (slots : List Slot) (h : currentCret q = (3, v)) (hv : v = ackNow q) :
    owedAcks (lay kind seq slots q) = 0 := by
  have hsent : (lay kind seq slots q).line.ackSent = ackNow q := by simp [lay, h, hv]
  have hnow : ackNow (lay kind seq slots q) = ackNow q := rfl
  unfold owedAcks
  rw [hsent, hnow]
  omega

/-- A flit that reports a virtual channel's total leaves none of its credit owed. -/
theorem owedCredit_lay {vc : Fin 3} (kind seq : Nat) (slots : List Slot) (h : (lay kind seq slots q).line.cretSent[vc] = cretOf q vc) :
    owedCredit (lay kind seq slots q) vc = 0 := by
  have hnow : cretOf (lay kind seq slots q) vc = cretOf q vc := rfl
  unfold owedCredit
  rw [h, hnow]
  omega

/-! ## SKIP (R53) -/

theorem skipDue_of_lt (h : q.sinceSkip < 2047) : skipDue q = q := if_neg (by omega)

theorem skipDue_sinceSkip (h : q.sinceSkip ≤ 2047) : (skipDue q).sinceSkip < 2047 := by
  unfold skipDue
  split
  · simp
  · omega

theorem layCtrl_sinceSkip (first : List Slot) : (layCtrl first q).sinceSkip = (skipDue q).sinceSkip + 1 := rfl

/-- A CTRL flit never makes the run without a SKIP flit longer than 2,047. -/
theorem layCtrl_sinceSkip_le (first : List Slot) (h : q.sinceSkip ≤ 2047) : (layCtrl first q).sinceSkip ≤ 2047 := by
  rw [layCtrl_sinceSkip]
  exact skipDue_sinceSkip h

/-! ## The next flit, case by case (R53, R66, R68, R71) -/

theorem layNext_skip (h : 2047 ≤ q.sinceSkip) : layNext q = laySkip q := if_pos h

theorem layNext_init (h : q.sinceSkip < 2047) (hl : q.link = .linkInit) : layNext q = layInit q := by
  unfold layNext
  rw [if_neg (by omega), if_pos hl]

theorem layNext_ctrl (h : q.sinceSkip < 2047) (hl : q.link ≠ .linkInit) (hw : (q.nakQueue.isEmpty && q.sleepOut.isEmpty) = false) :
    layNext q = layCtrl [] q := by
  unfold layNext
  rw [if_neg (by omega), if_neg hl, if_pos (by simp [hw])]

theorem layNext_pkt {x : Nat × List Slot} {l : List (Nat × List Slot)} (h : q.sinceSkip < 2047) (hl : q.link ≠ .linkInit)
    (hn : q.nakQueue = []) (hs : q.sleepOut = []) (hq : q.line.queue = x :: l) :
    layNext q = lay 1 x.1 x.2 { q with line := notePkt x.1 { q.line with queue := l } } := by
  unfold layNext
  rw [if_neg (by omega), if_neg hl, if_neg (by simp [hn, hs]), hq]

theorem layNext_idle (h : q.sinceSkip < 2047) (hl : q.link ≠ .linkInit) (hn : q.nakQueue = []) (hs : q.sleepOut = [])
    (hq : q.line.queue = []) : layNext q = lay 0 0 [] q := by
  unfold layNext
  rw [if_neg (by omega), if_neg hl, if_neg (by simp [hn, hs]), hq]

/-- No flit makes the run without a SKIP flit longer than 2,047. -/
theorem layNext_sinceSkip_le (h : q.sinceSkip ≤ 2047) : (layNext q).sinceSkip ≤ 2047 := by
  by_cases hskip : 2047 ≤ q.sinceSkip
  · rw [layNext_skip hskip]; simp
  have hlt : q.sinceSkip < 2047 := by omega
  by_cases hl : q.link = .linkInit
  · rw [layNext_init hlt hl]; exact layCtrl_sinceSkip_le _ h
  cases hw : q.nakQueue.isEmpty && q.sleepOut.isEmpty with
  | false => rw [layNext_ctrl hlt hl hw]; exact layCtrl_sinceSkip_le _ h
  | true =>
    obtain ⟨hn, hs⟩ : q.nakQueue = [] ∧ q.sleepOut = [] := by simpa using hw
    cases hq : q.line.queue with
    | nil => rw [layNext_idle hlt hl hn hs hq]; exact hlt
    | cons x l => rw [layNext_pkt hlt hl hn hs hq]; exact hlt

theorem notePkt_cretTurn (seq : Nat) (l : TxLine) : (notePkt seq l).cretTurn = l.cretTurn := by unfold notePkt; split <;> rfl
theorem notePkt_queue (seq : Nat) (l : TxLine) : (notePkt seq l).queue = l.queue := by unfold notePkt; split <;> rfl

/-- CRET depends on the port's line through its place in the rotation alone. -/
theorem currentCret_line {l : TxLine} (h : l.cretTurn = q.line.cretTurn) : currentCret { q with line := l } = currentCret q := by
  unfold currentCret
  rw [show ({ q with line := l } : Port).line.cretTurn = q.line.cretTurn from h]
  rfl

/-- A CTRL flit carries the slots it begins with, then the NAK and sleep slots that wait and fit behind them. -/
theorem layCtrl_last (first : List Slot) (h : q.sinceSkip < 2047) :
    (layCtrl first q).line.last = some (flitWord 2 0 (currentCret q).1 (currentCret q).2
      (first ++ (q.nakQueue.take (4 - first.length)).map (linkSlot 0x10 0)
        ++ (q.sleepOut.take (4 - first.length - (q.nakQueue.take (4 - first.length)).length)).map fun m => linkSlot m.1 m.2 0)) := by
  unfold layCtrl
  rw [skipDue_of_lt h]
  rfl

theorem layCtrl_nakQueue (first : List Slot) (h : q.sinceSkip < 2047) :
    (layCtrl first q).nakQueue = q.nakQueue.drop (q.nakQueue.take (4 - first.length)).length := by
  unfold layCtrl
  rw [skipDue_of_lt h]
  rfl

theorem layCtrl_queue (first : List Slot) (h : q.sinceSkip < 2047) : (layCtrl first q).line.queue = q.line.queue := by
  unfold layCtrl
  rw [skipDue_of_lt h]
  rfl

/-- Settles O59, clause by clause: the case of layNext that applies, and what it lays. -/
theorem transmitOrder : Obligations.TransmitOrder := by
  refine ⟨fun q h => ⟨layNext_sinceSkip_le h, fun he => ?skip⟩, fun first q h => layCtrl_sinceSkip_le first h, ?pkt, ?idle, ?nak, ?init,
    fun kind seq slots q => ⟨lay_cretTurn kind seq slots, lay_sinceSkip kind seq slots q, lay_len kind seq slots, ?ack, ?vc0, ?vc2⟩⟩
  case skip => rw [layNext_skip (by omega)]; exact ⟨rfl, rfl, rfl⟩
  case pkt =>
    intro q x l h hl hn hs hq
    rw [layNext_pkt h hl hn hs hq, lay_last, lay_queue, lay_replay, currentCret_line, notePkt_queue]
    · exact ⟨rfl, rfl, rfl⟩
    · exact notePkt_cretTurn _ _
  case idle =>
    intro q h hl hn hs hq
    rw [layNext_idle h hl hn hs hq, lay_last]
  case nak =>
    intro q n h hl hn hs
    rw [layNext_ctrl h hl (by simp [hn]), layCtrl_last [] h, layCtrl_nakQueue [] h, layCtrl_queue [] h, hn, hs]
    exact ⟨rfl, rfl, rfl⟩
  case init =>
    intro q h hl hn hs
    rw [layNext_init h hl, layInit, layCtrl_last _ h, hn, hs]
    rfl
  case ack =>
    intro ht
    have hc := currentCret_ack ht
    exact ⟨by rw [lay_last, hc], owedAcks_lay kind seq slots hc rfl⟩
  case vc0 =>
    intro ht
    have hc := currentCret_vc0 ht
    exact ⟨by rw [lay_last, hc], owedCredit_lay kind seq slots (by simp [lay, hc])⟩
  case vc2 =>
    intro ht
    have hc := currentCret_vc2 ht
    exact ⟨by rw [lay_last, hc], owedCredit_lay kind seq slots (by simp [lay, hc])⟩

end Sys2Proof.Laws
end

section
/-! SUPPORT. What a command of one port leaves alone: everything but that port, the counters and the model's draws. -/

namespace Sys2Proof.Machine

open Sys2Proof

/-- Of the logic only one port, the counters and the draw counter differ: `onlyPort` without DRAM and the waiting commands. -/
def OnlyPortOf (p : Fin 4) (c d : Ctl) : Prop :=
  d = { c with ports := c.ports.set p d.ports[p], score := d.score, draws := d.draws }

namespace OnlyPortOf

variable {p : Fin 4} {c d e : Ctl}

theorem of_eq {q : Port} (h : d = { c with ports := c.ports.set p q, score := d.score, draws := d.draws }) : OnlyPortOf p c d := by
  have hq : d.ports[p] = q := by rw [h]; simp
  unfold OnlyPortOf
  rw [hq]
  exact h

/-- An operation outside the ports. -/
theorem of_ports (h : d = { c with score := d.score, draws := d.draws }) : OnlyPortOf p c d :=
  of_eq (q := c.ports[p]) (by simp only [Fin.getElem_fin, Vector.set_getElem_self]; exact h)

theorem refl (p : Fin 4) (c : Ctl) : OnlyPortOf p c c := of_ports rfl

theorem trans (h : OnlyPortOf p c d) (k : OnlyPortOf p d e) : OnlyPortOf p c e := by
  refine of_eq (q := e.ports[p]) ?_
  have hports : d.ports.set p e.ports[p] = c.ports.set p e.ports[p] := by
    rw [h]; simp
  unfold OnlyPortOf at k
  rw [hports] at k
  exact k.trans (by rw [h])

theorem modPort (p : Fin 4) (f : Port → Port) (c : Ctl) : OnlyPortOf p c (modPort p f c) := of_eq rfl

theorem scoreSet (i v : Nat) : OnlyPortOf p c (scoreSet i v c) := by
  unfold Machine.scoreSet
  split
  · exact of_ports rfl
  · exact refl p c

theorem bumpBy (i n : Nat) : OnlyPortOf p c (bumpBy i n c) := scoreSet _ _
theorem bump (i : Nat) : OnlyPortOf p c (bump i c) := bumpBy _ _
theorem setDraws (n : Nat) : OnlyPortOf p c { c with draws := n } := of_ports rfl

/-- The statement's own form, for a command that changes the logic alone. -/
theorem onlyPort {s : State} (h : OnlyPortOf p s.ctl d) : onlyPort p s { s with ctl := d } := ⟨⟨fun _ => rfl, rfl⟩, h⟩

theorem now (h : OnlyPortOf p c d) : d.now = c.now := by rw [h]

end OnlyPortOf

/-- A command that changes the logic alone leaves DRAM and the waiting commands. -/
theorem onlyLogic_ctl (s : State) (d : Ctl) : onlyLogic s { s with ctl := d } := ⟨fun _ => rfl, rfl⟩

/-- One lane of a port's lanes written. -/
theorem getLane_set (rx : Vector Lane 17) (l k : Fin 17) (y : Lane) : (rx.set l y)[k] = if k = l then y else rx[k] := by
  by_cases hk : k = l
  · subst hk
    simp
  · have hne : l.val ≠ k.val := fun e => hk (Fin.ext e.symm)
    rw [if_neg hk]
    simp [Vector.getElem_set_ne _ _ hne]

end Sys2Proof.Machine
end

section
/-! SUPPORT. DETECT, SPEED and TRAIN of a port, its enable and its rate (R35 to R39). -/

namespace Sys2Proof.Machine

open Sys2Proof

variable {p : Fin 4} {l : Fin 17} {s : State}

/-! ## DETECT (R35) -/

theorem signalDetect_effect {lanes : Nat} (he : (s.ctl.ports[p]).enable = true) (hl : (s.ctl.ports[p]).link = .detect)
    (hh : (s.ctl.ports[p]).holdoff = false) (h4 : 4 ≤ lanes) (hr : portsRun s.ctl = true) :
    ∃ t, exec (.signalDetect p lanes) s = .next t ∧ (t.ctl.ports[p]).link = .speed ∧ (t.ctl.ports[p]).rate = 0 ∧
      (∀ l : Fin 17, ((t.ctl.ports[p]).rx[l]).tsCount = 0 ∧ ((t.ctl.ports[p]).rx[l]).laneId = none ∧ ((t.ctl.ports[p]).rx[l]).judged = none) ∧
      onlyPort p s t := by
  refine ⟨{ s with ctl := onSignalDetect p lanes s.ctl }, rfl, ?_⟩
  unfold onSignalDetect
  simp only [he, hl, hh, h4, hr, decide_true, Bool.not_false, Bool.and_self, if_true, modPort_self]
  exact ⟨trivial, trivial, fun l => by simp [bringupLane], (OnlyPortOf.modPort p _ _).onlyPort⟩

/-! ## SPEED (R36) -/

theorem speedLane_valid {x : Nat} (inv : Bool) (hx : tsType x = 1) (l : Lane) :
    speedLane (some (x, inv)) l = { l with laneId := some (tsLaneId x), tsCount := l.tsCount + 1, polarityInv := inv } := if_pos hx

theorem speedExit_rx (q : Port) : (speedExit q).rx = q.rx := by
  unfold speedExit
  split <;> rfl

theorem speedExit_train {q : Port} (hsel : q.rateSel ≠ 0) (hrole : q.badRole = false) (hsent : 16 ≤ q.doneSent) (hrecv : 1 ≤ q.doneRecv) :
    (speedExit q).link = .train ∧ (speedExit q).rate = q.rateSel := by
  unfold speedExit
  rw [if_pos (by simp [hsel, hrole, hsent, hrecv])]
  exact ⟨rfl, rfl⟩

/-- A valid TS_SPEED block on a lane gives its LANE_ID and polarity and is counted (R36). -/
theorem speedStep_lane {b : Block} {x : Nat} {inv : Bool} {q : Port} (hb : tsBlock b = some (x, inv)) (hx : tsType x = 1) :
    (speedStep l b q).rx[l] = { q.rx[l] with laneId := some (tsLaneId x), tsCount := (q.rx[l]).tsCount + 1, polarityInv := inv } := by
  unfold speedStep
  simp only [hb, hx, ne_eq, not_true_eq_false, if_false, speedExit_rx, speedLane_valid, Fin.getElem_fin, Vector.getElem_set_self]

/-- A block with DONE from a host ends SPEED when every lane has its eight blocks and 16 blocks with DONE were sent. -/
theorem speedStep_train {b : Block} {x : Nat} {inv : Bool} {q : Port} (hb : tsBlock b = some (x, inv)) (hx : tsType x = 1)
    (hrole : tsRole x = 2) (hbad : q.badRole = false) (hcount : ∀ k : Fin 17, 8 ≤ (q.rx[k]).tsCount) (hsent : 16 ≤ q.doneSent)
    (hdone : tsDone x = true) (hrate : chosenRate q (tsRateCap x) ≠ 0) :
    (speedStep l b q).link = .train ∧ (speedStep l b q).rate = chosenRate q (tsRateCap x) := by
  have hready : (List.finRange 17).countP (fun k => 8 ≤ ((q.rx.set l (speedLane (some (x, inv)) q.rx[l]))[k]).tsCount) = 17 := by
    rw [List.countP_eq_length.mpr, List.length_finRange]
    intro k _
    have hk := hcount k
    rw [speedLane_valid inv hx, getLane_set]
    split
    · rename_i hkl
      subst hkl
      simpa using Nat.le_succ_of_le hk
    · simpa using hk
  unfold speedStep
  simp only [hb, hx, hrole, hbad, hdone, hready, ne_eq, not_true_eq_false, if_false, decide_false, Bool.or_self, Bool.not_false,
    Nat.reduceLeDiff, decide_true, Bool.and_self, if_true]
  exact speedExit_train hrate rfl hsent (Nat.le_add_left 1 _)

theorem tsSpeed_effect {b : Block} {x : Nat} {inv : Bool} (hl : (s.ctl.ports[p]).link = .speed) (hb : tsBlock b = some (x, inv))
    (hx : tsType x = 1) :
    ∃ t, exec (.tsSpeed p l b) s = .next t ∧ ((t.ctl.ports[p]).rx[l]).laneId = some (tsLaneId x) ∧
      ((t.ctl.ports[p]).rx[l]).tsCount = ((s.ctl.ports[p]).rx[l]).tsCount + 1 ∧ ((t.ctl.ports[p]).rx[l]).polarityInv = inv ∧
      (tsRole x = 2 → (s.ctl.ports[p]).badRole = false → (∀ k : Fin 17, 8 ≤ ((s.ctl.ports[p]).rx[k]).tsCount) →
        16 ≤ (s.ctl.ports[p]).doneSent → tsDone x = true → chosenRate (s.ctl.ports[p]) (tsRateCap x) ≠ 0 →
        (t.ctl.ports[p]).link = .train ∧ (t.ctl.ports[p]).rate = chosenRate (s.ctl.ports[p]) (tsRateCap x)) ∧
      onlyPort p s t := by
  have hstep : onTsSpeed p l b s.ctl = modPort p (speedStep l b) s.ctl := if_pos hl
  refine ⟨{ s with ctl := onTsSpeed p l b s.ctl }, rfl, ?_⟩
  simp only [hstep, modPort_self]
  simp only [speedStep_lane hb hx]
  refine ⟨trivial, trivial, trivial, ?_, (OnlyPortOf.modPort p _ _).onlyPort⟩
  exact fun hrole hbad hcount hsent hdone hrate => speedStep_train hb hx hrole hbad hcount hsent hdone hrate

/-! ## TRAIN (R37) -/

theorem prbsCheck_effect (errs : Nat) (lock ok : Bool) (hl : (s.ctl.ports[p]).link = .train) :
    ∃ t, exec (.prbsCheckComplete p l errs lock ok) s = .next t ∧ (t.ctl.ports[p]).link = .train ∧
      (((t.ctl.ports[p]).rx[l]).judged = some true ↔
        errs ≤ 16 ∧ lock = true ∧ ok = true ∧ ((s.ctl.ports[p]).rx[l]).failing = false ∧ ((s.ctl.ports[p]).rx[l]).judged ≠ some false) ∧
      onlyPort p s t := by
  refine ⟨{ s with ctl := onPrbs p l errs lock ok s.ctl }, rfl, ?_⟩
  unfold onPrbs
  rw [if_pos hl]
  simp only [scoreSet_ports]
  refine ⟨by simpa using hl, by simp [and_assoc], ?_⟩
  exact (((OnlyPortOf.modPort p _ _).trans (.setDraws _)).trans (.scoreSet _ _)).onlyPort

/-! ## The hold in DETECT, PORT.ENABLE and PORT.MAX_RATE (R35, R38, R39) -/

theorem detectHoldoffExpiry_effect : ∃ t, exec (.detectHoldoffExpiry p) s = .next t ∧ (t.ctl.ports[p]).holdoff = false ∧
    (t.ctl.ports[p]).link = (s.ctl.ports[p]).link ∧ onlyPort p s t := by
  refine ⟨_, rfl, ?_⟩
  simp only [modPort_self, true_and]
  exact (OnlyPortOf.modPort p _ _).onlyPort

theorem portEnableSet_effect : ∃ t, exec (.portEnableSet p) s = .next t ∧ (t.ctl.ports[p]).enable = true ∧
    (t.ctl.ports[p]).failedAttempts = 0 ∧ (t.ctl.ports[p]).link = (s.ctl.ports[p]).link ∧ onlyPort p s t := by
  refine ⟨{ s with ctl := setPortEnable p true s.ctl }, rfl, ?_⟩
  simp only [setPortEnable, if_true, modPort_self, true_and]
  exact (OnlyPortOf.modPort p _ _).onlyPort

theorem portMaxRate_effect {r : Nat} (hr : r = 1 ∨ r = 2) :
    ∃ t, exec (.portMaxRate p r) s = .next t ∧
      ((s.ctl.ports[p]).enable = false → (t.ctl.ports[p]).maxRate = r ∧ (t.ctl.ports[p]).fallback56 = false ∧ onlyPort p s t) ∧
      ((s.ctl.ports[p]).enable = true → (s.ctl.ports[p]).maxRate ≠ r → t.ctl.power.configReject = true ∧ t.ctl.ports = s.ctl.ports ∧
        t.ctl = { s.ctl with power := { s.ctl.power with configReject := true, configRejectAddr := t.ctl.power.configRejectAddr } } ∧
        onlyLogic s t) := by
  refine ⟨{ s with ctl := writeMaxRate p r s.ctl }, rfl, fun hoff => ?disabled, fun hon hne => ?enabled⟩
  all_goals
    unfold writeMaxRate
    rw [if_neg (by obtain rfl | rfl := hr <;> simp)]
  case disabled =>
    rw [if_neg (by simp [-Fin.getElem_fin, hoff])]
    simp only [modPort_self, true_and]
    exact (OnlyPortOf.modPort p _ _).onlyPort
  case enabled =>
    rw [if_pos (by simp [-Fin.getElem_fin, hon, hne.symm])]
    exact ⟨rfl, rfl, rfl, onlyLogic_ctl s _⟩

/-- Settles O14, clause by clause: DETECT, SPEED, the error window, the hold, PORT.ENABLE and PORT.MAX_RATE. -/
theorem portBringUp : Obligations.PortBringUp :=
  ⟨fun _ _ _ he hl hh h4 hr => signalDetect_effect he hl hh h4 hr, fun _ _ _ _ _ _ hl hb hx => tsSpeed_effect hl hb hx,
    fun _ _ errs lock ok _ hl => prbsCheck_effect errs lock ok hl, fun _ _ => detectHoldoffExpiry_effect, fun _ _ => portEnableSet_effect,
    fun _ _ _ hr => portMaxRate_effect hr⟩

end Sys2Proof.Machine
end

section
/-! SUPPORT. How a retrain starts (R48 to R50) and how a port returns to DETECT (R35, R39, R51). -/

namespace Sys2Proof.Machine

open Sys2Proof

variable {p : Fin 4} {c d : Ctl}

/-! ## A retrain (R48, R49) -/

/-- Retrains begun within the last second (R50). -/
def recentRetrains (p : Fin 4) (c : Ctl) : List Nat := (c.ports[p]).retrainTimes.filter fun t => c.now < t + 1000000000

/-- A port whose retrain has begun, seen from the logic before it. -/
structure RetrainBegun (p : Fin 4) (c d : Ctl) : Prop where
  link : (d.ports[p]).link = .train
  retraining : (d.ports[p]).retraining = true
  replay : (d.ports[p]).replay = (c.ports[p]).replay
  wakeUnacked : (d.ports[p]).wakeUnacked = false
  awaitStart : (d.ports[p]).awaitStart = false
  lane : ∀ l : Fin 17, (d.ports[p]).rx[l] = retrainLane { (c.ports[p]).rx[l] with rxAdapt := adaptNow p l c }
  only : OnlyPortOf p c d

theorem startRetrain_begun (hl : (c.ports[p]).link = .active) (hn : (recentRetrains p c).length ≤ 16) :
    RetrainBegun p c (startRetrain p c) := by
  unfold startRetrain
  rw [if_neg (not_not.mpr hl)]
  extract_lets recent
  rw [if_neg (by exact Nat.not_lt.mpr hn)]
  constructor
  case only => exact .modPort p _ c
  all_goals simp only [modPort_self]
  case lane => intro l; simp [adaptedLanes]

theorem startRetrain_detect (hl : (c.ports[p]).link = .active) (hn : 16 < (recentRetrains p c).length) :
    startRetrain p c = toDetect p c := by
  unfold startRetrain
  rw [if_neg (not_not.mpr hl)]
  exact if_pos hn

/-! ## Link loss leaves PORT.ENABLE (R51) -/

theorem endSeq_self (r : Fin 4) (q : LSeq) (st : Nat) (p : Fin 4) : SentFrom c.ports[p] (endSeq r q st c).ports[p] := by
  have count (x : Ctl) : (if q.state = .committing then x else bump (rIdx r 17) x).ports = x.ports := by split <;> simp
  unfold endSeq
  extract_lets c1 stages c2 c3
  have h2 : c2.ports = c.ports := count c
  have h3 : SentFrom c.ports[p] c3.ports[p] := by
    refine forEach_inv (fun x => SentFrom c.ports[p] x.ports[p]) stages _ ?_ c2 (by rw [h2]; rfl)
    exact fun t x hx => hx.trans (endTrkWith_self (c := dropHolds t.id x) _ _ _ _ p)
  refine forEach_inv (fun x => SentFrom c.ports[p] x.ports[p]) q.waiting _ ?_ c3 h3
  exact fun w x hx => hx.trans (endTrkWith_self _ _ _ _ p)

theorem endSeqsOf_self (r p : Fin 4) : SentFrom c.ports[p] (endSeqsOf r c).ports[p] := by
  unfold endSeqsOf
  refine forEach_inv (fun x => SentFrom c.ports[p] x.ports[p]) _ _ ?_ c (.refl _)
  exact fun q x hx => hx.trans (endSeq_self r q 6 p)

theorem preemptAll_ports (l : List Activity) : (preemptAll l c).ports = c.ports := by
  unfold preemptAll
  extract_lets c1 mark c2
  have h : ∀ x : Ctl, (l.foldl mark x).ports = x.ports := by
    induction l with
    | nil => exact fun x => rfl
    | cons a t ih =>
      have hmark (x : Ctl) : (mark x a).ports = x.ports := by
        unfold mark
        split <;> rfl
      exact fun x => (ih (mark x a)).trans (hmark x)
  exact (h c1).trans (bumpBy_ports _ _)

theorem holdSpare_ports (kind : Nat) : (holdSpare kind c).ports = c.ports := by
  unfold holdSpare
  split <;> rfl

theorem grantWaiting_ports : (grantWaiting c).ports = c.ports := by
  refine forEach_inv (fun x => x.ports = c.ports) _ _ (fun a x hx => ?_) c rfl
  split
  · exact ((holdSpare_ports _).trans (preemptAll_ports _)).trans hx
  · exact hx

theorem endActivity_ports (id st : Nat) (result : BitVec 32) : (endActivity id st result c).ports = c.ports := by
  unfold endActivity
  split
  · rfl
  · refine grantWaiting_ports.trans ?_
    rw [modMgr_ports]
    split <;> rfl

theorem linkLoss_enable (p : Fin 4) : ((linkLoss p c).ports[p]).enable = (c.ports[p]).enable := by
  unfold linkLoss
  extract_lets sent c1 c2 c3 c4 c5 c6
  have h2 : (c2.ports[p]).enable = (c.ports[p]).enable := by
    unfold c2
    rw [modPort_self, bump_ports]
    rfl
  have h3 : (c3.ports[p]).enable = (c2.ports[p]).enable := (endSeqsOf_self p p).enable
  have h6 : c6.ports = c3.ports := by
    unfold c6 c5
    rw [modMgr_ports, bumpBy_ports]
  have lost : (c6.ports[p]).enable = (c.ports[p]).enable := by rw [h6, h3, h2]
  split
  · rw [endActivity_ports, lost]
  · exact lost

/-! ## DETECT (R35, R39, R51) -/

/-- A return to DETECT counts as a failed attempt at bring-up (R39). -/
def failsAttempt (q : Port) : Bool := !linkUp q && q.link ≠ .detect && slowAttempt q && q.enable

/-- A port in DETECT, seen from the port `q` whose link is taken down or reset. -/
structure InDetect (q t : Port) : Prop where
  link : t.link = .detect
  retraining : t.retraining = false
  rate : t.rate = 0
  enable : t.enable = q.enable
  holdoff : t.holdoff = q.holdoff

/-- A return to DETECT that is no fourth failed attempt reports nothing: the link is lost or reset, and the port is in DETECT. -/
theorem toDetect_calm (h : failsAttempt c.ports[p] = true → (c.ports[p]).failedAttempts < 3) :
    ∃ f : Port → Port, (∀ q, InDetect q (f q)) ∧
      toDetect p c = modPort p f (if linkUp c.ports[p] then linkLoss p c else modPort p resetLink c) := by
  unfold toDetect
  extract_lets q lost failed n rx c1 c2
  have hcalm : (failed && decide (4 ≤ n)) = false := by
    cases hf : failed with
    | false => rfl
    | true =>
      have hlt : q.failedAttempts < 3 := h hf
      have hn : n = q.failedAttempts + 1 := if_pos hf
      simp [hn]
      omega
  rw [if_neg (by rw [hcalm]; simp)]
  refine ⟨_, ?_, rfl⟩
  exact fun q => ⟨rfl, rfl, rfl, rfl, (congrArg (q.holdoff || ·) hcalm).trans (Bool.or_false _)⟩

/-- A port whose link is up loses it. -/
theorem toDetect_up (h : linkUp c.ports[p] = true) : InDetect (linkLoss p c).ports[p] (toDetect p c).ports[p] := by
  obtain ⟨f, hf, hd⟩ := toDetect_calm (p := p) (c := c) (by simp [-Fin.getElem_fin, failsAttempt, h])
  rw [hd, modPort_self, if_pos h]
  exact hf _

/-- A port without a link touches nothing but itself. -/
theorem toDetect_down (h : linkUp c.ports[p] = false) (hcalm : failsAttempt c.ports[p] = true → (c.ports[p]).failedAttempts < 3) :
    InDetect (c.ports[p]) (toDetect p c).ports[p] ∧ OnlyPortOf p c (toDetect p c) := by
  obtain ⟨f, hf, hd⟩ := toDetect_calm hcalm
  rw [if_neg (by rw [h]; exact Bool.false_ne_true)] at hd
  rw [hd]
  refine ⟨?_, (OnlyPortOf.modPort p _ c).trans (.modPort p f _)⟩
  rw [modPort_self, modPort_self]
  obtain ⟨hlink, hretrain, hrate, henable, hhold⟩ := hf (resetLink c.ports[p])
  exact ⟨hlink, hretrain, hrate, henable, hhold⟩

end Sys2Proof.Machine
end

section
/-! SUPPORT. What a port's sending leaves of its transmitter's sleep, and that nothing is sent where nothing waits. -/

namespace Sys2Proof.Machine

open Sys2Proof

variable {p : Fin 4} {c : Ctl} {q : Port}

/-! ## Sending leaves a transmitter awake or asleep (R59) -/

theorem txFlits_txSleep (l : List (List Slot)) (q : Port) : (txFlits l q).txSleep = q.txSleep := by
  induction l generalizing q with
  | nil => rfl
  | cons f t ih =>
    unfold txFlits
    split
    · exact ih _
    · rfl

theorem resumeFlits_txSleep (q : Port) : (resumeFlits q).txSleep = q.txSleep := by
  unfold resumeFlits
  split
  · exact txFlits_txSleep _ _
  · rfl

theorem sendPkt_txSleep {k : OutPkt} {t : Port} (h : sendPkt k q = some t) : t.txSleep = q.txSleep := by
  unfold sendPkt at h
  extract_lets slots vc at h
  split at h
  · rw [← Option.some.inj h]; exact txFlits_txSleep _ _
  · cases h

theorem drainQueue_txSleep (l : List OutPkt) (q : Port) : (drainQueue l q).2.txSleep = q.txSleep := by
  induction l generalizing q with
  | nil => rfl
  | cons k t ih =>
    unfold drainQueue
    split
    · rename_i r hr; exact (ih r).trans (sendPkt_txSleep hr)
    · rfl

theorem askWake_txSleep (q : Port) : (askWake q).txSleep = q.txSleep := by
  unfold askWake
  extract_lets waits
  split <;> rfl

theorem wakeTx_awake (h : q.txSleep = .active) : wakeTx q = q := if_pos h

/-- A transmitter that is awake stays awake while it sends. -/
theorem pumpPort_awake (h : (c.ports[p]).txSleep = .active) : ((pumpPort p c).ports[p]).txSleep = .active := by
  unfold pumpPort
  extract_lets q q1 r1 r2 r3 st c1
  have h1 : q1.txSleep = .active := by
    unfold q1
    rw [resumeFlits_txSleep]
    split
    · exact h
    · rw [wakeTx_awake h]; exact h
  have h2 : r2.2.txSleep = .active := by
    unfold r2 r1
    rw [drainQueue_txSleep, drainQueue_txSleep, h1]
  have h3 : r3.2.txSleep = .active := by
    unfold r3
    split
    · rw [drainQueue_txSleep, h2]
    · exact h2
  simp only [Fin.getElem_fin, Vector.getElem_set_self, askWake_txSleep]
  exact h3

/-- A sleeping transmitter past its minimum sleep wakes. -/
theorem wakeTx_wakes (h : q.sleepMinimum = false) : (wakeTx q).txSleep = .active := by
  unfold wakeTx
  split
  · assumption
  · rw [if_neg (by simp [h])]

theorem wakePort_awake (hup : linkUp c.ports[p] = true) (hmin : (c.ports[p]).sleepMinimum = false) :
    ((wakePort p c).ports[p]).txSleep = .active := by
  unfold wakePort
  rw [if_pos hup]
  exact pumpPort_awake (by rw [modPort_self]; exact wakeTx_wakes hmin)

theorem wakePort_sleepMinimum : ((wakePort p c).ports[p]).sleepMinimum = (c.ports[p]).sleepMinimum := by
  unfold wakePort
  split
  · rw [(pumpPort_self p).sleepMinimum, modPort_self, (wakeTx_sent _).sleepMinimum]
  · rfl

/-! ## Nothing waits -/

theorem resumeFlits_quiet (h : quiet q) : resumeFlits q = q := by
  obtain ⟨-, -, -, hrest⟩ := h
  unfold resumeFlits
  split
  · rw [hrest]
    show ({ q with line := { q.line with rest := [] } } : Port) = q
    rw [← hrest]
  · rfl

theorem askWake_quiet (h : quiet q) : askWake q = q := by
  obtain ⟨hresp, hmgmt, hnotify, hrest⟩ := h
  unfold askWake
  simp [hresp, hmgmt, hnotify, hrest]

theorem quiet_queues (h : quiet q) : ({ q with respQ := [], mgmtQ := [], notifyQ := [] } : Port) = q := by
  obtain ⟨hresp, hmgmt, hnotify, -⟩ := h
  cases q
  cases hresp
  cases hmgmt
  cases hnotify
  rfl

/-- A port for which nothing waits sends nothing. -/
theorem pumpPort_quiet (h : quiet c.ports[p]) : pumpPort p c = bumpBy (pIdx p 27) 0 c := by
  obtain ⟨hresp, hmgmt, hnotify, -⟩ := id h
  have hset : (bumpBy (pIdx p 27) 0 c).ports.set p c.ports[p] = (bumpBy (pIdx p 27) 0 c).ports := by simp
  have htrk : (bumpBy (pIdx p 27) 0 c).trk.filter (fun t => !([] : List Nat).contains t.id) = (bumpBy (pIdx p 27) 0 c).trk := by simp
  unfold pumpPort
  simp only [hresp, hmgmt, hnotify, List.isEmpty_nil, Bool.and_self, if_true, resumeFlits_quiet h, drainQueue, settleQueue,
    List.length_nil, List.take_nil, poisonedSent, List.countP_nil, quiet_queues h, askWake_quiet h, htrk]
  rw [hset]

end Sys2Proof.Machine
end

section
/-! SUPPORT. What retrains a port and what sends it to DETECT (R35, R38, R43, R48 to R51). -/

namespace Sys2Proof.Machine

open Sys2Proof

variable {p : Fin 4} {s : State}

/-! ## Retrains (R48 to R50) -/

theorem link_of_rxOpen {q : Port} (h : rxOpen q = true) : q.link = .active ∧ q.rxSleep = .active := by
  simpa [rxOpen] using h

theorem linkUp_of_active {q : Port} (h : q.link = .active) : linkUp q = true := by simp [linkUp, h]

/-- A lane marked failing is judged bad in the retrain that it starts (R48, R49). -/
theorem retrainLane_failing {l : Lane} (h : l.failing = true) : (retrainLane l).judged = some false := by
  simp [retrainLane, h]

theorem cdrLockLost_effect {l : Fin 17} (ho : rxOpen (s.ctl.ports[p]) = true) (hs : ((s.ctl.ports[p]).rx[l]).state = .active)
    (hn : (recentRetrains p s.ctl).length ≤ 16) :
    ∃ t, exec (.cdrLockLost p l) s = .next t ∧ (t.ctl.ports[p]).link = .train ∧ (t.ctl.ports[p]).retraining = true ∧
      ((t.ctl.ports[p]).rx[l]).failing = true ∧ ((t.ctl.ports[p]).rx[l]).judged = some false ∧
      (t.ctl.ports[p]).replay = (s.ctl.ports[p]).replay ∧ onlyPort p s t := by
  have hfail : onCdrLoss p l s.ctl = laneFails p l (bump (laneIdx p l.val 1) s.ctl) := by
    unfold onCdrLoss
    exact if_pos (by rw [ho, hs]; rfl)
  refine ⟨{ s with ctl := onCdrLoss p l s.ctl }, rfl, ?_⟩
  rw [hfail]
  unfold laneFails
  generalize hc : modPort p _ (bump (laneIdx p l.val 1) s.ctl) = c
  have hport : c.ports[p] = { s.ctl.ports[p] with rx := (s.ctl.ports[p]).rx.set l { (s.ctl.ports[p]).rx[l] with failing := true } } := by
    rw [← hc, modPort_self, bump_ports]
  have honly : OnlyPortOf p s.ctl c := by rw [← hc]; exact (OnlyPortOf.bump _).trans (.modPort p _ _)
  have hrecent : recentRetrains p c = recentRetrains p s.ctl := by
    unfold recentRetrains
    rw [hport, honly.now]
  obtain ⟨hlink, hretrain, hreplay, -, -, hlane, hrest⟩ := startRetrain_begun (p := p) (c := c)
    (by rw [hport]; exact (link_of_rxOpen ho).1) (by rw [hrecent]; exact hn)
  have hf : ((startRetrain p c).ports[p].rx[l]).failing = true := by rw [hlane, hport]; simp [retrainLane]
  have hj : ((startRetrain p c).ports[p].rx[l]).judged = some false := by
    rw [hlane]
    exact retrainLane_failing (by rw [hport]; simp)
  exact ⟨hlink, hretrain, hf, hj, by rw [hreplay, hport], (honly.trans hrest).onlyPort⟩

theorem writeRetrain_short (hl : (s.ctl.ports[p]).link = .active) : writeRetrain p false s.ctl = startRetrain p s.ctl := by
  unfold writeRetrain
  rw [if_neg (not_not.mpr hl)]
  rfl

theorem writeRetrain_full (hl : (s.ctl.ports[p]).link = .active) : writeRetrain p true s.ctl = toDetect p s.ctl := by
  unfold writeRetrain
  rw [if_neg (not_not.mpr hl)]
  rfl

theorem portRetrain_effect (hl : (s.ctl.ports[p]).link = .active) (hn : (recentRetrains p s.ctl).length ≤ 16) :
    ∃ t, exec (.portRetrain p) s = .next t ∧ (t.ctl.ports[p]).link = .train ∧ (t.ctl.ports[p]).retraining = true ∧
      (t.ctl.ports[p]).replay = (s.ctl.ports[p]).replay ∧ onlyPort p s t := by
  refine ⟨{ s with ctl := writeRetrain p false s.ctl }, rfl, ?_⟩
  rw [writeRetrain_short hl]
  have h := startRetrain_begun hl hn
  exact ⟨h.link, h.retraining, h.replay, h.only.onlyPort⟩

/-! ## DETECT (R35, R38, R43, R49 to R51) -/

theorem portRetrain_detect {s : State} (hl : (s.ctl.ports[p]).link = .active) (hn : 16 < (recentRetrains p s.ctl).length) :
    ∃ t, exec (.portRetrain p) s = .next t ∧ (t.ctl.ports[p]).link = .detect ∧ (t.ctl.ports[p]).retraining = false ∧ onlyLogic s t := by
  refine ⟨{ s with ctl := writeRetrain p false s.ctl }, rfl, ?_⟩
  rw [writeRetrain_short hl, startRetrain_detect hl hn]
  have h := toDetect_up (linkUp_of_active hl)
  exact ⟨h.link, h.retraining, onlyLogic_ctl s _⟩

theorem retrainTimeout_effect (hr : (s.ctl.ports[p]).retraining = true) :
    ∃ t, exec (.retrainTimeout p) s = .next t ∧ (t.ctl.ports[p]).link = .detect ∧ (t.ctl.ports[p]).retraining = false ∧
      (t.ctl.ports[p]).rate = 0 ∧ onlyLogic s t := by
  refine ⟨{ s with ctl := if (s.ctl.ports[p]).retraining then toDetect p s.ctl else s.ctl }, rfl, ?_⟩
  rw [if_pos hr]
  have h := toDetect_up (p := p) (c := s.ctl) (by unfold linkUp; rw [hr]; exact Bool.or_true _)
  exact ⟨h.link, h.retraining, h.rate, onlyLogic_ctl s _⟩

theorem portRetrainFull_effect (hl : (s.ctl.ports[p]).link = .active) :
    ∃ t, exec (.portRetrainFull p) s = .next t ∧ (t.ctl.ports[p]).link = .detect ∧ (t.ctl.ports[p]).retraining = false ∧ onlyLogic s t := by
  refine ⟨{ s with ctl := writeRetrain p true s.ctl }, rfl, ?_⟩
  rw [writeRetrain_full hl]
  have h := toDetect_up (linkUp_of_active hl)
  exact ⟨h.link, h.retraining, onlyLogic_ctl s _⟩

theorem portEnableClear_effect : ∃ t, exec (.portEnableClear p) s = .next t ∧ (t.ctl.ports[p]).link = .detect ∧
    (t.ctl.ports[p]).enable = false ∧ (linkUp (s.ctl.ports[p]) = false → onlyPort p s t) ∧ onlyLogic s t := by
  refine ⟨{ s with ctl := setPortEnable p false s.ctl }, rfl, toDetect_link p, ?_, fun hdown => ?_, onlyLogic_ctl s _⟩
  all_goals
    unfold setPortEnable
    extract_lets c
    rw [if_neg Bool.false_ne_true]
    have henable : (c.ports[p]).enable = false := by unfold c; rw [modPort_self]
    have hcalm : failsAttempt c.ports[p] = true → (c.ports[p]).failedAttempts < 3 := by
      unfold failsAttempt
      rw [henable, Bool.and_false]
      exact fun h => absurd h Bool.false_ne_true
  case refine_1 =>
    cases hup : linkUp c.ports[p] with
    | false => rw [(toDetect_down hup hcalm).1.enable, henable]
    | true => rw [(toDetect_up hup).enable, linkLoss_enable, henable]
  case refine_2 =>
    have hc : linkUp c.ports[p] = false := by unfold c; rw [modPort_self]; exact hdown
    exact ((OnlyPortOf.modPort p _ _).trans (toDetect_down hc hcalm).2).onlyPort

theorem bringupTimeout_effect (hd : (s.ctl.ports[p]).link ≠ .detect) (ha : (s.ctl.ports[p]).link ≠ .active)
    (hr : (s.ctl.ports[p]).retraining = false) (hf : (s.ctl.ports[p]).failedAttempts < 3)
    (hfall : ¬((s.ctl.ports[p]).link = .train ∧ (s.ctl.ports[p]).rate = 2)) :
    ∃ t, exec (.bringupTimeout p) s = .next t ∧ (t.ctl.ports[p]).link = .detect ∧ (t.ctl.ports[p]).rate = 0 ∧
      (t.ctl.ports[p]).holdoff = (s.ctl.ports[p]).holdoff ∧ onlyPort p s t := by
  have heq : onBringupTimeout p s.ctl = toDetect p s.ctl := by
    unfold onBringupTimeout
    rw [if_neg (by simp [-Fin.getElem_fin, hd, ha, hr]), if_neg (by simpa [-Fin.getElem_fin] using hfall)]
  have hdown : linkUp s.ctl.ports[p] = false := by simp [-Fin.getElem_fin, linkUp, ha, hr]
  refine ⟨{ s with ctl := onBringupTimeout p s.ctl }, rfl, ?_⟩
  rw [heq]
  obtain ⟨h, honly⟩ := toDetect_down hdown fun _ => hf
  exact ⟨h.link, h.rate, h.holdoff, honly.onlyPort⟩

/-- Settles O16, clause by clause: the two retrains, then each way to DETECT. -/
theorem retrainsAndDetect : Obligations.RetrainsAndDetect :=
  ⟨fun _ _ _ ho hs hn => cdrLockLost_effect ho hs hn, fun _ _ hl hn => portRetrain_effect hl hn, fun _ _ hl hn => portRetrain_detect hl hn,
    fun _ _ hr => retrainTimeout_effect hr, fun _ _ hl => portRetrainFull_effect hl, fun _ _ => portEnableClear_effect,
    fun _ _ hd ha hr hf hfall => bringupTimeout_effect hd ha hr hf hfall⟩

end Sys2Proof.Machine
end

section
/-! SUPPORT. The sleep timers of a port and its squelch detector (R55 to R61). -/

namespace Sys2Proof.Machine

open Sys2Proof

variable {p : Fin 4} {s : State}

/-! ## A request for sleep (R55, R56, R61) -/

theorem requestSleep_ready {now target : Nat} {q : Port} (hr : sleepReady now q = true) (ha : sleepAllowed q target = true) :
    requestSleep now target q = { q with sleepReqOut := some target, sleepOut := q.sleepOut ++ [(0x20, target)] } :=
  if_pos (by rw [hr, ha]; rfl)

theorem txSleep_of_sleepReady {now : Nat} {q : Port} (h : sleepReady now q = true) : q.txSleep = .active := by
  simp [sleepReady] at h
  tauto

theorem deepIdle_ready {now : Nat} {q : Port} (hr : sleepReady now q = true) (hd : q.sleepDeep = true) (hi : q.txDeepIdle ≠ 0) :
    deepIdle now q = { q with sleepReqOut := some 2, sleepOut := q.sleepOut ++ [(0x20, 2)] } := by
  unfold deepIdle
  rw [if_neg (by simp [hi, hd]), if_neg (by simp [txSleep_of_sleepReady hr])]
  exact requestSleep_ready hr (by simp [sleepAllowed, hd])

theorem txLightIdle_effect (hr : sleepReady s.ctl.now (s.ctl.ports[p]) = true) (hl : (s.ctl.ports[p]).sleepLight = true) :
    ∃ t, exec (.txLightIdle p) s = .next t ∧
      t.ctl.ports[p] = { s.ctl.ports[p] with sleepReqOut := some 1, sleepOut := (s.ctl.ports[p]).sleepOut ++ [(0x20, 1)] } ∧ onlyPort p s t := by
  refine ⟨_, rfl, ?_, (OnlyPortOf.modPort p _ _).onlyPort⟩
  exact (modPort_self _ _).trans (requestSleep_ready hr (by unfold sleepAllowed; rw [hl]; rfl))

theorem txDeepIdle_effect (hr : sleepReady s.ctl.now (s.ctl.ports[p]) = true) (hd : (s.ctl.ports[p]).sleepDeep = true)
    (hi : (s.ctl.ports[p]).txDeepIdle ≠ 0) :
    ∃ t, exec (.txDeepIdle p) s = .next t ∧
      t.ctl.ports[p] = { s.ctl.ports[p] with sleepReqOut := some 2, sleepOut := (s.ctl.ports[p]).sleepOut ++ [(0x20, 2)] } ∧ onlyPort p s t := by
  refine ⟨_, rfl, ?_, (OnlyPortOf.modPort p _ _).onlyPort⟩
  exact (modPort_self _ _).trans (deepIdle_ready hr hd hi)

/-! ## The minimum sleep (R59) -/

theorem onSleepMinimumEnd_running {c : Ctl} (hm : (c.ports[p]).sleepMinimum = true) :
    onSleepMinimumEnd p c =
      if (c.ports[p]).wakeDecided then wakePort p (modPort p (fun q => { q with sleepMinimum := false }) c)
      else modPort p (fun q => { q with sleepMinimum := false }) c := by
  unfold onSleepMinimumEnd
  exact if_neg (by rw [hm]; exact Bool.false_ne_true)

theorem sleepMinimumEnd_effect (hm : (s.ctl.ports[p]).sleepMinimum = true) :
    ∃ t, exec (.sleepMinimumEnd p) s = .next t ∧ (t.ctl.ports[p]).sleepMinimum = false ∧
      ((s.ctl.ports[p]).wakeDecided = true → linkUp (s.ctl.ports[p]) = true → (t.ctl.ports[p]).txSleep = .active) ∧
      ((s.ctl.ports[p]).wakeDecided = false → (t.ctl.ports[p]).txSleep = (s.ctl.ports[p]).txSleep ∧ onlyPort p s t) ∧ onlyLogic s t := by
  refine ⟨{ s with ctl := onSleepMinimumEnd p s.ctl }, rfl, ?_⟩
  rw [onSleepMinimumEnd_running hm]
  generalize hc : modPort p (fun q => { q with sleepMinimum := false }) s.ctl = c
  have hport : c.ports[p] = { s.ctl.ports[p] with sleepMinimum := false } := by rw [← hc, modPort_self]
  have honly : OnlyPortOf p s.ctl c := by rw [← hc]; exact .modPort p _ _
  cases hw : (s.ctl.ports[p]).wakeDecided with
  | true =>
    rw [if_pos rfl]
    refine ⟨by rw [wakePort_sleepMinimum, hport], fun _ hup => ?_, fun h => absurd h.symm Bool.false_ne_true, onlyLogic_ctl s _⟩
    exact wakePort_awake (by rw [hport]; exact hup) (by rw [hport])
  | false =>
    rw [if_neg Bool.false_ne_true]
    exact ⟨by rw [hport], fun h => absurd h Bool.false_ne_true, fun _ => ⟨by rw [hport], honly.onlyPort⟩, onlyLogic_ctl s _⟩

/-! ## A wake that does not complete (R60, R61) -/

theorem wakeAckTimeout_effect (hl : (s.ctl.ports[p]).link = .active) (hw : (s.ctl.ports[p]).wakeUnacked = true)
    (hn : (recentRetrains p s.ctl).length ≤ 16) :
    ∃ t, exec (.wakeAckTimeout p) s = .next t ∧ (t.ctl.ports[p]).link = .train ∧ (t.ctl.ports[p]).retraining = true ∧
      (t.ctl.ports[p]).wakeUnacked = false ∧ onlyPort p s t := by
  refine ⟨{ s with ctl := if (s.ctl.ports[p]).wakeUnacked then startRetrain p s.ctl else s.ctl }, rfl, ?_⟩
  rw [if_pos hw]
  have h := startRetrain_begun hl hn
  exact ⟨h.link, h.retraining, h.wakeUnacked, h.only.onlyPort⟩

theorem streamStartTimeout_effect (hl : (s.ctl.ports[p]).link = .active) (hw : (s.ctl.ports[p]).awaitStart = true)
    (hn : (recentRetrains p s.ctl).length ≤ 16) :
    ∃ t, exec (.streamStartTimeout p) s = .next t ∧ (t.ctl.ports[p]).link = .train ∧ (t.ctl.ports[p]).retraining = true ∧
      (t.ctl.ports[p]).awaitStart = false ∧ onlyPort p s t := by
  refine ⟨{ s with ctl := if (s.ctl.ports[p]).awaitStart then startRetrain p s.ctl else s.ctl }, rfl, ?_⟩
  rw [if_pos hw]
  have h := startRetrain_begun hl hn
  exact ⟨h.link, h.retraining, h.awaitStart, h.only.onlyPort⟩

theorem squelchDetect_effect (hl : (s.ctl.ports[p]).link = .active) (hs : (s.ctl.ports[p]).rxSleep ≠ .active) :
    ∃ t, exec (.squelchDetect p) s = .next t ∧ t.ctl.ports[p] = { s.ctl.ports[p] with awaitStart := true, wakeBlocks := 0 } ∧
      onlyPort p s t := by
  have h : ((s.ctl.ports[p]).link = .active && decide ((s.ctl.ports[p]).rxSleep ≠ .active)) = true := by
    simp [-Fin.getElem_fin, hl, hs]
  refine ⟨_, rfl, ?_⟩
  beta_reduce
  rw [if_pos h]
  exact ⟨modPort_self _ _, (OnlyPortOf.modPort p _ _).onlyPort⟩

/-- Settles O20, clause by clause: the requests for sleep, the minimum sleep, the wakes that do not complete, and the squelch
detector. -/
theorem sleepTimers : Obligations.SleepTimers :=
  ⟨fun _ _ hr hl => txLightIdle_effect hr hl, fun _ _ hr hd hi => txDeepIdle_effect hr hd hi, fun _ _ hm _ => sleepMinimumEnd_effect hm,
    fun _ _ hl hw hn => wakeAckTimeout_effect hl hw hn, fun _ _ hl hw hn => streamStartTimeout_effect hl hw hn,
    fun _ _ hl hs => squelchDetect_effect hl hs⟩

end Sys2Proof.Machine
end

section
/-! SUPPORT. TS_TRAIN, TS_MAP and TS_WAKE blocks, alignment markers and STREAM_START (R35, R37, R41, R46, R47, R58, R60). -/

namespace Sys2Proof.Machine

open Sys2Proof

variable {p : Fin 4} {l : Fin 17} {c : Ctl} {s : State} {b : Block} {x : Nat}

/-! ## TS_TRAIN (R37) -/

theorem trainExit_unjudged (h : allJudged c.ports[p] = false) : trainExit p c = c := by
  unfold trainExit
  exact if_neg (by simp [-Fin.getElem_fin, h])

theorem onTsTrain_train (hl : (c.ports[p]).link = .train) (hb : tsBlock b = some (x, ((c.ports[p]).rx[l]).polarityInv))
    (hx : tsType x = 2) : onTsTrain p l b c = trainStep p x c := by
  unfold onTsTrain
  simp only [hb, hl, hx, if_true, ne_eq, not_true_eq_false, if_false, bne_self_eq_false, Bool.false_eq_true]

theorem tsTrain_effect (hl : (s.ctl.ports[p]).link = .train) (hb : tsBlock b = some (x, ((s.ctl.ports[p]).rx[l]).polarityInv))
    (hx : tsType x = 2) (hj : allJudged (s.ctl.ports[p]) = false) :
    ∃ t, exec (.tsTrain p l b) s = .next t ∧ (t.ctl.ports[p]).link = .train ∧
      (t.ctl.ports[p]).partnerGood = (if tsDone x then tsRxGood x else (s.ctl.ports[p]).partnerGood) ∧
      (t.ctl.ports[p]).rx = (s.ctl.ports[p]).rx ∧ onlyPort p s t := by
  refine ⟨{ s with ctl := onTsTrain p l b s.ctl }, rfl, ?_⟩
  rw [onTsTrain_train hl hb hx]
  unfold trainStep
  rw [trainExit_unjudged (by rw [modPort_self]; exact hj)]
  refine ⟨?_, ?_, ?_, (OnlyPortOf.modPort p _ _).onlyPort⟩
  · rw [modPort_self]; exact hl
  · rw [modPort_self]
  · rw [modPort_self]

/-! ## TS_MAP (R35, R41) -/

theorem mapExit_mapMatches (q : Port) : (mapExit q).mapMatches = q.mapMatches := by unfold mapExit; split <;> rfl
theorem mapExit_txMap (q : Port) : (mapExit q).txMap = q.txMap := by unfold mapExit; split <;> rfl

theorem mapExit_link {q : Port} (h : q.link = .laneMap) :
    (mapExit q).link = if 16 ≤ q.mapMatches ∧ 16 ≤ q.doneSent then .deskew else .laneMap := by
  unfold mapExit
  by_cases h16 : 16 ≤ q.mapMatches ∧ 16 ≤ q.doneSent
  · rw [if_pos (by simp [h, h16]), if_pos h16]
    rfl
  · rw [if_neg (by simp [h]; omega), if_neg h16, h]

/-- A TS_MAP block of a new block time that agrees with both maps is counted. -/
theorem onTsMap_matches (hl : (c.ports[p]).link = .laneMap) (hb : tsBlock b = some (x, ((c.ports[p]).rx[l]).polarityInv))
    (hx : tsType x = 3) (hnew : newTime (c.ports[p]) x = true)
    (hmap : laneMap (widthBound (c.ports[p]) (c.ports[p]).txMap) (tsRxGood x) = some (c.ports[p]).txMap)
    (hm : mapMatches (c.ports[p]).rxMap x = true) :
    onTsMap p l b c = modPort p mapExit (modPort p (fun q => { q with
      partnerGood := tsRxGood x, txMap := (c.ports[p]).txMap, mapMatches := (c.ports[p]).mapMatches + 1, tsTime := some (tsCountOf x) }) c) := by
  unfold onTsMap
  simp only [hb, hl, hx, hnew, hmap, hm, reduceCtorEq, if_false, ne_eq, not_true_eq_false, decide_false, bne_self_eq_false, Bool.not_true,
    Bool.or_self, Bool.false_eq_true, if_true]

theorem tsMap_effect (hl : (s.ctl.ports[p]).link = .laneMap) (hb : tsBlock b = some (x, ((s.ctl.ports[p]).rx[l]).polarityInv))
    (hx : tsType x = 3) (hnew : newTime (s.ctl.ports[p]) x = true)
    (hmap : laneMap (widthBound (s.ctl.ports[p]) (s.ctl.ports[p]).txMap) (tsRxGood x) = some (s.ctl.ports[p]).txMap)
    (hm : mapMatches (s.ctl.ports[p]).rxMap x = true) :
    ∃ t, exec (.tsMap p l b) s = .next t ∧ (t.ctl.ports[p]).mapMatches = (s.ctl.ports[p]).mapMatches + 1 ∧
      (t.ctl.ports[p]).link = (if 15 ≤ (s.ctl.ports[p]).mapMatches ∧ 16 ≤ (s.ctl.ports[p]).doneSent then .deskew else .laneMap) ∧
      (t.ctl.ports[p]).txMap = (s.ctl.ports[p]).txMap ∧ onlyPort p s t := by
  refine ⟨{ s with ctl := onTsMap p l b s.ctl }, rfl, ?_⟩
  rw [onTsMap_matches hl hb hx hnew hmap hm]
  refine ⟨?_, ?_, ?_, ((OnlyPortOf.modPort p _ _).trans (.modPort p _ _)).onlyPort⟩
  all_goals rw [modPort_self, modPort_self]
  · rw [mapExit_mapMatches]
  · rw [mapExit_link (by exact hl)]
    exact if_congr (and_congr_left' Nat.succ_le_succ_iff) rfl rfl
  · rw [mapExit_txMap]

/-! ## TS_WAKE (R60) -/

theorem onTsWake_asleep (hl : (c.ports[p]).link = .active) (hs : (c.ports[p]).rxSleep ≠ .active)
    (hb : tsBlock b = some (x, ((c.ports[p]).rx[l]).polarityInv)) (hx : tsType x = 4) :
    onTsWake p l b c = modPort p (fun q => { q with wakeBlocks := q.wakeBlocks + 1 }) c := by
  unfold onTsWake
  simp only [hb, hl, hs, hx, ne_eq, not_true_eq_false, decide_false, Bool.or_self, Bool.false_eq_true, if_false, bne_self_eq_false]

theorem tsWake_effect (hl : (s.ctl.ports[p]).link = .active) (hs : (s.ctl.ports[p]).rxSleep ≠ .active)
    (hb : tsBlock b = some (x, ((s.ctl.ports[p]).rx[l]).polarityInv)) (hx : tsType x = 4) :
    ∃ t, exec (.tsWake p l b) s = .next t ∧ (t.ctl.ports[p]).wakeBlocks = (s.ctl.ports[p]).wakeBlocks + 1 ∧
      (t.ctl.ports[p]).link = .active ∧ onlyPort p s t := by
  refine ⟨{ s with ctl := onTsWake p l b s.ctl }, rfl, ?_⟩
  rw [onTsWake_asleep hl hs hb hx]
  refine ⟨?_, ?_, (OnlyPortOf.modPort p _ _).onlyPort⟩
  · rw [modPort_self]
  · rw [modPort_self]; exact hl

/-! ## STREAM_START (R47) -/

theorem onStreamStart_only : OnlyPortOf p c (onStreamStart p c) := by
  unfold onStreamStart
  extract_lets q
  split
  · exact .modPort p _ c
  · exact .refl p c

theorem onStreamStart_rx : ((onStreamStart p c).ports[p]).rx = (c.ports[p]).rx := by
  unfold onStreamStart
  extract_lets q
  split
  · rw [modPort_self]; rfl
  · rfl

/-- The flit stream has begun again at a port: the receiver is awake and holds nothing of the stream before. -/
structure StreamBegun (q t : Port) : Prop where
  rxSleep : t.rxSleep = .active
  awaitStart : t.awaitStart = false
  rxFlits : t.rxFlits = []
  rxLine : t.rxLine = []
  partialLen : t.partialLen = 0
  rxCw : t.rxCw = 0
  link : t.link = if q.link = .deskew then .linkInit else q.link

theorem onStreamStart_begun (h : ((c.ports[p]).link = .deskew ∧ deskewDone (c.ports[p]) = true) ∨ (c.ports[p]).link = .linkInit ∨
    (c.ports[p]).link = .active) : StreamBegun (c.ports[p]) (onStreamStart p c).ports[p] := by
  unfold onStreamStart
  extract_lets q
  rw [if_pos (by simpa [q, or_assoc] using h), modPort_self]
  exact ⟨rfl, rfl, rfl, rfl, rfl, rfl, rfl⟩

theorem streamStart_effect (h : ((s.ctl.ports[p]).link = .deskew ∧ deskewDone (s.ctl.ports[p]) = true) ∨
    (s.ctl.ports[p]).link = .linkInit ∨ (s.ctl.ports[p]).link = .active) :
    ∃ t, exec (.streamStart p) s = .next t ∧ (t.ctl.ports[p]).rxSleep = .active ∧ (t.ctl.ports[p]).awaitStart = false ∧
      (t.ctl.ports[p]).rxFlits = [] ∧ (t.ctl.ports[p]).rxLine = [] ∧ (t.ctl.ports[p]).partialLen = 0 ∧ (t.ctl.ports[p]).rxCw = 0 ∧
      (t.ctl.ports[p]).link = (if (s.ctl.ports[p]).link = .deskew then .linkInit else (s.ctl.ports[p]).link) ∧ onlyPort p s t := by
  obtain ⟨hsleep, hawait, hflits, hline, hlen, hcw, hlink⟩ := onStreamStart_begun h
  exact ⟨_, rfl, hsleep, hawait, hflits, hline, hlen, hcw, hlink, onStreamStart_only.onlyPort⟩

/-! ## The EVENT of a marker (R46, R47, R58) -/

theorem enterSleep_only (deep : Bool) : OnlyPortOf p c (enterSleep p deep c) := by
  unfold enterSleep
  split
  · exact .refl p c
  · exact (OnlyPortOf.modPort p _ c).trans (.bump _)

/-- A receiver that falls asleep keeps of each lane all but its adaptation state. -/
theorem enterSleep_lane (deep : Bool) (k : Fin 17) :
    ∃ a, ((enterSleep p deep c).ports[p]).rx[k] = { (c.ports[p]).rx[k] with rxAdapt := a } := by
  unfold enterSleep
  split
  · exact ⟨_, rfl⟩
  · refine ⟨adaptNow p k c, ?_⟩
    simp only [bump_ports, modPort_self, (askWake_sent _).rx]
    simp [dropPartial, adaptedLanes]

theorem enterSleep_awake (deep : Bool) (hl : (c.ports[p]).link = .active) (hs : (c.ports[p]).rxSleep = .active) :
    ((enterSleep p deep c).ports[p]).link = .active ∧ ((enterSleep p deep c).ports[p]).rxSleep = if deep then .deep else .light := by
  unfold enterSleep
  rw [if_neg (by simp [-Fin.getElem_fin, rxOpen, hl, hs]), bump_ports, modPort_self, (askWake_sent _).link, (askWake_sent _).rxSleep]
  exact ⟨hl, rfl⟩

theorem markerEvent_only : OnlyPortOf p c (markerEvent p l x c) := by
  unfold markerEvent
  split
  · exact .refl p c
  split
  · exact onStreamStart_only
  split
  · exact enterSleep_only false
  split
  · exact enterSleep_only true
  · exact .refl p c

/-- The EVENT of a marker keeps of each lane all but its adaptation state. -/
theorem markerEvent_lane (k : Fin 17) : ∃ a, ((markerEvent p l x c).ports[p]).rx[k] = { (c.ports[p]).rx[k] with rxAdapt := a } := by
  unfold markerEvent
  split
  · exact ⟨_, rfl⟩
  split
  · exact ⟨((c.ports[p]).rx[k]).rxAdapt, by simp only [onStreamStart_rx]⟩
  split
  · exact enterSleep_lane false k
  split
  · exact enterSleep_lane true k
  · exact ⟨_, rfl⟩

/-- An awake receiver stays ACTIVE, and falls asleep at the ENTER markers of its lowest active lane. -/
theorem markerEvent_awake (hl : (c.ports[p]).link = .active) (hs : (c.ports[p]).rxSleep = .active) :
    ((markerEvent p l x c).ports[p]).link = .active ∧
    ((markerEvent p l x c).ports[p]).rxSleep =
      if lowActive (c.ports[p]) = some l ∧ bitsOf x 64 4 = 2 then .light
      else if lowActive (c.ports[p]) = some l ∧ bitsOf x 64 4 = 3 then .deep else .active := by
  unfold markerEvent
  by_cases hlow : lowActive c.ports[p] = some l
  · rw [if_neg (not_not.mpr hlow)]
    simp only [hlow, true_and]
    by_cases h1 : bitsOf x 64 4 = 1
    · have h := onStreamStart_begun (.inr (.inr hl))
      rw [if_pos h1, if_neg (by omega), if_neg (by omega), h.link, h.rxSleep, if_neg (by rw [hl]; simp)]
      exact ⟨hl, rfl⟩
    rw [if_neg h1]
    by_cases h2 : bitsOf x 64 4 = 2
    · rw [if_pos h2, if_pos h2]; exact enterSleep_awake false hl hs
    rw [if_neg h2, if_neg h2]
    by_cases h3 : bitsOf x 64 4 = 3
    · rw [if_pos h3, if_pos h3]; exact enterSleep_awake true hl hs
    · rw [if_neg h3, if_neg h3]; exact ⟨hl, hs⟩
  · simp only [ne_eq, hlow, not_false_eq_true, if_true, false_and, if_false]
    exact ⟨hl, hs⟩

/-! ## Markers (R46, R48) -/

/-- The lowest active lane depends on the lanes' states alone. -/
theorem lowActive_set {q : Port} {y : Lane} (h : y.state = (q.rx[l]).state) : lowActive { q with rx := q.rx.set l y } = lowActive q := by
  have hstate (k : Fin 17) : ((q.rx.set l y)[k]).state = (q.rx[k]).state := by
    rw [getLane_set]
    split
    · rename_i hk
      rw [h, hk]
    · rfl
  unfold lowActive
  simp only [hstate]

/-- A good marker on an ACTIVE lane clears its count of missed ones before its EVENT acts. -/
theorem onMarker_active {m : Option Block} (hs : ((c.ports[p]).rx[l]).state = .active) (hm : amRead ((c.ports[p]).rx[l]) m = some x)
    (hf : amFits (c.ports[p]) l x = true) (ho : rxOpen (c.ports[p]) = true) :
    onMarker p l m c = markerEvent p l x (modPort p (fun q => { q with
      rx := q.rx.set l { (c.ports[p]).rx[l] with amMissed := 0, amGot := true, amGood := true } }) c) := by
  obtain ⟨hl, hsl⟩ := link_of_rxOpen ho
  unfold onMarker
  simp [-Fin.getElem_fin, hs, hl, hsl, hm, hf]

/-- A good marker in DESKEW aligns its lane before its EVENT acts. -/
theorem onMarker_deskew {m : Option Block} (hs : ((c.ports[p]).rx[l]).state = .active) (hm : amRead ((c.ports[p]).rx[l]) m = some x)
    (hf : amFits (c.ports[p]) l x = true) (hsl : (c.ports[p]).rxSleep = .active) (hl : (c.ports[p]).link = .deskew) :
    ∃ d, onMarker p l m c = markerEvent p l x d ∧ OnlyPortOf p c d ∧ ((d.ports[p]).rx[l]).amMissed = 0 ∧ ((d.ports[p]).rx[l]).amSeen = true := by
  unfold onMarker
  extract_lets q lane put live c1
  rw [if_neg (by simp [-Fin.getElem_fin, lane, q, live, hs, hl, hsl])]
  split
  · rename_i hnone
    exact absurd (hnone.symm.trans hm) (by simp)
  · rename_i y hy
    obtain rfl : y = x := Option.some.inj (hy.symm.trans hm)
    rw [if_neg (by simp [-Fin.getElem_fin, q, hf]), if_pos hl]
    extract_lets c2 c3
    have h1 : OnlyPortOf p c c1 := (OnlyPortOf.setDraws _).trans (.modPort p _ _)
    have h2 : OnlyPortOf p c c2 ∧ (c2.ports[p]).rx = (c1.ports[p]).rx := by
      unfold c2
      split
      · exact ⟨h1.trans (.modPort p _ _), by rw [modPort_self]⟩
      · exact ⟨h1, rfl⟩
    have h3 : OnlyPortOf p c c3 ∧ (c3.ports[p]).rx = (c1.ports[p]).rx := by
      unfold c3
      split
      · exact ⟨h2.1.trans (.modPort p _ _), by rw [modPort_self, h2.2]⟩
      · exact h2
    have hlane : (c3.ports[p]).rx[l] = (c1.ports[p]).rx[l] := by simp only [h3.2]
    refine ⟨c3, rfl, h3.1, ?_, ?_⟩
    all_goals
      rw [hlane]
      unfold c1 put
      simp

theorem goodMarker_effect {m : Option Block} (hs : ((s.ctl.ports[p]).rx[l]).state = .active)
    (hm : amRead ((s.ctl.ports[p]).rx[l]) m = some x) (hf : amFits (s.ctl.ports[p]) l x = true) (hsl : (s.ctl.ports[p]).rxSleep = .active)
    (ho : (s.ctl.ports[p]).link = .deskew ∨ rxOpen (s.ctl.ports[p]) = true) :
    ∃ t, exec (.alignmentMarker p l m) s = .next t ∧ ((t.ctl.ports[p]).rx[l]).amMissed = 0 ∧
      ((s.ctl.ports[p]).link = .deskew → ((t.ctl.ports[p]).rx[l]).amSeen = true) ∧
      ((s.ctl.ports[p]).link = .active → (t.ctl.ports[p]).link = .active ∧
        (t.ctl.ports[p]).rxSleep = (if lowActive (s.ctl.ports[p]) = some l ∧ bitsOf x 64 4 = 2 then .light
          else if lowActive (s.ctl.ports[p]) = some l ∧ bitsOf x 64 4 = 3 then .deep else .active)) ∧ onlyPort p s t := by
  refine ⟨{ s with ctl := onMarker p l m s.ctl }, rfl, ?_⟩
  obtain hl | ho := ho
  · obtain ⟨d, heq, honly, hmissed, hseen⟩ := onMarker_deskew hs hm hf hsl hl
    obtain ⟨a, ha⟩ := markerEvent_lane (p := p) (l := l) (x := x) (c := d) l
    rw [heq]
    refine ⟨by rw [ha]; exact hmissed, fun _ => by rw [ha]; exact hseen, fun hact => ?_, (honly.trans markerEvent_only).onlyPort⟩
    rw [hl] at hact
    cases hact
  · obtain ⟨hl, -⟩ := link_of_rxOpen ho
    rw [onMarker_active hs hm hf ho]
    generalize hd : modPort p _ s.ctl = d
    have hport : d.ports[p] = { s.ctl.ports[p] with
        rx := (s.ctl.ports[p]).rx.set l { (s.ctl.ports[p]).rx[l] with amMissed := 0, amGot := true, amGood := true } } := by
      rw [← hd, modPort_self]
    have honly : OnlyPortOf p s.ctl d := by rw [← hd]; exact .modPort p _ _
    have hlow : lowActive d.ports[p] = lowActive s.ctl.ports[p] := by rw [hport]; exact lowActive_set rfl
    obtain ⟨a, ha⟩ := markerEvent_lane (p := p) (l := l) (x := x) (c := d) l
    refine ⟨by rw [ha, hport]; simp, fun hdesk => ?_, fun _ => ?_, (honly.trans markerEvent_only).onlyPort⟩
    · rw [hl] at hdesk
      cases hdesk
    · rw [← hlow]
      exact markerEvent_awake (by rw [hport]; exact hl) (by rw [hport]; exact hsl)

/-! ## A marker that does not come (R46, R64) -/

/-- The counter of missed markers of each lane has 16 bits (R64). -/
theorem counterWidth_missed (p : Fin 4) (l : Fin 17) : counterWidth (laneIdx p l.val 2) = some 16 := by
  have hmod : laneIdx p l.val 2 % 4 = 2 := by unfold laneIdx; omega
  have hp := p.isLt
  have hl := l.isLt
  have hlo : 0x200 ≤ laneIdx p l.val 2 := by unfold laneIdx; omega
  have hhi : laneIdx p l.val 2 < 0x200 + 4 * 68 := by unfold laneIdx; omega
  unfold counterWidth
  rw [if_neg (by omega), if_neg (by omega), if_pos (by omega), if_pos hhi, hmod]
  rfl

theorem onMarker_missing (hs : ((c.ports[p]).rx[l]).state = .active) (ho : rxOpen (c.ports[p]) = true) :
    onMarker p l none c = markerMissed p l c := by
  obtain ⟨hl, hsl⟩ := link_of_rxOpen ho
  unfold onMarker
  simp [-Fin.getElem_fin, hs, hl, hsl, amRead]

/-- The first and the second missed marker in succession are counted, and nothing else happens. -/
theorem markerMissed_counts (hm : ((c.ports[p]).rx[l]).amMissed < 2) :
    markerMissed p l c = bump (laneIdx p l.val 2) (modPort p (fun q => { q with
      rx := q.rx.set l { (c.ports[p]).rx[l] with amMissed := ((c.ports[p]).rx[l]).amMissed + 1, amGot := true } }) c) := by
  unfold markerMissed
  extract_lets lane d
  refine if_neg ?_
  have h3 : ¬ 3 ≤ lane.amMissed + 1 := by unfold lane; omega
  simp [h3]

theorem missingMarker_effect (hs : ((s.ctl.ports[p]).rx[l]).state = .active) (ho : rxOpen (s.ctl.ports[p]) = true)
    (hm : ((s.ctl.ports[p]).rx[l]).amMissed < 2) :
    ∃ t, exec (.alignmentMarker p l none) s = .next t ∧ ((t.ctl.ports[p]).rx[l]).amMissed = ((s.ctl.ports[p]).rx[l]).amMissed + 1 ∧
      (t.ctl.ports[p]).link = .active ∧ scoreGet t.ctl (laneIdx p l.val 2) = Nat.min (scoreGet s.ctl (laneIdx p l.val 2) + 1) (2 ^ 16 - 1) ∧
      onlyPort p s t := by
  refine ⟨{ s with ctl := onMarker p l none s.ctl }, rfl, ?_⟩
  rw [onMarker_missing hs ho, markerMissed_counts hm]
  refine ⟨?_, ?_, scoreGet_bump_self (counterWidth_missed p l) (by omega), ((OnlyPortOf.modPort p _ _).trans (.bump _)).onlyPort⟩
  · simp
  · rw [bump_ports, modPort_self]
    exact (link_of_rxOpen ho).1

/-- Settles O15, clause by clause: TS_TRAIN, TS_MAP, TS_WAKE, a good marker, a missing one, and STREAM_START. -/
theorem trainMapAndStream : Obligations.TrainMapAndStream :=
  ⟨fun _ _ _ _ _ hl hb hx hj => tsTrain_effect hl hb hx hj, fun _ _ _ _ _ hl hb hx hnew hmap hm => tsMap_effect hl hb hx hnew hmap hm,
    fun _ _ _ _ _ hl hs hb hx => tsWake_effect hl hs hb hx, fun _ _ _ _ _ hs hm hf hsl ho => goodMarker_effect hs hm hf hsl ho,
    fun _ _ _ hs ho hm => missingMarker_effect hs ho hm, fun _ _ h => streamStart_effect h⟩

end Sys2Proof.Machine
end

section
/-! SUPPORT. Code words: the flits that they carry and their errors (R44, R46, R48). -/

namespace Sys2Proof.Machine

open Sys2Proof

variable {p : Fin 4} {c d : Ctl} {s : State} {q : Port}

theorem rxStream_of_rxOpen (h : rxOpen q = true) : rxStream q = true := by
  unfold rxStream
  rw [h]
  rfl

/-! ## Code words (R44, R48) -/

/-- Enough cuts leave the bits that fill no whole flit. -/
theorem cutFlits_left (n v len : Nat) (h : len < (n + 1) * 576) : (cutFlits n v len).2.2 = len % 576 := by
  induction n generalizing v len with
  | zero =>
    show len = len % 576
    omega
  | succ n ih =>
    unfold cutFlits
    by_cases hlt : len < 576
    · rw [if_pos hlt, Nat.mod_eq_of_lt hlt]
    · rw [if_neg hlt]
      have hrec := ih (v >>> 576) (len - 576) (by omega)
      rw [Nat.mod_eq_sub_mod (by omega), ← hrec]

theorem modPort_congr {g h : Port → Port} (hgh : g c.ports[p] = h c.ports[p]) : modPort p g c = modPort p h c := by
  unfold modPort
  rw [hgh]

/-- The flits that a code word's message completes, and what it leaves of the next (R44). -/
def wordCut (msg : BitVec 5140) (q : Port) : List Flit × Nat × Nat :=
  cutFlits 10 (q.partialVal + msg.toNat * 2 ^ q.partialLen) (q.partialLen + 5140)

theorem wordCut_left {msg : BitVec 5140} (h : q.partialLen < 576) : (wordCut msg q).2.2 = (q.partialLen + 5140) % 576 := by
  unfold wordCut
  rw [cutFlits_left 10]
  omega

/-- Flits cut from the stream join those on their way to the elastic buffer (R54). -/
def takeCut (r : List Flit × Nat × Nat) (q : Port) : Port :=
  { q with partialVal := r.2.1, partialLen := r.2.2, rxLine := q.rxLine ++ r.1 }

section
variable (r : List Flit × Nat × Nat) (q : Port)

theorem takeCut_cwCount : (takeCut r q).cwCount = q.cwCount := rfl
theorem takeCut_partialLen : (takeCut r q).partialLen = r.2.2 := rfl
theorem takeCut_rxLine : (takeCut r q).rxLine = q.rxLine ++ r.1 := rfl
theorem takeCut_rxFlits : (takeCut r q).rxFlits = q.rxFlits := rfl
theorem takeCut_expSeq : (takeCut r q).expSeq = q.expSeq := rfl
theorem takeCut_link : (takeCut r q).link = q.link := rfl
theorem takeCut_uncorrAt : (takeCut r q).uncorrAt = q.uncorrAt := rfl

end

/-- A port that has counted a code word inside a marker interval, before the word's errors are judged. -/
structure WordCounted (p : Fin 4) (c d : Ctl) : Prop where
  port : d.ports[p] = { c.ports[p] with
    rxCw := (d.ports[p]).rxCw, rx := (d.ports[p]).rx, cwCount := (c.ports[p]).cwCount + 1
    uncorrAt := (c.ports[p]).uncorrAt.filter fun k => (c.ports[p]).cwCount < k + 1024 }
  only : OnlyPortOf p c d
  score : d.score = c.score

/-- Inside a marker interval only the count of code words and the lanes' marks of the boundary change (R46). -/
theorem passBoundary_inside (hl : (c.ports[p]).link = .active) (hcw : (c.ports[p]).rxCw < 4096) :
    ∃ n rx, passBoundary p c = modPort p (fun q => { q with rxCw := n, rx := rx }) c := by
  unfold passBoundary
  extract_lets q active lost c1
  by_cases h0 : q.rxCw = 0
  · exact ⟨1, (firstWord q).rx, if_pos h0⟩
  · have hlimit : (if q.link = .deskew then 64 else 4096) = 4096 := if_neg (by unfold q; rw [hl]; simp)
    rw [if_neg h0, hlimit, if_pos hcw]
    exact ⟨q.rxCw + 1, q.rx, rfl⟩

/-- A code word inside a marker interval, with no flits of the word before still on their way, is counted and judged; then its message
is taken, unless its errors end the stream. -/
theorem onCodeWord_inside (word : BitVec 5440) (ho : rxOpen (c.ports[p]) = true) (hline : (c.ports[p]).rxLine = [])
    (hcw : (c.ports[p]).rxCw < 4096) :
    ∃ (d : Ctl) (msg : BitVec 5140), WordCounted p c d ∧ (∀ x, rsDecode word = some x → msg = x.2) ∧
      (rxStream (wordErrors p ((rsDecode word).map (·.1)) d).ports[p] = true →
        onCodeWord p word c = modPort p (fun q => takeCut (wordCut msg q) q) (wordErrors p ((rsDecode word).map (·.1)) d)) := by
  obtain ⟨n, rx, hpass⟩ := passBoundary_inside (link_of_rxOpen ho).1 hcw
  unfold onCodeWord
  extract_lets q found c1 c2 c3 q3 msg r
  have h1 : c1 = modPort p (fun q => { q with rxCw := n, rx := rx }) c := by
    unfold c1
    rw [hline, hpass]
    rfl
  refine ⟨c2, msg, ⟨?_, ?_, ?_⟩, ?_, fun hs => ?_⟩
  · unfold c2
    rw [modPort_self, h1, modPort_self]
  · unfold c2
    rw [h1]
    exact (OnlyPortOf.modPort p _ c).trans (.modPort p _ _)
  · unfold c2
    rw [h1]
    rfl
  · intro x hx
    unfold msg found
    rw [hx]
  · rw [if_neg (by rw [rxStream_of_rxOpen ho]; simp), if_neg (by rw [hs]; simp)]
    refine modPort_congr ?_
    dsimp only [takeCut, wordCut, r, q3, c3]

theorem WordCounted.rxOpen (h : WordCounted p c d) : rxOpen d.ports[p] = rxOpen c.ports[p] := by rw [h.port]; rfl

/-- The counter of uncorrectable code words of a port has 32 bits (R64). -/
theorem counterWidth_uncorrectable (p : Fin 4) : counterWidth (pIdx p 1) = some 32 := by
  have hp := p.isLt
  have hmod : (pIdx p 1 - 0x100) % 0x40 = 1 := by unfold pIdx; omega
  unfold counterWidth
  rw [if_neg (by unfold pIdx; omega), if_pos (by unfold pIdx; omega), hmod]
  rfl

/-- An uncorrectable code word is counted and remembered, while too few of the last 1,024 are such for a retrain (R48). -/
theorem wordErrors_uncorrectable (h : (c.ports[p]).uncorrAt.length < (c.ports[p]).uncorrRetrainLimit) :
    wordErrors p none c = bump (pIdx p 1) (modPort p (fun q => { q with uncorrAt := q.uncorrAt ++ [(c.ports[p]).cwCount - 1] }) c) := by
  unfold wordErrors
  extract_lets q d
  refine if_neg ?_
  unfold d
  rw [bump_ports, modPort_self, List.length_append]
  exact Nat.not_lt.mpr h

theorem cleanWord_effect {check : BitVec 300} {word msg : BitVec 5140} (ho : rxOpen (s.ctl.ports[p]) = true)
    (hlen : (s.ctl.ports[p]).partialLen < 576) (hd : rsDecode (check ++ word) = some ([], msg)) (hline : (s.ctl.ports[p]).rxLine = [])
    (hcw : (s.ctl.ports[p]).rxCw < 4096) :
    ∃ t, exec (.fecCodeWord p check word) s = .next t ∧ (t.ctl.ports[p]).cwCount = (s.ctl.ports[p]).cwCount + 1 ∧
      (t.ctl.ports[p]).partialLen = ((s.ctl.ports[p]).partialLen + 5140) % 576 ∧
      (t.ctl.ports[p]).rxLine = (cutFlits 10 ((s.ctl.ports[p]).partialVal + msg.toNat * 2 ^ (s.ctl.ports[p]).partialLen)
        ((s.ctl.ports[p]).partialLen + 5140)).1 ∧
      (t.ctl.ports[p]).rxFlits = (s.ctl.ports[p]).rxFlits ∧ (t.ctl.ports[p]).expSeq = (s.ctl.ports[p]).expSeq ∧
      (t.ctl.ports[p]).link = .active ∧ onlyPort p s t := by
  obtain ⟨d, m, hcounted, hmsg, hword⟩ := onCodeWord_inside (check ++ word) ho hline hcw
  obtain rfl : m = msg := hmsg _ hd
  have hclean : wordErrors p ((rsDecode (check ++ word)).map (·.1)) d = d := by rw [hd]; rfl
  rw [hclean] at hword
  have hd' := hword (rxStream_of_rxOpen (hcounted.rxOpen.trans ho))
  refine ⟨{ s with ctl := onCodeWord p (check ++ word) s.ctl }, rfl, ?_⟩
  rw [hd']
  refine ⟨?_, ?_, ?_, ?_, ?_, ?_, (hcounted.only.trans (.modPort p _ _)).onlyPort⟩
  all_goals rw [modPort_self]
  · rw [takeCut_cwCount, hcounted.port]
  · rw [takeCut_partialLen, wordCut_left (by rw [hcounted.port]; exact hlen), hcounted.port]
  · rw [takeCut_rxLine, hcounted.port, hline]
    exact List.nil_append _
  · rw [takeCut_rxFlits, hcounted.port]
  · rw [takeCut_expSeq, hcounted.port]
  · rw [takeCut_link, hcounted.port]
    exact (link_of_rxOpen ho).1

theorem uncorrectableWord_effect {check : BitVec 300} {word : BitVec 5140} (ho : rxOpen (s.ctl.ports[p]) = true)
    (hd : rsDecode (check ++ word) = none) (hline : (s.ctl.ports[p]).rxLine = []) (hcw : (s.ctl.ports[p]).rxCw < 4096)
    (hlim : (s.ctl.ports[p]).uncorrAt.length < (s.ctl.ports[p]).uncorrRetrainLimit) :
    ∃ t, exec (.fecCodeWord p check word) s = .next t ∧ (s.ctl.ports[p]).cwCount ∈ (t.ctl.ports[p]).uncorrAt ∧
      (t.ctl.ports[p]).link = .active ∧ scoreGet t.ctl (pIdx p 1) = Nat.min (scoreGet s.ctl (pIdx p 1) + 1) (2 ^ 32 - 1) ∧ onlyPort p s t := by
  obtain ⟨d, m, hcounted, -, hword⟩ := onCodeWord_inside (check ++ word) ho hline hcw
  have hfew : (d.ports[p]).uncorrAt.length < (d.ports[p]).uncorrRetrainLimit := by
    rw [hcounted.port]
    exact Nat.lt_of_le_of_lt (List.length_filter_le _ _) hlim
  have hopen : rxOpen d.ports[p] = true := hcounted.rxOpen.trans ho
  have hnone : (rsDecode (check ++ word)).map (·.1) = none := by rw [hd]; rfl
  rw [hnone, wordErrors_uncorrectable hfew] at hword
  have hd' := hword (rxStream_of_rxOpen (by rw [bump_ports, modPort_self]; exact hopen))
  have hscore : scoreGet d (pIdx p 1) = scoreGet s.ctl (pIdx p 1) := by unfold scoreGet; rw [hcounted.score]
  refine ⟨{ s with ctl := onCodeWord p (check ++ word) s.ctl }, rfl, ?_⟩
  rw [hd']
  refine ⟨?_, ?_, ?_, (((hcounted.only.trans (.modPort p _ _)).trans (.bump _)).trans (.modPort p _ _)).onlyPort⟩
  · rw [modPort_self, takeCut_uncorrAt, bump_ports, modPort_self, hcounted.port]
    simp
  · rw [modPort_self, takeCut_link, bump_ports, modPort_self]
    exact (link_of_rxOpen hopen).1
  · rw [← hscore]
    exact scoreGet_bump_self (c := modPort p _ d) (counterWidth_uncorrectable p) (by omega)

end Sys2Proof.Machine
end

section
/-! SUPPORT. The elastic buffer, PKT, IDLE and bad flits, and SKIP (R53, R54, R65 to R69, R72, R76). -/

namespace Sys2Proof.Machine

open Sys2Proof

variable {p : Fin 4} {c d : Ctl} {s : State} {q t : Port} {f : Flit}

/-! ## What a receiver keeps while flits pass (R54, R68, R72, R76) -/

/-- What the acceptance of a flit looks at: the link, the sequence number expected, the packets and the credits received. -/
structure SameReceiver (q t : Port) : Prop where
  link : t.link = q.link
  rxSleep : t.rxSleep = q.rxSleep
  expSeq : t.expSeq = q.expSeq
  asm : t.asm = q.asm
  recvd : t.recvd = q.recvd
  rxPkts : t.rxPkts = q.rxPkts
  freed : t.freed = q.freed
  withheld : t.withheld = q.withheld

namespace SameReceiver

theorem refl (q : Port) : SameReceiver q q := ⟨rfl, rfl, rfl, rfl, rfl, rfl, rfl, rfl⟩

theorem trans {u : Port} (h : SameReceiver q t) (k : SameReceiver t u) : SameReceiver q u :=
  ⟨k.link.trans h.link, k.rxSleep.trans h.rxSleep, k.expSeq.trans h.expSeq, k.asm.trans h.asm, k.recvd.trans h.recvd,
    k.rxPkts.trans h.rxPkts, k.freed.trans h.freed, k.withheld.trans h.withheld⟩

theorem of_sent (h : SentFrom q t) : SameReceiver q t := by
  rw [h]
  exact ⟨rfl, rfl, rfl, rfl, rfl, rfl, rfl, rfl⟩

theorem of_ports (h : d.ports = c.ports) : SameReceiver c.ports[p] d.ports[p] := by
  rw [h]
  exact refl _

theorem rxOpen (h : SameReceiver q t) : rxOpen t = rxOpen q := by
  unfold Machine.rxOpen
  rw [h.link, h.rxSleep]

end SameReceiver

theorem onAck_same (a : Nat) (q : Port) : SameReceiver q (onAck a q) := by
  unfold onAck
  extract_lets n left
  split
  · exact ⟨rfl, rfl, rfl, rfl, rfl, rfl, rfl, rfl⟩
  · exact .refl q

theorem onCret_same (vc : Fin 3) (total : Nat) (q : Port) : SameReceiver q (onCret vc total q) := by
  unfold onCret
  extract_lets n
  split
  · exact ⟨rfl, rfl, rfl, rfl, rfl, rfl, rfl, rfl⟩
  · exact .refl q

theorem cretPort_same (cret : BitVec 16) (q : Port) : SameReceiver q (cretPort cret q) := by
  unfold cretPort
  match cret.toNat % 4 with
  | 0 => exact onCret_same 0 _ q
  | 1 => exact onCret_same 1 _ q
  | 2 => exact onCret_same 2 _ q
  | _ + 3 => exact onAck_same _ q

theorem applyCret_same (cret : BitVec 16) : SameReceiver c.ports[p] (applyCret p cret c).ports[p] := by
  unfold applyCret
  have h := SameReceiver.of_sent (pumpPort_self (c := modPort p (cretPort cret) c) p)
  rw [modPort_self] at h
  exact (cretPort_same cret _).trans h

theorem sendNak_same : SameReceiver c.ports[p] (sendNak p c).ports[p] := by
  unfold sendNak
  split
  · exact .refl _
  · rw [modPort_self]
    exact ⟨rfl, rfl, rfl, rfl, rfl, rfl, rfl, rfl⟩

theorem rxBad_same (byBuffer : Bool) : SameReceiver c.ports[p] (rxBad p byBuffer c).ports[p] := by
  unfold rxBad
  have h := sendNak_same (p := p) (c := bump (if byBuffer then pIdx p 6 else pIdx p 12) c)
  rw [bump_ports] at h
  exact h

theorem ebIn_same : SameReceiver c.ports[p] (ebIn p f c).ports[p] := by
  unfold ebIn
  extract_lets n
  split
  · exact .of_ports (bump_ports _)
  split
  · exact rxBad_same true
  · rw [modPort_self]
    exact ⟨rfl, rfl, rfl, rfl, rfl, rfl, rfl, rfl⟩

theorem ebNext_same : SameReceiver c.ports[p] (ebNext p c).ports[p] := by
  unfold ebNext
  split
  · rename_i f rest _
    have h := ebIn_same (p := p) (f := f) (c := modPort p (fun q => { q with rxLine := rest }) c)
    rw [modPort_self] at h
    have h0 : SameReceiver c.ports[p] { c.ports[p] with rxLine := rest } := ⟨rfl, rfl, rfl, rfl, rfl, rfl, rfl, rfl⟩
    exact h0.trans h
  · exact .refl _

theorem ebOut_same : SameReceiver c.ports[p] (ebOut p f c).ports[p] := by
  unfold ebOut
  extract_lets c1 c2
  have h1 : SameReceiver c.ports[p] c1.ports[p] := ebNext_same
  have h2 : SameReceiver c1.ports[p] c2.ports[p] := by
    unfold c2
    rw [modPort_self]
    exact ⟨rfl, rfl, rfl, rfl, rfl, rfl, rfl, rfl⟩
  split
  · split
    · have h3 := ebNext_same (p := p) (c := bump (pIdx p 5) c2)
      rw [bump_ports] at h3
      exact (h1.trans h2).trans h3
    · exact h1.trans h2
  · exact h1

/-! ## The slots of a flit (R69, R77) -/

/-- Two ports with the same packets and credits received. -/
structure SameSlots (q t : Port) : Prop where
  asm : t.asm = q.asm
  recvd : t.recvd = q.recvd
  rxPkts : t.rxPkts = q.rxPkts

/-- What a slot adds depends on the packets and credits received alone. -/
theorem rxSlot_congr (x : Slot) (h : SameSlots q t) : SameSlots (rxSlot x q) (rxSlot x t) := by
  unfold rxSlot
  rw [h.asm]
  split
  · split
    · exact h
    · simp only [h.recvd, h.rxPkts]
      split
      · exact ⟨rfl, rfl, rfl⟩
      · exact ⟨rfl, rfl, rfl⟩
  · simp only [h.recvd, h.rxPkts]
    split
    · exact ⟨rfl, rfl, rfl⟩
    · exact ⟨rfl, rfl, rfl⟩

theorem rxSlots_congr (l : List Slot) (h : SameSlots q t) :
    SameSlots (l.foldl (fun q x => rxSlot x q) q) (l.foldl (fun q x => rxSlot x q) t) := by
  induction l generalizing q t with
  | nil => exact h
  | cons x l ih => exact ih (rxSlot_congr x h)

/-- A slot changes nothing but the packets and credits received. -/
theorem rxSlot_frame (x : Slot) (q : Port) :
    rxSlot x q = { q with asm := (rxSlot x q).asm, recvd := (rxSlot x q).recvd, rxPkts := (rxSlot x q).rxPkts } := by
  unfold rxSlot
  split
  · split
    · rfl
    · extract_lets vc q1
      split <;> rfl
  · extract_lets vc q1 a
    split <;> rfl

theorem rxSlots_frame (l : List Slot) (q : Port) :
    l.foldl (fun q x => rxSlot x q) q = { q with
      asm := (l.foldl (fun q x => rxSlot x q) q).asm, recvd := (l.foldl (fun q x => rxSlot x q) q).recvd
      rxPkts := (l.foldl (fun q x => rxSlot x q) q).rxPkts } := by
  induction l generalizing q with
  | nil => rfl
  | cons x l ih =>
    rw [List.foldl_cons, ih (rxSlot x q), rxSlot_frame x q]

theorem overrun_congr (hr : t.recvd = q.recvd) (hf : t.freed = q.freed) (hw : t.withheld = q.withheld) : overrun t = overrun q := by
  unfold overrun cretOf
  simp only [hr, hf, hw]

/-! ## PKT flits (R72) -/

/-- A PKT flit's slots pass to the packet layer, and the sequence number expected moves on. -/
def acceptFlit (f : Flit) (q : Port) : Port :=
  (flitSlots f).foldl (fun q x => rxSlot x q) { q with expSeq := (q.expSeq + 1) % 4096, nakOut := false }

theorem acceptFlit_expSeq (f : Flit) (q : Port) : (acceptFlit f q).expSeq = (q.expSeq + 1) % 4096 := by
  unfold acceptFlit; rw [rxSlots_frame]
theorem acceptFlit_nakOut (f : Flit) (q : Port) : (acceptFlit f q).nakOut = false := by unfold acceptFlit; rw [rxSlots_frame]
theorem acceptFlit_link (f : Flit) (q : Port) : (acceptFlit f q).link = q.link := by unfold acceptFlit; rw [rxSlots_frame]
theorem acceptFlit_freed (f : Flit) (q : Port) : (acceptFlit f q).freed = q.freed := by unfold acceptFlit; rw [rxSlots_frame]
theorem acceptFlit_withheld (f : Flit) (q : Port) : (acceptFlit f q).withheld = q.withheld := by unfold acceptFlit; rw [rxSlots_frame]

theorem acceptFlit_slots (f : Flit) (h : SameReceiver q t) :
    SameSlots ((flitSlots f).foldl (fun q x => rxSlot x q) q) (acceptFlit f t) :=
  rxSlots_congr _ ⟨h.asm, h.recvd, h.rxPkts⟩

theorem overrun_acceptFlit (f : Flit) (h : SameReceiver q t) :
    overrun (acceptFlit f t) = overrun ((flitSlots f).foldl (fun q x => rxSlot x q) q) := by
  refine overrun_congr (acceptFlit_slots f h).recvd ?_ ?_
  · rw [acceptFlit_freed, h.freed, rxSlots_frame]
  · rw [acceptFlit_withheld, h.withheld, rxSlots_frame]

/-- A PKT flit in order whose packets fit the credits advertised is accepted, and nothing more happens. -/
theorem rxFlit_inOrder (hseq : flitSeq f = (c.ports[p]).expSeq) (hover : overrun (acceptFlit f c.ports[p]) = false) :
    rxFlit p f c = modPort p (acceptFlit f) c := by
  unfold rxFlit
  extract_lets e
  rw [if_pos hseq]
  unfold rxAccept
  extract_lets d
  refine if_neg ?_
  have hport : d.ports[p] = acceptFlit f c.ports[p] := modPort_self _ _
  rw [hport, hover]
  exact Bool.false_ne_true

/-- In ACTIVE a good PKT flit has its CRET applied and is received. -/
theorem onPktFlit_open (ho : rxOpen (c.ports[p]) = true) (hcrc : flitCrcOk f = true) (ht : flitType f = 1) :
    onPktFlit p f c = rxFlit p f (applyCret p (flitCret f) (ebOut p f c)) := by
  have hopen : rxOpen (ebOut p f c).ports[p] = true := ebOut_same.rxOpen.trans ho
  have hinit : onInitDone p (ebOut p f c) = ebOut p f c := by
    unfold onInitDone
    extract_lets q
    exact if_neg (by simp [-Fin.getElem_fin, q, (link_of_rxOpen hopen).1])
  unfold onPktFlit
  rw [if_neg (by rw [rxStream_of_rxOpen ho]; simp)]
  extract_lets c1 c2
  have h2 : c2 = ebOut p f c := hinit
  rw [if_neg (by rw [hcrc]; simp), if_pos ht, h2, if_pos hopen]

theorem pktFlit_effect (ho : rxOpen (s.ctl.ports[p]) = true) (hcrc : flitCrcOk f = true) (ht : flitType f = 1)
    (hseq : flitSeq f = (s.ctl.ports[p]).expSeq)
    (hover : overrun ((flitSlots f).foldl (fun q x => rxSlot x q) (s.ctl.ports[p])) = false) :
    ∃ t, exec (.pktFlit p f) s = .next t ∧ (t.ctl.ports[p]).expSeq = ((s.ctl.ports[p]).expSeq + 1) % 4096 ∧
      (t.ctl.ports[p]).nakOut = false ∧ (t.ctl.ports[p]).link = .active ∧
      (t.ctl.ports[p]).asm = ((flitSlots f).foldl (fun q x => rxSlot x q) (s.ctl.ports[p])).asm ∧
      (t.ctl.ports[p]).rxPkts = ((flitSlots f).foldl (fun q x => rxSlot x q) (s.ctl.ports[p])).rxPkts ∧ onlyLogic s t := by
  have hsame : SameReceiver s.ctl.ports[p] (applyCret p (flitCret f) (ebOut p f s.ctl)).ports[p] := ebOut_same.trans (applyCret_same _)
  have hrx := rxFlit_inOrder (hseq.trans hsame.expSeq.symm) ((overrun_acceptFlit f hsame).trans hover)
  have hslots := acceptFlit_slots f hsame
  refine ⟨{ s with ctl := onPktFlit p f s.ctl }, rfl, ?_⟩
  rw [onPktFlit_open ho hcrc ht, hrx]
  refine ⟨?_, ?_, ?_, ?_, ?_, onlyLogic_ctl s _⟩
  all_goals rw [modPort_self]
  · rw [acceptFlit_expSeq, hsame.expSeq]
  · exact acceptFlit_nakOut f _
  · rw [acceptFlit_link, hsame.link]
    exact (link_of_rxOpen ho).1
  · exact hslots.asm
  · exact hslots.rxPkts

/-! ## IDLE flits (R66, R68, R73) -/

theorem ebNext_empty (h : (c.ports[p]).rxLine = []) : ebNext p c = c := by
  unfold ebNext
  rw [h]

/-- A flit that is not the next of the elastic buffer, while none reaches it, takes nothing out of it. -/
theorem ebOut_other (hline : (c.ports[p]).rxLine = []) (hhead : (c.ports[p]).rxFlits.head? ≠ some f) : ebOut p f c = c := by
  unfold ebOut
  extract_lets c1 c2
  have h1 : c1 = c := ebNext_empty hline
  rw [h1]
  exact if_neg (by rw [decide_eq_false hhead]; simp)

/-- CRET_KIND and CRET_VALUE stand in a flit's CRET field as the receiver reads them (R65). -/
theorem flitCret_kind (f : Flit) : (flitCret f).toNat % 4 = flitCretKind f := by
  unfold flitCret flitCretKind bitsOf
  rw [BitVec.extractLsb'_toNat, Nat.shiftRight_eq_div_pow]
  omega

theorem flitCret_value (f : Flit) : (flitCret f).toNat / 4 = flitCretValue f := by
  unfold flitCret flitCretValue bitsOf
  rw [BitVec.extractLsb'_toNat, Nat.shiftRight_eq_div_pow, Nat.shiftRight_eq_div_pow]
  omega

theorem cretPort_ack (h : flitCretKind f = 3) : cretPort (flitCret f) = onAck (flitCretValue f % 4096) := by
  unfold cretPort
  rw [flitCret_kind, flitCret_value, h]
  rfl

theorem onAck_quiet (a : Nat) (h : quiet q) : quiet (onAck a q) := by
  unfold onAck
  extract_lets n left
  split
  · exact h
  · exact h

theorem onIdleFlit_open (ho : rxOpen (c.ports[p]) = true) (hcrc : flitCrcOk f = true) (ht : flitType f = 0) :
    onIdleFlit p f c = applyCret p (flitCret f) (ebOut p f c) := by
  unfold onIdleFlit
  rw [if_neg (by rw [rxStream_of_rxOpen ho]; simp)]
  extract_lets c1
  rw [if_neg (by rw [hcrc]; simp), if_pos ht]

theorem idleFlit_effect (ho : rxOpen (s.ctl.ports[p]) = true) (hflits : (s.ctl.ports[p]).rxFlits = [])
    (hline : (s.ctl.ports[p]).rxLine = []) (hcrc : flitCrcOk f = true) (ht : flitType f = 0) (hk : flitCretKind f = 3)
    (hq : quiet (s.ctl.ports[p])) :
    ∃ t, exec (.idleFlit p f) s = .next t ∧ t.ctl.ports[p] = onAck (flitCretValue f % 4096) (s.ctl.ports[p]) ∧ onlyPort p s t := by
  refine ⟨{ s with ctl := onIdleFlit p f s.ctl }, rfl, ?_⟩
  rw [onIdleFlit_open ho hcrc ht, ebOut_other hline (by rw [hflits]; simp)]
  unfold applyCret
  rw [cretPort_ack hk, pumpPort_quiet (by rw [modPort_self]; exact onAck_quiet _ hq)]
  refine ⟨?_, ((OnlyPortOf.modPort p _ _).trans (.bumpBy _ _)).onlyPort⟩
  simp only [bumpBy_ports, modPort_self]

/-! ## Bad flits (R72) -/

/-- A NAK is asked for once, with the sequence number expected. -/
theorem sendNak_asks : ((sendNak p c).ports[p]).nakOut = true ∧
    ((sendNak p c).ports[p]).nakQueue = (if (c.ports[p]).nakOut then (c.ports[p]).nakQueue else (c.ports[p]).nakQueue ++ [(c.ports[p]).expSeq]) ∧
    OnlyPortOf p c (sendNak p c) := by
  unfold sendNak
  by_cases hn : (c.ports[p]).nakOut = true
  · simp only [hn, if_true, true_and]
    exact .refl p c
  · simp only [hn, Bool.false_eq_true, if_false, modPort_self, true_and]
    exact .modPort p _ c

theorem badFlit_effect (b : Bool) (hs : rxStream (s.ctl.ports[p]) = true) :
    ∃ t, exec (.badFlit p b) s = .next t ∧ (t.ctl.ports[p]).nakOut = true ∧ (t.ctl.ports[p]).expSeq = (s.ctl.ports[p]).expSeq ∧
      (t.ctl.ports[p]).nakQueue =
        (if (s.ctl.ports[p]).nakOut then (s.ctl.ports[p]).nakQueue else (s.ctl.ports[p]).nakQueue ++ [(s.ctl.ports[p]).expSeq]) ∧
      onlyPort p s t := by
  refine ⟨_, rfl, ?_⟩
  beta_reduce
  rw [if_pos hs]
  unfold rxBad
  generalize hc : bump (if b then pIdx p 6 else pIdx p 12) s.ctl = c
  have hports : c.ports = s.ctl.ports := by rw [← hc, bump_ports]
  have honly : OnlyPortOf p s.ctl c := by rw [← hc]; exact .bump _
  obtain ⟨hnak, hqueue, hrest⟩ := sendNak_asks (p := p) (c := c)
  have hseq := (sendNak_same (p := p) (c := c)).expSeq
  rw [hports] at hqueue hseq
  exact ⟨hnak, hseq, hqueue, (honly.trans hrest).onlyPort⟩

/-! ## SKIP flits (R53, R54) -/

/-- The next flit of the elastic buffer leaves it, while none reaches it. -/
theorem ebOut_next (hline : (c.ports[p]).rxLine = []) (hon : (c.ports[p]).ebOn = true) (hhead : (c.ports[p]).rxFlits.head? = some f) :
    (ebOut p f c).ports[p] = { c.ports[p] with rxFlits := (c.ports[p]).rxFlits.tail } ∧ OnlyPortOf p c (ebOut p f c) := by
  unfold ebOut
  extract_lets c1 c2
  have h1 : c1 = c := ebNext_empty hline
  have hport : c2.ports[p] = { c.ports[p] with rxFlits := (c.ports[p]).rxFlits.tail } := by
    unfold c2
    rw [modPort_self, h1, List.drop_one]
  have honly : OnlyPortOf p c c2 := by
    unfold c2
    rw [h1]
    exact .modPort p _ c
  rw [if_pos (by rw [h1, hon, hhead]; simp)]
  split
  · have hcount : (bump (pIdx p 5) c2).ports[p] = c2.ports[p] := by simp only [bump_ports]
    rw [ebNext_empty (by rw [hcount, hport]; exact hline)]
    exact ⟨hcount.trans hport, honly.trans (.bump _)⟩
  · exact ⟨hport, honly⟩

/-- A SKIP flit that is not the next of the elastic buffer is at most counted. -/
theorem onSkipFlit_other (hhead : (c.ports[p]).rxFlits.head? ≠ some f) :
    (onSkipFlit p f c).ports = c.ports ∧ OnlyPortOf p c (onSkipFlit p f c) := by
  unfold onSkipFlit
  split
  · exact ⟨rfl, .refl p c⟩
  split
  · exact ⟨bump_ports _, .bump _⟩
  · exact ⟨rfl, .refl p c⟩

theorem onSkipFlit_next (hs : rxStream (c.ports[p]) = true) (hhead : (c.ports[p]).rxFlits.head? = some f) :
    onSkipFlit p f c = ebOut p f c := by
  unfold onSkipFlit
  rw [if_neg (by rw [hs]; simp), if_pos hhead]

theorem skipFlit_effect (ho : rxOpen (s.ctl.ports[p]) = true) (hline : (s.ctl.ports[p]).rxLine = []) (hon : (s.ctl.ports[p]).ebOn = true) :
    ∃ t, exec (.skipFlit p f) s = .next t ∧ (t.ctl.ports[p]).expSeq = (s.ctl.ports[p]).expSeq ∧
      (t.ctl.ports[p]).rxFlits = (if (s.ctl.ports[p]).rxFlits.head? = some f then (s.ctl.ports[p]).rxFlits.tail else (s.ctl.ports[p]).rxFlits) ∧
      onlyPort p s t := by
  refine ⟨{ s with ctl := onSkipFlit p f s.ctl }, rfl, ?_⟩
  by_cases hhead : (s.ctl.ports[p]).rxFlits.head? = some f
  · obtain ⟨hport, honly⟩ := ebOut_next hline hon hhead
    rw [onSkipFlit_next (rxStream_of_rxOpen ho) hhead, if_pos hhead]
    exact ⟨by rw [hport], by rw [hport], honly.onlyPort⟩
  · obtain ⟨hports, honly⟩ := onSkipFlit_other (p := p) hhead
    rw [if_neg hhead]
    exact ⟨by simp only [hports], by simp only [hports], honly.onlyPort⟩

theorem skipSend_effect (hl : (s.ctl.ports[p]).link = .active) (ht : (s.ctl.ports[p]).txSleep = .active) :
    ∃ t, exec (.skipSend p) s = .next t ∧ (t.ctl.ports[p]).sinceSkip = 0 ∧ (t.ctl.ports[p]).line.last = some (flitWord 15 0 0 0 []) ∧
      (t.ctl.ports[p]).line.len = (s.ctl.ports[p]).line.len + 576 ∧
      t.ctl.ports[p] = { s.ctl.ports[p] with sinceSkip := 0, line := (t.ctl.ports[p]).line } ∧ onlyPort p s t := by
  have h : ((s.ctl.ports[p]).link = .active && decide ((s.ctl.ports[p]).txSleep = .active)) = true := by
    simp [-Fin.getElem_fin, hl, ht]
  refine ⟨_, rfl, ?_⟩
  beta_reduce
  rw [if_pos h]
  simp only [modPort_self]
  exact ⟨rfl, rfl, rfl, rfl, (OnlyPortOf.modPort p _ _).onlyPort⟩

/-- Settles O17, clause by clause: the two code words, a PKT, an IDLE and a bad flit, and SKIP received and sent. -/
theorem codeWordsAndFlits : Obligations.CodeWordsAndFlits :=
  ⟨fun _ _ _ _ _ ho hlen hd hline hcw => cleanWord_effect ho hlen hd hline hcw,
    fun _ _ _ _ ho hd hline hcw hlim => uncorrectableWord_effect ho hd hline hcw hlim,
    fun _ _ _ ho hcrc ht hseq hover => pktFlit_effect ho hcrc ht hseq hover,
    fun _ _ _ ho hflits hline hcrc ht hk hq => idleFlit_effect ho hflits hline hcrc ht hk hq, fun _ b _ hs => badFlit_effect b hs,
    fun _ _ _ ho hline hon => skipFlit_effect ho hline hon, fun _ _ hl ht => skipSend_effect hl ht⟩

end Sys2Proof.Machine
end

section
/-! SUPPORT. The layout of a flit (R65) and its CRC-32C (R67): what the transmitter lays out, read back by the receiver. -/

namespace Sys2Proof.Laws

open Sys2Proof Sys2Proof.Machine

/-! ## The CRC register (R67) -/

theorem crc32cBit_lt {r : Nat} (h : r < 2 ^ 32) (b : Bool) : crc32cBit r b < 2 ^ 32 := by
  have hr : r >>> 1 < 2 ^ 32 := Nat.lt_of_le_of_lt (Nat.shiftRight_le r 1) h
  unfold crc32cBit
  extract_lets x
  split
  · exact Nat.xor_lt_two_pow hr (by omega)
  · exact hr

/-- A CRC-32C fits the flit's field of 32 bits. -/
theorem crc32c_lt (n x : Nat) : crc32c n x < 2 ^ 32 := by
  have hfold : ∀ (l : List Nat) (r : Nat), r < 2 ^ 32 → l.foldl (fun r i => crc32cBit r (bitOf x i)) r < 2 ^ 32 := by
    intro l
    induction l with
    | nil => exact fun _ h => h
    | cons i l ih => exact fun r h => ih _ (crc32cBit_lt h _)
  exact Nat.xor_lt_two_pow (hfold _ _ (by omega)) (by omega)

/-- The CRC-32C of `n` bytes, `m` bits, does not look at the bits above them. -/
theorem crc32c_low {n m x : Nat} (hm : 8 * n = m) (h : x < 2 ^ m) (y : Nat) : crc32c n (x + 2 ^ m * y) = crc32c n x := by
  subst hm
  have hbits : ∀ (r : Nat), ∀ i ∈ List.range (8 * n), crc32cBit r (bitOf (x + 2 ^ (8 * n) * y) i) = crc32cBit r (bitOf x i) := by
    intro r i hi
    have hbit : bitOf (x + 2 ^ (8 * n) * y) i = bitOf x i := by
      unfold bitOf
      rw [Nat.add_comm, Nat.testBit_two_pow_mul_add y h, if_pos (List.mem_range.mp hi)]
    rw [hbit]
  unfold crc32c
  rw [List.foldl_ext _ _ _ hbits]

/-! ## Elements packed side by side (R65) -/

theorem packBits_lt (w : Nat) (l : List Nat) : packBits w l < 2 ^ (w * l.length) := by
  induction l with
  | nil => simp [packBits]
  | cons x l ih =>
    have hx : x % 2 ^ w < 2 ^ w := Nat.mod_lt _ (by positivity)
    have hmul : 2 ^ w * (packBits w l + 1) ≤ 2 ^ w * 2 ^ (w * l.length) := Nat.mul_le_mul_left _ ih
    rw [List.length_cons, Nat.mul_succ, Nat.add_comm (w * l.length) w, pow_add]
    unfold packBits
    rw [Nat.mul_succ] at hmul
    omega

/-- Elements of zero behind the packed ones change nothing. -/
theorem packBits_zeros (w k : Nat) (l : List Nat) : packBits w (l ++ List.replicate k 0) = packBits w l := by
  induction l with
  | nil =>
    induction k with
    | zero => rfl
    | succ k ih => rw [List.replicate_succ]; simpa [packBits] using ih
  | cons x l ih => rw [List.cons_append, packBits, packBits, ih]

/-- Each packed element is read back, whatever stands above the last. -/
theorem packBits_read (w y : Nat) {l : List Nat} {i : Nat} (hi : i < l.length) :
    (packBits w l + 2 ^ (w * l.length) * y) / 2 ^ (w * i) % 2 ^ w = l[i] % 2 ^ w := by
  induction l generalizing i with
  | nil => exact absurd hi (Nat.not_lt_zero i)
  | cons x l ih =>
    have hnest : packBits w (x :: l) + 2 ^ (w * (x :: l).length) * y = x % 2 ^ w + 2 ^ w * (packBits w l + 2 ^ (w * l.length) * y) := by
      rw [packBits, List.length_cons, Nat.mul_succ, pow_add]
      ring
    have hpos : 0 < 2 ^ w := by positivity
    rw [hnest]
    cases i with
    | zero => simp
    | succ i =>
      rw [Nat.mul_succ, Nat.add_comm (w * i) w, pow_add, ← Nat.div_div_eq_div_mul, Nat.add_mul_div_left _ _ hpos,
        Nat.div_eq_of_lt (Nat.mod_lt x hpos), Nat.zero_add]
      exact ih (Nat.lt_of_succ_lt_succ hi)

/-- A field laid above `lo` bits is read back. -/
theorem bitsOf_above {lo n a v : Nat} (ha : a < 2 ^ lo) (hv : v < 2 ^ n) : bitsOf (a + 2 ^ lo * v) lo n = v := by
  have hpos : 0 < 2 ^ lo := by positivity
  unfold bitsOf
  rw [Nat.shiftRight_eq_div_pow, Nat.add_mul_div_left _ _ hpos, Nat.div_eq_of_lt ha, Nat.zero_add, Nat.mod_eq_of_lt hv]

/-! ## The layout of a flit (R65) -/

variable {kind seq ck cv : Nat} {slots : List Slot}

/-- The slots of a flit as one number, the first in the low bits. -/
def payload (slots : List Slot) : Nat := packBits 128 (slots.map (·.toNat))

/-- A flit without its CRC: TYPE, SEQ, CRET_KIND, CRET_VALUE and the slots (Table 1 of chapter 3). -/
def flitBody (kind seq ck cv : Nat) (slots : List Slot) : Nat :=
  kind + 2 ^ 4 * seq + 2 ^ 16 * ck + 2 ^ 18 * cv + 2 ^ 32 * payload slots

theorem flitWord_eq (kind seq ck cv : Nat) (slots : List Slot) : flitWord kind seq ck cv slots =
    BitVec.ofNat 576 (flitBody kind seq ck cv slots + 2 ^ 544 * crc32c 68 (flitBody kind seq ck cv slots)) := rfl

/-- NULL slots fill a flit up to its four (R65). -/
def paddedSlots (slots : List Slot) : List Slot := slots ++ List.replicate (4 - slots.length) 0

theorem paddedSlots_length (h : slots.length ≤ 4) : (paddedSlots slots).length = 4 := by
  unfold paddedSlots
  rw [List.length_append, List.length_replicate]
  omega

theorem payload_padded (slots : List Slot) : payload (paddedSlots slots) = payload slots := by
  unfold payload paddedSlots
  rw [List.map_append, List.map_replicate]
  exact packBits_zeros _ _ _

theorem payload_lt (h : slots.length ≤ 4) : payload slots < 2 ^ 512 := by
  have hlt := packBits_lt 128 ((paddedSlots slots).map (·.toNat))
  rw [List.length_map, paddedSlots_length h, show 128 * 4 = 512 from rfl] at hlt
  rw [← payload_padded]
  exact hlt

/-- Each slot is read back from the payload, whatever stands above it. -/
theorem payload_slot (h : slots.length ≤ 4) (y : Nat) {i : Nat} (hi : i < (paddedSlots slots).length) :
    (payload slots + 2 ^ 512 * y) / 2 ^ (128 * i) % 2 ^ 128 = (paddedSlots slots)[i].toNat := by
  have hlen : 128 * ((paddedSlots slots).map (·.toNat)).length = 512 := by rw [List.length_map, paddedSlots_length h]
  have hread := packBits_read 128 y (l := (paddedSlots slots).map (·.toNat)) (i := i) (by rwa [List.length_map])
  rw [hlen, List.getElem_map, Nat.mod_eq_of_lt (BitVec.isLt _)] at hread
  rw [← payload_padded]
  exact hread

section
variable (hk : kind < 16) (hs : seq < 4096) (hc : ck < 4) (hv : cv < 16384) (hn : slots.length ≤ 4)
include hk hs hc hv hn

theorem flitBody_lt : flitBody kind seq ck cv slots < 2 ^ 544 := by
  have hp := payload_lt hn
  have hpow : 2 ^ 544 = 2 ^ 32 * 2 ^ 512 := by rw [← pow_add]
  unfold flitBody
  rw [hpow]
  generalize 2 ^ 512 = m at hp
  omega

/-- The flit as a number: the body and above it its CRC-32C. -/
theorem flitWord_toNat : (flitWord kind seq ck cv slots).toNat =
    flitBody kind seq ck cv slots + 2 ^ 544 * crc32c 68 (flitBody kind seq ck cv slots) := by
  have hb := flitBody_lt hk hs hc hv hn
  have hcrc := crc32c_lt 68 (flitBody kind seq ck cv slots)
  rw [flitWord_eq, BitVec.toNat_ofNat]
  generalize crc32c 68 (flitBody kind seq ck cv slots) = r at hcrc
  refine Nat.mod_eq_of_lt ?_
  calc flitBody kind seq ck cv slots + 2 ^ 544 * r < 2 ^ 544 * (r + 1) := by
        rw [Nat.mul_succ, Nat.add_comm]
        exact Nat.add_lt_add_left hb _
    _ ≤ 2 ^ 544 * 2 ^ 32 := Nat.mul_le_mul_left _ hcrc
    _ = 2 ^ 576 := by rw [← pow_add]

/-- The flit's fields from the lowest up, each above the one before. -/
theorem flitWord_nested : ∃ r, (flitWord kind seq ck cv slots).toNat =
    kind + 2 ^ 4 * (seq + 2 ^ 12 * (ck + 2 ^ 2 * (cv + 2 ^ 14 * (payload slots + 2 ^ 512 * r)))) := by
  refine ⟨crc32c 68 (flitBody kind seq ck cv slots), (flitWord_toNat hk hs hc hv hn).trans ?_⟩
  have hpow : 2 ^ 544 = 2 ^ 32 * 2 ^ 512 := by rw [← pow_add]
  generalize crc32c 68 (flitBody kind seq ck cv slots) = r
  unfold flitBody
  rw [hpow, Nat.mul_assoc]
  generalize 2 ^ 512 * r = m
  omega

/-- The four fields of the header are read back (R65). -/
theorem flitWord_header :
    flitType (flitWord kind seq ck cv slots) = kind ∧ flitSeq (flitWord kind seq ck cv slots) = seq ∧
      flitCretKind (flitWord kind seq ck cv slots) = ck ∧ flitCretValue (flitWord kind seq ck cv slots) = cv := by
  obtain ⟨r, hr⟩ := flitWord_nested hk hs hc hv hn
  unfold flitType flitSeq flitCretKind flitCretValue bitsOf
  simp only [hr, Nat.shiftRight_eq_div_pow]
  generalize payload slots + 2 ^ 512 * r = m
  refine ⟨?_, ?_, ?_, ?_⟩ <;> omega

/-- The slot at 128 bits times its number above the header is the one laid there. -/
theorem flitWord_slot {i : Nat} (hi : i < (paddedSlots slots).length) :
    (flitWord kind seq ck cv slots).extractLsb' (32 + 128 * i) 128 = (paddedSlots slots)[i] := by
  obtain ⟨r, hr⟩ := flitWord_nested hk hs hc hv hn
  have habove : (flitWord kind seq ck cv slots).toNat / 2 ^ 32 = payload slots + 2 ^ 512 * r := by
    rw [hr]
    generalize payload slots + 2 ^ 512 * r = m
    omega
  refine BitVec.eq_of_toNat_eq ?_
  rw [BitVec.extractLsb'_toNat, Nat.shiftRight_add, Nat.shiftRight_eq_div_pow, Nat.shiftRight_eq_div_pow, habove]
  exact payload_slot hn r hi

theorem flitSlots_flitWord : flitSlots (flitWord kind seq ck cv slots) = paddedSlots slots := by
  have hlen := paddedSlots_length hn
  refine List.ext_getElem hlen.symm fun i _ hi => ?_
  rw [← flitWord_slot hk hs hc hv hn hi]
  have hlt : i < 4 := by omega
  interval_cases i <;> rfl

theorem flitCrcOk_flitWord : flitCrcOk (flitWord kind seq ck cv slots) = true := by
  have hb := flitBody_lt hk hs hc hv hn
  unfold flitCrcOk
  rw [flitWord_toNat hk hs hc hv hn, crc32c_low (n := 68) (m := 544) rfl hb, bitsOf_above hb (crc32c_lt 68 _)]
  exact decide_eq_true rfl

end

/-- Settles O58: each field is read back from its place in the layout, and the CRC covers the bits below it. -/
theorem flitLayout : Obligations.FlitLayout := fun _ _ _ _ _ hk hs hc hv hn =>
  have ⟨htype, hseq, hkind, hvalue⟩ := flitWord_header hk hs hc hv hn
  ⟨htype, hseq, hkind, hvalue, flitSlots_flitWord hk hs hc hv hn, flitCrcOk_flitWord hk hs hc hv hn⟩

end Sys2Proof.Laws
end

section
/-! SUPPORT. The INIT exchange (R71), the start of a replay by a NAK or by the timer (R72 to R75), and headers that VC2 does not carry
(R79). -/

namespace Sys2Proof.Machine

open Sys2Proof Sys2Proof.Laws

variable {p : Fin 4} {c : Ctl} {s : State} {q : Port} {x : Slot} {cr : BitVec 16}

/-! ## A CTRL flit's CRET (R66, R68) -/

theorem ctrlFlit_good {y : CtrlSlot} {code : Nat} (act : Ctl → Ctl) (hs : rxStream c.ports[p] = true) (hcode : y.slot.toNat % 256 = code) :
    ctrlFlit p y code act c = act (applyCret p y.cret c) :=
  if_pos (by rw [hs, hcode]; simp)

/-- What a CRET field changes of a port: the credits returned, or the stored flits that it acknowledges. -/
def CretFrom (q t : Port) : Prop :=
  t = { q with
    ret := t.ret, replay := t.replay, replayRepeats := t.replayRepeats, wakeUnacked := t.wakeUnacked
    line := { q.line with queue := t.line.queue } }

theorem onCret_from (vc : Fin 3) (total : Nat) (q : Port) : CretFrom q (onCret vc total q) := by
  unfold onCret
  extract_lets n
  split <;> rfl

theorem onAck_from (a : Nat) (q : Port) : CretFrom q (onAck a q) := by
  unfold onAck
  extract_lets n left
  split <;> rfl

theorem cretPort_from (cr : BitVec 16) (q : Port) : CretFrom q (cretPort cr q) := by
  unfold cretPort
  match cr.toNat % 4 with
  | 0 => exact onCret_from 0 _ q
  | 1 => exact onCret_from 1 _ q
  | 2 => exact onCret_from 2 _ q
  | _ + 3 => exact onAck_from _ q

theorem cretPort_link : (cretPort cr q).link = q.link := by rw [cretPort_from]
theorem cretPort_retraining : (cretPort cr q).retraining = q.retraining := by rw [cretPort_from]
theorem cretPort_initRecv : (cretPort cr q).initRecv = q.initRecv := by rw [cretPort_from]

theorem cretPort_quiet (h : quiet q) : quiet (cretPort cr q) := by
  rw [cretPort_from]
  exact h

/-- Where nothing waits, a CRET field does no more than it says. -/
theorem applyCret_quiet (h : quiet c.ports[p]) :
    (applyCret p cr c).ports[p] = cretPort cr c.ports[p] ∧ OnlyPortOf p c (applyCret p cr c) := by
  unfold applyCret
  rw [pumpPort_quiet (by rw [modPort_self]; exact cretPort_quiet h)]
  exact ⟨by rw [bumpBy_ports, modPort_self], (OnlyPortOf.modPort p _ c).trans (.bumpBy _ _)⟩

theorem applyCret_sent : SentFrom (cretPort cr c.ports[p]) (applyCret p cr c).ports[p] := by
  have h := pumpPort_self (c := modPort p (cretPort cr) c) p
  rwa [modPort_self] at h

theorem applyCret_other {w : Fin 4} (h : w ≠ p) : (applyCret p cr c).ports[w] = c.ports[w] :=
  (pumpPort_other p w h).trans (modPort_other p w _ h)

/-! ## INIT (R71) -/

theorem rxStream_linkInit (hl : q.link = .linkInit) (hr : q.rxSleep = .active) : rxStream q = true := by
  simp [rxStream, hl, hr]

/-- A valid INIT without RESUME, outside a retrain, gives the partner's advertisement. -/
theorem onInit_fresh (hl : (c.ports[p]).link = .linkInit) (hcode : x.toNat % 256 = 1) (hv : initValid x = true)
    (hresume : bitOf x.toNat 8 = false) (hr : (c.ports[p]).retraining = false) :
    onInit p x c = modPort p (fun q => { q with adv := initCredits x, initRecv := true }) c := by
  unfold onInit
  extract_lets q d
  have hd : d = c := if_neg (by unfold q; rw [hr]; exact Bool.false_ne_true)
  rw [if_neg (by simp [-Fin.getElem_fin, q, hl, hcode, hv]), hresume, if_neg Bool.false_ne_true, hd]

theorem init_effect (hl : (s.ctl.ports[p]).link = .linkInit) (hs : (s.ctl.ports[p]).rxSleep = .active) (hcode : x.toNat % 256 = 1)
    (hv : initValid x = true) (hresume : bitOf x.toNat 8 = false) (hr : (s.ctl.ports[p]).retraining = false)
    (hq : quiet (s.ctl.ports[p])) :
    ∃ t, exec (.init p ⟨x, cr⟩) s = .next t ∧
      t.ctl.ports[p] = { cretPort cr (s.ctl.ports[p]) with adv := initCredits x, initRecv := true } ∧ onlyPort p s t := by
  obtain ⟨hport, honly⟩ := applyCret_quiet (cr := cr) hq
  refine ⟨{ s with ctl := ctrlFlit p ⟨x, cr⟩ 0x01 (onInit p x) s.ctl }, rfl, ?_⟩
  rw [ctrlFlit_good _ (rxStream_linkInit hl hs) hcode,
    onInit_fresh (by rw [hport, cretPort_link, hl]) hcode hv hresume (by rw [hport, cretPort_retraining, hr])]
  exact ⟨by rw [modPort_self, hport], (honly.trans (.modPort p _ _)).onlyPort⟩

/-! ## INIT_DONE (R71) -/

theorem repeatPort_same {f : Port → Port} (h : ∀ q, SameButLine q (f q)) (n : Nat) (q : Port) : SameButLine q (repeatPort f n q) := by
  induction n generalizing q with
  | zero => exact .refl q
  | succ n ih => exact (h q).trans (ih (f q))

/-- The count of what was sent changes nothing but the counters and the port's line. -/
theorem noteSent_steps (p : Fin 4) (c : Ctl) : ∃ d : Ctl, d.ports = c.ports ∧
    (noteSent p c = d ∨ noteSent p c = modPort p (fun q => { q with line := { q.line with again := 0, naks := 0 } }) d) := by
  unfold noteSent
  extract_lets l c1 c2
  refine ⟨c2, ?_, ?_⟩
  · have h1 : c1.ports = c.ports := by unfold c1; split <;> simp
    have h2 : c2.ports = c1.ports := by unfold c2; split <;> simp
    rw [h2, h1]
  · split
    · exact .inl rfl
    · exact .inr rfl

theorem noteSent_same : SameButLine c.ports[p] (noteSent p c).ports[p] := by
  obtain ⟨d, hd, h | h⟩ := noteSent_steps p c <;> rw [h, ← hd]
  · exact .refl _
  · rw [modPort_self]; rfl

theorem noteSent_other {w : Fin 4} (hw : w ≠ p) : (noteSent p c).ports[w] = c.ports[w] := by
  obtain ⟨d, hd, h | h⟩ := noteSent_steps p c <;> rw [h, ← hd]
  exact modPort_other p w _ hw

/-- A port outside a retrain becomes ACTIVE, without an event. -/
theorem goActive_fresh (hr : (c.ports[p]).retraining = false) : goActive p c = pumpPort p (modPort p (fun q => { q with
    link := .active, retraining := false, failedAttempts := 0, portDownSent := false, resumeSent := false
    line := { q.line with queue := q.replay } }) c) := by
  unfold goActive
  extract_lets q c1 c2
  have hq : q.retraining = false := hr
  have h2 : c2 = c1 := if_neg (by rw [hq]; exact Bool.false_ne_true)
  rw [h2, if_neg (by rw [hq]; exact Bool.false_ne_true)]

/-- The logic once INIT_DONE has come and the eight CTRL flits that answer it are laid and counted. -/
def answered (p : Fin 4) (c : Ctl) : Ctl := noteSent p (modPort p (fun q => repeatPort layInit 8 { q with initDoneRecv := true }) c)

theorem answered_same : SameButLine { c.ports[p] with initDoneRecv := true } (answered p c).ports[p] := by
  unfold answered
  refine .trans ?_ noteSent_same
  rw [modPort_self]
  exact repeatPort_same (fun q => layCtrl_same _ q) 8 _

theorem answered_other {w : Fin 4} (hw : w ≠ p) : (answered p c).ports[w] = c.ports[w] :=
  (noteSent_other hw).trans (modPort_other p w _ hw)

theorem onInitDone_exchange (hl : (c.ports[p]).link = .linkInit) (hi : (c.ports[p]).initRecv = true) :
    onInitDone p c = goActive p (answered p c) := if_pos (by simp [-Fin.getElem_fin, hl, hi])

theorem initDone_effect (hl : (s.ctl.ports[p]).link = .linkInit) (hs : (s.ctl.ports[p]).rxSleep = .active) (hcode : x.toNat % 256 = 2)
    (hi : (s.ctl.ports[p]).initRecv = true) (hr : (s.ctl.ports[p]).retraining = false) :
    ∃ t, exec (.initDone ⟨p, x, cr⟩) s = .next t ∧ (t.ctl.ports[p]).link = .active ∧ (t.ctl.ports[p]).failedAttempts = 0 ∧
      (t.ctl.ports[p]).initDoneRecv = true ∧ (∀ w : Fin 4, w ≠ p → t.ctl.ports[w] = s.ctl.ports[w]) ∧ onlyLogic s t := by
  have hsent := applyCret_sent (p := p) (cr := cr) (c := s.ctl)
  have hother (w : Fin 4) (hw : w ≠ p) := applyCret_other (cr := cr) (c := s.ctl) hw
  refine ⟨{ s with ctl := ctrlFlit p ⟨x, cr⟩ 0x02 (onInitDone p) s.ctl }, rfl, ?_⟩
  rw [ctrlFlit_good _ (rxStream_linkInit hl hs) hcode]
  dsimp only
  generalize applyCret p cr s.ctl = d at hsent hother
  have hsame := answered_same (p := p) (c := d)
  have hretrain : ((answered p d).ports[p]).retraining = false := by rw [hsame]; exact hsent.retraining.trans (cretPort_retraining.trans hr)
  have hdone : ((answered p d).ports[p]).initDoneRecv = true := by rw [hsame]
  rw [onInitDone_exchange (hsent.link.trans (cretPort_link.trans hl)) (hsent.initRecv.trans (cretPort_initRecv.trans hi)),
    goActive_fresh hretrain]
  refine ⟨?_, ?_, ?_, fun w hw => ?_, onlyLogic_ctl s _⟩
  · rw [(pumpPort_self p).link, modPort_self]
  · rw [(pumpPort_self p).failedAttempts, modPort_self]
  · rw [(pumpPort_self p).initDoneRecv, modPort_self, hdone]
  · rw [pumpPort_other p w hw, modPort_other p w _ hw, answered_other hw, hother w hw]

/-! ## A replay from the oldest flit (R73 to R75) -/

/-- A port with stored flits, no replay of the last 500 ns to wait for, and fewer than three replays without progress (R73, R75). -/
structure ReplayReady (q : Port) : Prop where
  stored : 0 < q.replay.length
  notRecent : q.replayLast = none
  few : q.replayRepeats < 3

/-- A port whose stored flits are sent again from the oldest, which counts as one more replay. -/
def replayed (now : Nat) (q : Port) : Port :=
  { q with replayRepeats := q.replayRepeats + 1, replayLast := some (oldestSeq q, now), line := { q.line with queue := q.replay } }

theorem oldestSeq_lt (q : Port) : oldestSeq q < 4096 := Nat.mod_lt _ (by omega)

theorem replayStarts_oldest (h : ReplayReady c.ports[p]) : replayStarts p (oldestSeq c.ports[p]) c = true := by
  unfold replayStarts
  simp [-Fin.getElem_fin, h.notRecent, h.stored]

/-- The first replays without progress start no retrain. -/
theorem replayFrom_oldest (h : ReplayReady c.ports[p]) :
    replayFrom p (oldestSeq c.ports[p]) c = modPort p (replayed c.now) c := by
  unfold replayFrom
  rw [replayStarts_oldest h]
  extract_lets q again d
  have hagain : again = (c.ports[p]).replay := by simp [-Fin.getElem_fin, again, q]
  have hfew : ¬ q.replayRepeats + 1 = 4 := by
    have := h.few
    unfold q
    omega
  rw [if_neg (by simp), if_neg hfew]
  unfold d
  rw [hagain]
  exact modPort_congr rfl

/-! ## NAK (R72, R73) -/

/-- An acknowledgement of the flit before the oldest stored one acknowledges nothing new. -/
theorem onAck_beforeOldest (h : q.replay.length ≤ 512) : onAck ((oldestSeq q + 4095) % 4096) q = q := by
  have hlt := oldestSeq_lt q
  unfold onAck
  extract_lets n left
  exact if_neg (by unfold n; omega)

theorem modPort_id {f : Port → Port} (h : f c.ports[p] = c.ports[p]) : modPort p f c = c := by
  unfold modPort
  rw [h]
  simp

theorem onNak_oldest (ho : rxOpen (c.ports[p]) = true) (hq : quiet c.ports[p]) (hseq : bitsOf x.toNat 16 12 = oldestSeq c.ports[p])
    (hmax : (c.ports[p]).replay.length ≤ 512) (hready : ReplayReady c.ports[p]) :
    (onNak p x c).ports[p] = replayed c.now c.ports[p] ∧ OnlyPortOf p c (onNak p x c) := by
  unfold onNak
  rw [if_neg (by rw [ho]; simp)]
  extract_lets n
  unfold n
  rw [hseq]
  generalize hd : bump (pIdx p 15) c = d
  have hport : d.ports[p] = c.ports[p] := by rw [← hd, bump_ports]
  have honly : OnlyPortOf p c d := by rw [← hd]; exact .bump _
  rw [← hport] at hq hmax hready
  rw [← hport, modPort_id (onAck_beforeOldest hmax), replayFrom_oldest hready, pumpPort_quiet (by rw [modPort_self]; exact hq),
    ← honly.now]
  exact ⟨by rw [bumpBy_ports, modPort_self], (honly.trans (.modPort p _ _)).trans (.bumpBy _ _)⟩

theorem nak_effect (ho : rxOpen (s.ctl.ports[p]) = true) (hcode : x.toNat % 256 = 16) (hcret : cretPort cr (s.ctl.ports[p]) = s.ctl.ports[p])
    (hq : quiet (s.ctl.ports[p])) (hseq : bitsOf x.toNat 16 12 = oldestSeq (s.ctl.ports[p]))
    (hmax : (s.ctl.ports[p]).replay.length ≤ 512) (hready : ReplayReady (s.ctl.ports[p])) :
    ∃ t, exec (.nak p ⟨x, cr⟩) s = .next t ∧ (t.ctl.ports[p]).replay = (s.ctl.ports[p]).replay ∧
      (t.ctl.ports[p]).line.queue = (s.ctl.ports[p]).replay ∧
      (t.ctl.ports[p]).replayRepeats = (s.ctl.ports[p]).replayRepeats + 1 ∧
      (t.ctl.ports[p]).replayLast = some (oldestSeq (s.ctl.ports[p]), s.ctl.now) ∧ (t.ctl.ports[p]).link = .active ∧ onlyPort p s t := by
  obtain ⟨hport, honly⟩ := applyCret_quiet (cr := cr) hq
  rw [hcret] at hport
  refine ⟨{ s with ctl := ctrlFlit p ⟨x, cr⟩ 0x10 (onNak p x) s.ctl }, rfl, ?_⟩
  rw [ctrlFlit_good _ (rxStream_of_rxOpen ho) hcode]
  dsimp only
  generalize applyCret p cr s.ctl = d at hport honly
  obtain ⟨hnak, hrest⟩ := onNak_oldest (c := d) (p := p) (x := x) (by rw [hport]; exact ho) (by rw [hport]; exact hq) (by rw [hport]; exact hseq)
    (by rw [hport]; exact hmax) (by rw [hport]; exact hready)
  rw [hport, honly.now] at hnak
  rw [hnak]
  exact ⟨rfl, rfl, rfl, rfl, (link_of_rxOpen ho).1, (honly.trans hrest).onlyPort⟩

theorem nakRepeat_effect (hn : (s.ctl.ports[p]).nakOut = true) :
    ∃ t, exec (.nakRepeat p) s = .next t ∧
      t.ctl.ports[p] = { s.ctl.ports[p] with nakQueue := (s.ctl.ports[p]).nakQueue ++ [(s.ctl.ports[p]).expSeq] } ∧ onlyPort p s t := by
  refine ⟨{ s with ctl := onNakRepeat p s.ctl }, rfl, ?_⟩
  unfold onNakRepeat
  rw [if_pos hn]
  exact ⟨modPort_self _ _, (OnlyPortOf.modPort p _ _).onlyPort⟩

/-! ## The replay timer (R73, R74) -/

/-- The counters of a port have the widths that chapter 17 lists. -/
theorem counterWidth_port (p : Fin 4) {n : Nat} (hn : n < 0x40) : counterWidth (pIdx p n) = pWidths[n]? := by
  have hp := p.isLt
  have hmod : (pIdx p n - 0x100) % 0x40 = n := by unfold pIdx; omega
  unfold counterWidth
  rw [if_neg (by unfold pIdx; omega), if_pos (by unfold pIdx; omega), hmod]

theorem onReplayTimeout_starts (ho : rxOpen (c.ports[p]) = true) (ha : (c.ports[p]).awaitStart = false)
    (h : ReplayReady c.ports[p]) :
    onReplayTimeout p c = replayFrom p (oldestSeq c.ports[p]) (bump (pIdx p 17) c) :=
  if_pos (by rw [ho, ha, replayStarts_oldest h]; rfl)

theorem replayTimeout_effect (hl : (s.ctl.ports[p]).link = .active) (hs : (s.ctl.ports[p]).rxSleep = .active)
    (ha : (s.ctl.ports[p]).awaitStart = false) (hready : ReplayReady (s.ctl.ports[p])) :
    ∃ t, exec (.replayTimeout p) s = .next t ∧ (t.ctl.ports[p]).replay = (s.ctl.ports[p]).replay ∧
      (t.ctl.ports[p]).line.queue = (s.ctl.ports[p]).replay ∧
      (t.ctl.ports[p]).replayRepeats = (s.ctl.ports[p]).replayRepeats + 1 ∧ (t.ctl.ports[p]).link = .active ∧
      scoreGet t.ctl (pIdx p 17) = Nat.min (scoreGet s.ctl (pIdx p 17) + 1) (2 ^ 16 - 1) ∧ onlyPort p s t := by
  have ho : rxOpen (s.ctl.ports[p]) = true := by simp [-Fin.getElem_fin, rxOpen, hl, hs]
  refine ⟨{ s with ctl := onReplayTimeout p s.ctl }, rfl, ?_⟩
  rw [onReplayTimeout_starts ho ha hready]
  have hcount : scoreGet (bump (pIdx p 17) s.ctl) (pIdx p 17) = Nat.min (scoreGet s.ctl (pIdx p 17) + 1) (2 ^ 16 - 1) :=
    scoreGet_bump_self (counterWidth_port p (by omega)) (by omega)
  generalize hd : bump (pIdx p 17) s.ctl = d at hcount
  have hport : d.ports[p] = s.ctl.ports[p] := by rw [← hd, bump_ports]
  have honly : OnlyPortOf p s.ctl d := by rw [← hd]; exact .bump _
  rw [← hport] at hl hready
  rw [← hport, replayFrom_oldest hready]
  simp only [modPort_self]
  exact ⟨rfl, rfl, rfl, hl, hcount, (honly.trans (.modPort p _ _)).onlyPort⟩

/-! ## Headers that VC2 does not carry (R79) -/

theorem firstVc2_head {rest : List (List Slot)} (hvc : rxVc x = 2) (hpkts : q.rxPkts = [x] :: rest) : firstVc2 x q = true := by
  simp [firstVc2, hpkts, hvc]

/-- The first packet of the receive buffer leaves it when it is the one named. -/
theorem takeFirst_head {vc : Fin 3} {want : Slot → List Slot → Bool} {data : List Slot} {rest : List (List Slot)} (hvc : rxVc x = vc)
    (hpkts : q.rxPkts = (x :: data) :: rest) (hw : want x data = true) : (takeFirst vc want q).rxPkts = rest := by
  simp [takeFirst, hpkts, List.findIdx?_cons, hvc, hw]

theorem onDiscardedHeader_first (hup : linkUp c.ports[p] = true) (hfirst : firstVc2 x c.ports[p] = true) (hcmd : x.toNat % 256 ≠ 0x40)
    (hboot : x.toNat % 256 ≠ 0x44) :
    onDiscardedHeader p x c = bump (pIdx p 23) (modPort p (takeFirst 2 (fun hd _ => hd = x)) c) :=
  if_pos (by simp [-Fin.getElem_fin, hup, hfirst, hcmd, hboot])

theorem discardedVc2Header_effect {rest : List (List Slot)} (hup : linkUp (s.ctl.ports[p]) = true) (hvc : rxVc x = 2)
    (hcmd : x.toNat % 256 ≠ 0x40) (hboot : x.toNat % 256 ≠ 0x44) (hpkts : (s.ctl.ports[p]).rxPkts = [x] :: rest) :
    ∃ t, exec (.discardedVc2Header p x) s = .next t ∧ (t.ctl.ports[p]).rxPkts = rest ∧
      scoreGet t.ctl (pIdx p 23) = Nat.min (scoreGet s.ctl (pIdx p 23) + 1) (2 ^ 32 - 1) ∧ onlyPort p s t := by
  refine ⟨{ s with ctl := onDiscardedHeader p x s.ctl }, rfl, ?_⟩
  rw [onDiscardedHeader_first hup (firstVc2_head hvc hpkts) hcmd hboot]
  refine ⟨?_, ?_, ((OnlyPortOf.modPort p _ _).trans (.bump _)).onlyPort⟩
  · rw [bump_ports, modPort_self]
    exact takeFirst_head hvc hpkts (decide_eq_true rfl)
  · exact scoreGet_bump_self (c := modPort p _ s.ctl) (counterWidth_port p (by omega)) (by omega)

/-- Settles O18, clause by clause: INIT and INIT_DONE, the NAK and its repetition, the replay timer, and a header outside VC2. -/
theorem initAndReplay : Obligations.InitAndReplay :=
  ⟨fun _ _ _ _ hl hs hcode hv hresume hr hq => init_effect hl hs hcode hv hresume hr hq,
    fun _ _ _ _ hl hs hcode hi hr => initDone_effect hl hs hcode hi hr,
    fun _ _ _ _ ho hcode hcret hq hseq hlen hmax hlast hrep => nak_effect ho hcode hcret hq hseq hmax ⟨hlen, hlast, hrep⟩,
    fun _ _ hn => nakRepeat_effect hn, fun _ _ hl hs ha hlen hlast hrep => replayTimeout_effect hl hs ha ⟨hlen, hlast, hrep⟩,
    fun _ _ _ _ hup hvc hcmd hboot hpkts => discardedVc2Header_effect hup hvc hcmd hboot hpkts⟩

end Sys2Proof.Machine
end

section
/-! SUPPORT. The copiers (R102, R110 to R115, R126): how one takes a job, begins a chunk, reads, writes and goes on. -/

namespace Sys2Proof.Machine

open Sys2Proof

variable {c : Ctl} {s : State} {k : Fin 4} {j : CopyJob} {n : Nat}

/-! ## One copier written -/

theorem modCopier_self (f : Copier → Copier) : (modCopier k f c).pm.copiers[k] = f c.pm.copiers[k] := by simp [modCopier]

theorem modCopier_other {i : Fin 4} (f : Copier → Copier) (h : i ≠ k) : (modCopier k f c).pm.copiers[i] = c.pm.copiers[i] := by
  have hv : k.val ≠ i.val := fun e => h (Fin.ext e.symm)
  simp [modCopier, Vector.getElem_set_ne _ _ hv]

/-! ## A chunk begins (R111, R113) -/

/-- A copier at the chunk of its cursor: busy with it, or waiting to try again when a hold covers it. -/
def atChunk (held : Bool) (c : Ctl) (x : Copier) : Copier :=
  { x with
    busy := if held then none else some x.cursor, retry := held, since := c.now, reads := 0, writes := 0, bw := c.power.copierBw
    out := [], buf := [] }

theorem setBusy_job (h : (c.pm.copiers[k]).job = some j) :
    setBusy k c = modCopier k (atChunk (chunkBlocked c j (c.pm.copiers[k]).cursor) c) c := by
  unfold setBusy atChunk chunkBlocked
  simp only [h]

theorem chunkBlocked_eq : chunkBlocked c j n = (!isClearing j && chunkHeld c (heldPage c j (64 * n)) n) := by
  unfold chunkBlocked isClearing
  cases j.kind <;> rfl

/-- A chunk of a page that is no mirror's secondary stands on its source page. -/
theorem heldPage_src (h : j.kind ≠ .substMirror) (g : Nat) : heldPage c j g = j.src := by
  unfold heldPage
  split
  · exact absurd ‹_› h
  · rfl

/-! ## The next work (R126) -/

/-- The kinds of work that commands and clearings leave in the list, in their order of arrival. -/
def IsListed (j : CopyJob) : Prop := (∃ b, j.kind = .migrate b) ∨ j.kind = .mirrorCopy ∨ ∃ b, j.kind = .clearing b

theorem IsListed.ne_single (h : IsListed j) : j.kind ≠ .single := by
  rcases h with ⟨_, h⟩ | h | ⟨_, h⟩ <;> simp [h]

theorem IsListed.ne_substMirror (h : IsListed j) : j.kind ≠ .substMirror := by
  rcases h with ⟨_, h⟩ | h | ⟨_, h⟩ <;> simp [h]

theorem takeJob_one_hit {p : CopyJob → Bool} (h : p j = true) : takeJob p [j] = some (j, []) := by simp [takeJob, List.findIdx?_cons, h]

theorem takeJob_one_miss {p : CopyJob → Bool} (h : p j = false) : takeJob p [j] = none := by simp [takeJob, List.findIdx?_cons, h]

theorem substJob_none (h : c.pm.substSlice = none) : substJob c = (none, c) := by
  unfold substJob
  rw [h]

theorem initialClearing_default (h : c.pm.layout = .default) : initialClearing c = none := by
  unfold initialClearing
  rw [h]

/-- Without a substitution or a clearing of initialisation, the one job of the list is the next work. -/
theorem nextWork_one (hs : c.pm.substSlice = none) (hl : c.pm.layout = .default) (hj : c.pm.jobs = [j]) (hk : IsListed j) :
    nextWork c = (some j, modPm (fun pm => { pm with jobs := [] }) c) := by
  have hfirst : takeJob (fun x => x.kind = .single || x.kind = .substMirror) [j] = none :=
    takeJob_one_miss (by simp [hk.ne_single, hk.ne_substMirror])
  have hany : takeJob (fun _ => true) [j] = some (j, []) := takeJob_one_hit rfl
  unfold nextWork
  simp only [hj, hfirst, hany, substJob_none hs, initialClearing_default hl, List.head?_cons, Option.isNone_none, Bool.and_true]
  by_cases hn : (isClearing j && j.named) = true
  case pos =>
    simp only [takeJob_one_hit (p := fun x => isClearing x && x.named) hn, ite_self]
  case neg =>
    simp only [takeJob_one_miss (p := fun x => isClearing x && x.named) (Bool.eq_false_iff.mpr hn), ite_self]

/-! ## A copier starts (R113, R126) -/

/-- A free copier that runs sets the first chunk of its next work busy. -/
theorem copierStart_takes {d : Ctl} (hrun : copiersRun c = true) (hfree : (c.pm.copiers[k]).job = none) (hs : c.pm.substSlice = none)
    (hw : nextWork c = (some j, d)) (hk : j.kind ≠ .single) :
    copierStart k c = setBusy k (modCopier k (fun _ => { job := some j }) d) := by
  unfold copierStart
  rw [hs]
  simp only [Option.isSome_none, Bool.false_eq_true, if_false, hrun, hfree, Bool.not_true, Bool.or_self, hw]

theorem startCopier_noSubst (hs : c.pm.substSlice = none) : startCopier k c = copierStart k c := by
  unfold startCopier
  rw [hs]
  rfl

theorem copierStart_effect (hrun : copiersRun s.ctl = true) (hfree : (s.ctl.pm.copiers[k]).job = none) (hs : s.ctl.pm.substSlice = none)
    (hj : s.ctl.pm.jobs = [j]) (hk : IsListed j) (hl : s.ctl.pm.layout = .default) :
    ∃ t, exec (.copierStart k) s = .next t ∧ (t.ctl.pm.copiers[k]).job = some j ∧ (t.ctl.pm.copiers[k]).cursor = 0 ∧
      (t.ctl.pm.copiers[k]).busy = (if isClearing j = false ∧ chunkHeld s.ctl j.src 0 = true then none else some 0) ∧
      (∀ i : Fin 4, i ≠ k → t.ctl.pm.copiers[i] = s.ctl.pm.copiers[i]) ∧ t.ctl.pm.jobs = [] ∧ t.ctl.pm.entries = s.ctl.pm.entries ∧
      t.ctl = { s.ctl with pm := t.ctl.pm } ∧ onlyLogic s t := by
  refine ⟨{ s with ctl := startCopier k s.ctl }, rfl, ?_⟩
  rw [startCopier_noSubst hs, copierStart_takes hrun hfree hs (nextWork_one hs hl hj hk) hk.ne_single]
  generalize hd : modCopier k (fun _ => { job := some j }) (modPm (fun pm => { pm with jobs := [] }) s.ctl) = d
  have hself : d.pm.copiers[k] = { job := some j } := by rw [← hd, modCopier_self]
  have hheld : chunkBlocked d j 0 = (!isClearing j && chunkHeld s.ctl j.src 0) := by
    rw [chunkBlocked_eq, heldPage_src hk.ne_substMirror, ← hd]
    rfl
  rw [setBusy_job (by rw [hself]), hself]
  refine ⟨?_, ?_, ?_, fun i hi => ?_, ?_, ?_, ?_, onlyLogic_ctl s _⟩
  · rw [modCopier_self, hself]; rfl
  · rw [modCopier_self, hself]; rfl
  · rw [modCopier_self, hself]
    unfold atChunk
    rw [hheld]
    simp
  · rw [modCopier_other _ hi, ← hd, modCopier_other _ hi]; rfl
  all_goals rw [← hd]; rfl

/-! ## A read returns (R114) -/

/-- A granule that decodes clean is copied as it is. -/
theorem copyValue_clean {m : List Host.Cell} {g : Nat} {d : GranRead} (hd : granView m c (granKey j.src g) = d) (hp : d.poisoned = false)
    (hu : d.uncorrectable = false) (h1 : d.ce1 = 0) (h2 : d.ce2 = 0) : copyValue m j g c = (granEncode d.data, c) := by
  unfold copyValue reportCorrected
  simp only [hd, hp, hu, h1, h2, Nat.add_zero, if_true, Bool.false_eq_true, if_false]

theorem keyGran_granKey {g : Nat} (ppn : Nat) (h : g < 2048) : keyGran (granKey ppn g) = g := by
  unfold keyGran granKey
  omega

/-- What a granule reads as does not depend on the copiers. -/
theorem granView_modCopier (m : List Host.Cell) (f : Copier → Copier) (key : Nat) : granView m (modCopier k f c) key = granView m c key := rfl

/-- A copier without the accepted reads of a channel. -/
def readsLeft (ch : Fin 32) (x : Copier) : Copier := { x with out := x.out.filter fun o => !decide (keyChan o.1 = ch) }

/-- A copier with one more granule read. -/
def withRead (v : BitVec 320) (x : Copier) : Copier := { x with buf := x.buf ++ [v] }

/-- The only accepted read of a channel returns the value that copy_granule gives it. -/
theorem copyReturn_one {ch : Fin 32} {m : List Host.Cell} {o : Nat × Bool} (hj : (c.pm.copiers[k]).job = some j)
    (ho : (c.pm.copiers[k]).out = [o]) (hc : keyChan o.1 = ch) :
    copyReturn ch m k c =
      (fun r => modCopier k (withRead r.1) r.2) (copyValue m j (keyGran o.1) (modCopier k (readsLeft ch) c)) := by
  have hmine : [o].filter (fun o => decide (keyChan o.1 = ch)) = [o] := by simp [hc]
  unfold copyReturn
  simp only [hj, ho]
  rw [hmine]
  rfl

theorem copyReturn_clean {ch : Fin 32} {m : List Host.Cell} {g : Nat} {f : Bool} (hj : (c.pm.copiers[k]).job = some j) (hg : g < 2048)
    (ho : (c.pm.copiers[k]).out = [(granKey j.src g, f)]) (hc : keyChan (granKey j.src g) = ch)
    (hp : (granView m c (granKey j.src g)).poisoned = false) (hu : (granView m c (granKey j.src g)).uncorrectable = false)
    (h1 : (granView m c (granKey j.src g)).ce1 = 0) (h2 : (granView m c (granKey j.src g)).ce2 = 0) :
    (copyReturn ch m k c).pm.copiers[k] = { c.pm.copiers[k] with
      out := [], buf := (c.pm.copiers[k]).buf ++ [granEncode (granView m c (granKey j.src g)).data] } := by
  have hleft : readsLeft ch c.pm.copiers[k] = { c.pm.copiers[k] with out := [] } := by
    unfold readsLeft
    rw [ho]
    simp [hc]
  rw [copyReturn_one hj ho hc, keyGran_granKey _ hg, copyValue_clean (granView_modCopier m _ _) hp hu h1 h2]
  beta_reduce
  rw [modCopier_self, modCopier_self, hleft]
  rfl

/-! ## A write is accepted (R111, R210) -/

theorem countPoison_frame (key : Nat) (v : BitVec 320) : countPoison key v c = { c with score := (countPoison key v c).score } := by
  unfold countPoison
  split
  · exact bump_frame _
  · rfl

theorem keyFailed_countPoison (key key' : Nat) (v : BitVec 320) : keyFailed (countPoison key v c) key' = keyFailed c key' := by
  rw [countPoison_frame]
  rfl

/-- A whole write to a slice that is not failed joins its channel's write buffer, and leaves the page map's tables. -/
theorem acceptWrite_accepted {key : Nat} {v : BitVec 320} (h : keyFailed c key = false) :
    ((acceptWrite key v none c).chans[keyChan key]).wbuf = (c.chans[keyChan key]).wbuf ++ [(key, v)] ∧ (acceptWrite key v none c).pm = c.pm := by
  unfold acceptWrite
  extract_lets ch d
  unfold d
  rw [if_neg (by rw [h]; exact Bool.false_ne_true), modChan_self]
  exact ⟨rfl, rfl⟩

theorem acceptCopy_write {key : Nat} (h : keyFailed c key = false) :
    ((acceptCopy k key false c).chans[keyChan key]).wbuf = (c.chans[keyChan key]).wbuf ++ [(key, (c.pm.copiers[k]).buf.headD zeroGran)] ∧
      (acceptCopy k key false c).pm.copiers[k] =
        { c.pm.copiers[k] with writes := (c.pm.copiers[k]).writes + 1, buf := (c.pm.copiers[k]).buf.tail } := by
  unfold acceptCopy
  rw [if_neg Bool.false_ne_true]
  extract_lets v
  obtain ⟨hbuf, hpm⟩ := acceptWrite_accepted (v := v) ((keyFailed_countPoison key key v).trans h)
  rw [countPoison_frame] at hbuf hpm
  refine ⟨?_, ?_⟩
  · rw [countPoison_frame]
    exact hbuf
  · rw [modCopier_self, countPoison_frame, hpm]

/-! ## A chunk is copied (R113) -/

theorem mapRequests_pm : (mapRequests c).pm = c.pm := forEach_keeps Ctl.pm _ mapRequest (fun _ _ => rfl) c

theorem releaseChunk_pm (hpn chunk : Nat) : (releaseChunk hpn chunk c).pm = c.pm := mapRequests_pm

/-- A copier past a chunk whose writes have all been accepted. -/
def pastChunk (n : Nat) (x : Copier) : Copier := { x with cursor := n + 1, busy := none, reads := 0, writes := 0, out := [], buf := [] }

/-- A copier moved past a chunk, and the requests that waited for the chunk released; a clearing has none. -/
def chunkPassed (k : Fin 4) (j : CopyJob) (n : Nat) (c : Ctl) : Ctl :=
  if isClearing j then modCopier k (pastChunk n) c else releaseChunk j.hpn n (modCopier k (pastChunk n) c)

theorem chunkPassed_pm : (chunkPassed k j n c).pm = (modCopier k (pastChunk n) c).pm := by
  unfold chunkPassed
  split
  · rfl
  · exact releaseChunk_pm _ _

theorem chunkPassed_self : (chunkPassed k j n c).pm.copiers[k] = pastChunk n c.pm.copiers[k] := by rw [chunkPassed_pm, modCopier_self]

section
variable (hrun : copiersRun c = true) (hj : (c.pm.copiers[k]).job = some j) (hb : (c.pm.copiers[k]).busy = some n)
  (hready : chunkReady c j n = true) (hfree : chunkBlocked c j n = false) (hw : 64 ≤ (c.pm.copiers[k]).writes)
include hrun hj hb hready hfree hw

/-- A copier whose chunk is written passes it, and then begins the next chunk, or ends its page. -/
theorem chunkCopy_written :
    chunkCopy k c = if n + 1 < 32 then setBusy k (chunkPassed k j n c) else if isClearing j then chunkPassed k j n c
      else substAdvance (copyComplete j (modCopier k (fun _ => {}) (chunkPassed k j n c))) := by
  have hw' : ¬ (c.pm.copiers[k]).writes < 64 := by omega
  unfold chunkCopy
  simp only [hj, hb, hrun, hready, hfree, hw', Bool.not_true, Bool.or_self, Bool.false_eq_true, if_false]
  rfl

theorem chunkCopy_next (hn : n < 31) :
    ((chunkCopy k c).pm.copiers[k]).job = some j ∧ ((chunkCopy k c).pm.copiers[k]).cursor = n + 1 ∧
      ((chunkCopy k c).pm.copiers[k]).writes = 0 := by
  have hself := chunkPassed_self (k := k) (j := j) (n := n) (c := c)
  rw [chunkCopy_written hrun hj hb hready hfree hw, if_pos (by omega), setBusy_job (by rw [hself]; exact hj), modCopier_self, hself]
  exact ⟨hj, rfl, rfl⟩

theorem chunkCopy_lastOfClearing (hn : n = 31) (hc : isClearing j = true) :
    (chunkCopy k c).pm.copiers[k] =
      { c.pm.copiers[k] with cursor := 32, busy := none, reads := 0, writes := 0, out := [], buf := [] } := by
  rw [chunkCopy_written hrun hj hb hready hfree hw, if_neg (by omega), if_pos hc, chunkPassed_self, hn]
  rfl

end

/-! ## A held chunk is tried again (R113) -/

theorem chunkHoldRetry_effect (hr : (s.ctl.pm.copiers[k]).retry = true) (hj : (s.ctl.pm.copiers[k]).job = some j)
    (hfree : isClearing j = true ∨ chunkHeld s.ctl (heldPage s.ctl j (64 * (s.ctl.pm.copiers[k]).cursor)) (s.ctl.pm.copiers[k]).cursor = false) :
    ∃ t, exec (.chunkHoldRetry k) s = .next t ∧
      t.ctl.pm.copiers[k] = { s.ctl.pm.copiers[k] with
        busy := some (s.ctl.pm.copiers[k]).cursor, retry := false, since := s.ctl.now, reads := 0, writes := 0, bw := s.ctl.power.copierBw
        out := [], buf := [] } ∧
      (∀ i : Fin 4, i ≠ k → t.ctl.pm.copiers[i] = s.ctl.pm.copiers[i]) ∧ t.ctl = { s.ctl with pm := t.ctl.pm } ∧ onlyLogic s t := by
  have hblocked : chunkBlocked s.ctl j (s.ctl.pm.copiers[k]).cursor = false := by
    rw [chunkBlocked_eq]
    rcases hfree with h | h
    · rw [h]; rfl
    · rw [h, Bool.and_false]
  refine ⟨{ s with ctl := if (s.ctl.pm.copiers[k]).retry then setBusy k s.ctl else s.ctl }, rfl, ?_⟩
  rw [if_pos hr, setBusy_job hj, hblocked]
  exact ⟨modCopier_self _, fun i hi => modCopier_other _ hi, rfl, onlyLogic_ctl s _⟩

/-- Settles O27, clause by clause: a copier starts, a read returns, a write is accepted, a chunk is done, and a held chunk is tried
again. -/
theorem copierCommands : Obligations.CopierCommands :=
  ⟨fun _ _ _ hrun hfree hs hj hk hl => copierStart_effect hrun hfree hs hj hk hl,
    fun _ _ _ _ _ _ _ hj hg ho hc hp hu h1 h2 => copyReturn_clean hj hg ho hc hp hu h1 h2,
    fun _ _ _ h => acceptCopy_write h,
    fun _ _ _ s hrun hj hb _ hready hfree hw => ⟨_, rfl, onlyLogic_ctl s _, fun hn => chunkCopy_next hrun hj hb hready hfree hw hn,
      fun hn hc => chunkCopy_lastOfClearing hrun hj hb hready hfree hw hn hc⟩,
    fun _ _ _ hr hj hfree => chunkHoldRetry_effect hr hj hfree⟩

end Sys2Proof.Machine
end

section
/-! SUPPORT. The ends of a clearing (R102) and of a page-map drain (R107). -/

namespace Sys2Proof.Machine

open Sys2Proof

variable {c : Ctl} {s : State} {k q : Fin 4} {j : CopyJob} {d : Drain} {p : Nat} {r : CmdRef}

/-! ## What follows: substitutions and waiting commands (R107, R125) -/

theorem substAdvance_none (h : c.pm.substSlice = none) : substAdvance c = c := by
  unfold substAdvance
  rw [h]

theorem retryWaits_nil (h : c.pm.waits = []) : retryWaits c = c := by
  unfold retryWaits
  simp only [h, List.length_nil, List.range_zero, List.foldl_nil]

/-- With no slice being vacated and no command waiting, nothing follows. -/
theorem retryWaits_substAdvance (hs : c.pm.substSlice = none) (hw : c.pm.waits = []) : retryWaits (substAdvance c) = c := by
  rw [substAdvance_none hs, retryWaits_nil hw]

/-! ## The end of a clearing (R102, R117) -/

theorem clearingComplete_last {b : Bool} (hj : (c.pm.copiers[k]).job = some j) (hk : j.kind = .clearing b)
    (hc : 32 ≤ (c.pm.copiers[k]).cursor) (hs : c.pm.substSlice = none) (hw : c.pm.waits = []) (hd : pageDoomed c j.dst = false) :
    clearingComplete k c = usePut j.dst (if b then .bench else .unused) (modCopier k (fun _ => {}) c) := by
  have hdoomed : pageDoomed (modCopier k (fun _ => {}) c) j.dst = false := hd
  unfold clearingComplete
  simp only [hj, hk, Nat.not_lt.mpr hc, hdoomed, Bool.false_eq_true, if_false]
  exact retryWaits_substAdvance hs hw

theorem clearingComplete_effect {b : Bool} (hj : (s.ctl.pm.copiers[k]).job = some j) (hk : j.kind = .clearing b)
    (hc : 32 ≤ (s.ctl.pm.copiers[k]).cursor) (hs : s.ctl.pm.substSlice = none) (hw : s.ctl.pm.waits = [])
    (hd : pageDoomed s.ctl j.dst = false) :
    ∃ t, exec (.clearingComplete k) s = .next t ∧ (t.ctl.pm.copiers[k]).job = none ∧
      (∀ i : Fin 4, i ≠ k → t.ctl.pm.copiers[i] = s.ctl.pm.copiers[i]) ∧
      t.ctl.pm.uses = sparsePut (layoutUse s.ctl.pm.layout) s.ctl.pm.uses j.dst (if b then .bench else .unused) ∧
      t.ctl.pm.entries = s.ctl.pm.entries ∧ t.ctl = { s.ctl with pm := t.ctl.pm } ∧ onlyLogic s t := by
  refine ⟨{ s with ctl := clearingComplete k s.ctl }, rfl, ?_⟩
  rw [clearingComplete_last hj hk hc hs hw hd]
  refine ⟨?_, fun i hi => ?_, rfl, rfl, rfl, onlyLogic_ctl s _⟩
  · exact congrArg Copier.job (modCopier_self (c := s.ctl) fun _ => {})
  · exact modCopier_other (c := s.ctl) (fun _ => {}) hi

/-! ## A parked reply (R394) -/

theorem replyParked_parked {st : Nat} {l : List Byte} (h : r ∈ c.mgr.parked) :
    replyParked r st l c = replyTo r st 0 l (modMgr (fun g => { g with parked := g.parked.erase r }) c) :=
  if_pos (List.contains_iff_mem.mpr h)

theorem replyTo_parked (st op : Nat) (l : List Byte) : (replyTo r st op l c).mgr.parked = c.mgr.parked := by rw [replyTo_frame]

/-! ## The drain phase (R107, R128) -/

/-- The logic with a quarter's list of drains replaced. -/
def withDrains (q : Fin 4) (l : List Drain) : Ctl → Ctl := modPm fun pm => { pm with drains := pm.drains.set q l }

theorem withDrains_self (l : List Drain) : (withDrains q l c).pm.drains[q] = l := by simp [withDrains]

theorem withDrains_other {i : Fin 4} (l : List Drain) (h : i ≠ q) : (withDrains q l c).pm.drains[i] = c.pm.drains[i] := by
  have hv : q.val ≠ i.val := fun e => h (Fin.ext e.symm)
  simp [withDrains, Vector.getElem_set_ne _ _ hv]

theorem withDrains_same {l : List Drain} (h : c.pm.drains[q] = l) : withDrains q l c = c := by
  subst h
  simp [withDrains, modPm]

theorem bumpMax_frame (i v : Nat) : bumpMax i v c = { c with score := (bumpMax i v c).score } := by
  unfold bumpMax scoreSet
  split <;> rfl

/-- An update whose drain phase is over. -/
def phaseOver (d : Drain) : Drain := { d with drained := true }

theorem phaseOver_of_drained (h : d.drained = true) : phaseOver d = d := by
  unfold phaseOver
  rw [← h]

/-- The drain phase of a quarter's only update ends when nothing of its epoch is in flight; a counter keeps the longest. -/
theorem drainPhaseEnd_only (h : c.pm.drains[q] = [d]) (hb : epochBusy c q d.epoch = false) :
    ∃ sc, drainPhaseEnd q c = withDrains q [phaseOver d] { c with score := sc } := by
  unfold drainPhaseEnd
  cases hd : d.drained with
  | true =>
    rw [phaseOver_of_drained hd, h]
    exact ⟨c.score, by simp [hd, withDrains_same h]⟩
  | false =>
    have hframe := bumpMax_frame (c := withDrains q [phaseOver d] c) (rIdx q 2) (c.now - d.since)
    refine ⟨(bumpMax (rIdx q 2) (c.now - d.since) (withDrains q [phaseOver d] c)).score, Eq.trans ?_ hframe⟩
    simp [-Fin.getElem_fin, h, hd, hb, mapIf, withDrains, modPm, phaseOver]

/-! ## An update settles (R107, R123) -/

/-- Update `d` of quarter `q` is the only one of all quarters; it leaves one old page to clear, `p`, which nothing holds, and the reply
of the command `r`. -/
structure LastDrain (q : Fin 4) (d : Drain) (p : Nat) (r : CmdRef) (c : Ctl) : Prop where
  only : c.pm.drains[q] = [d]
  others : ∀ i : Fin 4, i ≠ q → c.pm.drains[i] = []
  oldPages : d.oldPages = [(p, .clearing)]
  secondaries : d.secondaries = []
  payload : d.payload = []
  reply : d.reply = some r
  unheld : pageHeld c p = false
  notRetired : useGet c p ≠ .retired
  notDoomed : pageDoomed c p = false

/-- The end of its drain phase leaves an update the only one, with the same page to clear and the same reply. -/
theorem LastDrain.afterPhase (h : LastDrain q d p r c) (sc : List (Nat × Nat)) :
    LastDrain q (phaseOver d) p r (withDrains q [phaseOver d] { c with score := sc }) where
  only := withDrains_self _
  others i hi := (withDrains_other _ hi).trans (h.others i hi)
  oldPages := h.oldPages
  secondaries := h.secondaries
  payload := h.payload
  reply := h.reply
  unheld := h.unheld
  notRetired := h.notRetired
  notDoomed := h.notDoomed

theorem LastDrain.ready (h : LastDrain q d p r c) (hd : d.drained = true) : drainReady c d = true := by
  unfold drainReady
  simp [hd, h.oldPages, h.unheld, h.secondaries]

theorem settleOld_clearing (hu : useGet c p ≠ .retired) (hd : pageDoomed c p = false) :
    settleOld (p, .clearing) c = startClearing p false c := by
  unfold settleOld
  simp [hu, hd]

/-- The settled update leaves its list, its old page is cleared, and its command replies. -/
theorem LastDrain.settles (h : LastDrain q d p r c) :
    drainSettle q d c = replyParked r 0 [] (startClearing p false (withDrains q [] c)) := by
  unfold drainSettle
  extract_lets mine c1 c2 c3 joined pay
  have h1 : c1 = withDrains q [] c := by simp [-Fin.getElem_fin, c1, mine, h.only, h.secondaries, withDrains, modPm]
  have h2 : c2 = startClearing p false c1 := by
    unfold c2
    rw [h.oldPages]
    exact settleOld_clearing (by rw [h1]; exact h.notRetired) (by rw [h1]; exact h.notDoomed)
  have h3 : c3 = c2 := by
    unfold c3
    rw [h.secondaries]
    rfl
  have hpay : pay = [] := by simp [pay, h.payload]
  have hnone : (allRegions.find? fun i => c3.pm.drains[i].any fun x => x.reply = some r) = none := by
    refine List.find?_eq_none.mpr fun i _ => ?_
    have hi : c3.pm.drains[i] = [] := by
      rw [h3, h2, h1]
      by_cases hiq : i = q
      · subst hiq
        exact withDrains_self []
      · exact (withDrains_other [] hiq).trans (h.others i hiq)
    simp [-Fin.getElem_fin, hi]
  simp only [h.reply, hnone, hpay]
  rw [h3, h2, h1]

theorem drainNext_ready (h : c.pm.drains[q] = [d]) (hr : drainReady c d = true) : drainNext q c = drainSettle q d c := by
  unfold drainNext
  simp [-Fin.getElem_fin, h, hr]

theorem withDrains_twice (l l' : List Drain) : withDrains q l' (withDrains q l c) = withDrains q l' c := by simp [withDrains, modPm]

/-- The only update of all quarters drains and settles at once. -/
theorem LastDrain.ends (h : LastDrain q d p r c) (hb : epochBusy c q d.epoch = false) :
    ∃ sc, drainEnd q c = replyParked r 0 [] (startClearing p false (withDrains q [] { c with score := sc })) := by
  obtain ⟨sc, hphase⟩ := drainPhaseEnd_only h.only hb
  refine ⟨sc, ?_⟩
  have hover := h.afterPhase sc
  rw [← hphase] at hover
  unfold drainEnd
  extract_lets c1
  rw [hover.only, ← withDrains_twice [phaseOver d] [], ← hphase, ← hover.settles, ← drainNext_ready hover.only (hover.ready rfl)]
  rfl

theorem pagemapDrainComplete_effect (h : LastDrain q d p r s.ctl) (hb : epochBusy s.ctl q d.epoch = false)
    (hparked : r ∈ s.ctl.mgr.parked) (hs : s.ctl.pm.substSlice = none) (hw : s.ctl.pm.waits = []) :
    ∃ t, exec (.pagemapDrainComplete q) s = .next t ∧ t.ctl.pm.drains[q] = [] ∧
      t.ctl.pm.uses = sparsePut (layoutUse s.ctl.pm.layout) s.ctl.pm.uses p .clearing ∧
      t.ctl.pm.jobs = s.ctl.pm.jobs ++ [{ kind := .clearing false, hpn := 0, src := p, dst := p }] ∧
      t.ctl.mgr.parked = s.ctl.mgr.parked.erase r ∧ t.ctl.pm.entries = s.ctl.pm.entries ∧ t.ctl.chans = s.ctl.chans ∧ onlyLogic s t := by
  refine ⟨{ s with ctl := drainComplete q s.ctl }, rfl, ?_⟩
  obtain ⟨sc, hend⟩ := h.ends hb
  rw [replyParked_parked (by exact hparked)] at hend
  unfold drainComplete
  extract_lets c1
  have hpm : c1.pm = (startClearing p false (withDrains q [] s.ctl)).pm := by unfold c1; rw [hend, replyTo_pm]; rfl
  have hparks : c1.mgr.parked = s.ctl.mgr.parked.erase r := by unfold c1; rw [hend, replyTo_parked]; rfl
  have hchans : c1.chans = s.ctl.chans := by unfold c1; rw [hend, replyTo_chans]; rfl
  have hempty : c1.pm.drains[q] = [] := by rw [hpm]; exact withDrains_self []
  rw [if_pos (by rw [hempty, h.only]; simp), retryWaits_substAdvance (by rw [hpm]; exact hs) (by rw [hpm]; exact hw)]
  exact ⟨hempty, by rw [hpm]; rfl, by rw [hpm]; rfl, hparks, by rw [hpm]; rfl, hchans, onlyLogic_ctl s _⟩

/-- Settles O28: the end of a clearing, and the end of the only drain of all quarters. -/
theorem clearingsAndDrains : Obligations.ClearingsAndDrains :=
  ⟨fun _ _ _ _ hj hk hc hs hw hd => clearingComplete_effect hj hk hc hs hw hd,
    fun _ _ _ _ _ honly hb hold hheld huse hdoomed hsec hpay hreply hothers hparked hs hw =>
      pagemapDrainComplete_effect ⟨honly, hothers, hold, hsec, hpay, hreply, hheld, huse, hdoomed⟩ hb hparked hs hw⟩

end Sys2Proof.Machine
end

section
/-! SUPPORT. Atomics on whole numbers as word operations (R139), and the bits of a granule in which an operand is replaced. -/

namespace Sys2Proof.Machine

open Sys2Proof

/-! ## Words (R139) -/

/-- The model's two's complement reading of `n` bits is that of the word. -/
theorem toSigned_eq_toInt {n : Nat} (hn : 0 < n) (x : Nat) : toSigned n x = (BitVec.ofNat n x).toInt := by
  have hmsb : (BitVec.ofNat n x).msb = x.testBit (n - 1) := by
    rw [BitVec.msb_eq_getLsbD_last, BitVec.getLsbD_ofNat, decide_eq_true (Nat.sub_lt hn Nat.one_pos), Bool.true_and]
  rw [BitVec.toInt_eq_msb_cond, hmsb, BitVec.toNat_ofNat]
  rfl

/-- Wrapping addition is the sum of words. -/
theorem atomicValue_add (n v x cmp : Nat) : atomicValue 0 n v x cmp = (BitVec.ofNat n v + BitVec.ofNat n x).toNat := by
  rw [← BitVec.ofNat_add, BitVec.toNat_ofNat]
  rfl

/-- Signed minimum and maximum compare words. -/
theorem atomicValue_signedMin {n : Nat} (hn : 0 < n) (v x cmp : Nat) :
    atomicValue 2 n v x cmp = if (BitVec.ofNat n v).toInt ≤ (BitVec.ofNat n x).toInt then v else x := by
  rw [← toSigned_eq_toInt hn, ← toSigned_eq_toInt hn]
  rfl

theorem atomicValue_signedMax {n : Nat} (hn : 0 < n) (v x cmp : Nat) :
    atomicValue 3 n v x cmp = if (BitVec.ofNat n v).toInt ≤ (BitVec.ofNat n x).toInt then x else v := by
  rw [← toSigned_eq_toInt hn, ← toSigned_eq_toInt hn]
  rfl

/-! ## A replaced operand (R139) -/

/-- A number whose `n` bits at `lo` are taken out and replaced: what stood below and above them stays in place. -/
theorem replaceBits_split (x lo n y : Nat) :
    x - bitsOf x lo n * 2 ^ lo + y * 2 ^ lo = 2 ^ lo * (2 ^ n * (x >>> (lo + n)) + y) + x % 2 ^ lo := by
  have hlow := Nat.div_add_mod x (2 ^ lo)
  have hmid := Nat.div_add_mod (x / 2 ^ lo) (2 ^ n)
  have hx : x = 2 ^ lo * (2 ^ n * (x >>> (lo + n))) + x % 2 ^ lo + bitsOf x lo n * 2 ^ lo := by
    unfold bitsOf
    rw [Nat.shiftRight_eq_div_pow, Nat.shiftRight_eq_div_pow, pow_add, ← Nat.div_div_eq_div_mul]
    linear_combination -hlow - 2 ^ lo * hmid
  have htake : x - bitsOf x lo n * 2 ^ lo = 2 ^ lo * (2 ^ n * (x >>> (lo + n))) + x % 2 ^ lo := by omega
  rw [htake]
  ring

theorem testBit_replaceBits {lo n y : Nat} (x i : Nat) (hy : y < 2 ^ n) :
    (x - bitsOf x lo n * 2 ^ lo + y * 2 ^ lo).testBit i = if lo ≤ i ∧ i < lo + n then y.testBit (i - lo) else x.testBit i := by
  rw [replaceBits_split, Nat.testBit_two_pow_mul_add _ (Nat.mod_lt x (by positivity))]
  by_cases hbelow : i < lo
  · rw [if_pos hbelow, if_neg (by omega), Nat.testBit_mod_two_pow, decide_eq_true hbelow, Bool.true_and]
  · rw [if_neg hbelow, Nat.testBit_two_pow_mul_add _ hy]
    by_cases hin : i < lo + n
    · rw [if_pos (by omega), if_pos (by omega)]
    · rw [if_neg (by omega), if_neg (by omega), Nat.testBit_shiftRight]
      congr 1
      omega

theorem getLsbD_granReplace (d : GData) (lo n v : Nat) {i : Nat} (hi : i < 256) :
    (granReplace d lo n v).getLsbD i = if lo ≤ i ∧ i < lo + n then v.testBit (i - lo) else d.getLsbD i := by
  unfold granReplace
  rw [BitVec.getLsbD_ofNat, decide_eq_true hi, Bool.true_and, testBit_replaceBits _ _ (Nat.mod_lt v (by positivity)),
    Nat.testBit_mod_two_pow, BitVec.testBit_toNat]
  split
  next hin => rw [decide_eq_true (by omega), Bool.true_and]
  next => rfl

/-- Settles O56: each operation by its word form, and the replaced operand bit by bit. -/
theorem atomicResults : Obligations.AtomicResults := by
  refine ⟨fun n v x cmp hn _ _ _ => ?_, fun d lo n v i _ hi => getLsbD_granReplace d lo n v hi⟩
  have hpos : 0 < n := by omega
  exact ⟨atomicValue_add n v x cmp, atomicValue_signedMin hpos v x cmp, atomicValue_signedMax hpos v x cmp,
    Nat.min_def, Nat.max_def, Nat.testBit_land v x, Nat.testBit_lor v x, Nat.testBit_xor v x,
    rfl, fun h => if_pos h, fun h => if_neg h⟩

end Sys2Proof.Machine
end

section
/-! SUPPORT. An admitted request of a port (R78, R87, R92, R93) starts on its path, and a data request enters the tracker with its
granules (R131, R134, R136, R138). -/

namespace Sys2Proof.Machine

open Sys2Proof

variable {c d e : Ctl} {op : Nat} {h : ReqHdr} {s : State}

/-! ## What changes before a request enters (R87, R92, R246) -/

/-- Of the logic only the ports, the pool's grants and the counters differ. -/
def SameBehindPorts (c d : Ctl) : Prop := d = { c with ports := d.ports, poolGrants := d.poolGrants, score := d.score }

namespace SameBehindPorts

theorem refl (c : Ctl) : SameBehindPorts c c := rfl

theorem trans (h : SameBehindPorts c d) (k : SameBehindPorts d e) : SameBehindPorts c e := by
  unfold SameBehindPorts at *
  rw [k, h]

theorem modPort (p : Fin 4) (f : Port → Port) : SameBehindPorts c (modPort p f c) := rfl

theorem bump (i : Nat) : SameBehindPorts c (bump i c) := by
  unfold SameBehindPorts
  rw [bump_frame]

/-- The TC1 bucket is the port's own, and a request that it does not cover is counted. -/
theorem tc1Mark (op : Nat) (h : ReqHdr) : SameBehindPorts c (tc1Mark op h c).2 := by
  unfold Machine.tc1Mark
  dsimp only
  split_ifs
  · rfl
  · exact bump _
  · exact refl c

theorem notePool (n : Holder) : SameBehindPorts c (notePool n c) := by
  unfold Machine.notePool
  split
  · rfl
  · exact refl c

theorem takeHead (op : Nat) (h : ReqHdr) : SameBehindPorts c (takeHead op h c) := by
  unfold Machine.takeHead
  split
  · exact refl c
  · exact modPort _ _

/-- Translation and staging read only what stands behind the ports. -/
theorem requestGrans (hs : SameBehindPorts c d) : requestGrans op h d = requestGrans op h c := by
  rw [hs]
  rfl

theorem stageGran (hs : SameBehindPorts c d) (m : Fin 5) : stageGran d m = stageGran c m := by
  rw [hs]
  rfl

theorem earlierIds (hs : SameBehindPorts c d) (p : Fin 4) (f : Trk → Bool) : earlierIds p f d = earlierIds p f c := by
  rw [hs]
  rfl

end SameBehindPorts

/-- The logic when a request that was just admitted leaves the receive buffer: the TC1 bucket is charged, the pool's grant noted, and
the packet taken. -/
def admittedCtl (op : Nat) (h : ReqHdr) (c : Ctl) : Ctl := takeHead op h (notePool (.port h.port) (tc1Mark op h c).2)

theorem admittedCtl_sameBehindPorts : SameBehindPorts c (admittedCtl op h c) :=
  ((SameBehindPorts.tc1Mark op h).trans (SameBehindPorts.notePool _)).trans (SameBehindPorts.takeHead op h)

/-! ## Admission (R78, R87, R93) -/

/-- What is admitted is admitted below class 4. -/
theorem stackClass_lt_of_admission (ha : admission op h c = none) : stackClass c.umpire < 4 := by
  unfold admission at ha
  by_contra hcls
  rw [if_pos (Nat.le_of_not_lt hcls)] at ha
  split_ifs at ha

theorem leaveSelfRefresh_awake (hs : c.power.selfRefresh = false) : leaveSelfRefresh c = c := by
  unfold leaveSelfRefresh
  rw [hs]
  rfl

/-- The checks of R87 pass, and nothing makes the request wait (R93). -/
theorem tryReq_admitted (ha : admitted op h s) (n : Nat) :
    tryReq { opcode := op, hdr := h, since := n } s.ctl = (none, dispatchReq op h (tc1Mark op h s.ctl).1 (admittedCtl op h s.ctl)) := by
  obtain ⟨_, hadm, hwait, _⟩ := ha
  have hcls : ¬ 4 ≤ stackClass (admittedCtl op h s.ctl).umpire := by
    rw [admittedCtl_sameBehindPorts]
    exact Nat.not_le_of_lt (stackClass_lt_of_admission (c := s.ctl) hadm)
  have hstart : startReq op h (tc1Mark op h s.ctl).1 (tc1Mark op h s.ctl).2 =
      dispatchReq op h (tc1Mark op h s.ctl).1 (admittedCtl op h s.ctl) := if_neg hcls
  simp [tryReq, hadm, hwait, hstart]

/-- An admitted request starts at once. -/
theorem request_admitted (ha : admitted op h s) : request op h s.ctl = dispatchReq op h (tc1Mark op h s.ctl).1 (admittedCtl op h s.ctl) := by
  have ⟨⟨hup, _, hwaiting, hawake⟩, _⟩ := ha
  unfold request
  rw [hup, leaveSelfRefresh_awake hawake]
  simp [-Fin.getElem_fin, hwaiting, headReq, tryReq_admitted ha]

/-! ## A data request enters the tracker (R131, R134, R136, R138) -/

/-- The tracker entry of a port's data request, entered in the logic `c`. -/
def dataEntry (op : Nat) (h : ReqHdr) (marked : Bool) (c : Ctl) : Trk :=
  { id := c.nextId, src := .port h.port, opcode := op, op := opOf op h, tag := h.tag, domain := h.domain
    addr := h.addr, tc1 := h.tc, marked := marked, cmpl := h.cmpl
    release := if h.release then some (earlierIds h.port releasable c) else none
    grans := (requestGrans op h c).map (stageGran c (portMaster h.port)), since := c.now }

theorem dataEntry_congr (hs : SameBehindPorts c d) (marked : Bool) : dataEntry op h marked d = dataEntry op h marked c := by
  unfold dataEntry
  rw [hs.earlierIds, hs.requestGrans, hs.stageGran, hs]

/-- A request asks for at least one granule. -/
theorem requestGrans_ne_nil : requestGrans op h c ≠ [] := by
  have hcount : 0 < granCount op := by
    unfold granCount
    positivity
  unfold requestGrans
  extract_lets o n
  have hn : n ≠ 0 := by
    unfold n
    split <;> omega
  simpa using hn

/-- A granule that translation does not end carries no status. -/
theorem granAt_status {addr i domain lost : Nat} {o : Op} {data : GData} (hlive : (granAt c addr i domain o lost data).phase ≠ .done) :
    (granAt c addr i domain o lost data).status = 0 := by
  unfold granAt at *
  dsimp only at *
  split
  next => rfl
  next hfail => simp [hfail] at hlive

theorem requestGrans_status {g : Gran} (hg : g ∈ requestGrans op h c) (hlive : g.phase ≠ .done) : g.status = 0 := by
  obtain ⟨i, _, rfl⟩ := List.mem_map.mp hg
  exact granAt_status hlive

theorem stageGran_phase (m : Fin 5) (g : Gran) : (stageGran c m g).phase = g.phase := rfl
theorem stageGran_status (m : Fin 5) (g : Gran) : (stageGran c m g).status = g.status := rfl

/-- No granule of a request that translates whole is denied. -/
theorem staged_any_denied (m : Fin 5) (hlive : ∀ g ∈ requestGrans op h c, g.phase ≠ .done) :
    ((requestGrans op h c).map (stageGran c m)).any (fun g => g.status = 2) = false := by
  rw [List.any_map, List.any_eq_false]
  intro g hg
  simp [stageGran_status, requestGrans_status hg (hlive g hg)]

/-- A request that translates whole has not ended. -/
theorem staged_all_done (m : Fin 5) (hlive : ∀ g ∈ requestGrans op h c, g.phase ≠ .done) :
    ((requestGrans op h c).map (stageGran c m)).all (fun g => g.phase = .done) = false := by
  obtain ⟨g, hg⟩ := List.exists_mem_of_ne_nil _ (requestGrans_ne_nil (c := c) (op := op) (h := h))
  rw [List.all_map, List.all_eq_false]
  exact ⟨g, hg, by simp [stageGran_phase, hlive g hg]⟩

/-- A translation whose check bits show nothing is only counted (R99). -/
theorem countXlate_clean (hpn : Nat) : countXlate hpn 0 c = bump (rIdx (quarterOf hpn) 0) c := rfl

/-- A request whose granules all translate enters the tracker: nothing else changes but the count of translations. -/
theorem enterData_live {marked : Bool} (hecc : h.pmEcc = 0) (hlive : ∀ g ∈ requestGrans op h c, g.phase ≠ .done) :
    enterData op h marked c =
      { bump (rIdx (quarterOf (h.addr / 65536)) 0) c with trk := c.trk ++ [dataEntry op h marked c], nextId := c.nextId + 1 } := by
  have hbump : SameBehindPorts c (bump (rIdx (quarterOf (h.addr / 65536)) 0) c) := SameBehindPorts.bump _
  unfold enterData
  rw [hecc, countXlate_clean, if_neg (by decide)]
  simp only [hbump.requestGrans, hbump.stageGran, hbump.earlierIds, staged_any_denied _ hlive, staged_all_done _ hlive,
    Bool.false_eq_true, if_false, bump_trk, bump_nextId, bump_now, dataEntry]

/-- The commands of the data requests, with their opcodes (Table 6 of chapter 3). -/
def dataRequests (h : ReqHdr) : List (Instr × Nat) :=
  [(.read32 h, 0x10), (.read64 h, 0x11), (.read128 h, 0x12), (.read256 h, 0x13), (.write32 h, 0x18), (.write64 h, 0x19),
    (.write128 h, 0x1A), (.write256 h, 0x1B), (.writeMasked32 h, 0x1C), (.atomic h, 0x20)]

theorem exec_dataRequest (h : ReqHdr) (s : State) : ∀ x ∈ dataRequests h, exec x.1 s = onCtl (request x.2 h) s := by
  unfold dataRequests
  simp only [List.forall_mem_cons]
  exact ⟨rfl, rfl, rfl, rfl, rfl, rfl, rfl, rfl, rfl, rfl, by simp⟩

theorem dispatchReq_dataRequest (h : ReqHdr) (marked : Bool) (c : Ctl) :
    ∀ x ∈ dataRequests h, dispatchReq x.2 h marked c = enterData x.2 h marked c := by
  unfold dataRequests
  simp only [List.forall_mem_cons]
  exact ⟨rfl, rfl, rfl, rfl, rfl, rfl, rfl, rfl, rfl, rfl, by simp⟩

/-- Settles O21: the request is admitted, its path is enterData, and what changed before it entered stands outside what the entry reads. -/
theorem dataRequestsEnter : Obligations.DataRequestsEnter := by
  intro h i op s hi ha hlive
  have ⟨_, _, _, hecc⟩ := ha
  have hsame : SameBehindPorts s.ctl (admittedCtl op h s.ctl) := admittedCtl_sameBehindPorts
  have hctl := (request_admitted ha).trans (dispatchReq_dataRequest h _ _ (i, op) hi)
  rw [enterData_live hecc (by rwa [hsame.requestGrans]), dataEntry_congr hsame] at hctl
  refine ⟨{ s with ctl := request op h s.ctl }, exec_dataRequest h s (i, op) hi, ?_, onlyLogic_ctl s _, ?_⟩
  all_goals
    simp only [hctl, bump_chans, bump_pm, bump_regions, bump_movers]
    rw [hsame]
  exact ⟨rfl, rfl, rfl, rfl, rfl⟩

end Sys2Proof.Machine
end

section
/-! SUPPORT. Queue contexts (R152 to R154): what is read back after one is written, and the queue commands (R155). -/

namespace Sys2Proof.Machine

open Sys2Proof

variable {c d : Ctl} {q : Nat} {x : Queue} {s : State} {m : Mgmt}

/-! ## One context written -/

/-- A context whose queue is not DISABLED is not the one that an unlisted queue has. -/
theorem queue_ne_reset (h : x.state ≠ 0) : x ≠ {} := fun e => h (by rw [e])

theorem queueGet_congr (h : d.queues = c.queues) (k : Nat) : queueGet d k = queueGet c k := by
  unfold queueGet
  rw [h]

theorem queueGet_queuePut (h : x.state ≠ 0) : queueGet (queuePut q x c) q = x := sparseGet_put_new _ (queue_ne_reset h)

theorem queueGet_setQueue (h : x.state ≠ 0) : queueGet (setQueue q x c) q = x := queueGet_queuePut (c := c) h

/-- A queue that is ready after its context is written stands among the ready queues of its region (R154, R170). -/
theorem setQueue_ready (h : queueIsReady x = true) : ∃ k, (q, k) ∈ ((setQueue q x c).regions[queueRegion q]).ready := by
  have hregion : (setQueue q x c).regions[queueRegion q] = { c.regions[queueRegion q] with
      ready := if (c.regions[queueRegion q]).ready.any (fun y => y.1 = q) then (c.regions[queueRegion q]).ready
        else (c.regions[queueRegion q]).ready ++ [(q, x.priority)] } := by
    unfold setQueue
    dsimp only
    rw [modRegion_self, if_pos h]
    rfl
  rw [hregion]
  split
  · rename_i hlisted
    obtain ⟨y, hy, hq⟩ := List.any_eq_true.mp hlisted
    exact ⟨y.2, of_decide_eq_true hq ▸ hy⟩
  · exact ⟨x.priority, by simp⟩

/-! ## The queue commands (R155) -/

theorem queueGet_takenUp (op : Nat) (m : Mgmt) (q : Nat) : queueGet (takenUp op m c) q = queueGet c q :=
  queueGet_congr (takenUp_queues op m) q

theorem disablePending_takenUp (op : Nat) (m : Mgmt) (q : Nat) : disablePending (takenUp op m c) q = disablePending c q := by
  unfold disablePending
  rw [takenUp_movers]

theorem queueConfigure_disabled {mask : Nat} {ctx : BitVec 256} (hs : served 0x30 m s) (hq : q < 32768)
    (hring : ringOk mask ctx.toNat = true) (hmode : bitsOf ctx.toNat 46 2 ≠ 3) (hp : disablePending s.ctl q = false)
    (hd : (queueGet s.ctl q).state = 0) :
    ∃ t, exec (.queueConfigure m q mask ctx) s = .next t ∧
      t.ctl.queues = sparsePut (fun _ => {}) s.ctl.queues q (writeContext mask ctx.toNat (queueGet s.ctl q)) ∧
      t.ctl.regions = s.ctl.regions ∧ t.ctl.movers = s.ctl.movers ∧ onlyLogic s t := by
  refine ⟨{ s with ctl := command 0x30 m (queueConfigure q mask ctx) s.ctl }, rfl, ?_⟩
  have hbody : queueConfigure q mask ctx (refOf 0x30 m) (takenUp 0x30 m s.ctl) =
      replyTo (refOf 0x30 m) 0 0 (toBytes 32 (contextBits (writeContext mask ctx.toNat (queueGet s.ctl q))))
        (queuePut q (writeContext mask ctx.toNat (queueGet s.ctl q)) (takenUp 0x30 m s.ctl)) := by
    unfold queueConfigure
    simp [queueGet_takenUp, disablePending_takenUp, Nat.not_le.mpr hq, hring, hmode, hp, hd]
  rw [command_served hs, hbody]
  refine ⟨?_, ?_, ?_, onlyLogic_ctl s _⟩
  · rw [replyTo_queues]
    exact congrArg (sparsePut _ · _ _) (takenUp_queues 0x30 m)
  · rw [replyTo_regions]
    exact takenUp_regions 0x30 m
  · rw [replyTo_movers]
    exact takenUp_movers 0x30 m

theorem queueEnable_disabled (hs : served 0x31 m s) (hq : q < 32768) (hp : disablePending s.ctl q = false)
    (hd : (queueGet s.ctl q).state = 0) :
    ∃ t, exec (.queueEnable m q) s = .next t ∧ (queueGet t.ctl q).state = (if (queueGet s.ctl q).headDone then 3 else 1) ∧
      (queueGet t.ctl q).dbPending = false ∧ (queueGet t.ctl q).head = (queueGet s.ctl q).head ∧ t.ctl.movers = s.ctl.movers ∧ onlyLogic s t := by
  refine ⟨{ s with ctl := command 0x31 m (queueEnable q) s.ctl }, rfl, ?_⟩
  have hbody : queueEnable q (refOf 0x31 m) (takenUp 0x31 m s.ctl) = replyTo (refOf 0x31 m) 0 0 []
      (setQueue q { queueGet s.ctl q with state := if (queueGet s.ctl q).headDone then 3 else 1, dbPending := false } (takenUp 0x31 m s.ctl)) := by
    unfold queueEnable
    simp [queueGet_takenUp, disablePending_takenUp, Nat.not_le.mpr hq, hp, hd]
  rw [command_served hs, hbody, queueGet_congr (replyTo_queues _ _ _ _) q, queueGet_setQueue (by dsimp only; split <;> decide)]
  refine ⟨rfl, rfl, rfl, ?_, onlyLogic_ctl s _⟩
  rw [replyTo_movers]
  exact takenUp_movers 0x31 m

/-- What QUEUE_DISABLE asks of a mover that runs the queue: to stop, and to reply (R155, Table 13 of R173). -/
def disableStop (q : Nat) (ref : CmdRef) (v : Mover) : Mover :=
  if v.curQueue = some q then { v with stop := some (0, false), stopReply := some ref } else v

theorem queueDisable_running (hs : served 0x32 m s) (hq : q < 32768) (hp : disablePending s.ctl q = false)
    (hrun : (queueGet s.ctl q).state = 2) (hv : ∃ v : Fin 16, (s.ctl.movers[v]).curQueue = some q) :
    ∃ t, exec (.queueDisable m q) s = .next t ∧ t.ctl.queues = s.ctl.queues ∧ refOf 0x32 m ∈ t.ctl.mgr.parked ∧
      (∀ v : Fin 16, (s.ctl.movers[v]).curQueue = some q → (t.ctl.movers[v]).stop = some (0, false) ∧ (t.ctl.movers[v]).stopReply = some (refOf 0x32 m)) ∧
      (∀ v : Fin 16, (s.ctl.movers[v]).curQueue ≠ some q → t.ctl.movers[v] = s.ctl.movers[v]) ∧ onlyLogic s t := by
  refine ⟨{ s with ctl := command 0x32 m (queueDisable q) s.ctl }, rfl, ?_⟩
  have hany : s.ctl.movers.toList.any (fun v => v.curQueue = some q) = true := by
    obtain ⟨v, hv⟩ := hv
    exact List.any_eq_true.mpr ⟨s.ctl.movers[v], by simp, decide_eq_true hv⟩
  have hbody : queueDisable q (refOf 0x32 m) (takenUp 0x32 m s.ctl) =
      park (refOf 0x32 m) { takenUp 0x32 m s.ctl with movers := s.ctl.movers.map (disableStop q (refOf 0x32 m)) } := by
    unfold queueDisable
    simp only [queueGet_takenUp, disablePending_takenUp, takenUp_movers, Nat.not_le.mpr hq, hp, hrun, hany, if_false, Bool.false_eq_true,
      decide_true, Bool.and_self, if_true]
    rfl
  have hmover : ∀ v : Fin 16, (s.ctl.movers.map (disableStop q (refOf 0x32 m)))[v] = disableStop q (refOf 0x32 m) s.ctl.movers[v] :=
    fun v => Vector.getElem_map _ v.isLt
  rw [command_served hs, hbody]
  refine ⟨takenUp_queues 0x32 m, List.mem_append_right _ (List.mem_singleton_self _), fun v h => ?_, fun v h => ?_, onlyLogic_ctl s _⟩
  · have hstop := (hmover v).trans (if_pos h)
    exact ⟨congrArg Mover.stop hstop, congrArg Mover.stopReply hstop⟩
  · exact (hmover v).trans (if_neg h)

theorem queueDisable_waiting (hs : served 0x32 m s) (hq : q < 32768) (hp : disablePending s.ctl q = false)
    (hw : (queueGet s.ctl q).state = 1 ∨ (queueGet s.ctl q).state = 3) :
    ∃ t, exec (.queueDisable m q) s = .next t ∧
      t.ctl.queues = sparsePut (fun _ => {}) s.ctl.queues q { queueGet s.ctl q with state := 0 } ∧ t.ctl.movers = s.ctl.movers ∧ onlyLogic s t := by
  refine ⟨{ s with ctl := command 0x32 m (queueDisable q) s.ctl }, rfl, ?_⟩
  have h2 : (queueGet s.ctl q).state ≠ 2 := by omega
  have h0 : (queueGet s.ctl q).state ≠ 0 := by omega
  have hbody : queueDisable q (refOf 0x32 m) (takenUp 0x32 m s.ctl) =
      replyTo (refOf 0x32 m) 0 0 [] (setQueue q { queueGet s.ctl q with state := 0 } (takenUp 0x32 m s.ctl)) := by
    unfold queueDisable
    simp [queueGet_takenUp, disablePending_takenUp, Nat.not_le.mpr hq, hp, h2, h0]
  rw [command_served hs, hbody]
  refine ⟨?_, ?_, onlyLogic_ctl s _⟩
  · rw [replyTo_queues]
    exact congrArg (sparsePut _ · _ _) (takenUp_queues 0x32 m)
  · rw [replyTo_movers]
    exact takenUp_movers 0x32 m

/-- Settles O30, clause by clause: QUEUE_CONFIGURE, QUEUE_ENABLE, and QUEUE_DISABLE of a running and of a waiting queue. -/
theorem queueCommands : Obligations.QueueCommands :=
  ⟨fun _ _ _ _ _ => queueConfigure_disabled, fun _ _ _ => queueEnable_disabled, fun _ _ _ => queueDisable_running,
    fun _ _ _ => queueDisable_waiting⟩

end Sys2Proof.Machine
end

section
/-! SUPPORT. Doorbells and fences (R95, R96, R178), unassigned opcodes (R79, R87) and the requests that wait (R93). -/

namespace Sys2Proof.Machine

open Sys2Proof

variable {c : Ctl} {s : State} {h : ReqHdr} {op : Nat}

/-! ## DOORBELL and FENCE enter the tracker (R96, R178) -/

theorem doorbell_enters (ha : admitted 0x38 h s) :
    ∃ t, exec (.doorbell h) s = .next t ∧
      t.ctl.trk = s.ctl.trk ++ [plainEntry 0x38 (opOf 0x38 h) h (some (earlierIds h.port isWriteOp s.ctl)) s.ctl] ∧
      t.ctl.queues = s.ctl.queues ∧ onlyLogic s t := by
  have hsame : SameBehindPorts s.ctl (admittedCtl 0x38 h s.ctl) := admittedCtl_sameBehindPorts
  have hctl : request 0x38 h s.ctl = enterWaiter 0x38 h (admittedCtl 0x38 h s.ctl) := request_admitted ha
  refine ⟨{ s with ctl := request 0x38 h s.ctl }, rfl, ?_, ?_, onlyLogic_ctl s _⟩
  · rw [hctl, ← hsame.earlierIds, hsame]
    rfl
  · rw [hctl, hsame]
    rfl

theorem fence_enters (ha : admitted 0x3C h s) :
    ∃ t, exec (.fence h) s = .next t ∧
      t.ctl.trk = s.ctl.trk ++ [plainEntry 0x3C .fence h (some ((s.ctl.trk.filter (srcIsPort h.port)).map (·.id))) s.ctl] ∧ onlyLogic s t := by
  have hsame : SameBehindPorts s.ctl (admittedCtl 0x3C h s.ctl) := admittedCtl_sameBehindPorts
  have hctl : request 0x3C h s.ctl = enterWaiter 0x3C h (admittedCtl 0x3C h s.ctl) := request_admitted ha
  refine ⟨{ s with ctl := request 0x3C h s.ctl }, rfl, ?_, onlyLogic_ctl s _⟩
  rw [hctl, hsame]
  rfl

/-! ## They end (R95, R96, R178) -/

theorem ringQueue_rings {q domain : Nat} {p : Fin 4} (hstate : (queueGet c q).state ≠ 0) (hdomain : (queueGet c q).domain = domain) :
    ringQueue q domain p c = (0, setQueue q { queueGet c q with dbPending := true } (bump (rIdx (queueRegion q) 4) c)) := by
  unfold ringQueue
  simp [hstate, hdomain]

theorem doorbell_rings {id q : Nat} {x : Trk} {ids : List Nat} {p : Fin 4} (hx : (s.ctl.trk.find? fun t => t.id = id) = some x)
    (hop : x.op = .doorbell q) (hids : x.release = some ids) (hsrc : x.src = .port p) (hlive : x.ended = false)
    (hover : waitsOver s.ctl ids = true) (hstate : (queueGet s.ctl q).state ≠ 0) (hdomain : (queueGet s.ctl q).domain = x.domain) :
    ∃ t, exec (.doorbellTakesEffect id) s = .next t ∧ (queueGet t.ctl q).dbPending = true ∧
      (queueGet t.ctl q).state = (queueGet s.ctl q).state ∧ (queueGet t.ctl q).head = (queueGet s.ctl q).head ∧
      (((queueGet s.ctl q).state = 1 ∨ (queueGet s.ctl q).state = 3) → ∃ k, (q, k) ∈ (t.ctl.regions[queueRegion q]).ready) ∧
      onlyLogic s t := by
  have heffect : doorbellEffect id s.ctl =
      endTrk id 0 (setQueue q { queueGet s.ctl q with dbPending := true } (bump (rIdx (queueRegion q) 4) s.ctl)) := by
    unfold doorbellEffect
    simp [hx, hop, hids, hsrc, hlive, hover, ringQueue_rings hstate hdomain]
  have hqueue : queueGet (doorbellEffect id s.ctl) q = { queueGet s.ctl q with dbPending := true } := by
    rw [heffect, queueGet_congr (endTrk_queues _ _) q]
    exact queueGet_setQueue hstate
  refine ⟨{ s with ctl := doorbellEffect id s.ctl }, rfl, ?_, ?_, ?_, fun hw => ?_, onlyLogic_ctl s _⟩
  · rw [hqueue]
  · rw [hqueue]
  · rw [hqueue]
  · rw [heffect, endTrk_regions]
    exact setQueue_ready (by simpa [queueIsReady] using hw)

/-- When a port's request that answers ends, every entry left under its identifier has ended. -/
theorem endTrk_ended {id st : Nat} {x : Trk} {p : Fin 4} (hx : (c.trk.find? fun t => t.id = id) = some x) (hsrc : x.src = .port p)
    (hlive : x.ended = false) : ∀ y ∈ (endTrk id st c).trk, y.id = id → y.ended = true := by
  have hid : x.id = id := by simpa using List.find?_some hx
  unfold endTrk endTrkWith
  simp only [hx]
  unfold finishWith
  simp only [hsrc, hlive, Bool.false_eq_true, if_false, hid]
  intro y hy hyid
  split at hy
  · have hmod := pushResp_trk _ _ _ hy
    obtain ⟨z, _, hz⟩ := List.mem_map.mp hmod
    by_cases hzid : z.id = id
    · simpa [hzid] using congrArg Trk.ended hz.symm
    · simp only [hzid, decide_false, Bool.false_eq_true, if_false] at hz
      exact absurd (hz ▸ hyid) hzid
  · simp [hyid] at hy

theorem fence_completes {id : Nat} {x : Trk} {ids : List Nat} {p : Fin 4} (hx : (s.ctl.trk.find? fun t => t.id = id) = some x)
    (hop : x.op = .fence) (hids : x.release = some ids) (hsrc : x.src = .port p) (hlive : x.ended = false)
    (hover : fenceOver s.ctl ids = true) :
    ∃ t, exec (.fenceComplete id) s = .next t ∧ (∀ y ∈ t.ctl.trk, y.id = id → y.ended = true) ∧ onlyLogic s t := by
  have heffect : fenceEffect id s.ctl = endTrk id 0 s.ctl := by
    unfold fenceEffect
    simp [hx, hop, hids, hlive, hover]
  refine ⟨{ s with ctl := fenceEffect id s.ctl }, rfl, ?_, onlyLogic_ctl s _⟩
  rw [heffect]
  exact endTrk_ended hx hsrc hlive

/-! ## The receive buffer (R76, R93) -/

theorem notePool_ports (n : Holder) : (notePool n c).ports = c.ports := by
  unfold notePool
  split <;> rfl

theorem notePool_umpire (n : Holder) : (notePool n c).umpire = c.umpire := by
  unfold notePool
  split <;> rfl

/-- Over a link that was not lost a request's packet leaves the receive buffer. -/
theorem takeHead_notePool (n : Holder) (hmute : (c.ports[h.port]).mute = false) :
    takeHead op h (notePool n c) = modPort h.port (takePacket op h) (notePool n c) := by
  unfold takeHead
  rw [notePool_ports, hmute]
  rfl

/-! ## An opcode that is not assigned (R79, R87) -/

/-- Its response on failure is a CMPL, with no data. -/
theorem respPkt_unassigned {tag addr st : Nat} {ret cmpl : Bool} {id : Option Nat} (hop : opcodeUnassigned op = true) (hst : st ≠ 0) :
    respPkt op tag addr st ret cmpl 0 [] id =
      some { opcode := 0x81, tag := tag, status := st, info := 0, addr := addr, data := [], trk := id } := by
  have hnone : ¬ (16 ≤ op ∧ op ≤ 19) ∧ op ≠ 0x20 ∧ op ≠ 0x28 ∧ op ≠ 0x31 ∧ op ≠ 0x32 := by
    simp only [opcodeUnassigned, opcodeAssigned, Bool.and_eq_true, Bool.not_eq_true', Bool.or_eq_false_iff, decide_eq_false_iff_not,
      Bool.and_eq_false_iff] at hop
    omega
  obtain ⟨hread, h20, h28, h31, h32⟩ := hnone
  unfold respPkt
  simp [hread, h20, h28, h31, h32, hst]

theorem unassignedOpcode_refused (hop : opcodeUnassigned op = true) (hfree : portFree h.port s)
    (hroom : mayAllocate s.ctl (.port h.port) = true) (hserve : notServing s.ctl = false) :
    ∃ t, exec (.unassignedOpcode op h) s = .next t ∧
      t.ctl = pushResp h.port { opcode := 0x81, tag := h.tag, status := 7, info := 0, addr := h.addr, data := [], trk := some s.ctl.nextId }
        { (bump (pIdx h.port 23) (modPort h.port (takePacket op h) (notePool (.port h.port) s.ctl))) with
          trk := s.ctl.trk ++ [{ plainEntry op .read h none s.ctl with ended := true }], nextId := s.ctl.nextId + 1 } ∧
      onlyLogic s t := by
  obtain ⟨hup, hmute, hwaiting, hawake⟩ := hfree
  have hassigned : opcodeAssigned op = false := by
    simp only [opcodeUnassigned, Bool.and_eq_true, Bool.not_eq_true'] at hop
    exact hop.1.2
  have h31 : op ≠ 0x31 := by
    rintro rfl
    exact absurd hassigned (by decide)
  have hpool : SameBehindPorts s.ctl (notePool (.port h.port) s.ctl) := .notePool _
  have hadm : admission op h s.ctl = some 7 := by
    unfold admission
    simp [hserve, hassigned]
  have hrequest : request op h s.ctl = denyReq op h 7 s.ctl := by
    unfold request
    rw [hup, leaveSelfRefresh_awake hawake]
    simp [-Fin.getElem_fin, hwaiting, headReq, tryReq, hadm, hroom]
  refine ⟨{ s with ctl := if opcodeUnassigned op then request op h s.ctl else s.ctl }, rfl, ?_, onlyLogic_ctl s _⟩
  simp only [hop, if_true, hrequest]
  unfold denyReq refuseReq refusalEffects
  simp only [h31, takeHead_notePool _ hmute, respPkt_unassigned hop, ne_eq, OfNat.ofNat_ne_zero, not_false_eq_true, if_false, if_true, Nat.reduceEqDiff]
  rw [hpool]
  simp [plainEntry]

/-! ## A request that waits goes on (R93) -/

theorem serveWaiting_admitted {p : Fin 4} {b : Bool} {w : Waiting} {rest : List Waiting} (hw : (c.ports[p]).waiting = w :: rest)
    (horphan : w.orphan = false) (hadm : w.admitted = some b) (hwait : mustWait w.opcode w.hdr c = false) :
    serveWaiting p c = modPort p (fun q => { q with waiting := q.waiting.drop 1 }) (startReq w.opcode w.hdr b c) := by
  unfold serveWaiting headReq tryReq
  simp [-Fin.getElem_fin, hw, horphan, hadm, hwait]

/-- A FENCE that starts leaves the receive buffer and enters the tracker. -/
theorem startReq_fence {b : Bool} (hcls : stackClass c.umpire < 4) (hmute : (c.ports[h.port]).mute = false) :
    startReq 0x3C h b c = enterWaiter 0x3C h (modPort h.port (takePacket 0x3C h) (notePool (.port h.port) c)) := by
  unfold startReq
  rw [takeHead_notePool _ hmute]
  exact if_neg (Nat.not_le.mpr (by rwa [modPort_umpire, notePool_umpire]))

/-- A packet that leaves the receive buffer leaves the requests that wait alone. -/
theorem takePacket_waiting (op : Nat) (h : ReqHdr) (q : Port) : (takePacket op h q).waiting = q.waiting := by
  unfold takePacket takeFirst
  dsimp only
  repeat' split
  all_goals rfl

theorem trackerAllocate_port {p : Fin 4} {b : Bool} {w : Waiting} {rest : List Waiting} (hw : (s.ctl.ports[p]).waiting = w :: rest)
    (hport : w.hdr.port = p) (horphan : w.orphan = false) (hadm : w.admitted = some b) (hwait : mustWait w.opcode w.hdr s.ctl = false) :
    ∃ t, exec (.trackerAllocate (.port p) none) s = .next t ∧
      t.ctl = modPort p (fun q => { q with waiting := q.waiting.drop 1 }) (startReq w.opcode w.hdr b s.ctl) ∧
      (w.opcode = 0x3C → stackClass s.ctl.umpire < 4 → (s.ctl.ports[p]).mute = false → (t.ctl.ports[p]).waiting = rest ∧
        t.ctl.trk = s.ctl.trk ++ [plainEntry 0x3C .fence w.hdr (some ((s.ctl.trk.filter (srcIsPort p)).map (·.id))) s.ctl]) ∧
      onlyLogic s t := by
  refine ⟨{ s with ctl := serveWaiting p s.ctl }, rfl, serveWaiting_admitted hw horphan hadm hwait, fun hop hcls hmute => ?_,
    onlyLogic_ctl s _⟩
  subst hport
  have hpool : SameBehindPorts s.ctl (notePool (.port w.hdr.port) s.ctl) := .notePool _
  simp only [serveWaiting_admitted hw horphan hadm hwait, hop, startReq_fence hcls hmute]
  constructor
  · rw [modPort_self]
    show List.drop 1 ((modPort w.hdr.port (takePacket 0x3C w.hdr) (notePool (.port w.hdr.port) s.ctl)).ports[w.hdr.port]).waiting = rest
    rw [modPort_self, takePacket_waiting, notePool_ports, hw]
    rfl
  · rw [hpool]
    rfl

/-- Settles O22, clause by clause: DOORBELL and FENCE enter, they end, an unassigned opcode, and a request that waited. -/
theorem doorbellsAndFences : Obligations.DoorbellsAndFences :=
  ⟨fun _ _ => doorbell_enters, fun _ _ => fence_enters, fun _ _ _ _ _ _ => doorbell_rings,
    fun _ _ _ _ _ hx hop hids hsrc _ hlive hover => fence_completes hx hop hids hsrc hlive hover,
    fun _ _ _ => unassignedOpcode_refused, fun _ _ _ _ _ => trackerAllocate_port⟩

end Sys2Proof.Machine
end

section
/-! SUPPORT. A mover's accesses (R92, R99, R163, R181): what their issue reads, what one that can be issued changes, and what every issue leaves of its
mover. -/

namespace Sys2Proof.Machine

open Sys2Proof

variable {m : Fin 16} {elem domain q : Nat} {a : Access} {c d e : Ctl}

/-! ## One mover written -/

theorem modMover_congr {f g : Mover → Mover} (h : f c.movers[m] = g c.movers[m]) : modMover m f c = modMover m g c := by
  unfold modMover
  rw [h]

theorem modMover_same {f : Mover → Mover} (h : f c.movers[m] = c.movers[m]) : modMover m f c = c := by
  have hset : c.movers.set m (f c.movers[m]) = c.movers := by
    rw [h]
    exact Vector.set_getElem_self m.isLt
  unfold modMover
  rw [hset]

theorem modMover_twice (f g : Mover → Mover) : modMover m g (modMover m f c) = modMover m (fun v => g (f v)) c := by
  simp [modMover]

/-! ## What the issue of an access reads -/

/-- What the issue of an access reads of a mover. -/
def issuePart (v : Mover) : Option Nat × Nat × Nat := (v.allocSince, v.entryEcc, v.maxInflight)

/-- What the issue of an access reads is the same: the logic differs in queue contexts, counters, activity counts, and in what it does
not read of the movers. -/
structure SameForAccess (c d : Ctl) : Prop where
  frame : d = { c with movers := d.movers, queues := d.queues, score := d.score, therm := d.therm }
  movers : d.movers.map issuePart = c.movers.map issuePart

namespace SameForAccess

theorem refl (c : Ctl) : SameForAccess c c := ⟨rfl, rfl⟩

theorem trans (h : SameForAccess c d) (k : SameForAccess d e) : SameForAccess c e := by
  refine ⟨?_, k.movers.trans h.movers⟩
  rw [k.frame, h.frame]

theorem modMover {f : Mover → Mover} (hf : issuePart (f c.movers[m]) = issuePart c.movers[m]) : SameForAccess c (modMover m f c) := by
  refine ⟨rfl, ?_⟩
  have hget : (c.movers.map issuePart)[m] = issuePart c.movers[m] := Vector.getElem_map _ m.isLt
  rw [modMover_movers, Vector.map_set, hf, ← hget]
  exact Vector.set_getElem_self m.isLt

/-- A counter is read by no access. -/
theorem of_score (h : d = { c with score := d.score }) : SameForAccess c d := by
  refine ⟨?_, ?_⟩ <;> rw [h]

theorem queuePut (q : Nat) (x : Queue) : SameForAccess c (queuePut q x c) := ⟨rfl, rfl⟩

theorem mover (h : SameForAccess c d) (v : Fin 16) : issuePart d.movers[v] = issuePart c.movers[v] := by
  have hv := congrArg (fun l : Vector _ 16 => l[v]) h.movers
  simpa using hv

theorem allocSince_mover (h : SameForAccess c d) (v : Fin 16) : (d.movers[v]).allocSince = (c.movers[v]).allocSince :=
  congrArg Prod.fst (h.mover v)

theorem trk (h : SameForAccess c d) : d.trk = c.trk := by rw [h.frame]
theorem nextId (h : SameForAccess c d) : d.nextId = c.nextId := by rw [h.frame]

theorem accessOf (h : SameForAccess c d) (v : Fin 16) (k : Nat) : accessOf d v k = accessOf c v k := by
  rw [h.frame]
  rfl

theorem accessGrans (h : SameForAccess c d) (n : Nat) (x : Access) : accessGrans d n x = accessGrans c n x := by
  rw [h.frame]
  rfl

theorem stageGran (h : SameForAccess c d) (v : Fin 5) : stageGran d v = stageGran c v := by
  rw [h.frame]
  rfl

theorem elemBusy (h : SameForAccess c d) (v : Fin 16) : elemBusy d v = elemBusy c v := by
  rw [h.frame]
  rfl

theorem entriesAtOnce (h : SameForAccess c d) : entriesAtOnce d = entriesAtOnce c := by
  rw [h.frame]
  rfl

theorem engineWaits (h : SameForAccess c d) : engineWaits d = engineWaits c := by
  have hmap : ∀ x : Ctl, x.movers.toList.filterMap (·.allocSince) = (x.movers.map issuePart).toList.filterMap (·.1) := fun x => by
    simp [Vector.toList_map, List.filterMap_map, Function.comp_def, issuePart]
  unfold Machine.engineWaits
  rw [hmap d, hmap c, h.movers, h.frame]

theorem allocSince (h : SameForAccess c d) (x : Holder) : allocSince d x = allocSince c x := by
  cases x with
  | port p =>
    rw [h.frame]
    rfl
  | engine =>
    unfold Machine.allocSince
    simp only [h.engineWaits]

theorem poolBefore (h : SameForAccess c d) (x y : Holder) : poolBefore d x y = poolBefore c x y := by
  unfold Machine.poolBefore
  rw [h.allocSince, h.allocSince, h.frame]
  rfl

theorem mayAllocate (h : SameForAccess c d) (x : Holder) : mayAllocate d x = mayAllocate c x := by
  unfold Machine.mayAllocate
  simp only [h.poolBefore]
  rw [h.frame]
  rfl

theorem entriesFor (h : SameForAccess c d) (v : Fin 16) (n : Nat) : entriesFor d v n = entriesFor c v n := by
  unfold Machine.entriesFor mayIssueSince
  rw [h.mayAllocate, h.engineWaits, h.allocSince_mover, h.frame]
  rfl

theorem accessRoom (h : SameForAccess c d) (v : Fin 16) (k n : Nat) (x : Access) : accessRoom d v k n x = accessRoom c v k n x := by
  unfold Machine.accessRoom
  rw [h.entriesFor, h.accessGrans, h.frame]
  rfl

/-- An access that may be issued may be issued from either. -/
theorem canIssue (h : SameForAccess c d) (hc : canIssue m elem domain a c) : canIssue m elem domain a d := by
  obtain ⟨hroom, halloc, hfew, hok, hecc, hpos, hmax⟩ := hc
  have hv := h.mover m
  simp only [issuePart, Prod.mk.injEq] at hv
  obtain ⟨hva, hve, hvm⟩ := hv
  unfold Machine.canIssue
  rw [h.accessRoom, h.entriesAtOnce, h.accessGrans, h.elemBusy, hva, hve, hvm]
  exact ⟨hroom, halloc, hfew, hok, hecc, hpos, hmax⟩

end SameForAccess

/-! ## An access that can be issued (R25, R163) -/

/-- The tracker entry of a mover's access that is issued in the logic `c`. -/
def accessEntry (m : Fin 16) (elem domain : Nat) (a : Access) (c : Ctl) : Trk :=
  { id := c.nextId, src := .mover m elem, opcode := a.opcode, op := a.op, tag := 0, domain := domain, addr := a.addr, tc1 := false
    marked := false, cmpl := false, release := none, grans := (accessGrans c domain a).map (stageGran c 4), since := c.now
    writeType := a.writeType }

theorem accessEntry_isAccess : isAccess m elem domain a c (accessEntry m elem domain a c) := ⟨rfl, rfl, rfl, rfl, rfl, rfl, rfl, rfl⟩

theorem accessEntry_congr (h : SameForAccess c d) : accessEntry m elem domain a d = accessEntry m elem domain a c := by
  unfold accessEntry
  rw [h.accessGrans, h.stageGran, h.nextId, h.frame]

theorem notePool_frame (n : Holder) : notePool n c = { c with poolGrants := (notePool n c).poolGrants } := by
  unfold notePool
  split <;> rfl

theorem notePool_congr (h : SameForAccess c d) (n : Holder) : (notePool n d).poolGrants = (notePool n c).poolGrants := by
  have huse : inUse d n = inUse c n := by
    rw [h.frame]
    rfl
  unfold notePool
  rw [huse, h.nextId, h.frame]
  split <;> rfl

/-- The logic `d` after an access has been issued as from the logic `c`: its entry is the newest, and beside it only the pool's grants, the
activity counts and the counters change. -/
def issuedFrom (m : Fin 16) (elem domain : Nat) (a : Access) (c d : Ctl) : Ctl :=
  { d with
    trk := c.trk ++ [accessEntry m elem domain a c], nextId := c.nextId + 1, poolGrants := (notePool .engine c).poolGrants
    therm := { d.therm with moverActs := d.therm.moverActs + 1 }, score := (addAccess m elem domain a d).score }

/-- A mover's access joins the request path at step 5 (R25): it enters the tracker. -/
def enterAccess (m : Fin 16) (elem domain : Nat) (a : Access) (c : Ctl) : Ctl :=
  let x := modTherm (fun t => { t with moverActs := t.moverActs + 1 }) (modMover m (fun v => { v with allocSince := none }) (notePool .engine c))
  { x with trk := x.trk ++ [accessEntry m elem domain a c], nextId := x.nextId + 1 }

/-- It is counted: an element's granules, or a tail check (R182). -/
def countIssue (m : Fin 16) (elem n : Nat) (c : Ctl) : Ctl :=
  if elem < 2 ^ 32 then bumpBy (mIdx m 0) n c
  else if elem = headElem && (c.movers[m]).phase = .tail then bump (mIdx m 5) c else c

/-- A refusal at the page map is reported (R164). -/
def joinPath (m : Fin 16) (elem domain : Nat) (a : Access) (c : Ctl) : Ctl :=
  let x := countIssue m elem a.count (enterAccess m elem domain a c)
  if ((accessGrans c domain a).map (stageGran c 4)).any (fun g => g.status = 2) then deniedQueue m x else x

/-- With a sound page map entry the issue of an access is a translation that is counted, and the way into the tracker (R25, R99). -/
theorem addAccess_sound (hecc : (c.movers[m]).entryEcc = 0) :
    addAccess m elem domain a c = joinPath m elem domain a (bump (rIdx (quarterOf (a.addr / 65536)) 0) c) := by
  have hclear : modMover m (fun v => { v with entryEcc := 0 }) c = c := modMover_same (by rw [← hecc])
  show (if (c.movers[m]).entryEcc = 3 then _ else joinPath m elem domain a
    (countXlate (a.addr / 65536) (c.movers[m]).entryEcc (modMover m (fun v => { v with entryEcc := 0 }) c))) = _
  rw [hclear, hecc, countXlate_clean, if_neg (by decide)]

theorem countIssue_frame (n : Nat) : countIssue m elem n c = { c with score := (countIssue m elem n c).score } := by
  unfold countIssue
  split_ifs
  · exact bumpBy_frame _ _
  · exact bump_frame _
  · rfl

/-- None of its granules is refused at the page map (R103). -/
theorem staged_not_denied (hok : ∀ g ∈ accessGrans c domain a, g.status ≠ 2) :
    ((accessGrans c domain a).map (stageGran c 4)).any (fun g => g.status = 2) = false := by
  rw [List.any_map, List.any_eq_false]
  intro g hg
  exact fun hden => hok g hg (of_decide_eq_true hden)

theorem enterAccess_eq (halloc : (c.movers[m]).allocSince = none) :
    enterAccess m elem domain a c = { issuedFrom m elem domain a c c with score := c.score } := by
  have hsame : modMover m (fun v => { v with allocSince := none }) c = c := modMover_same (by rw [← halloc])
  have hpool : modMover m (fun v => { v with allocSince := none }) (notePool .engine c) = notePool .engine c := by
    rw [notePool_frame]
    exact congrArg (fun x : Ctl => { x with poolGrants := (notePool .engine c).poolGrants }) hsame
  unfold enterAccess
  rw [hpool, notePool_frame]
  rfl

/-- No mover changes. -/
theorem issuedFrom_movers : (issuedFrom m elem domain a c d).movers = d.movers := rfl

theorem addAccess_canIssue (hc : canIssue m elem domain a c) : addAccess m elem domain a c = issuedFrom m elem domain a c c := by
  have hb : SameForAccess c (bump (rIdx (quarterOf (a.addr / 65536)) 0) c) := .of_score (bump_frame _)
  obtain ⟨-, halloc, -, hok, hecc, -, -⟩ := hb.canIssue hc
  have hjoin : addAccess m elem domain a c =
      countIssue m elem a.count (enterAccess m elem domain a (bump (rIdx (quarterOf (a.addr / 65536)) 0) c)) := by
    rw [addAccess_sound hc.2.2.2.2.1]
    unfold joinPath
    rw [staged_not_denied hok]
    rfl
  unfold issuedFrom
  rw [hjoin, countIssue_frame, enterAccess_eq halloc]
  unfold issuedFrom
  rw [accessEntry_congr hb, notePool_congr hb, bump_frame]

/-- The same from a logic in which the issue reads the same. -/
theorem addAccess_eq (hs : SameForAccess c d) (hc : canIssue m elem domain a c) :
    addAccess m elem domain a d = issuedFrom m elem domain a c d := by
  rw [addAccess_canIssue (hs.canIssue hc)]
  unfold issuedFrom
  rw [accessEntry_congr hs, notePool_congr hs, hs.trk, hs.nextId]

/-- What the next issue reads is the same again. -/
theorem SameForAccess.issuedFrom (hs : SameForAccess c d) :
    SameForAccess (issuedFrom m elem domain a c c) (issuedFrom m elem domain a c d) := by
  refine ⟨?_, hs.movers⟩
  unfold Machine.issuedFrom
  rw [hs.frame]

/-! ## A mover stays where it is -/

/-- A mover's queue, its place in the loop, its descriptor, and what its next translation will find. -/
def moverPlace (v : Mover) : Option Nat × MoverPhase × BitVec 512 × Nat := (v.curQueue, v.phase, v.desc, v.entryEcc)

/-- A mover stays at its place, and no queue context changes. -/
structure StaysAt (m : Fin 16) (c d : Ctl) : Prop where
  place : moverPlace d.movers[m] = moverPlace c.movers[m]
  queues : d.queues = c.queues

namespace StaysAt

theorem refl (c : Ctl) : StaysAt m c c := ⟨rfl, rfl⟩

theorem trans (h : StaysAt m c d) (k : StaysAt m d e) : StaysAt m c e := ⟨k.place.trans h.place, k.queues.trans h.queues⟩

theorem of_eq (hm : d.movers = c.movers) (hq : d.queues = c.queues) : StaysAt m c d := ⟨by rw [hm], hq⟩

theorem modMover {f : Mover → Mover} (hf : ∀ v, moverPlace (f v) = moverPlace v) : StaysAt m c (modMover m f c) :=
  ⟨by rw [modMover_self]; exact hf _, rfl⟩

theorem curQueue (h : StaysAt m c d) : (d.movers[m]).curQueue = (c.movers[m]).curQueue := congrArg (·.1) h.place
theorem phase (h : StaysAt m c d) : (d.movers[m]).phase = (c.movers[m]).phase := congrArg (·.2.1) h.place
theorem desc (h : StaysAt m c d) : (d.movers[m]).desc = (c.movers[m]).desc := congrArg (·.2.2.1) h.place
theorem entryEcc (h : StaysAt m c d) : (d.movers[m]).entryEcc = (c.movers[m]).entryEcc := congrArg (·.2.2.2) h.place

end StaysAt

theorem modUmpire_stays (f : Umpire → Umpire) : StaysAt m c (modUmpire f c) := .of_eq rfl rfl

theorem updateAlert_stays : StaysAt m c (updateAlert c) := modUmpire_stays _

/-- ACCESS_DENIED is a request event: it is logged or merged, and has no reaction (R284, R294, R300). -/
theorem raiseEvent_denied_stays (idx : Nat) : StaysAt m c (raiseEvent 0x28 9 idx 0 c) := by
  have hbump : StaysAt m c (bump (gIdx (16 + eventClass 0x28)) c) := .of_eq (bump_movers _) (bump_queues _)
  have hplain : ∀ (l : LogEntry) (x : Ctl), StaysAt m x (logPlain l x) := fun l x => .of_eq (by rw [logPlain_frame]) (by rw [logPlain_frame])
  have hclass : ¬ 2 ≤ eventClass 0x28 := by decide
  have hslice : isSliceCode 0x28 = false := rfl
  have hrequest : isRequestEvent 0x28 = true := rfl
  show StaysAt m c (recordEvent 0x28 9 idx 0 c)
  unfold recordEvent
  simp only [hclass, hslice, hrequest, Bool.false_and, Bool.false_eq_true, if_false, Nat.reduceEqDiff, decide_false, Bool.or_true, if_true]
  split
  · exact hbump.trans ((modUmpire_stays _).trans updateAlert_stays)
  · exact hbump.trans ((hplain _ _).trans updateAlert_stays)

theorem deniedQueue_stays : StaysAt m c (deniedQueue m c) := by
  unfold deniedQueue
  dsimp only
  split
  · split_ifs
    · exact .refl c
    · refine StaysAt.trans ?_ (raiseEvent_denied_stays _)
      exact .modMover fun _ => rfl
  · exact .refl c

theorem enterAccess_stays : StaysAt m c (enterAccess m elem domain a c) := by
  have hpool : StaysAt m c (notePool .engine c) := .of_eq (by rw [notePool_frame]) (by rw [notePool_frame])
  have hmover : StaysAt m c (modMover m (fun v => { v with allocSince := none }) (notePool .engine c)) := hpool.trans (.modMover fun _ => rfl)
  exact ⟨hmover.place, hmover.queues⟩

theorem stallMover_stays (n : Nat) : StaysAt m c (stallMover m elem n c) := by
  unfold stallMover
  exact .modMover fun _ => rfl

/-- Only a GATHER streams (R158). -/
theorem descStream_of_opcode {w : BitVec 512} (h : descOpcode w ≠ 3) : descStream w = false := by simp [descStream, h]

section
variable (hecc : (c.movers[m]).entryEcc = 0)
include hecc

theorem addAccess_stays : StaysAt m c (addAccess m elem domain a c) := by
  have hcount : ∀ x : Ctl, StaysAt m x (countIssue m elem a.count x) := fun x =>
    .of_eq (by rw [countIssue_frame]) (by rw [countIssue_frame])
  rw [addAccess_sound hecc]
  have hbump : StaysAt m c (bump (rIdx (quarterOf (a.addr / 65536)) 0) c) := .of_eq (bump_movers _) (bump_queues _)
  refine hbump.trans ?_
  unfold joinPath
  dsimp only
  split_ifs
  · exact (enterAccess_stays.trans (hcount _)).trans deniedQueue_stays
  · exact enterAccess_stays.trans (hcount _)

theorem tryAccess_stays : StaysAt m c (tryAccess m elem domain a c) := by
  unfold tryAccess
  split_ifs
  · exact addAccess_stays hecc
  · exact stallMover_stays _

/-! ## What a mover issues in its turn -/

theorem StaysAt.tryAccess (h : StaysAt m c d) : StaysAt m c (tryAccess m elem domain a d) :=
  h.trans (tryAccess_stays (h.entryEcc.trans hecc))

theorem issueRun_stays : StaysAt m c (issueRun m q c) := by
  unfold issueRun
  dsimp only
  split
  · split_ifs
    · exact .refl c
    · exact tryAccess_stays hecc
  · exact .refl c

theorem issueParts_stays (n : Nat) (h : StaysAt m c d) : StaysAt m c (issueParts m domain n d) := by
  induction n generalizing d with
  | zero => exact h
  | succ n ih =>
    have hmod : ∀ (k : Nat) (f : Elem → Elem), StaysAt m c (modElem m k f d) := fun _ _ => h.trans (.modMover fun _ => rfl)
    unfold issueParts
    dsimp only
    split
    · exact h
    · split
      · exact h
      · split_ifs
        · exact h
        · exact h.trans (stallMover_stays _)
        · exact ih ((hmod _ _).trans (addAccess_stays ((hmod _ _).entryEcc.trans hecc)))

theorem issueElems_stays (n : Nat) (h : StaysAt m c d) : StaysAt m c (issueElems m domain n d) := by
  induction n generalizing d with
  | zero => exact h
  | succ n ih =>
    have hplace : ∀ e : Elem, StaysAt m c (modMover m (fun v => { v with inflight := v.inflight ++ [e], nextElem := v.nextElem + 1 }) d) :=
      fun _ => h.trans (.modMover fun _ => rfl)
    unfold issueElems
    dsimp only
    split_ifs
    · exact h
    · split
      · exact h
      · exact ih (hplace _)
      · split
        · exact h
        · split_ifs
          · exact h.trans (stallMover_stays _)
          · exact ih ((hplace _).trans (addAccess_stays ((hplace _).entryEcc.trans hecc)))

theorem readAhead_stays (h : StaysAt m c d) : StaysAt m c (readAhead m domain d) := by
  unfold readAhead
  split_ifs
  · exact h
  · refine forEach_inv (StaysAt m c) _ _ (fun b x hx => ?_) _ (h.trans (.modMover fun _ => rfl))
    dsimp only
    split
    · split_ifs
      · exact hx
      · exact hx.tryAccess hecc
    · exact hx

theorem pumpReports_stays (n : Nat) (h : StaysAt m c d) : StaysAt m c (pumpReports m domain n d) := by
  induction n generalizing d with
  | zero => exact h
  | succ n ih =>
    have hmod : ∀ t : List (Nat × Nat), StaysAt m c (modMover m (fun v => { v with reportsDue := t }) d) := fun _ => h.trans (.modMover fun _ => rfl)
    unfold pumpReports
    dsimp only
    split
    · exact h
    · split_ifs
      · exact h
      · exact h.trans (stallMover_stays _)
      · exact ih ((hmod _).trans (addAccess_stays ((hmod _).entryEcc.trans hecc)))

/-- A running descriptor that gathers nothing goes on without leaving its place. -/
theorem pumpDesc_stays (hop : descOpcode (c.movers[m]).desc ≠ 3) : StaysAt m c (pumpDesc m q c) := by
  have hstream := descStream_of_opcode hop
  have hissued : StaysAt m c (issueElems m (queueGet c q).domain 512 (issueParts m (queueGet c q).domain 512 c)) :=
    issueElems_stays hecc 512 (issueParts_stays hecc 512 (.refl c))
  unfold pumpDesc
  simp only [hstream, hop, Bool.false_eq_true, if_false, decide_false, Bool.false_and]
  exact pumpReports_stays hecc _ (readAhead_stays hecc hissued)

/-- A mover that issues what it can stays where it is, unless it runs a GATHER, whose destinations are counted. -/
theorem moverPump_stays (hop : (c.movers[m]).phase = .running → descOpcode (c.movers[m]).desc ≠ 3) : StaysAt m c (moverPump m c) := by
  have hstart : StaysAt m c (modMover m (fun v => { v with stalled := false }) c) := .modMover fun _ => rfl
  have hsound := hstart.entryEcc.trans hecc
  unfold moverPump
  split
  · exact .refl c
  · refine StaysAt.trans ?_ (.modMover fun _ => rfl)
    split_ifs with hrun
    · rw [hstart.phase] at hrun
      exact hstart.trans (pumpDesc_stays hsound (by rw [hstart.desc]; exact hop hrun))
    · exact hstart.trans (issueRun_stays hsound)

end

end Sys2Proof.Machine
end

section
/-! SUPPORT. What a mover's pump does when it has nothing to issue, when it has one access, and when it waits for an index (R162 to R165,
R171, R181). -/

namespace Sys2Proof.Machine

open Sys2Proof

variable {m : Fin 16} {elem domain q n : Nat} {a : Access} {b c d : Ctl} {v : Mover} {e : Elem}

/-! ## Nothing to issue -/

theorem moreElems_done (h : descCount v.desc ≤ v.nextElem) : moreElems v = false := by
  simp [moreElems, Nat.not_lt.mpr h]

theorem issueParts_none (h : (c.movers[m]).inflight.find? toIssue = none) : issueParts m domain n c = c := by
  cases n with
  | zero => rfl
  | succ n =>
    unfold issueParts
    simp only [h]

theorem issueElems_done (h : moreElems c.movers[m] = false) : issueElems m domain n c = c := by
  cases n with
  | zero => rfl
  | succ n =>
    unfold issueElems mayIssue
    simp only [h, Bool.false_and, Bool.not_false, Bool.true_or, if_true]

theorem readAhead_done (h : moreElems c.movers[m] = false) : readAhead m domain c = c := by
  unfold readAhead
  rw [h]
  rfl

theorem pumpReports_none (h : (c.movers[m]).reportsDue = []) : pumpReports m domain (c.movers[m]).reportsDue.length c = c := by
  rw [h]
  rfl

/-- A descriptor that is no GATHER to a port goes on: what was begun, new elements, the reads ahead, reports, destinations. -/
theorem pumpDesc_unstreamed (hstream : descStream (c.movers[m]).desc = false) :
    pumpDesc m q c =
      (let domain := (queueGet c q).domain
       let x := issueElems m domain 512 (issueParts m domain 512 c)
       let y := pumpReports m domain (x.movers[m]).reportsDue.length (readAhead m domain x)
       if descOpcode (c.movers[m]).desc = 3 then pumpDest m q ((c.movers[m]).results.length + 1) y else y) := by
  unfold pumpDesc
  simp only [hstream, Bool.false_eq_true, if_false, Bool.not_false, Bool.and_true, decide_eq_true_eq]

/-- Once its last element has been begun, a descriptor that gathers nothing only issues the parts of what it has begun. -/
theorem pumpDesc_begun (hop : descOpcode (c.movers[m]).desc ≠ 3)
    (hmore : moreElems ((issueParts m (queueGet c q).domain 512 c).movers[m]) = false)
    (hrep : ((issueParts m (queueGet c q).domain 512 c).movers[m]).reportsDue = []) :
    pumpDesc m q c = issueParts m (queueGet c q).domain 512 c := by
  rw [pumpDesc_unstreamed (descStream_of_opcode hop)]
  dsimp only
  rw [if_neg hop, issueElems_done hmore, readAhead_done hmore, pumpReports_none hrep]

/-- The pump of a running descriptor. -/
theorem moverPump_running (hq : (c.movers[m]).curQueue = some q) (hrun : (c.movers[m]).phase = .running) :
    moverPump m c = modMover m (fun v => { v with allocSince := if v.stalled then v.allocSince else none })
      (pumpDesc m q (modMover m (fun v => { v with stalled := false }) c)) := by
  have hphase : ((modMover m (fun v => { v with stalled := false }) c).movers[m]).phase = .running := by rw [modMover_self]; exact hrun
  unfold moverPump
  rw [hq]
  dsimp only
  rw [if_pos hphase]

/-- The pump of a mover that stands elsewhere in its queue's loop. -/
theorem moverPump_loop (hq : (c.movers[m]).curQueue = some q) (hloop : (c.movers[m]).phase ≠ .running) :
    moverPump m c = modMover m (fun v => { v with allocSince := if v.stalled then v.allocSince else none })
      (issueRun m q (modMover m (fun v => { v with stalled := false }) c)) := by
  have hphase : ((modMover m (fun v => { v with stalled := false }) c).movers[m]).phase ≠ .running := by rw [modMover_self]; exact hloop
  unfold moverPump
  rw [hq]
  dsimp only
  rw [if_neg hphase]

/-- A descriptor with nothing to issue: its mover is only found not to wait. -/
theorem moverPump_idle (hq : (c.movers[m]).curQueue = some q) (hrun : (c.movers[m]).phase = .running)
    (hop : descOpcode (c.movers[m]).desc ≠ 3) (hin : (c.movers[m]).inflight.find? toIssue = none) (hrep : (c.movers[m]).reportsDue = [])
    (hcount : descCount (c.movers[m]).desc ≤ (c.movers[m]).nextElem) :
    moverPump m c = modMover m (fun v => { v with stalled := false, allocSince := none }) c := by
  have hself := modMover_self (c := c) m (fun v => { v with stalled := false })
  have hparts : issueParts m (queueGet (modMover m (fun v => { v with stalled := false }) c) q).domain 512
      (modMover m (fun v => { v with stalled := false }) c) = modMover m (fun v => { v with stalled := false }) c :=
    issueParts_none (by rw [hself]; exact hin)
  rw [moverPump_running hq hrun, pumpDesc_begun (by rw [hself]; exact hop) (by rw [hparts, hself]; exact moreElems_done hcount)
    (by rw [hparts, hself]; exact hrep), hparts, modMover_twice]
  rfl

/-! ## One access to issue -/

/-- After an access was issued, its mover is found not to wait: it did not. -/
theorem settle_issued (hs : SameForAccess b d) (hc : canIssue m elem domain a b) :
    modMover m (fun v => { v with allocSince := if v.stalled then v.allocSince else none }) (issuedFrom m elem domain a b d) =
      issuedFrom m elem domain a b d := by
  refine modMover_same ?_
  have halloc : (d.movers[m]).allocSince = none := (hs.canIssue hc).2.1
  show { d.movers[m] with allocSince := if (d.movers[m]).stalled then (d.movers[m]).allocSince else none } = d.movers[m]
  rw [halloc, ite_self, ← halloc]

/-- What MAX_INFLIGHT and the tracker let be issued at once of an access is the whole of it. -/
theorem nextPart_whole (hgot : e.got = []) (hk : e.k < 2 ^ 32) (hc : canIssue m e.k domain (elemAccess (c.movers[m]).desc e) c) :
    nextPart c m e = some (elemAccess (c.movers[m]).desc e) := by
  obtain ⟨-, -, hfew, -, -, hpos, hmax⟩ := hc
  have hfew := hfew hk
  have hmin : Nat.min (Nat.min ((elemAccess (c.movers[m]).desc e).count - 0) ((c.movers[m]).maxInflight - elemBusy c m)) (entriesAtOnce c) =
      (elemAccess (c.movers[m]).desc e).count := by
    simp only [Nat.min_def]
    split_ifs <;> omega
  unfold nextPart
  simp only [hgot, List.length_nil, hmin, Nat.ne_of_gt hpos, if_false]
  rfl

/-- A change of the only element in flight. -/
theorem modElem_only (hin : (c.movers[m]).inflight = [e]) (f : Elem → Elem) :
    modElem m e.k f c = modMover m (fun v => { v with inflight := [f e] }) c := by
  refine modMover_congr ?_
  rw [hin]
  simp [mapIf]

/-- The one element that a mover has begun, and is to issue, is issued. -/
theorem issueParts_one (hs : SameForAccess b c) (hin : (c.movers[m]).inflight = [e]) (hiss : toIssue e = true) (hgot : e.got = [])
    (hk : e.k < 2 ^ 32) (hstall : (c.movers[m]).stalled = false) (hc : canIssue m e.k domain (elemAccess (c.movers[m]).desc e) b) :
    issueParts m domain (n + 1) c = issuedFrom m e.k domain (elemAccess (c.movers[m]).desc e) b
      (modMover m (fun v => { v with inflight := [{ e with trk := some b.nextId }] }) c) := by
  have hcan := hs.canIssue hc
  have hmod : modElem m e.k (fun y => { y with trk := some c.nextId }) c =
      modMover m (fun v => { v with inflight := [{ e with trk := some b.nextId }] }) c := by
    rw [modElem_only hin, hs.nextId]
  have hsame : SameForAccess b (modMover m (fun v => { v with inflight := [{ e with trk := some b.nextId }] }) c) := hs.trans (.modMover rfl)
  unfold issueParts
  simp only [hin, List.find?_cons_of_pos hiss, nextPart_whole hgot hk hcan, hstall, hcan.1, hmod, Bool.not_true, Bool.false_eq_true, if_false]
  rw [addAccess_eq hsame hc]
  refine issueParts_none ?_
  rw [issuedFrom_movers, modMover_self]
  simp [toIssue]

/-- A mover that has begun its last element issues what is to be issued of it. -/
theorem moverPump_reissue (hs : SameForAccess b c) (hq : (c.movers[m]).curQueue = some q) (hrun : (c.movers[m]).phase = .running)
    (hop : descOpcode (c.movers[m]).desc ≠ 3) (hin : (c.movers[m]).inflight = [e]) (hiss : toIssue e = true) (hgot : e.got = [])
    (hk : e.k < 2 ^ 32) (hrep : (c.movers[m]).reportsDue = []) (hcount : descCount (c.movers[m]).desc ≤ (c.movers[m]).nextElem)
    (hc : canIssue m e.k (queueGet c q).domain (elemAccess (c.movers[m]).desc e) b) :
    moverPump m c = issuedFrom m e.k (queueGet c q).domain (elemAccess (c.movers[m]).desc e) b
      (modMover m (fun v => { v with stalled := false, inflight := [{ e with trk := some b.nextId }] }) c) := by
  have hself := modMover_self (c := c) m (fun v => { v with stalled := false })
  have hstart : SameForAccess b (modMover m (fun v => { v with stalled := false }) c) := hs.trans (.modMover rfl)
  have hparts := issueParts_one (n := 511) (domain := (queueGet c q).domain) hstart (by rw [hself]; exact hin) hiss hgot hk (by rw [hself])
    (by rw [hself]; exact hc)
  rw [hself, modMover_twice] at hparts
  rw [moverPump_running hq hrun, pumpDesc_begun (by rw [hself]; exact hop)]
  · exact (congrArg (modMover m _) hparts).trans (settle_issued (hs.trans (.modMover rfl)) hc)
  · refine (congrArg (fun x : Ctl => moreElems x.movers[m]) hparts).trans ?_
    simp only [issuedFrom_movers, modMover_self]
    exact moreElems_done hcount
  · refine (congrArg (fun x : Ctl => (x.movers[m]).reportsDue) hparts).trans ?_
    simp only [issuedFrom_movers, modMover_self]
    exact hrep

/-! ## A destination that waits for its elements (R165) -/

theorem elemSize_pos (w : BitVec 512) : 0 < elemSize w := Nat.two_pow_pos _

/-- Each unit of a run that is not streamed covers some bytes of the packed side. -/
theorem unitSpan_pos {start u : Nat} (hstream : descStream v.desc = false) (hu : u < unitCount v start) :
    (unitSpan v start u).1 < (unitSpan v start u).2 := by
  have hrun : start < runLimit v := by
    by_contra hle
    simp [unitCount, Nat.le_of_not_lt hle] at hu
  have hbytes : start * elemSize v.desc < runLimit v * elemSize v.desc := Nat.mul_lt_mul_of_pos_right hrun (elemSize_pos _)
  unfold unitCount at hu
  simp only [hstream, Nat.not_le.mpr hrun, Bool.false_eq_true, if_false] at hu
  unfold unitSpan
  simp only [hstream, Bool.false_eq_true, if_false, Nat.max_def, Nat.min_def]
  split_ifs <;> omega

/-- Some element overlaps a span of packed bytes that is not empty. -/
theorem spanElems_ne_nil {span : Nat × Nat} (h : span.1 < span.2) : spanElems v span ≠ [] := by
  have hpos := elemSize_pos v.desc
  have hdiv : span.1 / elemSize v.desc + 1 ≤ (span.2 + elemSize v.desc - 1) / elemSize v.desc := by
    rw [Nat.le_div_iff_mul_le hpos, Nat.add_mul]
    have := Nat.div_mul_le_self span.1 (elemSize v.desc)
    omega
  unfold spanElems
  simp only [ne_eq, List.map_eq_nil_iff, List.range_eq_nil]
  omega

/-- While no element has its result, no destination of a GATHER is written. -/
theorem pumpDest_waits (hstream : descStream (c.movers[m]).desc = false) (hres : (c.movers[m]).results = []) : pumpDest m q n c = c := by
  cases n with
  | zero => rfl
  | succ n =>
    unfold pumpDest
    dsimp only
    refine if_pos ?_
    by_cases hu : (c.movers[m]).streamSent < unitCount c.movers[m] (queueGet c q).resume
    · have hnone : spanReady c.movers[m] (unitSpan c.movers[m] (queueGet c q).resume (c.movers[m]).streamSent) = false := by
        obtain ⟨k, hk⟩ := List.exists_mem_of_ne_nil _ (spanElems_ne_nil (v := c.movers[m]) (unitSpan_pos hstream hu))
        refine List.all_eq_false.mpr ⟨k, hk, ?_⟩
        simp [-Fin.getElem_fin, resultOf, hres]
      simp [-Fin.getElem_fin, hnone]
    · simp [-Fin.getElem_fin, Nat.le_of_not_lt hu]

/-! ## The last element (R163) -/

/-- A mover stands before the last element of its descriptor, which is not streamed, with nothing begun and no stop asked for. -/
structure AtLastElem (v : Mover) : Prop where
  running : v.phase = .running
  stop : v.stop = none
  lost : v.streamLost = false
  stream : descStream v.desc = false
  last : descCount v.desc = v.nextElem + 1
  inflight : v.inflight = []
  results : v.results = []
  reports : v.reportsDue = []

theorem AtLastElem.mayIssue (h : AtLastElem c.movers[m]) (hstall : (c.movers[m]).stalled = false) : mayIssue c c.movers[m] = true := by
  unfold Machine.mayIssue moreElems
  simp [-Fin.getElem_fin, h.running, h.stop, h.lost, h.stream, h.last, h.inflight, hstall]

theorem AtLastElem.lt (h : AtLastElem v) : v.nextElem < 2 ^ 32 := by
  have hcount : descCount v.desc < 2 ^ 32 := Nat.mod_lt _ (Nat.two_pow_pos 32)
  have := h.last
  omega

/-- The element that a mover begins, when its access goes to an address. -/
abbrev begunElem (k id addr packed : Nat) (poison : Bool) : Elem := { k := k, trk := some id, addr := addr, packed := packed, packedPoison := poison }

/-- A mover that has begun its next element. -/
def beginElem (e : Elem) (v : Mover) : Mover := { v with inflight := [e], nextElem := v.nextElem + 1 }

theorem issueElems_last {addr packed : Nat} {poison : Bool} (hs : SameForAccess b c) (h : AtLastElem c.movers[m])
    (hstall : (c.movers[m]).stalled = false) (hgo : elemIssue c.movers[m] (c.movers[m]).nextElem = .go addr packed poison)
    (ha : elemAccess (c.movers[m]).desc (begunElem (c.movers[m]).nextElem b.nextId addr packed poison) = a)
    (hc : canIssue m (c.movers[m]).nextElem domain a b) :
    issueElems m domain (n + 1) c = issuedFrom m (c.movers[m]).nextElem domain a b
      (modMover m (beginElem (begunElem (c.movers[m]).nextElem b.nextId addr packed poison)) c) := by
  subst ha
  have hcan := hs.canIssue hc
  have hpart : nextPart c m (begunElem (c.movers[m]).nextElem b.nextId addr packed poison) =
      some (elemAccess (c.movers[m]).desc (begunElem (c.movers[m]).nextElem b.nextId addr packed poison)) := nextPart_whole rfl h.lt hcan
  have hplace : modMover m (fun v => { v with inflight := v.inflight ++ [begunElem (c.movers[m]).nextElem b.nextId addr packed poison]
                                              nextElem := v.nextElem + 1 }) c =
      modMover m (beginElem (begunElem (c.movers[m]).nextElem b.nextId addr packed poison)) c :=
    modMover_congr (by rw [h.inflight]; rfl)
  unfold issueElems
  simp only [h.mayIssue hstall, h.inflight, hgo, hs.nextId, List.any_nil, Bool.not_true, Bool.or_self, Bool.false_eq_true, if_false]
  rw [hpart]
  simp only [hcan.1, Bool.not_true, Bool.false_eq_true, if_false]
  rw [hplace, addAccess_eq (hs.trans (.modMover rfl)) hc]
  refine issueElems_done ?_
  rw [issuedFrom_movers, modMover_self]
  exact moreElems_done (Nat.le_of_eq h.last)

theorem pumpDesc_last {addr packed : Nat} {poison : Bool} (hs : SameForAccess b c) (h : AtLastElem c.movers[m])
    (hstall : (c.movers[m]).stalled = false) (hgo : elemIssue c.movers[m] (c.movers[m]).nextElem = .go addr packed poison)
    (ha : elemAccess (c.movers[m]).desc (begunElem (c.movers[m]).nextElem b.nextId addr packed poison) = a)
    (hc : canIssue m (c.movers[m]).nextElem (queueGet c q).domain a b) :
    pumpDesc m q c = issuedFrom m (c.movers[m]).nextElem (queueGet c q).domain a b
      (modMover m (beginElem (begunElem (c.movers[m]).nextElem b.nextId addr packed poison)) c) := by
  have hself := modMover_self (c := c) m (beginElem (begunElem (c.movers[m]).nextElem b.nextId addr packed poison))
  have hmore : moreElems (beginElem (begunElem (c.movers[m]).nextElem b.nextId addr packed poison) c.movers[m]) = false :=
    moreElems_done (Nat.le_of_eq h.last)
  rw [pumpDesc_unstreamed h.stream]
  dsimp only
  rw [issueParts_none (by rw [h.inflight]; rfl), issueElems_last hs h hstall hgo ha hc,
    readAhead_done (by rw [issuedFrom_movers, hself]; exact hmore), pumpReports_none (by rw [issuedFrom_movers, hself]; exact h.reports),
    pumpDest_waits (by rw [issuedFrom_movers, hself]; exact h.stream) (by rw [issuedFrom_movers, hself]; exact h.results), ite_self]

/-- The last element's access is issued, and the mover has begun it. -/
theorem moverPump_last {addr packed : Nat} {poison : Bool} (hs : SameForAccess b c) (hq : (c.movers[m]).curQueue = some q)
    (h : AtLastElem c.movers[m]) (hgo : elemIssue c.movers[m] (c.movers[m]).nextElem = .go addr packed poison)
    (ha : elemAccess (c.movers[m]).desc (begunElem (c.movers[m]).nextElem b.nextId addr packed poison) = a)
    (hc : canIssue m (c.movers[m]).nextElem (queueGet c q).domain a b) :
    moverPump m c = issuedFrom m (c.movers[m]).nextElem (queueGet c q).domain a b
      (modMover m (fun v => beginElem (begunElem v.nextElem b.nextId addr packed poison) { v with stalled := false }) c) := by
  have hself := modMover_self (c := c) m (fun v => { v with stalled := false })
  have hstart : SameForAccess b (modMover m (fun v => { v with stalled := false }) c) := hs.trans (.modMover rfl)
  have hpump := pumpDesc_last (q := q) (addr := addr) (packed := packed) (poison := poison) (a := a) hstart
    (by rw [hself]; exact ⟨h.running, h.stop, h.lost, h.stream, h.last, h.inflight, h.results, h.reports⟩) (by rw [hself])
    (by rw [hself]; exact hgo) (by rw [hself]; exact ha) (by rw [hself]; exact hc)
  rw [hself, modMover_twice] at hpump
  rw [moverPump_running hq h.running, hpump]
  exact settle_issued (hs.trans (.modMover rfl)) hc

/-! ## The blocks read ahead (R162, R181) -/

/-- Bytes within one granule are read with that granule, of the block that holds it. -/
theorem tableBlocks_one (f : Nat → Nat) {lo k : Nat} (strict : Bool) (hpos : 0 < k) (hone : lo % 32 + k ≤ 32) :
    tableBlocks f lo (lo + k) strict = [(f (lo / 256), { bulkAccess lo 1 strict with writeType := strict })] := by
  have hblocks : (lo + k + 255) / 256 - lo / 256 = 1 := by omega
  have hfirst : Nat.max (lo / 32) (8 * (lo / 256)) = lo / 32 := Nat.max_eq_left (by omega)
  have hcount : Nat.min ((lo + k + 31) / 32) (8 * (lo / 256) + 8) - lo / 32 = 1 := by
    show min _ _ - _ = _
    omega
  unfold tableBlocks bulkAccess
  simp [hblocks, hfirst, hcount]

/-- One wanted block is read, as far as it is neither here nor on its way. -/
def readBlock (m : Fin 16) (domain : Nat) (x : Nat × Access) (c : Ctl) : Ctl :=
  match blockRest c.movers[m] x with
  | some a => if (c.movers[m]).stalled || (accessOf c m x.1).isSome then c else tryAccess m x.1 domain a c
  | none => c

theorem readAhead_more (h : moreElems c.movers[m] = true) :
    readAhead m domain c = forEach (wantedBlocks (trimBlocks c.movers[m])) (readBlock m domain) (modMover m trimBlocks c) := by
  unfold readAhead
  rw [h, ← modMover_self m trimBlocks]
  rfl

theorem readBlock_issues {x : Nat × Access} (hs : SameForAccess b c) (hblocks : (c.movers[m]).blocks = []) (hstall : (c.movers[m]).stalled = false)
    (hnone : accessOf b m x.1 = none) (hc : canIssue m x.1 domain x.2 b) : readBlock m domain x c = issuedFrom m x.1 domain x.2 b c := by
  have hpos : 0 < x.2.count := hc.2.2.2.2.2.1
  have hfirst : (List.range x.2.count).find? (fun i => (blockGran c.movers[m] x.1 (x.2.addr + 32 * i)).isNone) = some 0 := by
    simp [-Fin.getElem_fin, List.find?_range_eq_some, hpos, blockGran, hblocks]
  have hrest : blockRest c.movers[m] x = some x.2 := by
    unfold blockRest
    rw [hfirst]
    rfl
  unfold readBlock tryAccess
  simp only [hrest, hstall, hs.accessOf, hnone, Option.isSome_none, Bool.or_self, Bool.false_eq_true, if_false, (hs.canIssue hc).1, if_true]
  exact addAccess_eq hs hc

/-! ## An element whose index has not come (R162) -/

theorem idxSize_cases (w : BitVec 512) : idxSize w = 8 ∨ idxSize w = 4 := by
  unfold idxSize
  split <;> simp

/-- With no block here, no bytes of the index table or the packed side are. -/
theorem heldBytes_none {f : Nat → Nat} {lo k : Nat} (hblocks : v.blocks = []) (hk : 0 < k) : heldBytes v f lo k = none := by
  have hgran : ∀ i, heldGran v f i = none := fun i => by simp [heldGran, blockGran, hblocks]
  have hmany : (lo % 32 + k + 31) / 32 ≠ 0 := by omega
  unfold heldBytes
  simp [hgran, hmany.symm]

theorem elemIssue_waits {k : Nat} (hindex : usesIndex v.desc = true) (hblocks : v.blocks = []) : elemIssue v k = .wait := by
  have hop : descOpcode v.desc ≠ 1 ∧ descOpcode v.desc ≠ 2 ∧ descOpcode v.desc ≠ 6 := by
    simp only [usesIndex, Bool.or_eq_true, decide_eq_true_eq] at hindex
    omega
  have hnone : indexedAddr v k = none := by
    unfold indexedAddr
    dsimp only
    rw [heldBytes_none hblocks (by rcases idxSize_cases v.desc with h | h <;> omega)]
    rfl
  unfold elemIssue
  simp [hop, hnone]

theorem issueElems_wait (h : elemIssue c.movers[m] (c.movers[m]).nextElem = .wait) : issueElems m domain n c = c := by
  cases n with
  | zero => rfl
  | succ n =>
    unfold issueElems
    simp only [h, ite_self]

/-- A mover before an element whose index has not come reads ahead. -/
theorem pumpDesc_waits (h : AtLastElem c.movers[m]) (hwait : elemIssue c.movers[m] (c.movers[m]).nextElem = .wait)
    (hkeep : (readAhead m (queueGet c q).domain c).movers[m] = trimBlocks c.movers[m]) :
    pumpDesc m q c = readAhead m (queueGet c q).domain c := by
  rw [pumpDesc_unstreamed h.stream]
  dsimp only
  rw [issueParts_none (by rw [h.inflight]; rfl), issueElems_wait hwait, h.reports]
  show (if _ then pumpDest m q _ (readAhead m (queueGet c q).domain c) else readAhead m (queueGet c q).domain c) = _
  rw [pumpDest_waits (by rw [hkeep]; exact h.stream) (by rw [hkeep]; exact h.results), ite_self]

theorem moverPump_waits (hq : (c.movers[m]).curQueue = some q) (h : AtLastElem c.movers[m])
    (hwait : elemIssue c.movers[m] (c.movers[m]).nextElem = .wait)
    (hread : forEach (wantedBlocks c.movers[m]) (readBlock m (queueGet c q).domain) (modMover m (fun v => trimBlocks { v with stalled := false }) c) =
      issuedFrom m elem (queueGet c q).domain a b d)
    (hs : SameForAccess b d) (hc : canIssue m elem (queueGet c q).domain a b)
    (hkeep : d.movers[m] = trimBlocks { c.movers[m] with stalled := false }) :
    moverPump m c = issuedFrom m elem (queueGet c q).domain a b d := by
  have hself := modMover_self (c := c) m (fun v => { v with stalled := false })
  have hlast : AtLastElem (modMover m (fun v => { v with stalled := false }) c).movers[m] := by
    rw [hself]
    exact ⟨h.running, h.stop, h.lost, h.stream, h.last, h.inflight, h.results, h.reports⟩
  have hmore : moreElems { c.movers[m] with stalled := false } = true := by
    simp [-Fin.getElem_fin, moreElems, h.running, h.stop, h.lost, h.last]
  have hahead : readAhead m (queueGet c q).domain (modMover m (fun v => { v with stalled := false }) c) =
      issuedFrom m elem (queueGet c q).domain a b d := by
    rw [readAhead_more (by rw [hself]; exact hmore), hself, modMover_twice]
    exact hread
  have hpump := pumpDesc_waits (q := q) hlast (by rw [hself]; exact hwait) (by rw [hself]; exact (congrArg (·.movers[m]) hahead).trans hkeep)
  rw [moverPump_running hq h.running, hpump]
  exact (congrArg (modMover m _) hahead).trans (settle_issued hs hc)

end Sys2Proof.Machine
end

section
/-! SUPPORT. A descriptor is taken up (R158, R160, R171): COPY, FILL, VERIFY, FENCE, NOTIFY, and an opcode that is not assigned. -/

namespace Sys2Proof.Machine

open Sys2Proof

variable {m : Fin 16} {elem q d : Nat} {a : Access} {c : Ctl} {s : State} {x : Trk} {w : BitVec 512} {want : Nat → Bool}

/-! ## A read of the loop has ended OK (R171) -/

theorem endedAccess_ok (h : accessOk m elem x s) : endedAccess s.ctl m elem = some x := by
  obtain ⟨hx, hdone, -⟩ := h
  unfold endedAccess
  rw [hx]
  exact Option.filter_some_pos (List.all_eq_true.mpr fun g hg => decide_eq_true (hdone g hg))

theorem runRead_ok {f : Nat → Nat → Ctl → Ctl} (h : accessOk m elem x s) (hstop : (s.ctl.movers[m]).stop = none) :
    runRead m q elem f s.ctl = f 0 (gransData x.grans) (dropAccess x.id s.ctl) := by
  obtain ⟨hx, hdone, hok⟩ := h
  have hall : (x.grans.all fun g => g.phase = .done) = true := List.all_eq_true.mpr fun g hg => decide_eq_true (hdone g hg)
  unfold runRead
  simp only [hx, hall, hstop, hok, Option.isSome_none, Bool.not_true, Bool.false_eq_true, if_false]

/-- A fetched descriptor that the command names starts. -/
theorem runDesc_fetched (h : fetched m q d x s) (hw : want (d % 256) = true) :
    runDesc m want s.ctl = beginDesc m q (BitVec.ofNat 512 d) (dropAccess x.id s.ctl) := by
  obtain ⟨⟨hq, hphase, hstop⟩, hok, hd⟩ := h
  have hstatus := hok.2.2
  unfold runDesc
  simp only [hq, hphase, endedAccess_ok hok, hstatus, hd, hw, runRead_ok hok hstop, ne_eq, not_true_eq_false, decide_false, Bool.not_true,
    Bool.or_self, Bool.false_eq_true, if_false]

/-! ## The start of a descriptor (R160) -/

theorem descOpcode_ofNat (d : Nat) : descOpcode (BitVec.ofNat 512 d) = d % 256 := by
  unfold descOpcode
  rw [BitVec.toNat_ofNat]
  exact Nat.mod_mod_of_dvd d (Nat.pow_dvd_pow 2 (by decide : 8 ≤ 512))

/-- What the start of a descriptor sets in its mover. -/
def startDesc (w : BitVec 512) (first : Nat) (v : Mover) : Mover :=
  { v with
    desc := w, phase := .running, nextElem := first, inflight := [], countA := 0, countB := 0, countC := 0, lowFail := none
    reports := 0, reportsDue := [], bulkFailed := false, denied := false, blocks := [], destRetries := 0, destWaits := false
    results := [], streamSent := 0, streamLost := false }

theorem takenDesc_eq : takenDesc m q d c =
    modMover m (fun v => { startDesc (BitVec.ofNat 512 d) (queueGet c q).resume v with stalled := false, allocSince := none }) c := rfl

theorem beginDesc_valid (hst : descStatus c (queueGet c q).domain w = 0) (hstream : descStream w = false) :
    beginDesc m q w c = moverPump m (modMover m (startDesc w (queueGet c q).resume) c) := by
  unfold beginDesc
  simp only [hst, hstream, ne_eq, not_true_eq_false, if_false, Bool.false_and, Bool.false_eq_true]
  rfl

theorem descFieldsOk_of_status {domain : Nat} (h : descStatus c domain w = 0) : descFieldsOk w = true := by
  by_contra hbad
  unfold descStatus at h
  rw [Bool.not_eq_true] at hbad
  rw [hbad] at h
  exact absurd h (by simp)

/-- FENCE and NOTIFY have no elements (R158). -/
theorem descCount_none {domain : Nat} (h : descStatus c domain w = 0) (hop : descOpcode w = 7 ∨ descOpcode w = 8) : descCount w = 0 := by
  have hfields := descFieldsOk_of_status h
  unfold descFieldsOk at hfields
  rcases hop with hop | hop <;> simpa [hop] using hfields

/-! ## A valid descriptor runs (R158, R160) -/

theorem runDesc_runs (hf : fetched m q d x s) (hw : want (d % 256) = true) (hecc : (s.ctl.movers[m]).entryEcc = 0)
    (hst : descStatus (dropAccess x.id s.ctl) (queueGet s.ctl q).domain (BitVec.ofNat 512 d) = 0) (hop : d % 256 ≠ 3) :
    runs m q d s { s with ctl := runDesc m want s.ctl } := by
  have ⟨⟨hq, _, _⟩, _⟩ := hf
  have hop3 : descOpcode (BitVec.ofNat 512 d) ≠ 3 := by rwa [descOpcode_ofNat]
  have hself := modMover_self (c := dropAccess x.id s.ctl) m (startDesc (BitVec.ofNat 512 d) (queueGet s.ctl q).resume)
  have hstays := moverPump_stays (m := m) (c := modMover m (startDesc (BitVec.ofNat 512 d) (queueGet s.ctl q).resume) (dropAccess x.id s.ctl))
    (by rw [hself]; exact hecc) (fun _ => by rw [hself]; exact hop3)
  have hctl : runDesc m want s.ctl =
      moverPump m (modMover m (startDesc (BitVec.ofNat 512 d) (queueGet s.ctl q).resume) (dropAccess x.id s.ctl)) :=
    (runDesc_fetched hf hw).trans (beginDesc_valid hst (descStream_of_opcode hop3))
  rw [hctl]
  refine ⟨hstays.desc.trans ?_, hstays.phase.trans ?_, hstays.curQueue.trans ?_, onlyLogic_ctl s _⟩ <;> rw [hself]
  · rfl
  · rfl
  · exact hq

/-- A descriptor without elements issues nothing. -/
theorem runDesc_empty (hf : fetched m q d x s) (hw : want (d % 256) = true)
    (hst : descStatus (dropAccess x.id s.ctl) (queueGet s.ctl q).domain (BitVec.ofNat 512 d) = 0) (hop : d % 256 = 7 ∨ d % 256 = 8) :
    runDesc m want s.ctl = takenDesc m q d (dropAccess x.id s.ctl) := by
  have ⟨⟨hq, _, _⟩, _⟩ := hf
  have hopcode := descOpcode_ofNat d
  have hop3 : descOpcode (BitVec.ofNat 512 d) ≠ 3 := by omega
  have hself := modMover_self (c := dropAccess x.id s.ctl) m (startDesc (BitVec.ofNat 512 d) (queueGet (dropAccess x.id s.ctl) q).resume)
  have hcount : descCount (BitVec.ofNat 512 d) = 0 := descCount_none hst (by rwa [hopcode])
  rw [runDesc_fetched hf hw, beginDesc_valid hst (descStream_of_opcode hop3), moverPump_idle (q := q) (by rw [hself]; exact hq)
    (by rw [hself]; rfl) (by rw [hself]; exact hop3) (by rw [hself]; rfl) (by rw [hself]; rfl)
    (by rw [hself]; exact (Nat.le_of_eq hcount).trans (Nat.zero_le _)), modMover_twice]
  rfl

/-! ## The access of a single element (R158, R163) -/

/-- A descriptor of one element, from its first, stands before its last element. -/
theorem startDesc_last (hstream : descStream w = false) (hcount : descCount w = 1) {v : Mover} (hstop : v.stop = none) :
    AtLastElem (startDesc w 0 v) :=
  ⟨rfl, hstop, rfl, hstream, hcount, rfl, rfl, rfl⟩

/-- A descriptor of one element whose address is at hand issues that element's access. -/
theorem runDesc_one {addr packed : Nat} {poison : Bool} (hf : fetched m q d x s) (hw : want (d % 256) = true)
    (hst : descStatus (dropAccess x.id s.ctl) (queueGet s.ctl q).domain (BitVec.ofNat 512 d) = 0)
    (hcount : descCount (BitVec.ofNat 512 d) = 1) (hresume : (queueGet s.ctl q).resume = 0) (hop : d % 256 ≠ 3)
    (hgo : elemIssue (startDesc (BitVec.ofNat 512 d) 0 s.ctl.movers[m]) 0 = .go addr packed poison)
    (ha : elemAccess (BitVec.ofNat 512 d) (begunElem 0 s.ctl.nextId addr packed poison) = a)
    (hc : canIssue m 0 (queueGet s.ctl q).domain a (dropAccess x.id s.ctl)) :
    runDesc m want s.ctl = issuedFrom m 0 (queueGet s.ctl q).domain a (dropAccess x.id s.ctl)
      (modMover m (fun v => beginElem (begunElem 0 s.ctl.nextId addr packed poison)
        { startDesc (BitVec.ofNat 512 d) 0 v with stalled := false }) (dropAccess x.id s.ctl)) := by
  have ⟨⟨hq, _, hstop⟩, _⟩ := hf
  have hstream : descStream (BitVec.ofNat 512 d) = false := descStream_of_opcode (by rwa [descOpcode_ofNat])
  have hself := modMover_self (c := dropAccess x.id s.ctl) m (startDesc (BitVec.ofNat 512 d) 0)
  have hbegin := beginDesc_valid (m := m) (q := q) (c := dropAccess x.id s.ctl) hst hstream
  rw [show (queueGet (dropAccess x.id s.ctl) q).resume = 0 from hresume] at hbegin
  rw [runDesc_fetched hf hw, hbegin, moverPump_last (q := q) (b := dropAccess x.id s.ctl) (a := a) (addr := addr) (packed := packed)
    (poison := poison) (.modMover rfl) (by rw [hself]; exact hq) (by rw [hself]; exact startDesc_last hstream hcount hstop)
    (by rw [hself]; exact hgo) (by rw [hself]; exact ha) (by rw [hself]; exact hc), modMover_twice, hself]
  rfl

/-- COPY, FILL and VERIFY take their elements in order from ADDR_A (R158). -/
theorem elemIssue_direct {v : Mover} {k : Nat} (hop : descOpcode v.desc = 1 ∨ descOpcode v.desc = 2 ∨ descOpcode v.desc = 6) :
    elemIssue v k = .go (descA v.desc + 32 * k) 0 false := by
  unfold elemIssue
  rcases hop with hop | hop | hop <;> simp [hop]

theorem runDesc_issuesFirst (hf : fetched m q d x s) (hw : want (d % 256) = true)
    (hst : descStatus (dropAccess x.id s.ctl) (queueGet s.ctl q).domain (BitVec.ofNat 512 d) = 0)
    (hcount : descCount (BitVec.ofNat 512 d) = 1) (hresume : (queueGet s.ctl q).resume = 0) (hop : d % 256 = 1 ∨ d % 256 = 2 ∨ d % 256 = 6)
    (haddr : a.addr = descA (BitVec.ofNat 512 d))
    (ha : elemAccess (BitVec.ofNat 512 d) (begunElem 0 s.ctl.nextId (descA (BitVec.ofNat 512 d)) 0 false) = a)
    (hc : canIssue m 0 (queueGet s.ctl q).domain a (dropAccess x.id s.ctl)) :
    issuesFirst m q d a (dropAccess x.id s.ctl) s { s with ctl := runDesc m want s.ctl } := by
  have ⟨⟨hq, _, _⟩, _⟩ := hf
  have hgo : elemIssue (startDesc (BitVec.ofNat 512 d) 0 s.ctl.movers[m]) 0 = .go (descA (BitVec.ofNat 512 d)) 0 false :=
    elemIssue_direct (by show descOpcode (BitVec.ofNat 512 d) = 1 ∨ descOpcode (BitVec.ofNat 512 d) = 2 ∨ descOpcode (BitVec.ofNat 512 d) = 6
                         rwa [descOpcode_ofNat])
  have hctl := runDesc_one hf hw hst hcount hresume (by omega) hgo ha hc
  have hmover : (runDesc m want s.ctl).movers[m] = beginElem (begunElem 0 s.ctl.nextId (descA (BitVec.ofNat 512 d)) 0 false)
      { startDesc (BitVec.ofNat 512 d) 0 s.ctl.movers[m] with stalled := false } := by
    rw [hctl, issuedFrom_movers, modMover_self]
    rfl
  refine ⟨⟨?_, ?_, ?_, onlyLogic_ctl s _⟩, ⟨accessEntry m 0 (queueGet s.ctl q).domain a (dropAccess x.id s.ctl), ?_, accessEntry_isAccess⟩, ?_, ?_⟩
  · exact congrArg Mover.desc hmover
  · exact congrArg Mover.phase hmover
  · exact (congrArg Mover.curQueue hmover).trans hq
  · exact congrArg Ctl.trk hctl
  · exact congrArg Mover.nextElem hmover
  · rw [haddr]
    exact congrArg Mover.inflight hmover

/-! ## An access of the loop that can be issued (R171) -/

theorem issueRun_issues {b : Ctl} (hs : SameForAccess b c) (hrun : runAccess c.movers[m] (queueGet c q) = some (elem, a))
    (hstop : (c.movers[m]).stop = none) (hnone : accessOf b m elem = none) (hc : canIssue m elem (queueGet c q).domain a b) :
    issueRun m q c = issuedFrom m elem (queueGet c q).domain a b c := by
  unfold issueRun tryAccess
  simp only [hrun, hstop, hs.accessOf, hnone, (hs.canIssue hc).1, Option.isSome_none, Bool.false_and, Bool.or_self, Bool.false_eq_true,
    if_false, if_true]
  exact addAccess_eq hs hc

theorem moverPump_issuesRun {b : Ctl} (hs : SameForAccess b c) (hq : (c.movers[m]).curQueue = some q) (hloop : (c.movers[m]).phase ≠ .running)
    (hrun : runAccess c.movers[m] (queueGet c q) = some (elem, a)) (hstop : (c.movers[m]).stop = none) (hnone : accessOf b m elem = none)
    (hc : canIssue m elem (queueGet c q).domain a b) :
    moverPump m c = issuedFrom m elem (queueGet c q).domain a b (modMover m (fun v => { v with stalled := false }) c) := by
  have hself := modMover_self (c := c) m (fun v => { v with stalled := false })
  have hstart : SameForAccess b (modMover m (fun v => { v with stalled := false }) c) := hs.trans (.modMover rfl)
  have hissue := issueRun_issues (q := q) (elem := elem) (a := a) hstart (by rw [hself]; exact hrun) (by rw [hself]; exact hstop) hnone hc
  rw [moverPump_loop hq hloop]
  exact (congrArg (modMover m _) hissue).trans (settle_issued hstart hc)

/-! ## An opcode that is not assigned (R160, R175) -/

theorem descStatus_unassigned {domain : Nat} (hop : descOpcode w = 0 ∨ 8 < descOpcode w) : descStatus c domain w = 7 := by
  have hfields : descFieldsOk w = false := by
    have hnot : ∀ k, 1 ≤ k → k ≤ 8 → descOpcode w ≠ k := fun k _ _ => by omega
    unfold descFieldsOk
    simp [hnot]
  unfold descStatus
  rw [hfields]
  rfl

/-- A descriptor that ends with a cause of its own goes to its record. -/
theorem finishDesc_record {cause status : Nat} (hq : (c.movers[m]).curQueue = some q) (hcause : cause ≠ 0) :
    finishDesc m cause status c = moverPump m (modMover m (fun v => { v with phase := .record cause status, blocks := [] }) c) := by
  unfold finishDesc
  simp only [hq]
  exact if_pos (by simp [hcause])

/-- Its mover goes to the record, with UNSUPPORTED. -/
theorem beginDesc_unassigned (hq : (c.movers[m]).curQueue = some q) (hop : descOpcode w = 0 ∨ 8 < descOpcode w) :
    beginDesc m q w c = moverPump m (modMover m (fun v => { startDesc w (queueGet c q).resume v with phase := .record 1 7 }) c) := by
  have hself := modMover_self (c := c) m (startDesc w (queueGet c q).resume)
  have hfinish := finishDesc_record (m := m) (q := q) (cause := 1) (status := 7) (c := modMover m (startDesc w (queueGet c q).resume) c)
    (by rw [hself]; exact hq) (by decide)
  rw [modMover_twice] at hfinish
  unfold beginDesc
  simp only [descStatus_unassigned hop]
  exact hfinish

theorem runDesc_unassigned (hf : fetched m q d x s) (hw : want (d % 256) = true) (hop : d % 256 = 0 ∨ 8 < d % 256)
    (hnone : accessOf (dropAccess x.id s.ctl) m recordElem = none)
    (hrun : runAccess { (takenDesc m q d (dropAccess x.id s.ctl)).movers[m] with phase := .record 1 7 } (queueGet s.ctl q) = some (recordElem, a))
    (hc : canIssue m recordElem (queueGet s.ctl q).domain a (dropAccess x.id s.ctl)) :
    runDesc m want s.ctl = issuedFrom m recordElem (queueGet s.ctl q).domain a (dropAccess x.id s.ctl) (modMover m (fun v =>
      { startDesc (BitVec.ofNat 512 d) (queueGet s.ctl q).resume v with phase := .record 1 7, stalled := false }) (dropAccess x.id s.ctl)) := by
  have ⟨⟨hq, _, hstop⟩, _⟩ := hf
  have hself := modMover_self (c := dropAccess x.id s.ctl) m
    (fun v => { startDesc (BitVec.ofNat 512 d) (queueGet (dropAccess x.id s.ctl) q).resume v with phase := .record 1 7 })
  rw [takenDesc_eq, modMover_self] at hrun
  rw [runDesc_fetched hf hw, beginDesc_unassigned (c := dropAccess x.id s.ctl) hq (by rwa [descOpcode_ofNat]), moverPump_issuesRun (q := q) (b := dropAccess x.id s.ctl)
    (elem := recordElem) (a := a) (.modMover rfl) (by rw [hself]; exact hq) (by rw [hself]; simp) (by rw [hself]; exact hrun)
    (by rw [hself]; exact hstop) hnone hc, modMover_twice]
  rfl

theorem unassignedDescriptorOpcode_effect (hf : fetched m q d x s) (hop : d % 256 = 0 ∨ 8 < d % 256)
    (hnone : accessOf (dropAccess x.id s.ctl) m recordElem = none)
    (hrun : runAccess { (takenDesc m q d (dropAccess x.id s.ctl)).movers[m] with phase := .record 1 7 } (queueGet s.ctl q) = some (recordElem, a))
    (hc : canIssue m recordElem (queueGet s.ctl q).domain a (dropAccess x.id s.ctl)) :
    ∃ t, exec (.unassignedDescriptorOpcode m) s = .next t ∧ (t.ctl.movers[m]).phase = .record 1 7 ∧
      (t.ctl.movers[m]).desc = BitVec.ofNat 512 d ∧ (t.ctl.movers[m]).curQueue = some q ∧
      issues m recordElem (queueGet s.ctl q).domain a (dropAccess x.id s.ctl) t ∧ onlyLogic s t := by
  have ⟨⟨hq, _, _⟩, _⟩ := hf
  refine ⟨{ s with ctl := runDesc m (fun op => op = 0 || 8 < op) s.ctl }, rfl, ?_⟩
  simp only [runDesc_unassigned hf (want := fun op => op = 0 || 8 < op) (by simpa using hop) hop hnone hrun hc, issuedFrom_movers, modMover_self]
  exact ⟨trivial, rfl, hq, ⟨_, rfl, accessEntry_isAccess⟩, onlyLogic_ctl s _⟩

/-! ## The obligation -/

theorem takenDesc_runs (hf : fetched m q d x s) :
    runs m q d s { s with ctl := takenDesc m q d (dropAccess x.id s.ctl) } := by
  have ⟨⟨hq, _, _⟩, _⟩ := hf
  unfold runs
  simp only [takenDesc_eq, modMover_self]
  exact ⟨rfl, rfl, hq, onlyLogic_ctl s _⟩

/-- Settles O40, clause by clause: descriptors that run, the access of a single element, and an opcode that is not assigned. -/
theorem moverDescriptors : Obligations.MoverDescriptors := by
  refine ⟨fun m q d x s hf hecc hst => ⟨fun h => ?copy, fun h => ?fill, fun h => ?verify, fun h => ?fence, fun h => ?notify⟩,
    fun m q d x a s hf hst hcount hresume hc => ⟨fun h ha => ?copyOne, fun h ha => ?fillOne, fun h ha => ?verifyOne⟩,
    fun m q d x a s => unassignedDescriptorOpcode_effect⟩
  case copy => exact ⟨_, rfl, runDesc_runs hf (decide_eq_true h) hecc hst (by omega)⟩
  case fill => exact ⟨_, rfl, runDesc_runs hf (decide_eq_true h) hecc hst (by omega)⟩
  case verify => exact ⟨_, rfl, runDesc_runs hf (decide_eq_true h) hecc hst (by omega)⟩
  case fence =>
    have hctl := runDesc_empty hf (want := fun op => op = 7) (decide_eq_true h) hst (.inl h)
    refine ⟨{ s with ctl := runDesc m (fun op => op = 7) s.ctl }, rfl, ?_⟩
    rw [hctl]
    exact ⟨takenDesc_runs hf, rfl⟩
  case notify =>
    have hctl := runDesc_empty hf (want := fun op => op = 8) (decide_eq_true h) hst (.inr h)
    refine ⟨{ s with ctl := runDesc m (fun op => op = 8) s.ctl }, rfl, ?_⟩
    rw [hctl]
    exact ⟨takenDesc_runs hf, rfl⟩
  case copyOne =>
    refine ⟨_, rfl, runDesc_issuesFirst hf (decide_eq_true h) hst hcount hresume (by omega) (by rw [ha]) ?_ hc⟩
    rw [ha]
    unfold elemAccess elemGrans
    simp [descOpcode_ofNat, h]
  case fillOne =>
    refine ⟨_, rfl, runDesc_issuesFirst hf (decide_eq_true h) hst hcount hresume (by omega) (by rw [ha]) ?_ hc⟩
    have htwice : descOperand (BitVec.ofNat 512 d) * (2 ^ 128 + 1) =
        descOperand (BitVec.ofNat 512 d) + 2 ^ 128 * descOperand (BitVec.ofNat 512 d) := by ring
    rw [ha, htwice]
    unfold elemAccess
    simp [descOpcode_ofNat, h]
  case verifyOne =>
    refine ⟨_, rfl, runDesc_issuesFirst hf (decide_eq_true h) hst hcount hresume (by omega) (by rw [ha]) ?_ hc⟩
    rw [ha]
    unfold elemAccess
    simp [descOpcode_ofNat, h]

end Sys2Proof.Machine
end

section
/-! SUPPORT. Indexed descriptors (R157, R162, R163, R165, R181): their first reads, and an element whose index has come. -/

namespace Sys2Proof.Machine

open Sys2Proof

variable {m : Fin 16} {elem q d : Nat} {a : Access} {b c : Ctl} {s : State} {x : Trk} {w : BitVec 512} {want : Nat → Bool} {v : Mover}

/-! ## The address of an element (R162, R165) -/

section
variable {k i : Nat} (h : heldBytes v indexElem (descA v.desc + k * idxSize v.desc) (idxSize v.desc) = some (0, i))
include h

theorem indexedAddr_held : indexedAddr v k = some (
    if 2 ^ 37 ≤ descB v.desc + i * 2 ^ scaleLog v.desc then .error 3
    else if (descB v.desc + i * 2 ^ scaleLog v.desc) % elemSize v.desc ≠ 0 then .error 7
    else .ok (descB v.desc + i * 2 ^ scaleLog v.desc)) := by
  unfold indexedAddr
  dsimp only
  rw [h]
  rfl

theorem indexedAddr_ok (hlt : descB v.desc + i * 2 ^ scaleLog v.desc < 2 ^ 37)
    (hal : (descB v.desc + i * 2 ^ scaleLog v.desc) % elemSize v.desc = 0) :
    indexedAddr v k = some (.ok (descB v.desc + i * 2 ^ scaleLog v.desc)) := by
  rw [indexedAddr_held h, if_neg (Nat.not_le.mpr hlt), if_neg (not_not.mpr hal)]

theorem indexedAddr_beyond (hle : 2 ^ 37 ≤ descB v.desc + i * 2 ^ scaleLog v.desc) : indexedAddr v k = some (.error 3) := by
  rw [indexedAddr_held h, if_pos hle]

theorem indexedAddr_unaligned (hlt : descB v.desc + i * 2 ^ scaleLog v.desc < 2 ^ 37)
    (hal : (descB v.desc + i * 2 ^ scaleLog v.desc) % elemSize v.desc ≠ 0) : indexedAddr v k = some (.error 7) := by
  rw [indexedAddr_held h, if_neg (Nat.not_le.mpr hlt), if_pos hal]

end

/-! ## The blocks that a single element needs (R162, R181) -/

/-- ADDR_A of an indexed descriptor is aligned to an index, so that no index crosses a granule (R160). -/
theorem index_in_granule {domain : Nat} (hst : descStatus c domain w = 0) (hindex : usesIndex w = true) :
    descA w % 32 + idxSize w ≤ 32 := by
  have hfields := descFieldsOk_of_status hst
  have hop : descOpcode w = 3 ∨ descOpcode w = 4 ∨ descOpcode w = 5 := by simpa [usesIndex, or_assoc] using hindex
  have hal : descA w % idxSize w = 0 := by
    unfold descFieldsOk at hfields
    rcases hop with hop | hop | hop <;> simp [hop] at hfields <;> tauto
  rcases idxSize_cases w with h | h <;> rw [h] at hal ⊢ <;> omega

/-- The block of the index table that a single element needs. -/
theorem indexBlocks_one (hnext : v.nextElem = 0) (hcount : descCount v.desc = 1) (hone : descA v.desc % 32 + idxSize v.desc ≤ 32) :
    tableBlocks indexElem (descA v.desc + v.nextElem * idxSize v.desc)
      (descA v.desc + Nat.min (descCount v.desc) (v.nextElem + 512) * idxSize v.desc) false =
      [(indexElem (descA v.desc / 256), bulkAccess (descA v.desc) 1 false)] := by
  have hpos : 0 < idxSize v.desc := by rcases idxSize_cases v.desc with h | h <;> omega
  rw [hnext, hcount, show Nat.min 1 (0 + 512) = 1 from rfl, Nat.zero_mul, Nat.one_mul, Nat.add_zero, tableBlocks_one _ _ hpos hone]
  rfl

/-- The block of the packed side that a single element needs. -/
theorem packedBlocks_one (hnext : v.nextElem = 0) (hcount : descCount v.desc = 1) (hone : descC v.desc % 32 + elemSize v.desc ≤ 32) :
    tableBlocks packedElem (descC v.desc + v.nextElem * elemSize v.desc)
      (descC v.desc + Nat.min (descCount v.desc) (v.nextElem + Nat.max 1 (256 / elemSize v.desc)) * elemSize v.desc) true =
      [(packedElem (descC v.desc / 256), { bulkAccess (descC v.desc) 1 true with writeType := true })] := by
  have hmin : Nat.min 1 (0 + Nat.max 1 (256 / elemSize v.desc)) = 1 :=
    Nat.min_eq_left ((Nat.le_max_left 1 _).trans (Nat.le_of_eq (Nat.zero_add _).symm))
  rw [hnext, hcount, hmin, Nat.zero_mul, Nat.one_mul, Nat.add_zero, tableBlocks_one _ _ (elemSize_pos _) hone]

theorem wantedBlocks_index (hindex : usesIndex v.desc = true) (hpacked : usesPacked v.desc = false) (hnext : v.nextElem = 0)
    (hcount : descCount v.desc = 1) (hone : descA v.desc % 32 + idxSize v.desc ≤ 32) :
    wantedBlocks v = [(indexElem (descA v.desc / 256), bulkAccess (descA v.desc) 1 false)] := by
  unfold wantedBlocks
  dsimp only
  rw [indexBlocks_one hnext hcount hone, hindex, hpacked]
  rfl

theorem wantedBlocks_both (hindex : usesIndex v.desc = true) (hpacked : usesPacked v.desc = true) (hnext : v.nextElem = 0)
    (hcount : descCount v.desc = 1) (hone : descA v.desc % 32 + idxSize v.desc ≤ 32) (hone' : descC v.desc % 32 + elemSize v.desc ≤ 32) :
    wantedBlocks v = [(packedElem (descC v.desc / 256), { bulkAccess (descC v.desc) 1 true with writeType := true }),
      (indexElem (descA v.desc / 256), bulkAccess (descA v.desc) 1 false)] := by
  unfold wantedBlocks
  dsimp only
  rw [indexBlocks_one hnext hcount hone, packedBlocks_one hnext hcount hone', hindex, hpacked]
  rfl

/-! ## The first reads of a descriptor of one element (R162, R171, R181) -/

/-- What a mover that has started an indexed descriptor of one element is, while it waits for the index. -/
def waitsForIndex (w : BitVec 512) (v : Mover) : Mover := trimBlocks { startDesc w 0 v with stalled := false }

/-- A mover that starts an indexed descriptor of one element reads the blocks that it wants. -/
theorem beginDesc_waits (hq : (c.movers[m]).curQueue = some q) (hstop : (c.movers[m]).stop = none)
    (hst : descStatus c (queueGet c q).domain w = 0) (hstream : descStream w = false) (hcount : descCount w = 1)
    (hresume : (queueGet c q).resume = 0) (hindex : usesIndex w = true) {e : Ctl}
    (hread : forEach (wantedBlocks (startDesc w 0 c.movers[m])) (readBlock m (queueGet c q).domain) (modMover m (waitsForIndex w) c) =
      issuedFrom m elem (queueGet c q).domain a b e)
    (hs : SameForAccess b e) (hc : canIssue m elem (queueGet c q).domain a b) (hkeep : e.movers[m] = waitsForIndex w c.movers[m]) :
    beginDesc m q w c = issuedFrom m elem (queueGet c q).domain a b e := by
  have hself := modMover_self (c := c) m (startDesc w 0)
  rw [beginDesc_valid hst hstream, hresume]
  refine moverPump_waits (q := q) (c := modMover m (startDesc w 0) c) (by rw [hself]; exact hq)
    (by rw [hself]; exact startDesc_last hstream hcount hstop) (by rw [hself]; exact elemIssue_waits hindex rfl) ?_ hs hc
    (by rw [hself]; exact hkeep)
  rw [hself, modMover_twice]
  exact hread

/-- A block is read while its mover waits for the index of its first element. -/
theorem readBlock_waiting {y : Nat × Access} {domain : Nat} (hnone : accessOf c m y.1 = none) (hc : canIssue m y.1 domain y.2 c) :
    readBlock m domain y (modMover m (waitsForIndex w) c) = issuedFrom m y.1 domain y.2 c (modMover m (waitsForIndex w) c) := by
  have hself := modMover_self (c := c) m (waitsForIndex w)
  exact readBlock_issues (.modMover rfl) (by rw [hself]; rfl) (by rw [hself]; rfl) hnone hc

/-- A descriptor that reads no packed side reads the granule of its index. -/
theorem beginDesc_readsIndex (hq : (c.movers[m]).curQueue = some q) (hstop : (c.movers[m]).stop = none)
    (hst : descStatus c (queueGet c q).domain w = 0) (hstream : descStream w = false) (hcount : descCount w = 1)
    (hresume : (queueGet c q).resume = 0) (hindex : usesIndex w = true) (hpacked : usesPacked w = false)
    (hnone : accessOf c m (indexElem (descA w / 256)) = none)
    (hc : canIssue m (indexElem (descA w / 256)) (queueGet c q).domain (bulkAccess (descA w) 1 false) c) :
    beginDesc m q w c = issuedFrom m (indexElem (descA w / 256)) (queueGet c q).domain (bulkAccess (descA w) 1 false) c
      (modMover m (waitsForIndex w) c) := by
  refine beginDesc_waits hq hstop hst hstream hcount hresume hindex ?_ (.modMover rfl) hc (modMover_self m _)
  rw [wantedBlocks_index (v := startDesc w 0 c.movers[m]) hindex hpacked rfl hcount (index_in_granule hst hindex)]
  exact readBlock_waiting (y := (indexElem (descA w / 256), bulkAccess (descA w) 1 false)) hnone hc

/-- An access of another element is found as before. -/
theorem accessOf_issuedFrom {k domain : Nat} (h : elem ≠ k) : accessOf (issuedFrom m elem domain a b c) m k = accessOf b m k := by
  have hsrc : ¬ (accessEntry m elem domain a b).src = .mover m k := fun e => h (by injection e)
  show (b.trk ++ [accessEntry m elem domain a b]).find? _ = b.trk.find? _
  rw [List.find?_append, List.find?_cons_of_neg (by simpa using hsrc), List.find?_nil, Option.or_none]

/-- The block numbers of the packed side are above those of the index table. -/
theorem packedElem_ne_indexElem : packedElem (descC w / 256) ≠ indexElem (descA w / 256) := by
  have hA : descA w < 2 ^ 37 := Nat.mod_lt _ (Nat.two_pow_pos 37)
  unfold packedElem indexElem
  omega

/-- A descriptor that reads a packed side reads the granule of its packed bytes, then that of its index. -/
theorem beginDesc_readsBoth (hq : (c.movers[m]).curQueue = some q) (hstop : (c.movers[m]).stop = none)
    (hst : descStatus c (queueGet c q).domain w = 0) (hstream : descStream w = false) (hcount : descCount w = 1)
    (hresume : (queueGet c q).resume = 0) (hindex : usesIndex w = true) (hpacked : usesPacked w = true)
    (hone : descC w % 32 + elemSize w ≤ 32) (hnoneP : accessOf c m (packedElem (descC w / 256)) = none)
    (hnoneI : accessOf c m (indexElem (descA w / 256)) = none)
    (hcP : canIssue m (packedElem (descC w / 256)) (queueGet c q).domain { bulkAccess (descC w) 1 true with writeType := true } c)
    (hcI : canIssue m (indexElem (descA w / 256)) (queueGet c q).domain (bulkAccess (descA w) 1 false)
      (addAccess m (packedElem (descC w / 256)) (queueGet c q).domain { bulkAccess (descC w) 1 true with writeType := true } c)) :
    beginDesc m q w c = issuedFrom m (indexElem (descA w / 256)) (queueGet c q).domain (bulkAccess (descA w) 1 false)
      (addAccess m (packedElem (descC w / 256)) (queueGet c q).domain { bulkAccess (descC w) 1 true with writeType := true } c)
      (issuedFrom m (packedElem (descC w / 256)) (queueGet c q).domain { bulkAccess (descC w) 1 true with writeType := true } c
        (modMover m (waitsForIndex w) c)) := by
  have hadd := addAccess_canIssue hcP
  have hself := modMover_self (c := c) m (waitsForIndex w)
  rw [hadd] at hcI ⊢
  have hsame : SameForAccess (issuedFrom m (packedElem (descC w / 256)) (queueGet c q).domain
      { bulkAccess (descC w) 1 true with writeType := true } c c)
      (issuedFrom m (packedElem (descC w / 256)) (queueGet c q).domain { bulkAccess (descC w) 1 true with writeType := true } c
        (modMover m (waitsForIndex w) c)) := SameForAccess.issuedFrom (.modMover rfl)
  refine beginDesc_waits hq hstop hst hstream hcount hresume hindex ?_ hsame hcI hself
  rw [wantedBlocks_both (v := startDesc w 0 c.movers[m]) hindex hpacked rfl hcount (index_in_granule hst hindex) hone]
  show readBlock m _ (indexElem (descA w / 256), bulkAccess (descA w) 1 false)
    (readBlock m _ (packedElem (descC w / 256), { bulkAccess (descC w) 1 true with writeType := true }) _) = _
  rw [readBlock_waiting (y := (packedElem (descC w / 256), { bulkAccess (descC w) 1 true with writeType := true })) hnoneP hcP]
  exact readBlock_issues hsame (by rw [issuedFrom_movers, hself]; rfl) (by rw [issuedFrom_movers, hself]; rfl)
    ((accessOf_issuedFrom packedElem_ne_indexElem).trans hnoneI) hcI

/-- What a mover that reads for its first index shows. -/
theorem runDesc_waiting {domain : Nat} {e : Ctl} (hf : fetched m q d x s) (hctl : runDesc m want s.ctl = issuedFrom m elem domain a b e)
    (hkeep : e.movers[m] = waitsForIndex (BitVec.ofNat 512 d) s.ctl.movers[m]) :
    runs m q d s { s with ctl := runDesc m want s.ctl } ∧ ((runDesc m want s.ctl).movers[m]).nextElem = 0 ∧
      issues m elem domain a b { s with ctl := runDesc m want s.ctl } := by
  have ⟨⟨hq, _, _⟩, _⟩ := hf
  have hmover : (runDesc m want s.ctl).movers[m] = waitsForIndex (BitVec.ofNat 512 d) s.ctl.movers[m] := by
    rw [hctl, issuedFrom_movers, hkeep]
  refine ⟨⟨?_, ?_, ?_, onlyLogic_ctl s _⟩, ?_, ⟨_, congrArg Ctl.trk hctl, accessEntry_isAccess⟩⟩
  · exact congrArg Mover.desc hmover
  · exact congrArg Mover.phase hmover
  · exact (congrArg Mover.curQueue hmover).trans hq
  · exact congrArg Mover.nextElem hmover

theorem runDesc_readsIndex (hf : fetched m q d x s) (hw : want (d % 256) = true)
    (hst : descStatus (dropAccess x.id s.ctl) (queueGet s.ctl q).domain (BitVec.ofNat 512 d) = 0)
    (hcount : descCount (BitVec.ofNat 512 d) = 1) (hresume : (queueGet s.ctl q).resume = 0) (hstream : descStream (BitVec.ofNat 512 d) = false)
    (hindex : usesIndex (BitVec.ofNat 512 d) = true) (hpacked : usesPacked (BitVec.ofNat 512 d) = false)
    (hnone : accessOf (dropAccess x.id s.ctl) m (indexElem (descA (BitVec.ofNat 512 d) / 256)) = none)
    (ha : a = bulkAccess (descA (BitVec.ofNat 512 d)) 1 false)
    (hc : canIssue m (indexElem (descA (BitVec.ofNat 512 d) / 256)) (queueGet s.ctl q).domain a (dropAccess x.id s.ctl)) :
    runs m q d s { s with ctl := runDesc m want s.ctl } ∧ ((runDesc m want s.ctl).movers[m]).nextElem = 0 ∧
      issues m (indexElem (descA (BitVec.ofNat 512 d) / 256)) (queueGet s.ctl q).domain a (dropAccess x.id s.ctl)
        { s with ctl := runDesc m want s.ctl } := by
  have ⟨⟨hq, _, hstop⟩, _⟩ := hf
  subst ha
  exact runDesc_waiting hf ((runDesc_fetched hf hw).trans
    (beginDesc_readsIndex hq hstop hst hstream hcount hresume hindex hpacked hnone hc)) (modMover_self m _)

theorem runDesc_readsBoth {a' : Access} (hf : fetched m q d x s) (hw : want (d % 256) = true)
    (hst : descStatus (dropAccess x.id s.ctl) (queueGet s.ctl q).domain (BitVec.ofNat 512 d) = 0)
    (hcount : descCount (BitVec.ofNat 512 d) = 1) (hresume : (queueGet s.ctl q).resume = 0) (hstream : descStream (BitVec.ofNat 512 d) = false)
    (hindex : usesIndex (BitVec.ofNat 512 d) = true) (hpacked : usesPacked (BitVec.ofNat 512 d) = true)
    (hone : descC (BitVec.ofNat 512 d) % 32 + elemSize (BitVec.ofNat 512 d) ≤ 32)
    (hnoneP : accessOf (dropAccess x.id s.ctl) m (packedElem (descC (BitVec.ofNat 512 d) / 256)) = none)
    (hnoneI : accessOf (dropAccess x.id s.ctl) m (indexElem (descA (BitVec.ofNat 512 d) / 256)) = none)
    (ha : a = { bulkAccess (descC (BitVec.ofNat 512 d)) 1 true with writeType := true })
    (ha' : a' = bulkAccess (descA (BitVec.ofNat 512 d)) 1 false)
    (hcP : canIssue m (packedElem (descC (BitVec.ofNat 512 d) / 256)) (queueGet s.ctl q).domain a (dropAccess x.id s.ctl))
    (hcI : canIssue m (indexElem (descA (BitVec.ofNat 512 d) / 256)) (queueGet s.ctl q).domain a'
      (addAccess m (packedElem (descC (BitVec.ofNat 512 d) / 256)) (queueGet s.ctl q).domain a (dropAccess x.id s.ctl))) :
    runs m q d s { s with ctl := runDesc m want s.ctl } ∧ ((runDesc m want s.ctl).movers[m]).nextElem = 0 ∧
      issues m (indexElem (descA (BitVec.ofNat 512 d) / 256)) (queueGet s.ctl q).domain a'
        (addAccess m (packedElem (descC (BitVec.ofNat 512 d) / 256)) (queueGet s.ctl q).domain a (dropAccess x.id s.ctl))
        { s with ctl := runDesc m want s.ctl } := by
  have ⟨⟨hq, _, hstop⟩, _⟩ := hf
  subst ha ha'
  exact runDesc_waiting hf ((runDesc_fetched hf hw).trans
    (beginDesc_readsBoth hq hstop hst hstream hcount hresume hindex hpacked hone hnoneP hnoneI hcP hcI)) (modMover_self m _)

/-! ## An element whose index has come (R162, R163) -/

/-- A block of the index table joins those that have reached the mover. -/
theorem elementResult_block {k : Nat} (hm : movesIn m q .running s) (hok : accessOk m (indexElem k) x s) :
    elementResult m (indexElem k) 0 s.ctl =
      moverPump m (modMover m (fun v => { v with blocks := v.blocks ++ [(indexElem k, x.grans)] }) (dropAccess x.id s.ctl)) := by
  obtain ⟨hq, hphase, -⟩ := hm
  have hbulk : ¬ indexElem k < 2 ^ 32 ∧ ¬ indexElem k < 2 ^ 33 ∧ ¬ indexElem k < 2 ^ 34 ∧ ¬ indexElem k < indexElem 0 := by
    unfold indexElem
    omega
  obtain ⟨h32, h33, h34, h35⟩ := hbulk
  unfold elementResult accessBack
  simp only [hq, hphase, endedAccess_ok hok, h32, h33, h34, h35, if_true, if_false, ne_eq, not_true_eq_false, decide_false, Bool.and_false,
    Bool.or_self, Bool.false_eq_true]

theorem elementResult_indexCome {k addr packed : Nat} {poison : Bool} (hm : movesIn m q .running s) (hok : accessOk m (indexElem k) x s)
    (hv : v = { s.ctl.movers[m] with blocks := (s.ctl.movers[m]).blocks ++ [(indexElem k, x.grans)] })
    (hstream : descStream v.desc = false) (hin : v.inflight = []) (hres : v.results = []) (hrep : v.reportsDue = []) (hlost : v.streamLost = false)
    (hcount : descCount v.desc = v.nextElem + 1) (hgo : elemIssue v v.nextElem = .go addr packed poison)
    (ha : a = elemAccess v.desc { k := v.nextElem, addr := addr, packed := packed, packedPoison := poison })
    (hc : canIssue m v.nextElem (queueGet s.ctl q).domain a (dropAccess x.id s.ctl)) :
    ∃ t, exec (.elementResult m ⟨indexElem k, 0⟩) s = .next t ∧
      issues m v.nextElem (queueGet s.ctl q).domain a (dropAccess x.id s.ctl) t ∧
      (t.ctl.movers[m]).inflight = [{ k := v.nextElem, trk := some s.ctl.nextId, addr := addr, packed := packed, packedPoison := poison }] ∧
      (t.ctl.movers[m]).nextElem = v.nextElem + 1 ∧ (t.ctl.movers[m]).curQueue = some q ∧ t.ctl.queues = s.ctl.queues ∧ onlyLogic s t := by
  have ⟨hq, hphase, hstop⟩ := hm
  have hself : (modMover m (fun v => { v with blocks := v.blocks ++ [(indexElem k, x.grans)] }) (dropAccess x.id s.ctl)).movers[m] = v :=
    (modMover_self m _).trans hv.symm
  have hlast : AtLastElem v := by
    subst hv
    exact ⟨hphase, hstop, hlost, hstream, hcount, hin, hres, hrep⟩
  have hqueue : v.curQueue = some q := by rw [hv]; exact hq
  have hpump := moverPump_last (q := q) (b := dropAccess x.id s.ctl) (a := a) (addr := addr) (packed := packed) (poison := poison)
    (c := modMover m (fun v => { v with blocks := v.blocks ++ [(indexElem k, x.grans)] }) (dropAccess x.id s.ctl))
    (.modMover rfl) (by rw [hself]; exact hqueue) (by rw [hself]; exact hlast) (by rw [hself]; exact hgo)
    (by rw [hself]; exact ha.symm) (by rw [hself]; exact hc)
  have hctl := (elementResult_block hm hok).trans hpump
  have hmover : (elementResult m (indexElem k) 0 s.ctl).movers[m] =
      beginElem (begunElem v.nextElem s.ctl.nextId addr packed poison) { v with stalled := false } := by
    rw [hctl, issuedFrom_movers, modMover_self, hself]
    rfl
  refine ⟨{ s with ctl := elementResult m (indexElem k) 0 s.ctl }, rfl, ⟨accessEntry m v.nextElem (queueGet s.ctl q).domain a (dropAccess x.id s.ctl), ?_,
    accessEntry_isAccess⟩, ?_, ?_, ?_, ?_, onlyLogic_ctl s _⟩
  · rw [← hself]
    exact congrArg Ctl.trk hctl
  · exact congrArg Mover.inflight hmover
  · exact congrArg Mover.nextElem hmover
  · exact (congrArg Mover.curQueue hmover).trans hqueue
  · show (elementResult m (indexElem k) 0 s.ctl).queues = s.ctl.queues
    rw [hctl]
    rfl

/-! ## The obligation -/

/-- Settles O41, clause by clause: what reads its index alone, what reads its packed bytes too, an element whose index has come, and the
element's address. -/
theorem moverIndexed : Obligations.MoverIndexed := by
  refine ⟨fun m q d x a s hf hst hcount hresume hstream hnone ha hc => ⟨fun h => ?gather, fun h hu => ?uniform⟩,
    fun m q d x a b s hf hst hcount hresume hone hnoneP hnoneI ha hb hcP hcI i hi => ?packed,
    fun m q k addr packed poison x v a s hm _ hok hv _ hstream hin hres hrep _ hlost _ hcount hgo ha hc =>
      elementResult_indexCome hm hok hv hstream hin hres hrep hlost hcount hgo ha hc,
    fun v k i h => ⟨indexedAddr_ok h, indexedAddr_beyond h, indexedAddr_unaligned h⟩⟩
  case gather =>
    exact ⟨_, rfl, runDesc_readsIndex hf (decide_eq_true h) hst hcount hresume hstream (by simp [usesIndex, descOpcode_ofNat, h])
      (by simp [usesPacked, descOpcode_ofNat, h]) hnone ha hc⟩
  case uniform =>
    exact ⟨_, rfl, runDesc_readsIndex hf (decide_eq_true h) hst hcount hresume hstream (by simp [usesIndex, descOpcode_ofNat, h])
      (by simp [usesPacked, descOpcode_ofNat, h, hu]) hnone ha hc⟩
  case packed =>
    rcases hi with ⟨rfl, h⟩ | ⟨rfl, h, hu⟩
    · exact ⟨_, rfl, runDesc_readsBoth hf (decide_eq_true h) hst hcount hresume
        (descStream_of_opcode (by rw [descOpcode_ofNat]; omega)) (by simp [usesIndex, descOpcode_ofNat, h])
        (by simp [usesPacked, descOpcode_ofNat, h]) hone hnoneP hnoneI ha hb hcP hcI⟩
    · exact ⟨_, rfl, runDesc_readsBoth hf (decide_eq_true h) hst hcount hresume
        (descStream_of_opcode (by rw [descOpcode_ofNat]; omega)) (by simp [usesIndex, descOpcode_ofNat, h])
        (by simp [usesPacked, descOpcode_ofNat, h, hu]) hone hnoneP hnoneI ha hb hcP hcI⟩

end Sys2Proof.Machine
end

section
/-! SUPPORT. Elements of a running descriptor (R164), its end (R171, R176), and the record that is written (R175). -/

namespace Sys2Proof.Machine

open Sys2Proof

variable {m : Fin 16} {elem q : Nat} {a : Access} {c d : Ctl} {s : State} {x : Trk} {g : Gran} {e : Elem} {y : Queue} {w : BitVec 512}

/-! ## An element's access has ended (R164) -/

/-- The result of the only element in flight is judged. -/
theorem elementResult_elem (hq : (s.ctl.movers[m]).curQueue = some q) (hrun : (s.ctl.movers[m]).phase = .running) (hk : e.k < 2 ^ 32)
    (hin : (s.ctl.movers[m]).inflight = [e]) (hok : accessOk m e.k x s) :
    elementResult m e.k 0 s.ctl = moverPump m (elemBack m e x.grans (dropAccess x.id s.ctl)) := by
  have hloop : ¬ recordElem ≤ e.k := by
    unfold recordElem
    omega
  have hinflight : ((dropAccess x.id s.ctl).movers[m]).inflight = [e] := hin
  unfold elementResult accessBack
  simp only [hq, hrun, endedAccess_ok hok, hk, hloop, hinflight, if_true, if_false, ne_eq, not_true_eq_false, decide_false, Bool.false_and,
    Bool.or_self, Bool.false_eq_true, List.find?_cons_of_pos (p := fun y : Elem => decide (y.k = e.k)) (decide_eq_true rfl)]

/-- The granule of an element of one granule that ended OK is the whole of it. -/
theorem elemBack_fill (hin : (c.movers[m]).inflight = [e]) (hgot : e.got = []) (hpoison : e.packedPoison = false)
    (hop : descOpcode (c.movers[m]).desc = 2) (hok : statusOfGrans [g] = 0) (hkind : g.kind ≠ 3) :
    elemBack m e [g] c = modMover m (fun v => { v with countA := v.countA + 1 })
      (bumpBy (mIdx m 2) 0 (modMover m (fun v => { v with inflight := [] }) c)) := by
  have hdrop : dropElem m e.k c = modMover m (fun v => { v with inflight := [] }) c := modMover_congr (by rw [hin]; simp)
  unfold elemBack elemDone countElem elemAccess triedAgain
  simp [-Fin.getElem_fin, hgot, hpoison, hop, hok, hkind, hdrop]

theorem elementResult_fill (hq : (s.ctl.movers[m]).curQueue = some q) (hrun : (s.ctl.movers[m]).phase = .running) (hk : e.k < 2 ^ 32)
    (hin : (s.ctl.movers[m]).inflight = [e]) (hgot : e.got = []) (hpoison : e.packedPoison = false) (hrep : (s.ctl.movers[m]).reportsDue = [])
    (hop : descOpcode (s.ctl.movers[m]).desc = 2) (hcount : descCount (s.ctl.movers[m]).desc ≤ (s.ctl.movers[m]).nextElem)
    (hok : accessOk m e.k x s) (hgrans : x.grans = [g]) (hkind : g.kind ≠ 3) :
    ∃ t, exec (.elementResult m ⟨e.k, 0⟩) s = .next t ∧ (t.ctl.movers[m]).countA = (s.ctl.movers[m]).countA + 1 ∧
      (t.ctl.movers[m]).countB = (s.ctl.movers[m]).countB ∧ (t.ctl.movers[m]).inflight = [] ∧
      t.ctl.trk = s.ctl.trk.filter (fun y => y.id ≠ x.id) ∧ t.ctl.queues = s.ctl.queues ∧ onlyLogic s t := by
  have hstatus : statusOfGrans [g] = 0 := hgrans ▸ hok.2.2
  have hback := elemBack_fill (m := m) (c := dropAccess x.id s.ctl) hin hgot hpoison hop hstatus hkind
  have hmover : (elemBack m e [g] (dropAccess x.id s.ctl)).movers[m] =
      { s.ctl.movers[m] with inflight := [], countA := (s.ctl.movers[m]).countA + 1 } := by
    rw [hback, modMover_self, bumpBy_movers, modMover_self]
    rfl
  have hctl : elementResult m e.k 0 s.ctl =
      modMover m (fun v => { v with stalled := false, allocSince := none }) (elemBack m e [g] (dropAccess x.id s.ctl)) := by
    have hop3 : descOpcode (s.ctl.movers[m]).desc ≠ 3 := by omega
    rw [elementResult_elem hq hrun hk hin hok, hgrans]
    exact moverPump_idle (by rw [hmover]; exact hq) (by rw [hmover]; exact hrun) (by rw [hmover]; exact hop3)
      (by rw [hmover]; rfl) (by rw [hmover]; exact hrep) (by rw [hmover]; exact hcount)
  have hafter : (elementResult m e.k 0 s.ctl).movers[m] =
      { s.ctl.movers[m] with inflight := [], countA := (s.ctl.movers[m]).countA + 1, stalled := false, allocSince := none } := by
    rw [hctl, modMover_self, hmover]
  refine ⟨{ s with ctl := elementResult m e.k 0 s.ctl }, rfl, congrArg Mover.countA hafter,
    (congrArg Mover.countB hafter).trans rfl, congrArg Mover.inflight hafter, ?_, ?_, onlyLogic_ctl s _⟩
  · show (elementResult m e.k 0 s.ctl).trk = _
    rw [hctl, modMover_trk, hback, modMover_trk, bumpBy_trk]
    rfl
  · show (elementResult m e.k 0 s.ctl).queues = _
    rw [hctl, modMover_queues, hback, modMover_queues, bumpBy_queues]
    rfl

/-- What a COPY element has read goes to its destination (R165). -/
def copiedElem (g : Gran) (e : Elem) : Elem := { e with trk := none, writing := true, packed := gransData [g], packedPoison := false }

theorem elemBack_copyRead (hin : (c.movers[m]).inflight = [e]) (hgot : e.got = []) (hwriting : e.writing = false)
    (hop : descOpcode (c.movers[m]).desc = 1) (hok : statusOfGrans [g] = 0) :
    elemBack m e [g] c = modMover m (fun v => { v with inflight := [copiedElem g e] }) c := by
  have hput := modElem_only (m := m) hin fun _ => copiedElem g e
  rw [← hput]
  unfold elemBack elemAccess elemGrans triedAgain copiedElem
  simp [-Fin.getElem_fin, hgot, hwriting, hop, hok]

theorem elemAccess_copied (hop : descOpcode w = 1) : elemAccess w (copiedElem g e) =
    { op := .write, opcode := 0x18, addr := descB w + 32 * e.k, count := 1, data := gransData [g] } := by
  unfold elemAccess
  simp only [hop, copiedElem]
  rfl

theorem elementResult_copyRead (hq : (s.ctl.movers[m]).curQueue = some q) (hrun : (s.ctl.movers[m]).phase = .running) (hk : e.k < 2 ^ 32)
    (hin : (s.ctl.movers[m]).inflight = [e]) (hgot : e.got = []) (hended : e.ended = none) (hwaiting : e.waiting = false)
    (hwriting : e.writing = false) (hrep : (s.ctl.movers[m]).reportsDue = []) (hop : descOpcode (s.ctl.movers[m]).desc = 1)
    (hcount : descCount (s.ctl.movers[m]).desc ≤ (s.ctl.movers[m]).nextElem) (hok : accessOk m e.k x s) (hgrans : x.grans = [g])
    (ha : a = { op := .write, opcode := 0x18, addr := descB (s.ctl.movers[m]).desc + 32 * e.k, count := 1, data := gransData [g] })
    (hc : canIssue m e.k (queueGet s.ctl q).domain a (dropAccess x.id s.ctl)) :
    ∃ t, exec (.elementResult m ⟨e.k, 0⟩) s = .next t ∧ issues m e.k (queueGet s.ctl q).domain a (dropAccess x.id s.ctl) t ∧
      (t.ctl.movers[m]).inflight = [{ e with trk := some s.ctl.nextId, writing := true, packed := gransData [g], packedPoison := false }] ∧
      (t.ctl.movers[m]).countA = (s.ctl.movers[m]).countA ∧ t.ctl.queues = s.ctl.queues ∧ onlyLogic s t := by
  have hstatus : statusOfGrans [g] = 0 := hgrans ▸ hok.2.2
  have hop3 : descOpcode (s.ctl.movers[m]).desc ≠ 3 := by omega
  have hself := modMover_self (c := dropAccess x.id s.ctl) m (fun v => { v with inflight := [copiedElem g e] })
  have haccess : elemAccess (s.ctl.movers[m]).desc (copiedElem g e) = a := (elemAccess_copied hop).trans ha.symm
  have hpump := moverPump_reissue (q := q) (e := copiedElem g e) (b := dropAccess x.id s.ctl)
    (c := modMover m (fun v => { v with inflight := [copiedElem g e] }) (dropAccess x.id s.ctl)) (.modMover rfl)
    (by rw [hself]; exact hq) (by rw [hself]; exact hrun) (by rw [hself]; exact hop3) (by rw [hself])
    (by simp [toIssue, copiedElem, hended, hwaiting]) hgot hk (by rw [hself]; exact hrep) (by rw [hself]; exact hcount)
    (by rw [hself]; exact haccess.symm ▸ hc)
  have hctl := (elementResult_elem hq hrun hk hin hok).trans
    ((congrArg (moverPump m) (hgrans ▸ elemBack_copyRead (c := dropAccess x.id s.ctl) hin hgot hwriting hop hstatus)).trans hpump)
  rw [modMover_twice] at hctl
  have hmover : (elementResult m e.k 0 s.ctl).movers[m] =
      { s.ctl.movers[m] with inflight := [{ copiedElem g e with trk := some s.ctl.nextId }], stalled := false } := by
    rw [hctl, issuedFrom_movers, modMover_self]
    rfl
  refine ⟨{ s with ctl := elementResult m e.k 0 s.ctl }, rfl, ⟨accessEntry m e.k (queueGet s.ctl q).domain a (dropAccess x.id s.ctl), ?_,
    accessEntry_isAccess⟩, congrArg Mover.inflight hmover, (congrArg Mover.countA hmover).trans rfl, ?_, onlyLogic_ctl s _⟩
  · rw [← haccess]
    refine (congrArg Ctl.trk hctl).trans ?_
    rw [hself]
    rfl
  · show (elementResult m e.k 0 s.ctl).queues = _
    rw [hctl]
    rfl

/-! ## An access that got RETRY_LATER (R164) -/

/-- An element whose access is to be issued again. -/
def retriedElem (e : Elem) : Elem := { e with waiting := false, retries := e.retries + 1 }

theorem elementRetry_elem (hq : (s.ctl.movers[m]).curQueue = some q) (hstop : (s.ctl.movers[m]).stop = none)
    (hin : (s.ctl.movers[m]).inflight = [e]) (hwaiting : e.waiting = true) :
    elementRetry m e.k s.ctl = moverPump m (modMover m (fun v => { v with inflight := [retriedElem e] }) s.ctl) := by
  have hput := modElem_only (m := m) hin retriedElem
  have hfind : [e].find? (fun y => y.k = e.k && y.waiting) = some e := by simp [hwaiting]
  rw [← hput]
  unfold elementRetry
  simp only [hq, hstop, hin, hfind, Option.isSome_none, Bool.false_eq_true, if_false]
  rfl

theorem elementRetry_issues (hm : movesIn m q .running s) (hin : (s.ctl.movers[m]).inflight = [e]) (hk : e.k < 2 ^ 32)
    (hwaiting : e.waiting = true) (htrk : e.trk = none) (hended : e.ended = none) (hgot : e.got = [])
    (hrep : (s.ctl.movers[m]).reportsDue = []) (hop : descOpcode (s.ctl.movers[m]).desc ≠ 3)
    (hcount : descCount (s.ctl.movers[m]).desc ≤ (s.ctl.movers[m]).nextElem) (ha : a = elemAccess (s.ctl.movers[m]).desc e)
    (hc : canIssue m e.k (queueGet s.ctl q).domain a s.ctl) :
    ∃ t, exec (.elementRetry m e.k) s = .next t ∧ issues m e.k (queueGet s.ctl q).domain a s.ctl t ∧
      (t.ctl.movers[m]).inflight = [{ e with trk := some s.ctl.nextId, waiting := false, retries := e.retries + 1 }] ∧
      t.ctl.queues = s.ctl.queues ∧ onlyLogic s t := by
  subst ha
  obtain ⟨hq, hrun, hstop⟩ := hm
  have hself := modMover_self (c := s.ctl) m (fun v => { v with inflight := [retriedElem e] })
  have hpump := moverPump_reissue (q := q) (e := retriedElem e) (b := s.ctl)
    (c := modMover m (fun v => { v with inflight := [retriedElem e] }) s.ctl) (.modMover rfl)
    (by rw [hself]; exact hq) (by rw [hself]; exact hrun) (by rw [hself]; exact hop) (by rw [hself])
    (by simp [toIssue, retriedElem, hended, htrk]) hgot hk (by rw [hself]; exact hrep) (by rw [hself]; exact hcount)
    (by rw [hself]; exact hc)
  have hctl := (elementRetry_elem hq hstop hin hwaiting).trans hpump
  rw [modMover_twice] at hctl
  have hmover : (elementRetry m e.k s.ctl).movers[m] =
      { s.ctl.movers[m] with inflight := [{ retriedElem e with trk := some s.ctl.nextId }], stalled := false } := by
    rw [hctl, issuedFrom_movers, modMover_self]
  refine ⟨{ s with ctl := elementRetry m e.k s.ctl }, rfl, ⟨accessEntry m e.k (queueGet s.ctl q).domain (elemAccess (s.ctl.movers[m]).desc e) s.ctl, ?_,
    accessEntry_isAccess⟩, congrArg Mover.inflight hmover, ?_, onlyLogic_ctl s _⟩
  · refine (congrArg Ctl.trk hctl).trans ?_
    rw [hself]
    rfl
  · show (elementRetry m e.k s.ctl).queues = _
    rw [hctl]
    rfl

/-! ## The loop goes on (R171) -/

theorem nextPhase_not_running : nextPhase y ≠ .running := by
  unfold nextPhase
  split_ifs <;> simp

/-- A mover that goes on keeps its queue and takes the next phase; its queue has the context that it is given. -/
theorem loopOn_effect (hq : (c.movers[m]).curQueue = some q) (hecc : (c.movers[m]).entryEcc = 0) (hstop : (c.movers[m]).stop = none)
    (hstate : y.state ≠ 0) :
    queueGet (loopOn m q y c) q = y ∧ ((loopOn m q y c).movers[m]).curQueue = some q ∧ ((loopOn m q y c).movers[m]).phase = nextPhase y := by
  have hself := modMover_self (c := c) m (fun v => { v with phase := nextPhase y, denied := false })
  have hmover : (queuePut q y (modMover m (fun v => { v with phase := nextPhase y, denied := false }) c)).movers[m] =
      { c.movers[m] with phase := nextPhase y, denied := false } := hself
  have hstays := moverPump_stays (m := m) (c := queuePut q y (modMover m (fun v => { v with phase := nextPhase y, denied := false }) c))
    (by rw [hmover]; exact hecc) (fun hrun => by rw [hmover] at hrun; exact absurd hrun nextPhase_not_running)
  have hloop : loopOn m q y c = moverPump m (queuePut q y (modMover m (fun v => { v with phase := nextPhase y, denied := false }) c)) := by
    unfold loopOn
    dsimp only
    rw [hmover]
    simp only [hstop, Option.isSome_none, Bool.false_eq_true, if_false]
  rw [hloop]
  refine ⟨(queueGet_congr hstays.queues q).trans (queueGet_queuePut hstate), hstays.curQueue.trans ?_, hstays.phase.trans ?_⟩ <;> rw [hmover]
  exact hq

/-! ## The end of a descriptor, and its record (R171, R175, R176) -/

/-- What a queue is after a descriptor of the word `w` (R171). -/
def doneQueue (w : BitVec 512) (y : Queue) : Queue :=
  if descEnd w then { y with headDone := true, descCompleted := (y.descCompleted + 1) % 2 ^ 32 }
  else { y with descCompleted := (y.descCompleted + 1) % 2 ^ 32, head := descNext w, headDone := false, resume := 0 }

theorem doneQueue_state (w : BitVec 512) (y : Queue) : (doneQueue w y).state = y.state := by
  unfold doneQueue
  split_ifs <;> rfl

theorem descDone_effect (hq : (c.movers[m]).curQueue = some q) (hecc : (c.movers[m]).entryEcc = 0) (hstop : (c.movers[m]).stop = none)
    (hyield : descYield (c.movers[m]).desc = false) (hstate : (queueGet c q).state ≠ 0) :
    queueGet (descDone m q c) q = doneQueue (c.movers[m]).desc (queueGet c q) ∧ ((descDone m q c).movers[m]).curQueue = some q ∧
      ((descDone m q c).movers[m]).phase = nextPhase (doneQueue (c.movers[m]).desc (queueGet c q)) := by
  have hgo : descDone m q c = loopOn m q (doneQueue (c.movers[m]).desc (queueGet c q)) (bump (mIdx m 3) c) := by
    unfold descDone doneQueue
    simp only [hyield, Bool.false_and, Bool.false_eq_true, if_false]
  rw [hgo]
  exact loopOn_effect (by rwa [bump_movers]) (by rwa [bump_movers]) (by rwa [bump_movers]) (by rwa [doneQueue_state])

/-- A descriptor that ends without a cause, with nothing failed and no record asked for, is done. -/
theorem finishDesc_done (hq : (c.movers[m]).curQueue = some q) (hcomplete : descComplete (c.movers[m]).desc = false)
    (hcountB : (c.movers[m]).countB = 0) (hlow : (c.movers[m]).lowFail = none) (hbulk : (c.movers[m]).bulkFailed = false) (status : Nat) :
    finishDesc m 0 status c = descDone m q c := by
  unfold finishDesc
  simp [-Fin.getElem_fin, hq, hcomplete, hcountB, hlow, hbulk]

/-- With no shadow write of its queue due, none of its descriptor is. -/
theorem shadowsDone_only (h : shadowsDone c q false = true) : shadowsDone c q true = true := by
  unfold shadowsDone at h ⊢
  simp only [List.all_eq_true] at h ⊢
  intro v hv p hp
  have := h v hv p hp
  split <;> simp_all

/-- What a FENCE's mover issues in its last turn is nothing: it has no element, and all its accesses have returned. -/
theorem moverPump_fence (hq : (c.movers[m]).curQueue = some q) (hrun : (c.movers[m]).phase = .running)
    (hop : descOpcode (c.movers[m]).desc = 7) (hcount : descCount (c.movers[m]).desc = 0) (hback : accessesBack c m c.movers[m] = true) :
    moverPump m c = modMover m (fun v => { v with stalled := false, allocSince := none }) c := by
  unfold accessesBack at hback
  simp only [Bool.and_eq_true, List.isEmpty_iff] at hback
  obtain ⟨⟨⟨hin, hrep⟩, -⟩, -⟩ := hback
  exact moverPump_idle hq hrun (by omega) (by rw [hin]; rfl) hrep (by omega)

/-- A FENCE whose accesses have returned, and whose queue has no shadow write due, ends. -/
theorem descriptorEnd_fence (hrun : (c.movers[m]).phase = .running) (hpump : moverPump m c = d) (hq : (d.movers[m]).curQueue = some q)
    (hrun' : (d.movers[m]).phase = .running) (hstop : (d.movers[m]).stop = none) (hop : descOpcode (d.movers[m]).desc = 7)
    (hcount : descCount (d.movers[m]).desc = 0) (hback : accessesBack d m d.movers[m] = true) (hshadows : shadowsDone d q false = true)
    (hlost : (d.movers[m]).streamLost = false) : descriptorEnd m c = finishDesc m 0 (recordStatus d.movers[m]) d := by
  have hstream : descStream (d.movers[m]).desc = false := descStream_of_opcode (by omega)
  unfold descriptorEnd
  simp [-Fin.getElem_fin, hrun, hpump, hq, hrun', hback, hstop, hop, hcount, hlost, hstream, hshadows, shadowsDone_only hshadows]

theorem descriptorEnd_effect (hm : movesIn m q .running s) (hop : descOpcode (s.ctl.movers[m]).desc = 7)
    (hcount : descCount (s.ctl.movers[m]).desc = 0) (hback : accessesBack s.ctl m s.ctl.movers[m] = true)
    (hshadows : shadowsDone s.ctl q false = true) (hcountB : (s.ctl.movers[m]).countB = 0) (hlow : (s.ctl.movers[m]).lowFail = none)
    (hbulk : (s.ctl.movers[m]).bulkFailed = false) (hlost : (s.ctl.movers[m]).streamLost = false) (hecc : (s.ctl.movers[m]).entryEcc = 0)
    (hcomplete : descComplete (s.ctl.movers[m]).desc = false) (hend : descEnd (s.ctl.movers[m]).desc = false)
    (hyield : descYield (s.ctl.movers[m]).desc = false) (hstate : (queueGet s.ctl q).state = 2) :
    ∃ t, exec (.descriptorEnd m) s = .next t ∧
      queueGet t.ctl q = { queueGet s.ctl q with
        head := descNext (s.ctl.movers[m]).desc, headDone := false, resume := 0, descCompleted := ((queueGet s.ctl q).descCompleted + 1) % 2 ^ 32 } ∧
      (t.ctl.movers[m]).curQueue = some q ∧ (t.ctl.movers[m]).phase = (if (queueGet s.ctl q).slotFree then .fetch else .slot) ∧ onlyLogic s t := by
  obtain ⟨hq, hrun, hstop⟩ := hm
  have hself := modMover_self (c := s.ctl) m (fun v => { v with stalled := false, allocSince := none })
  have hctl : descriptorEnd m s.ctl = descDone m q (modMover m (fun v => { v with stalled := false, allocSince := none }) s.ctl) := by
    rw [descriptorEnd_fence (q := q) hrun (moverPump_fence hq hrun hop hcount hback) (by rw [hself]; exact hq) (by rw [hself]; exact hrun)
      (by rw [hself]; exact hstop) (by rw [hself]; exact hop) (by rw [hself]; exact hcount) (by rw [hself]; exact hback) hshadows
      (by rw [hself]; exact hlost)]
    exact finishDesc_done (by rw [hself]; exact hq) (by rw [hself]; exact hcomplete) (by rw [hself]; exact hcountB)
      (by rw [hself]; exact hlow) (by rw [hself]; exact hbulk) _
  obtain ⟨hqueue, hcur, hphase⟩ := descDone_effect (m := m) (q := q)
    (c := modMover m (fun v => { v with stalled := false, allocSince := none }) s.ctl) (by rw [hself]; exact hq) (by rw [hself]; exact hecc)
    (by rw [hself]; exact hstop) (by rw [hself]; exact hyield) (by show (queueGet s.ctl q).state ≠ 0; omega)
  have hdone : doneQueue (s.ctl.movers[m]).desc (queueGet s.ctl q) = { queueGet s.ctl q with
      head := descNext (s.ctl.movers[m]).desc, headDone := false, resume := 0, descCompleted := ((queueGet s.ctl q).descCompleted + 1) % 2 ^ 32 } := by
    unfold doneQueue
    simp only [hend, Bool.false_eq_true, if_false]
  refine ⟨{ s with ctl := descriptorEnd m s.ctl }, rfl, ?_, ?_, ?_, onlyLogic_ctl s _⟩
  · exact (congrArg (queueGet · q) hctl).trans (hqueue.trans ((congrArg (fun v : Mover => doneQueue v.desc _) hself).trans hdone))
  · exact (congrArg (fun x : Ctl => (x.movers[m]).curQueue) hctl).trans hcur
  · refine (congrArg (fun x : Ctl => (x.movers[m]).phase) hctl).trans (hphase.trans ?_)
    rw [hself]
    exact congrArg nextPhase hdone

/-- A record that was written advances the ring, and its descriptor is done. -/
theorem recordWrite_done (hm : movesIn m q (.record 0 0) s) (hok : accessOk m recordElem x s) (hnotify : (queueGet s.ctl q).notifyMode = 0) :
    recordWrite m s.ctl = descDone m q (bump (mIdx m 4) (queuePut q { queueGet s.ctl q with
      ringProduced := ((queueGet s.ctl q).ringProduced + 1) % 2 ^ 32, slotFree := false } (dropAccess x.id s.ctl))) := by
  obtain ⟨hq, hphase, -⟩ := hm
  obtain ⟨hx, hdone, hstatus⟩ := hok
  have hall : (x.grans.all fun g => g.phase = .done) = true := List.all_eq_true.mpr fun g hg => decide_eq_true (hdone g hg)
  have hget : queueGet (dropAccess x.id s.ctl) q = queueGet s.ctl q := rfl
  unfold recordWrite
  simp only [hq, hphase, hx, hall, hstatus, hget, notifyDue, hnotify, Bool.not_true, Bool.false_eq_true, if_false, if_true]
  rfl

theorem recordWrite_effect (hm : movesIn m q (.record 0 0) s) (hok : accessOk m recordElem x s) (hecc : (s.ctl.movers[m]).entryEcc = 0)
    (hnotify : (queueGet s.ctl q).notifyMode = 0) (hstate : (queueGet s.ctl q).state = 2) (hend : descEnd (s.ctl.movers[m]).desc = true)
    (hyield : descYield (s.ctl.movers[m]).desc = false) :
    ∃ t, exec (.recordWrite m) s = .next t ∧
      queueGet t.ctl q = { queueGet s.ctl q with
        ringProduced := ((queueGet s.ctl q).ringProduced + 1) % 2 ^ 32, slotFree := false, headDone := true
        descCompleted := ((queueGet s.ctl q).descCompleted + 1) % 2 ^ 32 } ∧
      (t.ctl.movers[m]).phase = .tail ∧ (t.ctl.movers[m]).curQueue = some q ∧ onlyLogic s t := by
  have ⟨hq, _, hstop⟩ := hm
  have hput : queueGet (bump (mIdx m 4) (queuePut q { queueGet s.ctl q with
      ringProduced := ((queueGet s.ctl q).ringProduced + 1) % 2 ^ 32, slotFree := false } (dropAccess x.id s.ctl))) q =
      { queueGet s.ctl q with ringProduced := ((queueGet s.ctl q).ringProduced + 1) % 2 ^ 32, slotFree := false } :=
    (queueGet_congr (bump_queues _) q).trans (queueGet_queuePut (by show (queueGet s.ctl q).state ≠ 0; omega))
  have hmover : (bump (mIdx m 4) (queuePut q { queueGet s.ctl q with
      ringProduced := ((queueGet s.ctl q).ringProduced + 1) % 2 ^ 32, slotFree := false } (dropAccess x.id s.ctl))).movers[m] = s.ctl.movers[m] := by
    rw [bump_movers]
    rfl
  obtain ⟨hqueue, hcur, hphase⟩ := descDone_effect (by rw [hmover]; exact hq) (by rw [hmover]; exact hecc) (by rw [hmover]; exact hstop)
    (by rw [hmover]; exact hyield) (by rw [hput]; show (queueGet s.ctl q).state ≠ 0; omega)
  rw [← recordWrite_done hm hok hnotify, hput, hmover] at hqueue hphase
  rw [← recordWrite_done hm hok hnotify] at hcur
  unfold doneQueue at hqueue hphase
  simp only [hend, if_true] at hqueue hphase
  exact ⟨{ s with ctl := recordWrite m s.ctl }, rfl, hqueue, hphase, hcur, onlyLogic_ctl s _⟩

/-! ## The obligation -/

/-- Settles O42, clause by clause: an element that ends, one whose read goes on to its write, one that is tried again, a FENCE that ends,
and a record that was written. -/
theorem moverElements : Obligations.MoverElements :=
  ⟨fun _ _ _ _ _ _ hq hrun hk hin hgot hpoison hrep hop hcount hok hgrans hkind =>
      elementResult_fill hq hrun hk hin hgot hpoison hrep hop hcount hok hgrans hkind,
    fun _ _ _ _ _ _ _ hq hrun hk hin hgot hended hwaiting hwriting hrep hop hcount hok hgrans ha hc =>
      elementResult_copyRead hq hrun hk hin hgot hended hwaiting hwriting hrep hop hcount hok hgrans ha hc,
    fun _ _ _ _ _ hm hin hk hwaiting htrk hended hgot hrep hop hcount ha hc =>
      elementRetry_issues hm hin hk hwaiting htrk hended hgot hrep hop hcount ha hc,
    fun _ _ _ hm hop hcount hback hshadows hcountB hlow hbulk hlost hecc hcomplete hend hyield hstate =>
      descriptorEnd_effect hm hop hcount hback hshadows hcountB hlow hbulk hlost hecc hcomplete hend hyield hstate,
    fun _ _ _ _ hm hok hecc hnotify hstate hend hyield => recordWrite_effect hm hok hecc hnotify hstate hend hyield⟩

end Sys2Proof.Machine
end

section
/-! SUPPORT. The tail check of a queue that is parked while its mover keeps a reply without a stop (R155, R171): a state that meets the
hypotheses of the statement on the mover's loop, and not its conclusion. -/

namespace Sys2Proof.Machine

open Sys2Proof Sys2Proof.Tests

/-- The QUEUE_DISABLE of queue 3 that mover 0 of `strayReply` is to answer when it leaves the queue. -/
def strayRef : CmdRef := (.port 0, 5, 0x32, 1)

/-- A response that waits at port 0 for credit, and still has the tracker entry 9. -/
def strayResponse : OutPkt := { opcode := 0x80, tag := 0, status := 0, info := 0, addr := 0, data := [], trk := some 9 }

/-- The entry of the request that the response answers. -/
def strayEntry : Trk := trkOf 9 .read 0x10 none []

/-- Mover 0 runs queue 3, whose head has END, and its tail check has come back. No stop is asked for, but the mover holds the reply of
a QUEUE_DISABLE. -/
def strayReply : State :=
  { ctl := {
      movers := Vector.replicate 16 { curQueue := some 3, phase := .tail, stopReply := some strayRef }
      queues := [(3, queueRun)]
      trk := [accTrk headElem .read [doneGran 16 256], strayEntry]
      mgr := { parked := [strayRef] }
      ports := Vector.replicate 4 { link := .active, respQ := [strayResponse] } } }

theorem strayReply_ended : movesIn 0 3 .tail strayReply ∧ accessOk 0 headElem (accTrk headElem .read [doneGran 16 256]) strayReply := by
  unfold movesIn accessOk
  decide +kernel

/-- The reply leaves by port 0, whose response buffer takes the waiting response in and releases its entry (R94). -/
theorem strayReply_releases : (tailCheck 0 strayReply.ctl).trk = [] := by decide +kernel

/-- Refutes O39: its second clause says that a tail check that parks the queue drops nothing from the tracker but the mover's own read. No
hypothesis excludes a mover that holds the reply of a QUEUE_DISABLE while no stop is asked for, as `(s.ctl.movers[m]).stopReply = none` would:
when it leaves the queue it sends that reply, and the pump of the reply's port releases the entry of a response that waits there. -/
theorem not_moverLoop : ¬ Obligations.MoverLoop := by
  unfold Obligations.MoverLoop
  rintro ⟨-, htail, -⟩
  obtain ⟨hmoves, hok⟩ := strayReply_ended
  obtain ⟨t, ht, -, hpark, -⟩ := htail 0 3 256 _ strayReply hmoves hok (by decide +kernel) (by decide +kernel) (by decide +kernel)
  obtain ⟨-, -, -, htrk⟩ := hpark (by decide) (by decide +kernel)
  have hexec : exec (.tailCheck 0) strayReply = .next { strayReply with ctl := tailCheck 0 strayReply.ctl } := rfl
  rw [hexec] at ht
  injection ht with ht
  rw [← ht, strayReply_releases] at htrk
  exact absurd htrk (by decide +kernel)

end Sys2Proof.Machine
end

section
/-! SUPPORT. Transactions at a coordinator (R190): how they and their keys are found after a change, and what the issue of their accesses
(R92) can do to them. -/

namespace Sys2Proof.Machine

open Sys2Proof

variable {c d : Ctl} {r : Fin 4} {id gran : Nat} {x : Txn} {k : Key}

/-! ## Transactions are found by their identifiers -/

/-- A change that keeps what a search asks for changes only what it finds. -/
theorem find?_map_same {α : Type} {p : α → Bool} {f : α → α} (h : ∀ a, p (f a) = p a) (l : List α) :
    (l.map f).find? p = (l.find? p).map f := by
  rw [List.find?_map]
  exact congrArg (fun q => (l.find? q).map f) (funext h)

theorem find_of_findTxn (h : findTxn c id = some (r, x)) : (c.regions[r]).coord.txns.find? (fun t => t.id = id) = some x := by
  obtain ⟨w, -, hw⟩ := List.exists_of_findSome?_eq_some h
  obtain ⟨y, hy, hwy⟩ := Option.map_eq_some_iff.mp hw
  obtain ⟨rfl, rfl⟩ := Prod.mk.inj hwy
  exact hy

theorem id_of_findTxn (h : findTxn c id = some (r, x)) : x.id = id := by
  simpa using List.find?_some (find_of_findTxn h)

theorem findTxn_congr (h : d.regions = c.regions) : findTxn d id = findTxn c id := by
  unfold findTxn
  rw [h]

/-- Every transaction of a coordinator changed. -/
def mapTxns (r : Fin 4) (f : Txn → Txn) : Ctl → Ctl :=
  modRegion r fun g => { g with coord := { g.coord with txns := g.coord.txns.map f } }

theorem mapTxns_txns (f : Txn → Txn) : ((mapTxns r f c).regions[r]).coord.txns = (c.regions[r]).coord.txns.map f := by
  unfold mapTxns
  rw [modRegion_self]

theorem modRegion_same {f : Region → Region} (h : f c.regions[r] = c.regions[r]) : modRegion r f c = c := by
  unfold modRegion
  rw [h]
  simp

theorem modRegion_congr {f g : Region → Region} (h : f c.regions[r] = g c.regions[r]) : modRegion r f c = modRegion r g c := by
  unfold modRegion
  rw [h]

theorem modRegion_twice (f g : Region → Region) : modRegion r g (modRegion r f c) = modRegion r (fun y => g (f y)) c := by
  simp [modRegion]

theorem mapTxns_id : mapTxns r (fun t => t) c = c := modRegion_same (by rw [List.map_id'])

theorem mapTxns_twice (f g : Txn → Txn) : mapTxns r g (mapTxns r f c) = mapTxns r (fun t => g (f t)) c := by
  unfold mapTxns
  rw [modRegion_twice]
  simp only [List.map_map]
  rfl

theorem modTxn_eq_mapTxns (f : Txn → Txn) : modTxn r id f c = mapTxns r (fun t => if t.id = id then f t else t) c := by
  unfold modTxn mapTxns mapIf
  simp only [decide_eq_true_eq]

theorem findTxn_mapTxns {f : Txn → Txn} (hf : ∀ t, (f t).id = t.id) (h : findTxn c id = some (r, x)) :
    findTxn (mapTxns r f c) id = some (r, f x) := by
  have hregion (w : Fin 4) : (((mapTxns r f c).regions[w]).coord.txns.find? (fun t => t.id = id)).map (fun t => (w, t)) =
      (((c.regions[w]).coord.txns.find? (fun t => t.id = id)).map (fun t => (w, t))).map fun y => (y.1, if y.1 = r then f y.2 else y.2) := by
    by_cases hw : w = r
    · subst hw
      rw [mapTxns_txns, find?_map_same (fun t => by rw [hf])]
      simp [Function.comp_def]
    · unfold mapTxns
      rw [modRegion_other _ _ _ hw]
      simp [Function.comp_def, hw]
  have hall : findTxn (mapTxns r f c) id = (findTxn c id).map fun y => (y.1, if y.1 = r then f y.2 else y.2) := by
    unfold findTxn
    rw [List.map_findSome?]
    exact congrArg (allRegions.findSome? ·) (funext hregion)
  rw [hall, h]
  simp

theorem keepsId_ite {f : Txn → Txn} (hf : ∀ t, t.id = id → (f t).id = id) (t : Txn) : (if t.id = id then f t else t).id = t.id := by
  split
  next ht => rw [hf t ht, ht]
  next => rfl

/-- A transaction that is changed is found as it now is. -/
theorem find_modTxn {f : Txn → Txn} (hf : ∀ t, t.id = id → (f t).id = id) (h : (c.regions[r]).coord.txns.find? (fun t => t.id = id) = some x) :
    ((modTxn r id f c).regions[r]).coord.txns.find? (fun t => t.id = id) = some (f x) := by
  rw [modTxn_eq_mapTxns, mapTxns_txns, find?_map_same (fun t => by rw [keepsId_ite hf]), h]
  simp [show x.id = id by simpa using List.find?_some h]

theorem findTxn_modTxn {f : Txn → Txn} (hf : ∀ t, t.id = id → (f t).id = id) (h : findTxn c id = some (r, x)) :
    findTxn (modTxn r id f c) id = some (r, f x) := by
  rw [modTxn_eq_mapTxns, findTxn_mapTxns (keepsId_ite hf) h, if_pos (id_of_findTxn h)]

/-! ## Keys are found by their granules -/

theorem gran_of_keyOf (h : keyOf x gran = some k) : k.gran = gran := by simpa using List.find?_some h

theorem keyOf_modKey {f : Key → Key} (hf : ∀ k, k.gran = gran → (f k).gran = gran) (h : keyOf x gran = some k) :
    keyOf (modKey gran f x) gran = some (f k) := by
  unfold keyOf modKey mapIf at *
  have hgran (l : Key) : decide ((if decide (l.gran = gran) = true then f l else l).gran = gran) = decide (l.gran = gran) := by
    by_cases hl : l.gran = gran <;> simp [hl, hf]
  rw [find?_map_same hgran, h]
  simp [gran_of_keyOf h]

theorem mem_modKey_other {f : Key → Key} {l : Key} (h : l ∈ x.keys) (hl : l.gran ≠ gran) : l ∈ (modKey gran f x).keys :=
  List.mem_map.mpr ⟨l, h, by simp [hl]⟩

/-! ## The issue of accesses (R92) -/

/-- What the issue of accesses may do to a key: it takes a tracker entry, and the read of a granted one goes to its channel. -/
structure KeyIssued (k l : Key) : Prop where
  frame : l = { k with tracked := l.tracked, access := l.access }
  access : k.state ≠ .granted → l.access = k.access

theorem KeyIssued.refl (k : Key) : KeyIssued k k := ⟨rfl, fun _ => rfl⟩

theorem KeyIssued.state {l : Key} (h : KeyIssued k l) : l.state = k.state := by rw [h.frame]

theorem KeyIssued.trans {l m : Key} (h : KeyIssued k l) (g : KeyIssued l m) : KeyIssued k m where
  frame := by rw [g.frame, h.frame]
  access hk := (g.access (by rwa [h.state])).trans (h.access hk)

theorem issueKey_issued (c : Ctl) (t : Txn) (k : Key) : KeyIssued k (issueKey c t k) := by
  unfold issueKey
  split
  next hk =>
    refine ⟨?_, fun hn => absurd hk hn⟩
    unfold queueRead
    split <;> rfl
  next => exact ⟨rfl, fun _ => rfl⟩

/-- A change of transactions that only issues accesses of their keys. -/
structure TxnsIssued (f : Txn → Txn) : Prop where
  frame : ∀ t, f t = { t with keys := (f t).keys }
  keys : ∀ t, ∃ g : Key → Key, (f t).keys = t.keys.map g ∧ ∀ k, KeyIssued k (g k)

theorem TxnsIssued.refl : TxnsIssued fun t => t := ⟨fun _ => rfl, fun _ => ⟨fun k => k, by simp, KeyIssued.refl⟩⟩

theorem TxnsIssued.keepsId {f : Txn → Txn} (hf : TxnsIssued f) (t : Txn) : (f t).id = t.id := by rw [hf.frame]

theorem TxnsIssued.trans {f g : Txn → Txn} (hf : TxnsIssued f) (hg : TxnsIssued g) : TxnsIssued fun t => g (f t) where
  frame t := by rw [hg.frame, hf.frame]
  keys t := by
    obtain ⟨a, ha, hka⟩ := hf.keys t
    obtain ⟨b, hb, hkb⟩ := hg.keys (f t)
    exact ⟨fun k => b (a k), by rw [hb, ha, List.map_map]; rfl, fun k => (hka k).trans (hkb (a k))⟩

theorem TxnsIssued.modKey {g : Key → Key} (hg : ∀ k, KeyIssued k (g k)) : TxnsIssued fun t => if t.id = id then modKey gran g t else t where
  frame t := by split <;> rfl
  keys t := by
    by_cases ht : t.id = id
    · refine ⟨fun k => if decide (k.gran = gran) then g k else k, by rw [if_pos ht]; rfl, fun k => ?_⟩
      dsimp only
      split
      · exact hg k
      · exact .refl k
    · exact ⟨fun k => k, by simp [ht], KeyIssued.refl⟩

theorem issueAccesses_eq (n : Nat) (c : Ctl) :
    ∃ f pool, TxnsIssued f ∧ issueAccesses r n c = { mapTxns r f c with poolGrants := pool } := by
  have hstop (c : Ctl) : ∃ f pool, TxnsIssued f ∧ c = { mapTxns r f c with poolGrants := pool } :=
    ⟨_, c.poolGrants, .refl, by rw [mapTxns_id]⟩
  induction n generalizing c with
  | zero => exact hstop c
  | succ n ih =>
    unfold issueAccesses
    split
    next => exact hstop c
    next t k _ =>
      split
      next =>
        obtain ⟨f, pool, hf, heq⟩ := ih (modTxn r t.id (modKey k.gran (issueKey c t)) (notePool .engine c))
        refine ⟨_, pool, (TxnsIssued.modKey (id := t.id) (gran := k.gran) (issueKey_issued c t)).trans hf, ?_⟩
        rw [heq, modTxn_eq_mapTxns, mapTxns_twice, notePool_frame]
        rfl
      next => exact hstop c

/-- The accesses of a coordinator that are issued change its transactions, and the grants of the pool. -/
theorem issueCoord_eq (r : Fin 4) (c : Ctl) : ∃ f pool, TxnsIssued f ∧ issueCoord r c = { mapTxns r f c with poolGrants := pool } :=
  issueAccesses_eq _ c

theorem issueCoord_frame :
    issueCoord r c = { c with regions := (issueCoord r c).regions, poolGrants := (issueCoord r c).poolGrants } := by
  obtain ⟨f, pool, -, heq⟩ := issueCoord_eq r c
  rw [heq]
  rfl

/-- With no access left to issue, nothing is done. -/
theorem issueCoord_none (h : issueNext c r = none) : issueCoord r c = c := by
  unfold issueCoord
  cases ((c.regions[r].coord.txns.map fun t => t.keys.length).sum) with
  | zero => rfl
  | succ n =>
    unfold issueAccesses
    rw [h]

/-- Where no key is granted, the issue of accesses shows in the tracker entries alone. -/
theorem TxnsIssued.untracked {f : Txn → Txn} (h : TxnsIssued f) (hx : ∀ k ∈ x.keys, k.state ≠ .granted) :
    (f x).keys.map (fun k => { k with tracked := false }) = x.keys.map (fun k => { k with tracked := false }) := by
  obtain ⟨g, hg, hkey⟩ := h.keys x
  rw [hg, List.map_map]
  refine List.map_congr_left fun k hk => ?_
  simp only [Function.comp_def]
  rw [(hkey k).frame, (hkey k).access (hx k hk)]

/-- A transaction joins its coordinator. -/
def addTxn (r : Fin 4) (t : Txn) : Ctl → Ctl :=
  modRegion r fun g => { g with coord := { g.coord with txns := g.coord.txns ++ [t] } }

/-- A transaction that joins, and whose accesses are issued as far as they can, is the newest of its coordinator. -/
theorem issueCoord_addTxn (hx : ∀ k ∈ x.keys, k.state ≠ .granted) :
    ∃ y, ((issueCoord r (addTxn r x c)).regions[r]).coord.txns.getLast? = some y ∧
      ((issueCoord r (addTxn r x c)).regions[r]).coord.txns.length = (c.regions[r]).coord.txns.length + 1 ∧
      y = { x with keys := y.keys } ∧
      y.keys.map (fun k => { k with tracked := false }) = x.keys.map (fun k => { k with tracked := false }) := by
  obtain ⟨f, pool, hf, heq⟩ := issueCoord_eq r (addTxn r x c)
  have htxns : ((issueCoord r (addTxn r x c)).regions[r]).coord.txns = ((c.regions[r]).coord.txns ++ [x]).map f := by
    rw [heq]
    refine (mapTxns_txns f).trans ?_
    unfold addTxn
    rw [modRegion_self]
  exact ⟨f x, by rw [htxns]; simp, by rw [htxns]; simp, hf.frame x, hf.untracked hx⟩

end Sys2Proof.Machine
end

section
/-! SUPPORT. Hold requests at a channel, and grants, old values, PREPARE answers and wounds at a coordinator (R188, R190, R468). -/

namespace Sys2Proof.Machine

open Sys2Proof

variable {c : Ctl} {r : Fin 4} {id gran : Nat} {x : Txn} {k l : Key} {d : GranRead} {s : State}

/-! ## One transaction written -/

theorem modTxn_congr {f g : Txn → Txn} (h : ∀ y ∈ (c.regions[r]).coord.txns, y.id = id → f y = g y) : modTxn r id f c = modTxn r id g c := by
  have htxns : mapIf (fun t => t.id = id) f (c.regions[r]).coord.txns = mapIf (fun t => t.id = id) g (c.regions[r]).coord.txns := by
    refine List.map_congr_left fun y hy => ?_
    by_cases hid : y.id = id
    · simp [hid, h y hy hid]
    · simp [hid]
  exact modRegion_congr (by rw [htxns])

theorem modTxn_chans (f : Txn → Txn) : (modTxn r id f c).chans = c.chans := rfl
theorem modTxn_trk (f : Txn → Txn) : (modTxn r id f c).trk = c.trk := rfl

/-- A transaction with a key that is not granted is not evaluated. -/
theorem evaluate_waits (hx : findTxn c id = some (r, x)) (hl : l ∈ x.keys) (hs : l.state ≠ .granted) : evaluate r id c = c := by
  have hready : readyToEvaluate x = false := by
    unfold readyToEvaluate
    rw [Bool.and_eq_false_iff, List.all_eq_false]
    exact .inr ⟨l, hl, by simp [hs]⟩
  unfold evaluate
  simp only [find_of_findTxn hx, hready, Bool.not_false, if_true]

/-! ## A hold request that its channel can grant (R188) -/

/-- The hold entry that a transaction's request takes. -/
def acquiredHold (x : Txn) (gran : Nat) : Hold :=
  { gran := gran, id := holdIdOf x, isSeq := x.lsid.isSome, port := x.port, domain := x.domain, age := x.age, stage := none, state := .acquired }

theorem takeHold_free (h : holdAt c.chans[keyChan gran] gran = none) :
    ((takeHold x gran c).chans[keyChan gran]).holds =
      (c.chans[keyChan gran]).holds.filter (fun y => !(y.gran = gran && y.id = holdIdOf x)) ++ [acquiredHold x gran] := by
  have hwait : ((dropWait gran x.id c).chans[keyChan gran]).holds = (c.chans[keyChan gran]).holds := by
    unfold dropWait
    rw [modChan_self]
  have hfree : holdAt (dropWait gran x.id c).chans[keyChan gran] gran = none := by
    unfold holdAt at h ⊢
    rw [hwait, h]
  unfold takeHold
  extract_lets d y
  rw [if_neg (by unfold d; rw [hfree]; exact Bool.false_ne_true), modChan_self, ← hwait]
  rfl

theorem takeHold_trk : (takeHold x gran c).trk = c.trk := by
  unfold takeHold
  extract_lets d y
  split <;> rfl

theorem holdOutcome_grant (h : holdAt c.chans[keyChan gran] gran = none) (hroom : (c.chans[keyChan gran]).holds.length < 128) :
    holdOutcome c x gran = .grant := by
  unfold holdOutcome
  simp [-Fin.getElem_fin, h, hroom]

theorem holdRequest_granted (hx : findTxn c id = some (r, x)) (hk : keyOf x gran = some k) (hs : k.state = .requested)
    (hmap : k.atMap = false) (hrel : k.rel = false) (hearlier : earlierAt c x gran = false) (halloc : accessAllocated c id gran = true)
    (hout : holdOutcome c x gran = .grant) :
    holdRequest (keyChan gran) id gran c =
      modTxn r id (modKey gran fun k => { queueRead c x k with state := .grantSent }) (takeHold x gran c) := by
  unfold holdRequest
  simp [hx, hk, hs, hmap, hrel, hearlier, halloc, hout]

theorem holdRequest_effect (hx : findTxn s.ctl id = some (r, x)) (hk : keyOf x gran = some k) (hs : k.state = .requested)
    (hmap : k.atMap = false) (hrel : k.rel = false) (hearlier : earlierAt s.ctl x gran = false)
    (halloc : accessAllocated s.ctl id gran = true) (hfree : holdAt s.ctl.chans[keyChan gran] gran = none)
    (hroom : (s.ctl.chans[keyChan gran]).holds.length < 128) :
    ∃ t, exec (.holdRequest (keyChan gran) id gran) s = .next t ∧
      (t.ctl.chans[keyChan gran]).holds =
        (s.ctl.chans[keyChan gran]).holds.filter (fun h => !(h.gran = gran && h.id = holdIdOf x)) ++ [acquiredHold x gran] ∧
      t.ctl.trk = s.ctl.trk ∧ onlyLogic s t := by
  have hctl := holdRequest_granted hx hk hs hmap hrel hearlier halloc (holdOutcome_grant hfree hroom)
  refine ⟨{ s with ctl := holdRequest (keyChan gran) id gran s.ctl }, rfl, ?_, ?_, onlyLogic_ctl s _⟩
  · rw [hctl, modTxn_chans, takeHold_free hfree]
  · rw [hctl, modTxn_trk, takeHold_trk]

/-! ## A grant reaches the coordinator (R190) -/

/-- A key whose hold the coordinator has. -/
def grantedKey (k : Key) : Key := { k with state := .granted }

theorem findTxn_modKey {f : Key → Key} (hx : findTxn c id = some (r, x)) :
    findTxn (modTxn r id (modKey gran f) c) id = some (r, modKey gran f x) := findTxn_modTxn (fun _ ht => ht) hx

/-- While another key is awaited, and no access is left to issue, a grant changes its own key alone. -/
theorem holdGrant_waits (hx : findTxn c id = some (r, x)) (hk : keyOf x gran = some k) (hs : k.state = .grantSent) (hord : x.ordered = false)
    (honly : ∀ y ∈ (c.regions[r]).coord.txns, y.id = id → y = x) (hl : l ∈ x.keys) (hgran : l.gran ≠ gran) (hreq : l.state = .requested)
    (hissue : issueNext (modTxn r id (modKey gran grantedKey) c) r = none) :
    holdGrant id gran c = modTxn r id (modKey gran grantedKey) c := by
  have hnext : modTxn r id (fun t => if (modKey gran grantedKey t).ordered then
      { modKey gran grantedKey t with keys := askNext c.now (modKey gran grantedKey t).keys } else modKey gran grantedKey t) c =
      modTxn r id (modKey gran grantedKey) c := by
    refine modTxn_congr fun y hy hid => if_neg ?_
    rw [honly y hy hid]
    simp [modKey, hord]
  have hgrant : holdGrant id gran c = evaluate r id (issueCoord r (modTxn r id (modKey gran grantedKey) c)) := by
    rw [← hnext]
    unfold holdGrant
    simp only [hx, hk, hs]
    rfl
  rw [hgrant, issueCoord_none hissue]
  exact evaluate_waits (findTxn_modKey hx) (mem_modKey_other hl hgran) (by simp [hreq])

/-! ## An old value reaches the coordinator (R184, R190) -/

/-- A read of a granule that is not mirrored, and that decodes clean, gives its data and changes nothing. -/
theorem readEnd_clean {m : List Host.Cell} {y : Reader} (hm : y.mirrored = false) (hp : d.poisoned = false) (hu : d.uncorrectable = false)
    (h1 : d.ce1 = 0) (h2 : d.ce2 = 0) : readEnd m gran y d c = ({ status := 0, data := d.data, kind := 0 }, c) := by
  unfold readEnd reportCorrected
  simp [hm, hp, hu, h1, h2]

/-- A key whose old value is known. -/
def decodedKey (v : GData) (k : Key) : Key := { k with old := some (some v), access := .idle }

section
variable {noise : BitVec 320} {m : List Host.Cell} (hx : findTxn c id = some (r, x)) (hk : keyOf x gran = some k) (hs : k.state = .granted)
  (ha : k.access = .readAccepted false) (hreads : k.reads = true) (hold : k.old = none) (hseq : x.lsid = none)
  (hm : (pmGet c k.hpn).mirrored = false) (hp : (dramDecode m c gran noise).poisoned = false)
  (hu : (dramDecode m c gran noise).uncorrectable = false) (h1 : (dramDecode m c gran noise).ce1 = 0) (h2 : (dramDecode m c gran noise).ce2 = 0)
include hx hk hs ha hreads hold hseq hm hp hu h1 h2

theorem oldValue_clean : oldValue id gran noise m c =
    evaluate r id (modTxn r id (modKey gran (decodedKey (dramDecode m c gran noise).data)) c) := by
  have hstage : ownStage c x gran = none := by simp [ownStage, hseq]
  have hread := readEnd_clean (c := c) (gran := gran) (m := m) (y := oldReader c x k) hm hp hu h1 h2
  unfold oldValue
  simp only [hx, hk, hs, decide_true, reduceCtorEq, decide_false, Bool.or_false, Bool.not_true, hreads, Bool.or_self, hold,
    Option.isSome_none, Bool.false_eq_true, ↓reduceIte, hstage, ha, Fin.getElem_fin, Bool.false_and, hread, OfNat.zero_ne_ofNat]
  rfl

theorem oldValue_waits (hl : l ∈ x.keys) (hgran : l.gran ≠ gran) (hreq : l.state = .requested) :
    oldValue id gran noise m c = modTxn r id (modKey gran (decodedKey (dramDecode m c gran noise).data)) c := by
  rw [oldValue_clean hx hk hs ha hreads hold hseq hm hp hu h1 h2]
  exact evaluate_waits (findTxn_modKey hx) (mem_modKey_other hl hgran) (by simp [hreq])

end

/-! ## The answer to a PREPARE reaches the coordinator (R190) -/

/-- A key whose PREPARE is answered. -/
def answeredKey (k : Key) : Key := { k with state := .answered }

theorem prepareAnswer_waits (hx : findTxn c id = some (r, x)) (hk : keyOf x gran = some k) (hs : k.state = .prepared) (hl : l ∈ x.keys)
    (hgran : l.gran ≠ gran) (hsent : l.state = .prepareSent) :
    prepareAnswer id gran c = modTxn r id (fun _ => modKey gran answeredKey x) c := by
  have hall : ((modKey gran answeredKey x).keys.all fun k => k.state = .answered) = false :=
    List.all_eq_false.mpr ⟨l, mem_modKey_other hl hgran, by simp [hsent]⟩
  unfold prepareAnswer
  simp only [hx, hk, hs]
  exact if_neg (by rw [Bool.not_eq_true]; exact hall)

/-! ## A wound notice reaches the coordinator (R190, R468) -/

/-- A transaction that starts its next attempt (R190): it lets go, and asks for its keys in order. -/
def retriedTxn (now : Nat) (t : Txn) : Txn :=
  { letGo t with
    ordered := true, retries := t.retries + 1, wounded := false, phase := .acquiring
    keys := askNext now (sortKeys ((letGo t).keys.map fun k => { k with state := .idle })) }

/-- The hold requests of a transaction leave every channel. -/
def withoutWaits (id : Nat) (c : Ctl) : Ctl :=
  { c with chans := c.chans.map fun ch => { ch with holdWaits := ch.holdWaits.filter fun w => w.id ≠ id } }

theorem retryTxn_wound (hretries : x.retries < 16) :
    retryTxn r x false true c = issueCoord r (modTxn r x.id (retriedTxn c.now) (bump (rIdx r 10) (withoutWaits x.id (bump (rIdx r 11) c)))) := by
  have hne : x.retries ≠ 16 := by omega
  unfold retryTxn retriedTxn withoutWaits
  simp only [if_true, Bool.false_eq_true, if_false, hne, bump_now]

theorem woundNotice_effect (hx : findTxn s.ctl id = some (r, x)) (hw : x.wounded = true) (hphase : x.phase = .acquiring)
    (hretries : x.retries < 16) :
    ∃ t y, exec (.woundNotice id) s = .next t ∧ findTxn t.ctl id = some (r, y) ∧ y.retries = x.retries + 1 ∧ y.ordered = true ∧
      y.wounded = false ∧ y.phase = .acquiring ∧ t.ctl.trk = s.ctl.trk ∧ onlyLogic s t := by
  have hnotice : woundNotice id s.ctl = retryTxn r x false true s.ctl := by
    unfold woundNotice
    simp [hx, hw, hphase]
  have hfound := findTxn_modTxn (f := retriedTxn s.ctl.now) (fun _ ht => ht)
    ((findTxn_congr (d := bump (rIdx r 10) (withoutWaits id (bump (rIdx r 11) s.ctl))) (by rw [bump_regions]; exact bump_regions _)).trans hx)
  obtain ⟨f, pool, hf, hissued⟩ := issueCoord_eq r
    (modTxn r id (retriedTxn s.ctl.now) (bump (rIdx r 10) (withoutWaits id (bump (rIdx r 11) s.ctl))))
  have hctl := hnotice.trans (retryTxn_wound hretries)
  rw [id_of_findTxn hx, hissued] at hctl
  have hframe := hf.frame (retriedTxn s.ctl.now x)
  refine ⟨{ s with ctl := woundNotice id s.ctl }, f (retriedTxn s.ctl.now x), rfl, ?_, congrArg Txn.retries hframe, congrArg Txn.ordered hframe,
    congrArg Txn.wounded hframe, congrArg Txn.phase hframe, ?_, onlyLogic_ctl s _⟩
  · show findTxn (woundNotice id s.ctl) id = _
    rw [hctl]
    exact (findTxn_congr rfl).trans (findTxn_mapTxns hf.keepsId hfound)
  · show (woundNotice id s.ctl).trk = _
    rw [hctl]
    exact (bump_trk _).trans (bump_trk _)

/-! ## The obligation -/

/-- Settles O24, clause by clause: a hold request that is granted, the grant, the old value and the PREPARE answer while another key is
awaited, and a wound. -/
theorem holdsAndValues : Obligations.HoldsAndValues := by
  refine ⟨fun c id gran r x k s hx hk hs hmap hrel hchan hearlier halloc hfree hroom => ?request,
    fun id gran r x k l s hx hk hs hord honly hl hgran hreq hissue =>
      ⟨_, rfl, holdGrant_waits hx hk hs hord honly hl hgran hreq hissue, onlyLogic_ctl s _⟩,
    fun id gran noise r x k l d s hx hk hs ha hreads hold hseq hm hd hp hu h1 h2 hl hgran hreq => ?value,
    fun id gran r x k l s hx hk hs hl hgran hsent => ?answer,
    fun id r x s hx hw hphase hretries => woundNotice_effect hx hw hphase hretries⟩
  case request =>
    subst hchan
    exact holdRequest_effect hx hk hs hmap hrel hearlier halloc hfree hroom
  case value =>
    subst hd
    have hctl := oldValue_waits hx hk hs ha hreads hold hseq hm hp hu h1 h2 hl hgran hreq
    exact ⟨_, _, _, rfl, (congrArg (findTxn · id) hctl).trans (findTxn_modKey hx), keyOf_modKey (fun _ h => h) hk, rfl, rfl, onlyLogic_ctl s _⟩
  case answer =>
    have hctl := prepareAnswer_waits hx hk hs hl hgran hsent
    exact ⟨_, _, _, rfl, (congrArg (findTxn · id) hctl).trans (findTxn_modTxn (fun _ _ => (id_of_findTxn hx : x.id = id)) hx),
      keyOf_modKey (fun _ h => h) hk, rfl, (congrArg Ctl.chans hctl).trans rfl, onlyLogic_ctl s _⟩

end Sys2Proof.Machine
end

section
/-! SUPPORT. PREPARE, COMMIT and the acceptance of its write at a channel, releases, and the hold wait limit (R186, R188 to R190). -/

namespace Sys2Proof.Machine

open Sys2Proof

variable {c : Ctl} {r : Fin 4} {ch : Fin 32} {id gran n : Nat} {x : Txn} {k l : Key} {s : State}

/-! ## Hold entries written and freed at a channel -/

theorem modHoldAt_holds (f : Hold → Hold) : ((modHoldAt gran n f c).chans[keyChan gran]).holds =
    mapIf (fun h => h.gran = gran && h.id = n && h.state ≠ .orderMarker) f (c.chans[keyChan gran]).holds := by
  unfold modHoldAt
  rw [modChan_self]

theorem modHoldAt_length (f : Hold → Hold) :
    ((modHoldAt gran n f c).chans[keyChan gran]).holds.length = (c.chans[keyChan gran]).holds.length := by
  rw [modHoldAt_holds]
  exact List.length_map _

theorem dropHoldAt_frees : ∀ h ∈ ((dropHoldAt gran n c).chans[keyChan gran]).holds, ¬(h.gran = gran ∧ h.id = n) := by
  unfold dropHoldAt
  rw [modChan_self]
  rintro h hh ⟨hgran, hid⟩
  simp [hgran, hid] at hh

/-! ## PREPARE (R186, R190) -/

/-- A hold with the final value of its granule. -/
def valuedHold (state : HoldState) (v : Option GData) (h : Hold) : Hold := { h with state := state, stage := v }

/-- The hold of a granule and an identifier, unless it is an order marker, has the value that was written. -/
theorem modHoldAt_valued {state : HoldState} {v : Option GData} : ∀ h ∈ ((modHoldAt gran n (valuedHold state v) c).chans[keyChan gran]).holds,
    h.gran = gran → h.id = n → h.state ≠ .orderMarker → h.state = state ∧ h.stage = v := by
  rw [modHoldAt_holds]
  intro h hh hgran hid hmarker
  obtain ⟨y, -, hy⟩ := List.mem_map.mp hh
  split at hy
  next =>
    subst hy
    exact ⟨rfl, rfl⟩
  next hmiss =>
    subst hy
    simp [hgran, hid, hmarker] at hmiss

theorem prepareHold_sent (hx : findTxn c id = some (r, x)) (hk : keyOf x gran = some k) (hs : k.state = .prepareSent) :
    ∃ f, prepareHold (keyChan gran) id gran c = modTxn r id f (modHoldAt gran (holdIdOf x) (valuedHold .prepared k.new) c) := by
  unfold prepareHold
  simp only [hx, hk, hs, ne_eq, not_true_eq_false, decide_false, Bool.or_self, Bool.false_eq_true, if_false]
  exact ⟨_, rfl⟩

theorem prepare_effect (hx : findTxn s.ctl id = some (r, x)) (hk : keyOf x gran = some k) (hs : k.state = .prepareSent) :
    ∃ t, exec (.prepare (keyChan gran) id gran) s = .next t ∧
      (∀ h ∈ (t.ctl.chans[keyChan gran]).holds, h.gran = gran → h.id = holdIdOf x → h.state ≠ .orderMarker →
        h.state = .prepared ∧ h.stage = k.new) ∧
      (t.ctl.chans[keyChan gran]).holds.length = (s.ctl.chans[keyChan gran]).holds.length ∧ t.ctl.trk = s.ctl.trk ∧ onlyLogic s t := by
  obtain ⟨f, hctl⟩ := prepareHold_sent hx hk hs
  refine ⟨{ s with ctl := prepareHold (keyChan gran) id gran s.ctl }, rfl, ?_, ?_, ?_, onlyLogic_ctl s _⟩
  · rw [hctl, modTxn_chans]
    exact modHoldAt_valued
  · rw [hctl, modTxn_chans, modHoldAt_length]
  · rw [hctl]
    rfl

/-! ## COMMIT (R186, R191) -/

/-- A key whose write waits at its channel. -/
def writingKey (n : Nat) (k : Key) : Key := { k with access := .writeQueued n }

theorem commitHold_committing (hx : findTxn c id = some (r, x)) (hk : keyOf x gran = some k) (hs : k.state = .committing)
    (ha : k.access = .idle) :
    ∃ sc, commitHold (keyChan gran) id gran c = modTxn r id (modKey gran (writingKey c.now))
      (modHoldAt gran (holdIdOf x) (valuedHold .committed k.new) { c with score := sc }) := by
  unfold commitHold
  simp only [hx, hk, hs, ha, ne_eq, not_true_eq_false, decide_false, Bool.or_self, Bool.false_eq_true, if_false]
  split
  next =>
    rw [bumpBy_frame]
    exact ⟨_, rfl⟩
  next => exact ⟨c.score, rfl⟩

theorem commit_effect (hx : findTxn s.ctl id = some (r, x)) (hk : keyOf x gran = some k) (hs : k.state = .committing) (ha : k.access = .idle) :
    ∃ t y z, exec (.commit (keyChan gran) id gran) s = .next t ∧ findTxn t.ctl id = some (r, y) ∧ keyOf y gran = some z ∧
      z = { k with access := .writeQueued s.ctl.now } ∧ y.phase = x.phase ∧
      (∀ h ∈ (t.ctl.chans[keyChan gran]).holds, h.gran = gran → h.id = holdIdOf x → h.state ≠ .orderMarker →
        h.state = .committed ∧ h.stage = k.new) ∧
      (t.ctl.chans[keyChan gran]).holds.length = (s.ctl.chans[keyChan gran]).holds.length ∧ t.ctl.trk = s.ctl.trk ∧ onlyLogic s t := by
  obtain ⟨sc, hctl⟩ := commitHold_committing hx hk hs ha
  refine ⟨{ s with ctl := commitHold (keyChan gran) id gran s.ctl }, _, writingKey s.ctl.now k, rfl, ?_,
    keyOf_modKey (fun _ h => h) hk, rfl, rfl, ?_, ?_, ?_, onlyLogic_ctl s _⟩
  · exact (congrArg (findTxn · id) hctl).trans (findTxn_modKey ((findTxn_congr rfl).trans hx))
  · rw [hctl, modTxn_chans]
    exact modHoldAt_valued
  · rw [hctl, modTxn_chans, modHoldAt_length]
  · rw [hctl]
    rfl

/-! ## The write of a COMMITTED hold is accepted (R186, R191) -/

/-- A whole write to a slice that is not failed joins its channel's write buffer, shadowed or not, and leaves the coordinators. -/
theorem acceptWrite_joins {key : Nat} (v : BitVec 320) (hpn : Option Nat) (h : keyFailed c key = false) :
    ((acceptWrite key v hpn c).chans[keyChan key]).wbuf = (c.chans[keyChan key]).wbuf ++ [(key, v)] := by
  cases hpn with
  | none => exact (acceptWrite_accepted h).1
  | some p => exact (acceptWrite_accepted (c := pushShadow none p (keyGran key) v c) h).1

theorem acceptWrite_regions (key : Nat) (v : BitVec 320) (hpn : Option Nat) : (acceptWrite key v hpn c).regions = c.regions := by
  cases hpn <;>
  · unfold acceptWrite
    dsimp only
    split <;> rfl

/-- A key that is over. -/
def releasedKey (k : Key) : Key := { k with state := .released, access := .idle }

theorem commitAccept_more (hx : (c.regions[r]).coord.txns.find? (fun t => t.id = x.id) = some x) (hl : l ∈ x.keys) (hgran : l.gran ≠ k.gran)
    (hs : l.state ≠ .released) :
    commitAccept r x k c = modTxn r x.id (modKey k.gran releasedKey) (dropHoldAt k.gran (holdIdOf x)
      (acceptWrite k.gran (granEncode (k.new.getD 0)) (if (pmGet c k.hpn).mirrored then some k.hpn else none) c)) := by
  have hall : ((modKey k.gran releasedKey x).keys.all fun k => k.state = .released) = false :=
    List.all_eq_false.mpr ⟨l, mem_modKey_other hl hgran, by simp [hs]⟩
  unfold commitAccept
  extract_lets hpn c1 c2
  have hfind : (c2.regions[r]).coord.txns.find? (fun t => t.id = x.id) = some (modKey k.gran releasedKey x) := by
    refine find_modTxn (fun _ ht => ht) ?_
    unfold c1 dropHoldAt
    rwa [modChan_regions, acceptWrite_regions]
  rw [hfind]
  exact if_neg (by rw [Bool.not_eq_true]; exact hall)

theorem acceptTxn_effect {w : TxnWork} {n : Nat} (ha : w.key.access = .writeQueued n) (hfail : keyFailed c w.key.gran = false)
    (hx : (c.regions[w.region]).coord.txns.find? (fun x => x.id = w.txn.id) = some w.txn) (hl : l ∈ w.txn.keys) (hgran : l.gran ≠ w.key.gran)
    (hs : l.state ≠ .released) :
    ((acceptTxn w c).chans[keyChan w.key.gran]).wbuf = (c.chans[keyChan w.key.gran]).wbuf ++ [(w.key.gran, granEncode (w.key.new.getD 0))] ∧
      ∀ h ∈ ((acceptTxn w c).chans[keyChan w.key.gran]).holds, ¬(h.gran = w.key.gran ∧ h.id = holdIdOf w.txn) := by
  have haccept : acceptTxn w c = commitAccept w.region w.txn w.key c := by
    unfold acceptTxn
    rw [ha]
  rw [haccept, commitAccept_more hx hl hgran hs, modTxn_chans]
  refine ⟨?_, dropHoldAt_frees⟩
  rw [← acceptWrite_joins _ _ hfail]
  unfold dropHoldAt
  rw [modChan_self]

/-! ## A transaction leaves its coordinator -/

theorem dropMarkers_holds : ((dropMarkers id c).chans[ch]).holds = (c.chans[ch]).holds.filter fun h => !(h.id = id && h.state = .orderMarker) := by
  simp [dropMarkers]

theorem mem_holds_of_reapTxn {h : Hold} (hh : h ∈ ((reapTxn r id c).chans[ch]).holds) : h ∈ (c.chans[ch]).holds := by
  unfold reapTxn at hh
  split at hh
  · split at hh
    · exact List.mem_of_mem_filter (dropMarkers_holds (c := c) ▸ hh)
    · exact hh
  · exact hh

theorem mem_txns_of_reapTxn {y : Txn} (hy : y ∈ ((reapTxn r id c).regions[r]).coord.txns) : y ∈ (c.regions[r]).coord.txns := by
  unfold reapTxn at hy
  split at hy
  · split at hy
    · unfold dropTxn at hy
      rw [modRegion_self] at hy
      exact List.mem_of_mem_filter hy
    · exact hy
  · exact hy

theorem reapTxn_trk : (reapTxn r id c).trk = c.trk := by
  unfold reapTxn
  split
  · split <;> rfl
  · rfl

/-! ## A release reaches its channel (R188, R190) -/

theorem deliverRelease_ending (hphase : x.phase = .ending) :
    ∃ sc, deliverRelease r x gran c =
      reapTxn r x.id (modTxn r x.id (modKey gran fun k => { k with rel := false }) (dropHoldAt gran x.id { c with score := sc })) := by
  unfold deliverRelease
  extract_lets read was d e
  have he : e = dropHoldAt gran x.id d := if_pos (by rw [hphase]; rfl)
  rw [he]
  unfold d
  split
  next =>
    rw [bumpBy_frame]
    exact ⟨_, rfl⟩
  next => exact ⟨c.score, rfl⟩

theorem holdRelease_effect (hx : findTxn s.ctl id = some (r, x)) (hk : keyOf x gran = some k) (hrel : k.rel = true) (hphase : x.phase = .ending) :
    ∃ t, exec (.holdRelease (keyChan gran) id gran) s = .next t ∧
      (∀ h ∈ (t.ctl.chans[keyChan gran]).holds, ¬(h.gran = gran ∧ h.id = x.id)) ∧ t.ctl.trk = s.ctl.trk ∧ onlyLogic s t := by
  have hdeliver : holdRelease (keyChan gran) id gran s.ctl = deliverRelease r x gran s.ctl := by
    unfold holdRelease
    simp [hx, hk, hrel]
  obtain ⟨sc, hctl⟩ := deliverRelease_ending (r := r) (gran := gran) (c := s.ctl) hphase
  refine ⟨{ s with ctl := holdRelease (keyChan gran) id gran s.ctl }, rfl, fun h hh => ?_, ?_, onlyLogic_ctl s _⟩
  · rw [hdeliver, hctl] at hh
    have hkept := mem_holds_of_reapTxn hh
    rw [modTxn_chans] at hkept
    exact dropHoldAt_frees h hkept
  · rw [hdeliver, hctl, reapTxn_trk]
    rfl

/-! ## The hold wait limit (R188, R189) -/

/-- A transaction that ends lets go of what it holds (R185). -/
def endingTxn (t : Txn) : Txn := { letGo t with phase := .ending }

theorem endTxn_ends {status pass : Nat} {data : List Slot} {y : Txn} (hy : y ∈ ((endTxn r x status pass data c).regions[r]).coord.txns)
    (hid : y.id = x.id) : y.phase = .ending := by
  unfold endTxn at hy
  have hmem := mem_txns_of_reapTxn hy
  rw [endTrkWith_regions, modTxn_eq_mapTxns, mapTxns_txns] at hmem
  obtain ⟨t, -, rfl⟩ := List.mem_map.mp hmem
  split
  next => rfl
  next hne =>
    rw [if_neg hne] at hid
    exact absurd hid hne

theorem holdWaitTimeout_effect {w : HoldWait} (hw : (s.ctl.chans[ch]).holdWaits.find? (fun w => w.id = id) = some w)
    (hx : findTxn s.ctl id = some (r, x)) (hbound : boundedWait s.ctl ch w.gran = true) (hseq : x.lsid = none) :
    ∃ t, exec (.holdWaitTimeout ch id) s = .next t ∧ (∀ y ∈ (t.ctl.regions[r]).coord.txns, y.id = id → y.phase = .ending) ∧ onlyLogic s t := by
  have hctl : holdWaitTimeout ch id s.ctl = endTxn r x 4 0 [] (bump (rIdx r 13) (bump (cIdx ch 37) s.ctl)) := by
    unfold holdWaitTimeout
    simp only [hw, hx, hbound, hseq]
    rfl
  refine ⟨{ s with ctl := holdWaitTimeout ch id s.ctl }, rfl, fun y hy hid => ?_, onlyLogic_ctl s _⟩
  rw [hctl] at hy
  exact endTxn_ends hy (hid.trans (id_of_findTxn hx).symm)

/-! ## The obligation -/

/-- Settles O25, clause by clause: PREPARE, COMMIT, the acceptance of a write while another key is not over, a release, and the hold wait
limit. -/
theorem prepareCommitRelease : Obligations.PrepareCommitRelease := by
  refine ⟨fun c id gran r x k s hx hk hs hchan => ?prepare, fun c id gran r x k s hx hk hs ha hchan => ?commit,
    fun w n l c ha hfail hx hl hgran hs => acceptTxn_effect ha hfail hx hl hgran hs,
    fun c id gran r x k s hx hk hrel hchan hphase => ?release,
    fun ch id w r x s hw hx hbound hseq => holdWaitTimeout_effect hw hx hbound hseq⟩
  case prepare => exact hchan ▸ prepare_effect hx hk hs
  case commit => exact hchan ▸ commit_effect hx hk hs ha
  case release => exact hchan ▸ holdRelease_effect hx hk hrel hphase

end Sys2Proof.Machine
end

section
/-! SUPPORT. The requests of a coordinator: TXN (R190), the packets of a locked sequence (R195, R196, R198, R199) and the end of its lease
(R200). -/

namespace Sys2Proof.Machine

open Sys2Proof

variable {c d e : Ctl} {r : Fin 4} {op id n : Nat} {h : ReqHdr} {q : LSeq} {x : Txn} {k : Key} {l : List Action} {keys : List Key}
  {s : State}

/-! ## A request of the coordinator enters the tracker (R92) -/

/-- Between `c` and `d` a request of the coordinator has entered: its tracker entry is the newest, and else only the ports, the grants of
the pool and the counters differ. -/
def EntersCoord (op : Nat) (h : ReqHdr) (c d : Ctl) : Prop :=
  d = { c with ports := d.ports, poolGrants := d.poolGrants, score := d.score
               trk := c.trk ++ [plainEntry op .coord h none c], nextId := c.nextId + 1 }

namespace EntersCoord

theorem of_same (hs : SameBehindPorts c d) : EntersCoord op h c (enterCoordTrk op h d).2 := by
  unfold EntersCoord
  rw [hs]
  rfl

theorem bump (he : EntersCoord op h c d) (i : Nat) : EntersCoord op h c (bump i d) := by
  unfold EntersCoord at *
  rw [bump_frame, he]

theorem regions (he : EntersCoord op h c d) : d.regions = c.regions := by rw [he]
theorem chans (he : EntersCoord op h c d) : d.chans = c.chans := by rw [he]
theorem pm (he : EntersCoord op h c d) : d.pm = c.pm := by rw [he]
theorem now (he : EntersCoord op h c d) : d.now = c.now := by rw [he]
theorem nextId (he : EntersCoord op h c d) : d.nextId = c.nextId + 1 := by rw [he]
theorem trk (he : EntersCoord op h c d) : d.trk = c.trk ++ [plainEntry op .coord h none c] := by rw [he]

end EntersCoord

theorem enterCoordTrk_id (hs : SameBehindPorts c d) : (enterCoordTrk op h d).1 = c.nextId := by
  rw [hs]
  rfl

/-! ## The actions of a packet are translated (R99, R103) -/

theorem countActions_enters (he : EntersCoord op h c d) (hecc : h.pmEcc = 0) : EntersCoord op h c (countActions h l d) := by
  have hbits (i : Nat) : bitsOf h.pmEcc i 2 = 0 := by simp [hecc, bitsOf]
  unfold countActions
  refine forEach_inv (EntersCoord op h c) _ _ (fun a b hb => ?_) d he
  rw [hbits, countXlate_clean]
  exact hb.bump _

theorem lostActions_clean (hecc : h.pmEcc = 0) : lostActions h l = false := by
  simp [lostActions, hecc, bitsOf]

theorem xlate_congr (hpm : d.pm = c.pm) (hpn g domain : Nat) (b : Bool) (lost : Nat) :
    xlate d hpn g domain b lost = xlate c hpn g domain b lost := by
  unfold xlate primaryAt moverOf mapBusy pmGet
  rw [hpm]

theorem translateActions_congr (hpm : d.pm = c.pm) (domain : Nat) (l : List Action) (keys : List Key) :
    translateActions d domain l keys = translateActions c domain l keys := by
  induction l generalizing keys with
  | nil => rfl
  | cons a t ih =>
    unfold translateActions
    rw [xlate_congr hpm]
    split
    next => rfl
    next => exact ih _

theorem mem_insertKey {k y : Key} {l : List Key} (hy : y ∈ insertKey k l) : y = k ∨ y ∈ l := by
  induction l with
  | nil => exact .inl (List.mem_singleton.mp hy)
  | cons a t ih =>
    unfold insertKey at hy
    split at hy
    next => exact List.mem_cons.mp hy
    next =>
      obtain rfl | ht := List.mem_cons.mp hy
      · exact .inr (List.mem_cons_self ..)
      · exact (ih ht).imp_right (List.mem_cons_of_mem a)

theorem addKey_idle {a : Action} {ppn : Nat} {b : Bool} (hidle : ∀ y ∈ keys, y.state = .idle) : ∀ y ∈ addKey keys a ppn b, y.state = .idle := by
  intro y hy
  unfold addKey at hy
  dsimp only at hy
  split at hy
  next =>
    obtain ⟨z, hz, rfl⟩ := List.mem_map.mp hy
    split <;> exact hidle z hz
  next =>
    obtain rfl | hmem := mem_insertKey hy
    · rfl
    · exact hidle y hmem

/-- The keys of translated actions have asked for nothing yet. -/
theorem translateActions_idle {domain : Nat} {acc : List Key} (hacc : ∀ y ∈ acc, y.state = .idle)
    (ht : translateActions c domain l acc = .ok keys) : ∀ y ∈ keys, y.state = .idle := by
  induction l generalizing acc with
  | nil =>
    injection ht with ht
    exact ht ▸ hacc
  | cons a t ih =>
    unfold translateActions at ht
    split at ht
    next => exact absurd ht (by simp)
    next => exact ih (addKey_idle hacc) ht

/-! ## TXN (R190) -/

/-- A key whose hold is asked for. -/
def requestedKey (now : Nat) (k : Key) : Key := { k with state := .requested, since := now }

/-- The transaction of a TXN that reaches its coordinator in the logic `c`. -/
def openedTxn (h : ReqHdr) (l : List Action) (keys : List Key) (c : Ctl) : Txn :=
  { id := c.nextId + 1, port := h.port, domain := h.domain, trk := c.nextId, age := c.now, lsid := none, epoch := c.pm.epoch
    actions := l, ordered := false, retries := 0, wounded := false, phase := .acquiring, keys := keys.map (requestedKey c.now) }

theorem enterTxn_translated (hs : SameBehindPorts c d) (hecc : h.pmEcc = 0) (hl : actionsOf h = some l)
    (ht : translateActions c h.domain l [] = .ok keys) :
    ∃ e, EntersCoord 0x28 h c e ∧
      enterTxn h d = issueCoord h.port (addTxn h.port (openedTxn h l keys c) { e with nextId := e.nextId + 1 }) := by
  have he := countActions_enters (l := l) (EntersCoord.of_same (op := 0x28) (h := h) hs) hecc
  refine ⟨countActions h l (enterCoordTrk 0x28 h d).2, he, ?_⟩
  have hkeys := (translateActions_congr he.pm h.domain l []).trans ht
  unfold enterTxn
  simp only [hl, Option.getD_some, lostActions_clean hecc, Bool.false_eq_true, if_false, hkeys, he.nextId, he.now, he.pm, enterCoordTrk_id hs]
  rfl

theorem issueCoord_addTxn_chans : (issueCoord r (addTxn r x c)).chans = c.chans := by
  rw [issueCoord_frame]
  rfl

theorem issueCoord_addTxn_trk : (issueCoord r (addTxn r x c)).trk = c.trk := by
  rw [issueCoord_frame]
  rfl

theorem txn_effect (ha : admitted 0x28 h s) (hl : actionsOf h = some l) (ht : translateActions s.ctl h.domain l [] = .ok keys) :
    ∃ t, exec (.txn h) s = .next t ∧ t.ctl.trk = s.ctl.trk ++ [plainEntry 0x28 .coord h none s.ctl] ∧
      (∃ y, (t.ctl.regions[h.port]).coord.txns.getLast? = some y ∧
        (t.ctl.regions[h.port]).coord.txns.length = (s.ctl.regions[h.port]).coord.txns.length + 1 ∧
        y = { openedTxn h l keys s.ctl with keys := y.keys } ∧
        y.keys.map (fun k => { k with tracked := false }) =
          keys.map (fun k => { k with state := .requested, since := s.ctl.now, tracked := false })) ∧
      t.ctl.chans = s.ctl.chans ∧ onlyLogic s t := by
  have ⟨_, _, _, hecc⟩ := ha
  obtain ⟨e, he, henter⟩ := enterTxn_translated (admittedCtl_sameBehindPorts (op := 0x28)) hecc hl ht
  have hctl : request 0x28 h s.ctl = _ := (request_admitted ha).trans henter
  obtain ⟨y, hlast, hlength, hy, hkeys⟩ := issueCoord_addTxn (r := h.port) (x := openedTxn h l keys s.ctl)
    (c := { e with nextId := e.nextId + 1 }) (fun k hk => by obtain ⟨a, -, rfl⟩ := List.mem_map.mp hk; simp [requestedKey])
  refine ⟨{ s with ctl := request 0x28 h s.ctl }, rfl, ?_, ⟨y, ?_, ?_, hy, ?_⟩, ?_, onlyLogic_ctl s _⟩
  · rw [hctl, issueCoord_addTxn_trk]
    exact he.trk
  · rw [hctl, hlast]
  · rw [hctl, hlength]
    exact congrArg (fun g : Vector Region 4 => (g[h.port]).coord.txns.length + 1) he.regions
  · rw [hkeys]
    exact List.map_map
  · rw [hctl, issueCoord_addTxn_chans]
    exact he.chans

/-! ## LSEQ_BEGIN (R195) -/

/-- The sequence that an LSEQ_BEGIN opens in the logic `c`. -/
def openedSeq (h : ReqHdr) (c : Ctl) : LSeq :=
  { id := c.nextId + 1, port := h.port, lsid := lsidOf h, domain := h.domain
    lease := if bitsOf h.param.toNat 16 13 = 0 then 64 else bitsOf h.param.toNat 16 13, state := .openSeq, actions := 0 }

theorem seqOf_congr (hr : d.regions = c.regions) (w p : Fin 4) (lsid : Nat) : seqOf d w p lsid = seqOf c w p lsid := by
  unfold seqOf
  rw [hr]

theorem lseqBegin_opens (hs : SameBehindPorts c d) (hq : seqOf c h.port h.port (lsidOf h) = none)
    (hroom : (c.regions[h.port]).coord.seqs.length < 64) :
    ∃ e, EntersCoord 0x30 h c e ∧ lseqBegin h d = endTrk c.nextId 0
      (modRegion h.port (fun g => { g with coord := { g.coord with seqs := g.coord.seqs ++ [openedSeq h c] } })
        { e with nextId := e.nextId + 1 }) := by
  have he : EntersCoord 0x30 h c (enterCoordTrk 0x30 h d).2 := .of_same hs
  refine ⟨_, he, ?_⟩
  have hlength : ¬ 64 ≤ ((enterCoordTrk 0x30 h d).2.regions[h.port]).coord.seqs.length := by
    rw [he.regions]
    omega
  unfold lseqBegin
  simp only [seqOf_congr he.regions, hq, Option.isSome_none, Bool.false_eq_true, if_false, hlength, enterCoordTrk_id hs, he.nextId]
  rfl

theorem lseqBegin_effect (ha : admitted 0x30 h s) (hq : seqOf s.ctl h.port h.port (lsidOf h) = none)
    (hroom : (s.ctl.regions[h.port]).coord.seqs.length < 64) :
    ∃ t, exec (.lseqBegin h) s = .next t ∧
      (t.ctl.regions[h.port]).coord.seqs = (s.ctl.regions[h.port]).coord.seqs ++ [openedSeq h s.ctl] ∧
      t.ctl.chans = s.ctl.chans ∧ onlyLogic s t := by
  obtain ⟨e, he, hopens⟩ := lseqBegin_opens (admittedCtl_sameBehindPorts (op := 0x30)) hq hroom
  have hctl : request 0x30 h s.ctl = _ := (request_admitted ha).trans hopens
  refine ⟨{ s with ctl := request 0x30 h s.ctl }, rfl, ?_, ?_, onlyLogic_ctl s _⟩
  · rw [hctl, endTrk_regions, modRegion_self]
    exact congrArg (fun g : Vector Region 4 => (g[h.port]).coord.seqs ++ [openedSeq h s.ctl]) he.regions
  · rw [hctl, endTrk_chans]
    exact he.chans

/-! ## A packet of a sequence that works on none is taken up (R194) -/

theorem seqHolds_congr (hc : d.chans = c.chans) (n : Nat) : seqHolds d n = seqHolds c n := by
  unfold seqHolds
  rw [hc]

theorem lseqPacket_takenUp (hs : SameBehindPorts c d) (hq : seqOf c h.port h.port (lsidOf h) = some q) (hw : q.waiting = [])
    (hb : seqBusy c h.port q = false) : lseqPacket op h d = takeUp h.port op h c.nextId (enterCoordTrk op h d).2 := by
  have he : EntersCoord op h c (enterCoordTrk op h d).2 := .of_same hs
  have hbusy : seqBusy (enterCoordTrk op h d).2 h.port q = false := by
    unfold seqBusy at hb ⊢
    rwa [he.regions]
  unfold lseqPacket
  simp only [seqOf_congr he.regions, hq, hbusy, hw, List.isEmpty_nil, Bool.not_true, Bool.or_self, Bool.false_eq_true, if_false,
    enterCoordTrk_id hs]

/-- A packet of a sequence that reaches its coordinator while the sequence works on none. -/
theorem request_lseq (ha : admitted op h s) (hop : op = 0x31 ∨ op = 0x32 ∨ op = 0x33) (hq : seqOf s.ctl h.port h.port (lsidOf h) = some q)
    (hw : q.waiting = []) (hb : seqBusy s.ctl h.port q = false) :
    ∃ e, EntersCoord op h s.ctl e ∧ seqOf e h.port h.port (lsidOf h) = some q ∧
      request op h s.ctl = takeUp h.port op h s.ctl.nextId e := by
  have hsame : SameBehindPorts s.ctl (admittedCtl op h s.ctl) := admittedCtl_sameBehindPorts
  have he := EntersCoord.of_same (op := op) (h := h) hsame
  have hdispatch : request op h s.ctl = lseqPacket op h (admittedCtl op h s.ctl) := by
    rw [request_admitted ha]
    rcases hop with rfl | rfl | rfl <;> rfl
  exact ⟨_, he, (seqOf_congr he.regions _ _ _).trans hq, hdispatch.trans (lseqPacket_takenUp hsame hq hw hb)⟩

theorem takeUp_found (hq : seqOf c r h.port (lsidOf h) = some q) : takeUp r op h n c =
    if op = 0x31 then takeStage r q h n c else if op = 0x32 then takeCommit r q n c else if op = 0x33 then takeAbort r q n c
    else doomSeq r q c := by
  unfold takeUp
  rw [hq]

/-! ## LSEQ_STAGE (R196) -/

/-- The stage of a sequence that is taken up in the logic `c`, with the keys `keys`. -/
def openedStage (q : LSeq) (l : List Action) (keys : List Key) (c : Ctl) : Txn :=
  { id := c.nextId + 1, port := q.port, domain := q.domain, trk := c.nextId, age := c.now, lsid := some q.id, epoch := c.pm.epoch
    actions := l, ordered := true, retries := 0, wounded := false, phase := .acquiring, keys := keys }

/-- The actions of a packet are counted for its sequence. -/
def countedSeq (n : Nat) (q : LSeq) : LSeq := { q with actions := q.actions + n }

theorem takeStage_asks {rest : List Key} (he : EntersCoord op h c d) (hecc : h.pmEcc = 0) (hopen : q.state = .openSeq) (hl : actionsOf h = some l)
    (hdomain : q.domain = h.domain) (hcount : q.actions + l.length ≤ 64) (hholds : seqHolds c q.id = [])
    (ht : translateActions c h.domain l [] = .ok (k :: rest)) (hidle : k.state = .idle) :
    ∃ e, EntersCoord op h c e ∧ takeStage r q h c.nextId d =
      issueCoord r (addTxn r (openedStage q l (requestedKey c.now k :: rest) c)
        (modSeq r q.id (countedSeq l.length) { e with nextId := e.nextId + 1 })) := by
  have he' := countActions_enters (l := l) he hecc
  have hkeys := (translateActions_congr he'.pm q.domain l []).trans (hdomain ▸ ht)
  have hnone : seqHolds (countActions h l d) q.id = [] := (seqHolds_congr he'.chans _).trans hholds
  have hmost : ¬ 64 < q.actions + l.length := by omega
  refine ⟨countActions h l d, he', ?_⟩
  unfold takeStage
  simp only [hopen, hl, hmost, ↓reduceIte, hdomain.symm, ne_eq, not_true_eq_false, lostActions_clean hecc, Bool.false_eq_true, hkeys,
    he'.now, hnone, List.map_nil, List.contains_eq_mem, List.not_mem_nil, decide_false, List.map_cons, List.map_id_fun', id_eq,
    askNext, hidle, List.all_cons, reduceCtorEq, Bool.false_and, he'.nextId, he'.pm]
  rfl

theorem lseqStage_effect {rest : List Key} (ha : admitted 0x31 h s) (hq : seqOf s.ctl h.port h.port (lsidOf h) = some q)
    (hopen : q.state = .openSeq) (hw : q.waiting = []) (hb : seqBusy s.ctl h.port q = false) (hl : actionsOf h = some l)
    (hdomain : q.domain = h.domain) (hcount : q.actions + l.length ≤ 64) (hholds : seqHolds s.ctl q.id = [])
    (ht : translateActions s.ctl h.domain l [] = .ok (k :: rest)) (hidle : k.state = .idle) :
    ∃ t, exec (.lseqStage h) s = .next t ∧
      (∃ y, (t.ctl.regions[h.port]).coord.txns.getLast? = some y ∧
        (t.ctl.regions[h.port]).coord.txns.length = (s.ctl.regions[h.port]).coord.txns.length + 1 ∧
        y = openedStage q l y.keys s.ctl ∧
        y.keys.map (fun k => { k with tracked := false }) = (requestedKey s.ctl.now k :: rest).map (fun k => { k with tracked := false })) ∧
      t.ctl.chans = s.ctl.chans ∧ onlyLogic s t := by
  have ⟨_, _, _, hecc⟩ := ha
  obtain ⟨d, hd, hfound, htake⟩ := request_lseq ha (.inl rfl) hq hw hb
  obtain ⟨e, he, hstage⟩ := takeStage_asks (r := h.port) hd hecc hopen hl hdomain hcount hholds ht hidle
  have hctl : request 0x31 h s.ctl = _ := htake.trans ((takeUp_found hfound).trans hstage)
  have hrest : ∀ y ∈ requestedKey s.ctl.now k :: rest, y.state ≠ .granted := by
    have hall := translateActions_idle (acc := []) (by simp) ht
    intro y hy
    obtain rfl | hmem := List.mem_cons.mp hy
    · simp [requestedKey]
    · simp [hall y (List.mem_cons_of_mem k hmem)]
  obtain ⟨y, hlast, hlength, hy, hkeys⟩ := issueCoord_addTxn (r := h.port) (x := openedStage q l (requestedKey s.ctl.now k :: rest) s.ctl)
    (c := modSeq h.port q.id (countedSeq l.length) { e with nextId := e.nextId + 1 }) hrest
  refine ⟨{ s with ctl := request 0x31 h s.ctl }, rfl, ⟨y, ?_, ?_, hy, hkeys⟩, ?_, onlyLogic_ctl s _⟩
  · rw [hctl, hlast]
  · rw [hctl, hlength]
    unfold modSeq
    rw [modRegion_self]
    exact congrArg (fun g : Vector Region 4 => (g[h.port]).coord.txns.length + 1) he.regions
  · rw [hctl, issueCoord_addTxn_chans]
    exact he.chans

/-! ## LSEQ_COMMIT (R198) -/

/-- The commit record of a transaction joins the log. -/
def logCommit (r : Fin 4) (t : Txn) : Ctl → Ctl :=
  modRegion r fun g => { g with coord := { g.coord with log := g.coord.log ++ [{ id := t.id, writes := txnWrites t }] } }

/-- At the commit point of a transaction that writes, its record joins the log, and else the coordinators change in that transaction
alone. -/
theorem commitNow_regions (hwrites : txnWrites x ≠ []) : ∃ f, (commitNow r x c).regions = (modTxn r x.id f (logCommit r x c)).regions := by
  have hsome : ¬ (txnWrites x).isEmpty = true := by simpa using hwrites
  unfold commitNow
  extract_lets w c1 c2 settle c3 c4
  have h1 : c1 = logCommit r x c := if_neg hsome
  have h3 : c3.regions = c2.regions := by
    unfold c3
    split <;> rfl
  have h4 : c4.regions = c3.regions := by
    unfold c4
    split <;> rw [endTrkWith_regions, bump_regions]
  rw [if_neg hsome, h4, h3, ← h1]
  exact ⟨_, rfl⟩

theorem tryCommit_room (hroom : (c.regions[r]).coord.log.length < 128) : tryCommit r x c = commitNow r x c := by
  have hless : ¬ 128 ≤ (c.regions[r]).coord.log.length := by omega
  unfold tryCommit
  simp [-Fin.getElem_fin, hless]

/-- The holds with a staged value of a sequence. -/
def stagedHolds (c : Ctl) (n : Nat) : List Hold := (seqHolds c n).filter fun x => x.stage.isSome

/-- A sequence that commits. -/
def committingSeq (q : LSeq) : LSeq := { q with state := .committing }

/-- The COMMIT of an open sequence is a transaction of its staged values, which is tried to commit at once. -/
theorem takeCommit_open (hopen : q.state = .openSeq) :
    ∃ t b, takeCommit r q n c = tryCommit r t (addTxn r t (modSeq r q.id committingSeq b)) ∧ b.regions = c.regions ∧ t.id = c.nextId ∧
      txnWrites t = (stagedHolds c q.id).map fun x => (x.gran, x.stage.getD 0) := by
  unfold takeCommit
  simp only [hopen]
  refine ⟨_, _, rfl, rfl, rfl, ?_⟩
  unfold txnWrites
  simp [List.filterMap_map, stagedHolds]

theorem addTxn_log : ((addTxn r x c).regions[r]).coord.log = (c.regions[r]).coord.log := by
  unfold addTxn
  rw [modRegion_self]

theorem addTxn_seqs : ((addTxn r x c).regions[r]).coord.seqs = (c.regions[r]).coord.seqs := by
  unfold addTxn
  rw [modRegion_self]

theorem modSeq_log (f : LSeq → LSeq) : ((modSeq r id f c).regions[r]).coord.log = (c.regions[r]).coord.log := by
  unfold modSeq
  rw [modRegion_self]

theorem modSeq_seqs (f : LSeq → LSeq) : ((modSeq r id f c).regions[r]).coord.seqs = mapIf (fun y => y.id = id) f (c.regions[r]).coord.seqs := by
  unfold modSeq
  rw [modRegion_self]

theorem commitNow_coord (hwrites : txnWrites x ≠ []) :
    ((commitNow r x c).regions[r]).coord.log = (c.regions[r]).coord.log ++ [{ id := x.id, writes := txnWrites x }] ∧
      ((commitNow r x c).regions[r]).coord.seqs = (c.regions[r]).coord.seqs := by
  obtain ⟨f, hf⟩ := commitNow_regions (r := r) (c := c) hwrites
  unfold modTxn logCommit at hf
  rw [hf, modRegion_self, modRegion_self]
  exact ⟨rfl, rfl⟩

theorem lseqCommit_effect (ha : admitted 0x32 h s) (hq : seqOf s.ctl h.port h.port (lsidOf h) = some q) (hopen : q.state = .openSeq)
    (hw : q.waiting = []) (hb : seqBusy s.ctl h.port q = false) (hstaged : stagedHolds s.ctl q.id ≠ [])
    (hroom : (s.ctl.regions[h.port]).coord.log.length < 128) :
    ∃ t, exec (.lseqCommit h) s = .next t ∧
      (t.ctl.regions[h.port]).coord.log = (s.ctl.regions[h.port]).coord.log ++
        [{ id := s.ctl.nextId + 1, writes := (stagedHolds s.ctl q.id).map fun x => (x.gran, x.stage.getD 0) }] ∧
      (∀ y ∈ (t.ctl.regions[h.port]).coord.seqs, y.id = q.id → y.state = .committing) ∧ onlyLogic s t := by
  obtain ⟨d, hd, hfound, htake⟩ := request_lseq ha (.inr (.inl rfl)) hq hw hb
  obtain ⟨x, b, hcommit, hregions, hid, hwrites⟩ := takeCommit_open (r := h.port) (n := s.ctl.nextId) (c := d) hopen
  have hholds : stagedHolds d q.id = stagedHolds s.ctl q.id := by
    unfold stagedHolds
    rw [seqHolds_congr hd.chans]
  rw [hholds] at hwrites
  have hlog : ((addTxn h.port x (modSeq h.port q.id committingSeq b)).regions[h.port]).coord.log = (s.ctl.regions[h.port]).coord.log := by
    rw [addTxn_log, modSeq_log, hregions, hd.regions]
  have hnow := tryCommit_room (x := x) (hlog ▸ hroom)
  have hctl : request 0x32 h s.ctl = _ := htake.trans ((takeUp_found hfound).trans (hcommit.trans hnow))
  obtain ⟨hlogged, hseqs⟩ := commitNow_coord (r := h.port) (c := addTxn h.port x (modSeq h.port q.id committingSeq b))
    (by rw [hwrites]; simpa using hstaged)
  refine ⟨{ s with ctl := request 0x32 h s.ctl }, rfl, ?_, ?_, onlyLogic_ctl s _⟩
  · rw [hctl, hlogged, hlog, hid, hd.nextId, hwrites]
  · rw [hctl, hseqs, addTxn_seqs, modSeq_seqs]
    intro y hy hyid
    obtain ⟨z, -, rfl⟩ := List.mem_map.mp hy
    split
    next => rfl
    next hne =>
      rw [if_neg hne] at hyid
      simp [hyid] at hne

/-! ## LSEQ_ABORT (R199) and the end of a lease (R200) -/

/-- No channel holds an entry of an identifier. -/
def Unheld (n : Nat) (c : Ctl) : Prop := ∀ ch : Fin 32, ∀ y ∈ (c.chans[ch]).holds, y.id ≠ n

theorem dropHolds_holds (ch : Fin 32) : ((dropHolds n c).chans[ch]).holds = (c.chans[ch]).holds.filter fun y => y.id ≠ n := by
  simp [dropHolds]

theorem dropHolds_unheld : Unheld n (dropHolds n c) := by
  intro ch y hy
  rw [dropHolds_holds] at hy
  simpa using List.of_mem_filter hy

theorem Unheld.dropHolds (hc : Unheld n c) (m : Nat) : Unheld n (dropHolds m c) := by
  intro ch y hy
  rw [dropHolds_holds] at hy
  exact hc ch y (List.mem_of_mem_filter hy)

theorem Unheld.endTrk (hc : Unheld n c) (m st : Nat) : Unheld n (endTrk m st c) := by
  unfold Unheld
  rwa [endTrk_chans]

theorem takeAbort_frees (hstate : q.state ≠ .committing) : takeAbort r q n c = endTrk n 0 (freeSeq r q.id (dropHolds q.id c)) := by
  unfold takeAbort
  split
  next hc => exact absurd hc hstate
  next => rfl

theorem lseqAbort_effect (ha : admitted 0x33 h s) (hq : seqOf s.ctl h.port h.port (lsidOf h) = some q) (hstate : q.state ≠ .committing)
    (hw : q.waiting = []) (hb : seqBusy s.ctl h.port q = false) :
    ∃ t, exec (.lseqAbort h) s = .next t ∧
      (t.ctl.regions[h.port]).coord.seqs = (s.ctl.regions[h.port]).coord.seqs.filter (fun y => y.id ≠ q.id) ∧
      Unheld q.id t.ctl ∧ onlyLogic s t := by
  obtain ⟨d, hd, hfound, htake⟩ := request_lseq ha (.inr (.inr rfl)) hq hw hb
  have hctl : request 0x33 h s.ctl = _ := htake.trans ((takeUp_found hfound).trans (takeAbort_frees hstate))
  refine ⟨{ s with ctl := request 0x33 h s.ctl }, rfl, ?_, ?_, onlyLogic_ctl s _⟩
  · rw [hctl, endTrk_regions]
    unfold freeSeq
    rw [modRegion_self]
    exact congrArg (fun g : Vector Region 4 => (g[h.port]).coord.seqs.filter fun y => y.id ≠ q.id) hd.regions
  · rw [hctl]
    exact Unheld.endTrk (c := freeSeq h.port q.id (dropHolds q.id d)) dropHolds_unheld _ _

/-- A sequence that ends without its COMMIT leaves its coordinator, and no hold of it is left. -/
theorem endSeq_frees (st : Nat) :
    ((endSeq r q st c).regions[r]).coord.seqs = (c.regions[r]).coord.seqs.filter (fun y => y.id ≠ q.id) ∧ Unheld q.id (endSeq r q st c) := by
  unfold endSeq
  extract_lets c1 stages c2 c3
  have hseqs : (c2.regions[r]).coord.seqs = (c.regions[r]).coord.seqs.filter (fun y => y.id ≠ q.id) := by
    unfold c2
    rw [modRegion_self]
    show (c1.regions[r]).coord.seqs.filter _ = _
    have hregions : c1.regions = c.regions := by
      unfold c1
      split
      · rfl
      · exact bump_regions _
    rw [hregions]
  have h3 : Unheld q.id c3 := forEach_inv (Unheld q.id) _ _ (fun _ _ hb => (hb.dropHolds _).endTrk _ _) c2 dropHolds_unheld
  have hregions3 : c3.regions = c2.regions :=
    forEach_keeps Ctl.regions stages (fun t c => endTrk t.trk st (dropHolds t.id c)) (fun _ _ => endTrk_regions _ _) c2
  refine ⟨?_, forEach_inv (Unheld q.id) _ _ (fun _ _ hb => hb.endTrk _ _) c3 h3⟩
  rw [forEach_keeps Ctl.regions _ _ (fun _ _ => endTrk_regions _ _) c3, hregions3, hseqs]

theorem leaseExpiry_effect {p : Fin 4} {lsid : Nat} (hq : seqOf s.ctl r p lsid = some q) (hstate : q.state ≠ .committing) (hlease : q.lease = 0) :
    ∃ t, exec (.leaseExpiry r p lsid) s = .next t ∧
      (t.ctl.regions[r]).coord.seqs = (s.ctl.regions[r]).coord.seqs.filter (fun y => y.id ≠ q.id) ∧ Unheld q.id t.ctl ∧ onlyLogic s t := by
  have hctl : leaseExpiry r p lsid s.ctl = endSeq r q 6 s.ctl := by
    unfold leaseExpiry
    simp [hq, hstate, hlease]
  obtain ⟨hseqs, hheld⟩ := endSeq_frees (r := r) (q := q) (c := s.ctl) 6
  exact ⟨{ s with ctl := leaseExpiry r p lsid s.ctl }, rfl, hctl ▸ hseqs, hctl ▸ hheld, onlyLogic_ctl s _⟩

/-! ## The obligation -/

/-- Settles O23, clause by clause: TXN, the four packets of a locked sequence, and the end of its lease. -/
theorem coordinatorRequests : Obligations.CoordinatorRequests :=
  ⟨fun _ _ _ _ ha hl ht => txn_effect ha hl ht, fun _ _ ha hq hroom => lseqBegin_effect ha hq hroom,
    fun _ _ _ _ _ _ ha hq hopen hw hb hl hdomain hcount hholds ht hidle =>
      lseqStage_effect ha hq hopen hw hb hl hdomain hcount hholds ht hidle,
    fun _ _ _ ha hq hopen hw hb hstaged hroom => lseqCommit_effect ha hq hopen hw hb hstaged hroom,
    fun _ _ _ ha hq hstate hw hb => lseqAbort_effect ha hq hstate hw hb,
    fun _ _ _ _ _ hq hstate hlease => leaseExpiry_effect hq hstate hlease⟩

end Sys2Proof.Machine
end

section
/-! SUPPORT. The commands that do not store (R102, R218, R220, R234, R418): what they change is the logic alone. -/

namespace Sys2Proof.Machine

open Sys2Proof

variable {s t : State}

/-- An outcome that changes the logic alone keeps DRAM. -/
theorem dram_of_logic_outcome {d : Ctl} (h : (.next { s with ctl := d } : Host.Outcome State Fault Refusal) = .next t) : t.dram = s.dram :=
  (congrArg State.dram (Host.Outcome.next.inj h)).symm

/-- Settles O50, by the command: one that stores is excluded, and every other one's outcome changes the logic alone. -/
theorem onlyStorersChangeDram : Obligations.OnlyStorersChangeDram := by
  intro i s t hi h
  cases i
  case powerOn | brownout | resetNAssert | refclkPresent | thermalRestart | arbiterDecision | trackerAllocate | windowWorkStart | istStep |
      atomicWriteback | hkConversion | eraseComplete | zeroizeComplete | bistComplete | maintAbort | fwActivate | lifecycleTransition |
      resetWarm => exact Bool.noConfusion hi
  all_goals exact dram_of_logic_outcome h

end Sys2Proof.Machine
end

section
/-! SUPPORT. What a command of one channel controller leaves alone: everything but that controller and the counters; and the ranks of a slice
index. -/

namespace Sys2Proof.Machine

open Sys2Proof

/-- Of the logic only one channel controller and the counters differ: `onlyChan` without DRAM and the waiting commands. -/
def OnlyChanOf (ch : Fin 32) (c d : Ctl) : Prop := d = { c with chans := c.chans.set ch d.chans[ch], score := d.score }

namespace OnlyChanOf

variable {ch : Fin 32} {c d e : Ctl}

theorem of_eq {x : Chan} (h : d = { c with chans := c.chans.set ch x, score := d.score }) : OnlyChanOf ch c d := by
  have hx : d.chans[ch] = x := by rw [h]; simp
  unfold OnlyChanOf
  rw [hx]
  exact h

/-- An operation outside the channel controllers. -/
theorem of_chans (h : d = { c with score := d.score }) : OnlyChanOf ch c d :=
  of_eq (x := c.chans[ch]) (by simp only [Fin.getElem_fin, Vector.set_getElem_self]; exact h)

theorem refl (ch : Fin 32) (c : Ctl) : OnlyChanOf ch c c := of_chans rfl

theorem trans (h : OnlyChanOf ch c d) (k : OnlyChanOf ch d e) : OnlyChanOf ch c e := by
  refine of_eq (x := e.chans[ch]) ?_
  have hchans : d.chans.set ch e.chans[ch] = c.chans.set ch e.chans[ch] := by rw [h]; simp
  unfold OnlyChanOf at k
  rw [hchans] at k
  exact k.trans (by rw [h])

theorem modChan (ch : Fin 32) (f : Chan → Chan) (c : Ctl) : OnlyChanOf ch c (modChan ch f c) := of_eq rfl

theorem bumpBy (i n : Nat) : OnlyChanOf ch c (bumpBy i n c) := of_chans (bumpBy_frame i n)
theorem bump (i : Nat) : OnlyChanOf ch c (bump i c) := bumpBy i 1
theorem bumpMax (i v : Nat) : OnlyChanOf ch c (bumpMax i v c) := of_chans (bumpMax_frame i v)

/-- The statement's own form, for a command that changes the logic alone. -/
theorem onlyChan {s : State} (h : OnlyChanOf ch s.ctl d) : onlyChan ch s { s with ctl := d } := ⟨onlyLogic_ctl s d, h⟩

end OnlyChanOf

/-- A command that is one change of a channel controller. -/
theorem onlyChan_modChan (ch : Fin 32) (f : Chan → Chan) (s : State) : onlyChan ch s { s with ctl := modChan ch f s.ctl } :=
  (OnlyChanOf.modChan ch f s.ctl).onlyChan

/-! ## Ranks of a channel -/

theorem sliceRank_lt (n : Fin 136) : sliceRank n.val < 5 := by
  unfold sliceRank
  split <;> omega

/-- A rank's entry of one of a channel's tables, after it is written. -/
theorem getD_set_rank {α : Type} (v : Vector α 5) (n : Fin 136) (x d : α) :
    (v.set! (sliceRank n.val) x).toList.getD (sliceRank n.val) d = x := by
  simp [List.getD_eq_getElem?_getD, sliceRank_lt n]

/-- A rank's bit, once set. -/
theorem getLsbD_or_rank (b : BitVec 5) (n : Fin 136) : (b ||| BitVec.ofNat 5 (2 ^ sliceRank n.val)).getLsbD (sliceRank n.val) = true := by
  have hrank := sliceRank_lt n
  generalize sliceRank n.val = k at hrank
  interval_cases k <;> simp

end Sys2Proof.Machine
end

section
/-! SUPPORT. Command-bus parity (R236), soft row repair (R234), CH.ENABLE (R237, R444), CH.SLICE_DRAIN (R310) and the clear of the row-error
trackers (R283). -/

namespace Sys2Proof.Machine

open Sys2Proof

variable {c : Ctl} {ch : Fin 32} {s : State}

/-! ## Command-bus parity (R235, R236) -/

/-- The first parity error of a command on a slice, with none within a millisecond before it: the slice's commands run again from the failed
one, and the error is remembered. -/
theorem caParityError_first {rank : Nat} {f : CaFailure} (hrepeated : f.repeated = false) (hrank : (chanRanks ch).contains rank = true)
    (hfailed : (c.chans[ch]).sliceFailed.getLsbD rank = false) (hrecent : (c.chans[ch]).caRecent = []) :
    caParityError ch rank f c = raiseEvent 0x41 6 (sliceOf ch rank) 0 (rerunSlice ch rank f.pc.val f.seq
      (modChan ch (fun x => { x with caRepeats := x.caRepeats.set! rank 0, caRecent := [(rank, c.now)] })
        (caIgnore ch rank (some f.seq) (bump (cIdx ch 26) c)))) := by
  unfold caParityError
  rw [hrank, hfailed, hrecent, hrepeated]
  have hnow : (caIgnore ch rank (some f.seq) (bump (cIdx ch 26) c)).now = c.now := by simp [caIgnore]
  simp [hnow]

/-! ## Soft row repair (R234) -/

/-- No row waits for a repair after an event of class 0 when none waited before. -/
theorem nextSrr_raiseEvent_plain {code st idx detail : Nat} (hclass : eventClass code = 0) (hwaits : (c.chans[ch]).srrWaits = []) :
    nextSrr ch (raiseEvent code st idx detail c) = raiseEvent code st idx detail c := by
  unfold nextSrr
  rw [raiseEvent_plain_chans hclass, hwaits]

/-- The bank of the repair in progress. -/
def srrBankKey (x : Chan) : Nat := x.srrRank * 32 + x.srrBank * 2 + x.srrPc

/-- The channel controller when its repair has redirected the row to a spare row. -/
def srrRepaired (x : Chan) : Chan :=
  let k := srrBankKey x
  bankPut k { bankGet x k with repaired := (bankGet x k).repaired ++ [x.srrRow], openRow := none }
    { x with srrStatus := 2
             rowErrs := rowErrDrop (fun r => r = x.srrRank * 1048576 + x.srrPc * 524288 + x.srrBank * 32768 + x.srrRow) x.rowErrs }

theorem softRowRepairDone_noSpare (hready : srrReady c.chans[ch] = true) (hwaits : (c.chans[ch]).srrWaits = [])
    (hspare : 2 ≤ (bankGet c.chans[ch] (srrBankKey c.chans[ch])).repaired.length) :
    softRowRepairDone ch c = raiseEvent 0x03 6 (sliceOf ch (c.chans[ch]).srrRank) 0 (modChan ch (fun x => { x with srrStatus := 3 }) c) := by
  have hrun : ¬ (!srrReady c.chans[ch]) = true := by rw [hready]; exact Bool.false_ne_true
  exact (if_neg hrun).trans ((if_pos hspare).trans (nextSrr_raiseEvent_plain rfl (by rw [modChan_self]; exact hwaits)))

theorem softRowRepairDone_spare (hready : srrReady c.chans[ch] = true) (hwaits : (c.chans[ch]).srrWaits = [])
    (hspare : (bankGet c.chans[ch] (srrBankKey c.chans[ch])).repaired.length < 2) :
    softRowRepairDone ch c =
      raiseEvent 0x02 6 (sliceOf ch (c.chans[ch]).srrRank) 0 (modChan ch (fun _ => srrRepaired c.chans[ch]) c) := by
  have hrun : ¬ (!srrReady c.chans[ch]) = true := by rw [hready]; exact Bool.false_ne_true
  exact (if_neg hrun).trans ((if_neg (Nat.not_le.mpr hspare)).trans (nextSrr_raiseEvent_plain rfl (by rw [modChan_self]; exact hwaits)))

theorem srrGo_idle (h : (c.chans[ch]).srrStatus ≠ 1) : srrGo ch c =
    modChan ch (fun x => { x with srrStatus := 1, srrSince := c.now, srrAccesses := 0, srrOut := [], srrBuf := [] }) c := if_neg h

/-! ## CH.ENABLE and CH.SLICE_DRAIN (R237, R310, R444) -/

/-- Every slice of a channel is drained or out of service. -/
def SlicesQuiet (ch : Fin 32) (c : Ctl) : Prop := ∀ k ∈ chanRanks ch, sliceDrained c ch k = true ∨ (c.chans[ch]).sliceOut.getLsbD k = true

theorem slicesQuiet_iff : ((chanRanks ch).all fun k => sliceDrained c ch k || (c.chans[ch]).sliceOut.getLsbD k) = true ↔ SlicesQuiet ch c := by
  simp only [List.all_eq_true, Bool.or_eq_true, SlicesQuiet]

theorem chEnableClear_taken (hon : (c.chans[ch]).enable = true) (hquiet : SlicesQuiet ch c) :
    chEnableClear ch c = modChan ch (fun x => { x with enable := false }) c := by
  unfold chEnableClear
  rw [hon, slicesQuiet_iff.mpr hquiet]
  rfl

theorem chEnableClear_rejected (hon : (c.chans[ch]).enable = true) (hquiet : ¬ SlicesQuiet ch c) :
    chEnableClear ch c = configReject (0x080000 + ch.val * 0x1000) c := by
  unfold chEnableClear
  rw [hon, Bool.not_true, if_neg Bool.false_ne_true, if_neg (mt slicesQuiet_iff.mp hquiet)]

theorem configReject_set (addr : Nat) : (configReject addr c).power.configReject = true := by
  unfold configReject
  simp only [modPower_power]
  split
  · assumption
  · rfl

/-- The ranks that CH.SLICE_DRAIN keeps: the spare rank 4 only where the channel has it (R442). -/
theorem sliceDrain_bits (bits : BitVec 5) (k : Nat) :
    (if ch.val % 4 = 0 then bits else bits &&& 15#5).getLsbD k = (bits.getLsbD k && (chanRanks ch).contains k) := by
  unfold chanRanks
  by_cases hk : k < 5
  · split <;> interval_cases k <;> simp
  · have hb : bits.getLsbD k = false := BitVec.getLsbD_of_ge bits k (by omega)
    split <;> simp [hb]

/-! ## The obligation -/

theorem caParityError_effect {rank : Fin 5} {f : CaFailure} (hrepeated : f.repeated = false) (hrank : (chanRanks ch).contains rank.val = true)
    (hfailed : (s.ctl.chans[ch]).sliceFailed.getLsbD rank.val = false) (hrecent : (s.ctl.chans[ch]).caRecent = []) :
    ∃ t, exec (.caParityError ch rank f) s = .next t ∧
      t.ctl = raiseEvent 0x41 6 (sliceOf ch rank.val) 0 (rerunSlice ch rank.val f.pc.val f.seq
        (modChan ch (fun x => { x with caRepeats := x.caRepeats.set! rank.val 0, caRecent := [(rank.val, s.ctl.now)] })
          (caIgnore ch rank.val (some f.seq) (bump (cIdx ch 26) s.ctl)))) ∧ onlyLogic s t :=
  ⟨_, rfl, caParityError_first hrepeated hrank hfailed hrecent, onlyLogic_ctl s _⟩

theorem chEnableClear_effect (hon : (s.ctl.chans[ch]).enable = true) :
    ∃ t, exec (.chEnableClear ch) s = .next t ∧
      (SlicesQuiet ch s.ctl → t.ctl.chans[ch] = { s.ctl.chans[ch] with enable := false } ∧ onlyChan ch s t) ∧
      (¬ SlicesQuiet ch s.ctl → t.ctl.power.configReject = true ∧ t.ctl = { s.ctl with power := t.ctl.power } ∧ onlyLogic s t) := by
  refine ⟨_, rfl, fun hquiet => ?taken, fun hquiet => ?rejected⟩
  case taken =>
    simp only [chEnableClear_taken hon hquiet]
    exact ⟨modChan_self _ _, onlyChan_modChan _ _ s⟩
  case rejected =>
    simp only [chEnableClear_rejected hon hquiet]
    exact ⟨configReject_set _, rfl, onlyLogic_ctl s _⟩

/-- Settles O32, register by register; both ends of a soft row repair raise an event of class 0, which starts no repair. -/
theorem channelRegisters : Obligations.ChannelRegisters := by
  refine ⟨fun ch rank f s hrepeated hrank hfailed hrecent => caParityError_effect hrepeated hrank hfailed hrecent,
    fun ch s hready hwaits => ⟨_, rfl, onlyLogic_ctl s _, fun hspare => softRowRepairDone_noSpare hready hwaits hspare,
      fun hspare => ⟨srrRepaired s.ctl.chans[ch], softRowRepairDone_spare hready hwaits hspare, rfl, rfl⟩⟩,
    fun ch s hidle => ?go,
    fun ch s => ⟨_, rfl, modChan_self _ _, onlyChan_modChan _ _ s⟩,
    fun ch s hon => chEnableClear_effect hon,
    fun ch bits s => ⟨_, rfl, fun k => ?drain, onlyChan_modChan _ _ s⟩,
    fun s => ⟨_, rfl, fun ch => ?tracker, rfl, onlyLogic_ctl s _⟩⟩
  case go =>
    refine ⟨{ s with ctl := srrGo ch s.ctl }, rfl, ?_⟩
    simp only [srrGo_idle hidle]
    exact ⟨modChan_self _ _, onlyChan_modChan _ _ s⟩
  case drain =>
    simp only [sliceDrain, modChan_self]
    exact sliceDrain_bits bits k
  case tracker => simp

end Sys2Proof.Machine
end

section
/-! SUPPORT. Delay taps and their apply points (R237, R238), the calibration of a unit (R315 to R317) and the phase step of a channel clock
(R322). -/

namespace Sys2Proof.Machine

open Sys2Proof

variable {c : Ctl} {ch : Fin 32} {s : State}

/-! ## Apply points (R238) -/

/-- The lanes of a channel whose pending taps can be applied now. -/
def readyTaps (ch : Fin 32) (c : Ctl) : List (Nat × Nat) := (c.chans[ch]).tapsPending.filter fun y => tapReady c ch y.1

/-- An apply point of a channel that applies at idle break points and calibrates nothing is one tap step of each lane that is ready. -/
theorem delayApplyPoint_idle (hidle : (c.chans[ch]).dlyApplyIdle = true) (hcal : (c.chans[ch]).cal = []) :
    delayApplyPoint ch c = modChan ch (fun x => { (readyTaps ch c).foldl (fun x y => tapStep y.1 y.2 x) x with
      tapsPending := x.tapsPending.filter fun y => !tapReady c ch y.1 }) c := by
  unfold delayApplyPoint
  dsimp only
  rw [hcal, hidle, Bool.or_true, if_pos rfl]
  rfl

/-! ## CH.DLY_TAP (R237) -/

/-- The lane that CH.DLY_SEL of a channel names. -/
def dlyLane (x : Chan) : Nat := selKey x.dlySel

/-- The tap of that lane. -/
def dlyTapNow (x : Chan) : Nat := tapGet x (dlyLane x)

variable {v : Nat}

/-- A host's write to CH.DLY_TAP for a lane that exists, with no calibration on its layer. -/
theorem dlyTapWrite_host (hv : v < 128) (hsel : selOk ch (c.chans[ch]).dlySel = true)
    (hcal : layerCalRuns c (selLayer (c.chans[ch]).dlySel) = false) : dlyTapWrite ch false v c =
    if (c.chans[ch]).enable = false then
      modChan ch (fun x => { tapPut (dlyLane c.chans[ch]) v x with tapsPending := x.tapsPending.filter fun y => y.1 ≠ dlyLane c.chans[ch] }) c
    else if v ≤ dlyTapNow c.chans[ch] + 1 ∧ dlyTapNow c.chans[ch] ≤ v + 1 then
      modChan ch (fun x => { x with
        tapsPending := x.tapsPending.filter (fun y => y.1 ≠ dlyLane c.chans[ch]) ++ [(dlyLane c.chans[ch], v)] }) c
    else bump (cIdx ch 27) c := by
  have hrange : ¬ 128 ≤ v := Nat.not_le.mpr hv
  unfold dlyTapWrite dlyTapNow dlyLane
  simp only [Bool.false_eq_true, if_false, hsel, hcal, hrange, Bool.not_true, Bool.not_false, Bool.and_false, or_self,
    Bool.not_eq_true', Bool.and_eq_true, decide_eq_true_eq, Bool.or_eq_true, decide_false]

theorem dlyTap_effect (hv : v < 128) (hsel : selOk ch (s.ctl.chans[ch]).dlySel = true)
    (hcal : layerCalRuns s.ctl (selLayer (s.ctl.chans[ch]).dlySel) = false) :
    ∃ t, exec (.dlyTap ch false v) s = .next t ∧ onlyChan ch s t ∧
      ((s.ctl.chans[ch]).enable = false → t.ctl.chans[ch] = { tapPut (dlyLane s.ctl.chans[ch]) v s.ctl.chans[ch] with
        tapsPending := (s.ctl.chans[ch]).tapsPending.filter fun y => y.1 ≠ dlyLane s.ctl.chans[ch] }) ∧
      ((s.ctl.chans[ch]).enable = true → v ≤ dlyTapNow s.ctl.chans[ch] + 1 → dlyTapNow s.ctl.chans[ch] ≤ v + 1 →
        (dlyLane s.ctl.chans[ch], v) ∈ (t.ctl.chans[ch]).tapsPending ∧ (t.ctl.chans[ch]).taps = (s.ctl.chans[ch]).taps) ∧
      ((s.ctl.chans[ch]).enable = true → (dlyTapNow s.ctl.chans[ch] + 1 < v ∨ v + 1 < dlyTapNow s.ctl.chans[ch]) →
        t.ctl.chans[ch] = s.ctl.chans[ch]) := by
  refine ⟨{ s with ctl := dlyTapWrite ch false v s.ctl }, rfl, ?_⟩
  have hctl := dlyTapWrite_host hv hsel hcal
  by_cases hstopped : (s.ctl.chans[ch]).enable = false
  case pos =>
    rw [if_pos hstopped] at hctl
    rw [hctl]
    exact ⟨onlyChan_modChan _ _ s, fun _ => modChan_self _ _, fun hon => absurd (hstopped.symm.trans hon) Bool.false_ne_true,
      fun hon => absurd (hstopped.symm.trans hon) Bool.false_ne_true⟩
  rw [if_neg hstopped] at hctl
  by_cases hnear : v ≤ dlyTapNow s.ctl.chans[ch] + 1 ∧ dlyTapNow s.ctl.chans[ch] ≤ v + 1
  case pos =>
    rw [if_pos hnear] at hctl
    rw [hctl]
    refine ⟨onlyChan_modChan _ _ s, fun h => absurd h hstopped, fun _ _ _ => ?_, fun _ hfar => by omega⟩
    rw [modChan_self]
    exact ⟨List.mem_append_right _ (List.mem_singleton_self _), rfl⟩
  case neg =>
    rw [if_neg hnear] at hctl
    rw [hctl]
    exact ⟨(OnlyChanOf.bump _).onlyChan, fun h => absurd h hstopped, fun _ h1 h2 => absurd ⟨h1, h2⟩ hnear, fun _ _ => by rw [bump_chans]⟩

/-! ## The histograms of a unit (R315 to R317) -/

/-- Whether the probes of a unit carry patterns does not show in its failing lanes. -/
theorem firstFailing_calPattern (x : Chan) (b : BitVec 5) (layer : Nat) (hist : List LaneHist) :
    firstFailing { x with calPattern := b } layer hist = firstFailing x layer hist := rfl

/-- The calibration unit that applies the centres of a complete set of histograms. -/
def acceptedUnit (slice : Nat) (hist : List LaneHist) (a : Activity) (c : Ctl) : CalUnit :=
  { rank := sliceRank slice, targets := unitTargets hist, activity := a.id, temp := layerTemp c (sliceLayer slice) }

/-- A unit whose histograms are complete, with the probes it needs and no failing lane, waits for its apply points. -/
theorem calUnitComplete_accepted {slice : Nat} {hist : List LaneHist} {a : Activity} (hgather : gathering c slice = some a)
    (hcomplete : histComplete hist = true)
    (hprobes : probeNeed c.chans[sliceChan slice] (sliceRank slice) ≤ probeSlots c.chans[sliceChan slice] (sliceRank slice) a.id)
    (hfail : firstFailing c.chans[sliceChan slice] (sliceLayer slice) hist = none) :
    calUnitComplete slice hist c =
      modChan (sliceChan slice) (fun x => { x with
        calRejectRun := x.calRejectRun.set! (sliceRank slice) 0, cal := x.cal ++ [acceptedUnit slice hist a c] })
        (modChan (sliceChan slice) (fun x => { x with calPattern := x.calPattern &&& ~~~BitVec.ofNat 5 (2 ^ sliceRank slice) }) c) := by
  have hready : ¬ (!histComplete hist || decide (probeSlots c.chans[sliceChan slice] (sliceRank slice) a.id <
      probeNeed c.chans[sliceChan slice] (sliceRank slice))) = true := by
    simpa only [hcomplete, Bool.not_true, Bool.false_or, decide_eq_true_eq, Nat.not_lt] using hprobes
  unfold calUnitComplete
  simp only [hgather, if_neg hready, modChan_self]
  rw [firstFailing_calPattern, hfail]
  rfl

theorem calPattern_gathering {slice : Nat} {a : Activity} (h : gathering c slice = some a) : calPattern slice c =
    modChan (sliceChan slice) (fun x => { x with calPattern := x.calPattern ||| BitVec.ofNat 5 (2 ^ sliceRank slice) }) c := by
  unfold calPattern
  rw [h]

/-! ## The obligation -/

/-- Settles O33, clause by clause: the idle apply point, the write of CH.DLY_TAP, the end and the fallback of a unit's gathering, and the
phase step. -/
theorem delayAndCalibration : Obligations.DelayAndCalibration := by
  refine ⟨fun ch s hidle hcal => ⟨{ s with ctl := delayApplyPoint ch s.ctl }, rfl, ?apply⟩,
    fun ch v s hv hsel hcal => dlyTap_effect hv hsel hcal,
    fun n hist a s hgather hcomplete hprobes hfail => ⟨{ s with ctl := calUnitComplete n.val hist s.ctl }, rfl, ?unit⟩,
    fun n a s hgather => ⟨{ s with ctl := calPattern n.val s.ctl }, rfl, ?fallback⟩,
    fun r s hawake => ⟨{ s with ctl := clkPhaseStep r s.ctl }, rfl, ?phase⟩⟩
  case apply =>
    simp only [delayApplyPoint_idle hidle hcal]
    refine ⟨by rw [modChan_self], ?_, onlyChan_modChan _ _ s⟩
    rw [modChan_self]
    rfl
  case unit =>
    simp only [calUnitComplete_accepted hgather hcomplete hprobes hfail]
    refine ⟨by simp only [modChan_self]; rfl, ?_, by simp only [modChan_self],
      ((OnlyChanOf.modChan _ _ s.ctl).trans (OnlyChanOf.modChan _ _ _)).onlyChan⟩
    simp only [modChan_self]
    exact getD_set_rank _ n _ _
  case fallback =>
    simp only [calPattern_gathering hgather]
    refine ⟨?_, onlyChan_modChan _ _ s⟩
    rw [modChan_self]
    exact getLsbD_or_rank _ n
  case phase =>
    have hctl : clkPhaseStep r s.ctl = modRegion r (fun x => { x with clkPhaseBeat := s.ctl.beat.number }) (bump (rIdx r 18) s.ctl) := by
      unfold clkPhaseStep
      rw [hawake]
      rfl
    simp only [hctl]
    refine ⟨by rw [modRegion_self, bump_regions], fun q hq => ?_, by simp, onlyLogic_ctl s _⟩
    rw [modRegion_other _ _ _ hq, bump_regions]

end Sys2Proof.Machine
end

section
/-! SUPPORT. Refresh ticks, the visits of SPREAD refresh, the deadline guard and targeted refresh (R224 to R227, R232). -/

namespace Sys2Proof.Machine

open Sys2Proof

variable {c : Ctl} {ch : Fin 32} {slice k : Nat} {s : State}

/-! ## One bank -/

@[simp] theorem addActs_chans (n : Nat) : (addActs slice n c).chans = c.chans := rfl
@[simp] theorem addActs_trk (n : Nat) : (addActs slice n c).trk = c.trk := rfl
@[simp] theorem addActs_ports (n : Nat) : (addActs slice n c).ports = c.ports := rfl
@[simp] theorem addActs_score (n : Nat) : (addActs slice n c).score = c.score := rfl

@[simp] theorem caIssue_banks (pc : Nat) (o : CaOp) (x : Chan) : (caIssue pc o x).banks = x.banks := rfl
@[simp] theorem caIssue_rotation (pc : Nat) (o : CaOp) (x : Chan) : (caIssue pc o x).rotation = x.rotation := rfl

/-- A bank that is ready is free at once. -/
theorem banksFree_of_ready (h : bankReady c ch k = true) : banksFree c ch [k] = c.now := by
  unfold bankReady at h
  simp only [Bool.and_eq_true, decide_eq_true_eq] at h
  exact Nat.max_eq_left h.2

/-- A channel controller when a REFpb has been issued to a bank that is ready (R225). -/
def refreshed (now k : Nat) (x : Chan) : Chan := caIssue (k % 2) (.refresh k) (blockBank (now + 160) k (payBank k x))

theorem refPb_ready (h : bankReady c (sliceChan slice) k = true) :
    refPb slice k c = modChan (sliceChan slice) (refreshed c.now k) (bump (cIdx (sliceChan slice) 1) (addActs slice 1 c)) := by
  unfold refPb
  dsimp only
  rw [banksFree_of_ready h]
  rfl

theorem refPb_chan (h : bankReady c (sliceChan slice) k = true) :
    (refPb slice k c).chans[sliceChan slice] = refreshed c.now k c.chans[sliceChan slice] := by
  rw [refPb_ready h, modChan_self, bump_chans, addActs_chans]

theorem refPb_trk : (refPb slice k c).trk = c.trk := by simp [refPb]
theorem refPb_ports : (refPb slice k c).ports = c.ports := by simp [refPb]

/-! ## Ticks (R224) -/

theorem windowWork_closed (h : (c.chans[ch]).windowRuns = false) : windowWork ch c = c := by
  unfold windowWork
  rw [h]
  rfl

/-- The ticks of some banks leave a channel's window as it is. -/
theorem foldl_tickBank_windowRuns (l : List Nat) (x : Chan) : (l.foldl (fun x k => tickBank k x) x).windowRuns = x.windowRuns := by
  induction l generalizing x with
  | nil => rfl
  | cons k t ih => exact ih (tickBank k x)

/-- A tick outside a window adds to the debts of the rank's banks, and to the longest debt seen. -/
theorem refreshTick_outside (hruns : refreshRuns c slice = true) (hwindow : (c.chans[sliceChan slice]).windowRuns = false) :
    ∃ v, refreshTick slice c = bumpMax (cIdx (sliceChan slice) 59) v
      (modChan (sliceChan slice) (fun x => (rankBanks (sliceRank slice)).foldl (fun x k => tickBank k x) x) c) := by
  unfold refreshTick
  rw [if_pos hruns]
  refine ⟨_, windowWork_closed ?_⟩
  rw [bumpMax_chans, modChan_self, foldl_tickBank_windowRuns, hwindow]

/-! ## Visits (R225) -/

theorem visitsDue_none (h : ∀ b ∈ (c.chans[ch]).banks, b.2.visitDue = false) : visitsDue ch c = c := by
  have hnone : ((c.chans[ch]).banks.filter fun b => b.2.visitDue) = [] :=
    List.filter_eq_nil_iff.mpr fun b hb => by rw [h b hb]; exact Bool.false_ne_true
  unfold visitsDue
  rw [hnone]
  rfl

/-- The place of a rank's rotation, and the bank whose turn it is. -/
def visitPos (slice : Nat) (c : Ctl) : Nat := (c.chans[sliceChan slice]).rotation.toList.getD (sliceRank slice) 0
def visitKey (slice : Nat) (c : Ctl) : Nat := sliceRank slice * 32 + visitPos slice c

/-- The bank whose turn it is, visited unless its debt is at its least. -/
def visited (slice : Nat) (c : Ctl) : Ctl :=
  if (bankGet c.chans[sliceChan slice] (visitKey slice c)).debt ≤ -8 then c else visitBank slice (visitKey slice c) c

/-- With no older visit due, a visit of SPREAD refresh is that of the bank whose turn it is; then the rotation goes on. -/
theorem spreadVisit_spread (hruns : refreshRuns c slice = true) (hmode : (c.chans[sliceChan slice]).refreshMode = false)
    (hdue : ∀ b ∈ (c.chans[sliceChan slice]).banks, b.2.visitDue = false) :
    spreadVisit slice c = modChan (sliceChan slice)
      (fun x => { x with rotation := x.rotation.set! (sliceRank slice) ((visitPos slice c + 1) % 32) }) (visited slice c) := by
  have hvisited : visited slice c =
      if (!false && decide (-8 < (bankGet c.chans[sliceChan slice] (visitKey slice c)).debt)) = true then visitBank slice (visitKey slice c) c
      else c := by
    unfold visited
    by_cases hdebt : (bankGet c.chans[sliceChan slice] (visitKey slice c)).debt ≤ -8
    · rw [if_pos hdebt, if_neg (by simpa using hdebt)]
    · rw [if_neg hdebt, if_pos (by simpa using hdebt)]
  unfold spreadVisit
  dsimp only
  rw [visitsDue_none hdue, if_pos hruns, hmode, hvisited]
  rfl

theorem visitBank_banks : ((visitBank slice k c).chans[sliceChan slice]).banks =
    if bankReady c (sliceChan slice) k then (blockBank (c.now + 160) k (payBank k c.chans[sliceChan slice])).banks
    else (bankPut k { bankGet c.chans[sliceChan slice] k with visitDue := true } c.chans[sliceChan slice]).banks := by
  unfold visitBank
  dsimp only
  split
  next hready => rw [refPb_chan hready]; rfl
  next => rw [modChan_self]

theorem visitBank_trk : (visitBank slice k c).trk = c.trk := by
  unfold visitBank
  dsimp only
  split
  · exact refPb_trk
  · rfl

theorem visitBank_ports : (visitBank slice k c).ports = c.ports := by
  unfold visitBank
  dsimp only
  split
  · exact refPb_ports
  · rfl

theorem visited_banks : ((visited slice c).chans[sliceChan slice]).banks =
    if (bankGet c.chans[sliceChan slice] (visitKey slice c)).debt ≤ -8 then (c.chans[sliceChan slice]).banks
    else ((visitBank slice (visitKey slice c) c).chans[sliceChan slice]).banks := by
  unfold visited
  split <;> rfl

theorem visited_trk : (visited slice c).trk = c.trk := by
  unfold visited
  split
  · rfl
  · exact visitBank_trk

theorem visited_ports : (visited slice c).ports = c.ports := by
  unfold visited
  split
  · rfl
  · exact visitBank_ports

/-! ## The deadline guard (R227) -/

theorem deadlineGuard_spread {bank : Nat} (hruns : refreshRuns c slice = true) (hmode : (c.chans[sliceChan slice]).refreshMode = false)
    (hdebt : 8 ≤ (bankGet c.chans[sliceChan slice] (sliceRank slice * 32 + bank)).debt)
    (hmust : mustDue c.chans[sliceChan slice] (sliceRank slice * 32 + bank) = false)
    (hready : bankReady c (sliceChan slice) (sliceRank slice * 32 + bank) = true) :
    deadlineGuard slice bank c =
      modChan (sliceChan slice) (fun x => bankPut (sliceRank slice * 32 + bank) { bankGet x (sliceRank slice * 32 + bank) with
          guardEnd := (bankGet x (sliceRank slice * 32 + bank)).busyUntil } x)
        (bump (cIdx (sliceChan slice) 2) (refPb slice (sliceRank slice * 32 + bank) c)) := by
  unfold deadlineGuard
  simp only [hruns, hmode, hdebt, hmust, hready, List.any_cons, List.any_nil, List.all_cons, List.all_nil, Bool.false_eq_true, if_false,
    decide_true, Bool.or_false, Bool.not_false, Bool.and_true, if_true, List.foldl_cons, List.foldl_nil]

theorem counterWidth_chan (ch : Fin 32) {n : Nat} (hn : n < 0x40) : counterWidth (cIdx ch n) = cWidths[n]? := by
  have hmod : (cIdx ch n - 0x1000) % 0x40 = n := by unfold cIdx; omega
  have hlow : ¬ cIdx ch n < 0x1000 := by unfold cIdx; omega
  have hhigh : cIdx ch n < 0x1800 := by unfold cIdx; omega
  unfold counterWidth
  rw [if_neg (by omega), if_neg (by omega), if_neg (by omega), if_neg (by omega), if_neg hlow, if_pos hhigh, hmod]

/-- A REFpb counts as one, and no other counter changes. -/
theorem scoreGet_refPb {i : Nat} (hi : i ≠ cIdx (sliceChan slice) 1) : scoreGet (refPb slice k c) i = scoreGet c i :=
  (scoreGet_bump_other hi : scoreGet (bump _ (addActs slice 1 c)) i = _)

/-! ## Targeted refresh (R232) -/

theorem trrIssue_must {r : Nat} (hready : bankReady c (sliceChan slice) k = true) :
    trrIssue slice k r true false c = modChan (sliceChan slice) (fun x =>
      caIssue (k % 2) (.targeted k) (bankPut k { bankGet x k with
        openRow := none, busyUntil := c.now + 100
        disturb := { (bankGet x k).disturb with pending := (bankGet x k).disturb.pending.filter fun y => y.1 ≠ r } } x))
      (bump (cIdx (sliceChan slice) 4) (bump (cIdx (sliceChan slice) 3) (addActs slice 1 c))) := by
  unfold trrIssue
  dsimp only
  rw [banksFree_of_ready hready]
  rfl

theorem targetedRefresh_must {bank row n : Nat} (hruns : refreshRuns c slice = true)
    (hrow : ((bankGet c.chans[sliceChan slice] (sliceRank slice * 32 + bank)).disturb.pending.find? fun x => x.1 = row) = some (row, n, true))
    (hready : bankReady c (sliceChan slice) (sliceRank slice * 32 + bank) = true) :
    targetedRefresh slice bank row c = trrIssue slice (sliceRank slice * 32 + bank) row true false c := by
  unfold targetedRefresh
  dsimp only
  rw [hruns, hrow]
  simp only [hready, Bool.not_true, Bool.false_eq_true, if_false, if_true]

/-! ## The obligation -/

/-- Settles O31, clause by clause: a tick, a visit, the guard and a targeted refresh at the must level. -/
theorem refreshCommands : Obligations.RefreshCommands := by
  refine ⟨fun n s hruns hwindow => ⟨{ s with ctl := refreshTick n.val s.ctl }, rfl, ?tick⟩,
    fun n s hruns hmode hdue => ⟨{ s with ctl := spreadVisit n.val s.ctl }, rfl, ?visit⟩,
    fun n b s hruns hmode hdebt hmust hready => ⟨{ s with ctl := deadlineGuard n.val b.val s.ctl }, rfl, ?guard⟩,
    fun n b row k s hruns hrow hready => ⟨{ s with ctl := targetedRefresh n.val b.val row s.ctl }, rfl, ?targeted⟩⟩
  case tick =>
    obtain ⟨v, hv⟩ := refreshTick_outside hruns hwindow
    rw [hv]
    exact ⟨by rw [bumpMax_chans, modChan_self], ((OnlyChanOf.modChan _ _ _).trans (OnlyChanOf.bumpMax _ _)).onlyChan⟩
  case visit =>
    rw [spreadVisit_spread hruns hmode hdue]
    refine ⟨?_, ?_, visited_trk, visited_ports, onlyLogic_ctl s _⟩
    · rw [modChan_self]
      exact getD_set_rank _ n _ _
    · rw [modChan_self]
      exact visited_banks.trans (by rw [visitBank_banks]; rfl)
  case guard =>
    rw [deadlineGuard_spread hruns hmode hdebt hmust hready]
    refine ⟨?_, ?_, ?_, onlyLogic_ctl s _⟩
    · rw [modChan_self, bump_chans, refPb_chan hready]
      rfl
    · have hcount : cIdx (sliceChan n.val) 2 ≠ cIdx (sliceChan n.val) 1 := by unfold cIdx; omega
      have hwidth : counterWidth (cIdx (sliceChan n.val) 2) = some 32 := counterWidth_chan _ (by omega)
      calc
        _ = scoreGet (bump (cIdx (sliceChan n.val) 2) (refPb n.val (sliceRank n.val * 32 + b.val) s.ctl)) (cIdx (sliceChan n.val) 2) := rfl
        _ = _ := by rw [scoreGet_bump_self hwidth (by omega), scoreGet_refPb hcount]
    · rw [modChan_trk, bump_trk, refPb_trk]
  case targeted =>
    rw [targetedRefresh_must hruns hrow hready, trrIssue_must hready]
    refine ⟨?_, by simp, onlyLogic_ctl s _⟩
    rw [modChan_self, bump_chans, bump_chans, addActs_chans]

end Sys2Proof.Machine
end

section
/-! SUPPORT. What a channel does with DRAM and with one granule: drained writes (R210, R218), decoded read data (R282), the write-back of a
value of the atomic unit (R220), open rows (R215) and shadow writes (R118). -/

namespace Sys2Proof.Machine

open Sys2Proof

variable {c : Ctl} {ch : Fin 32} {m : List Host.Cell} {s : State}

/-! ## Drained writes -/

theorem dramWrites_cons (k : Nat) (v : BitVec 320) (l : List (Nat × BitVec 320)) :
    dramWrites m ((k, v) :: l) = dramWrites (dramWrite m k v) l := by
  rw [dramWrites]

/-- Writes of granules leave every byte outside them. -/
theorem readByte_dramWrites_outside {l : List (Nat × BitVec 320)} {a : Nat} (hm : Memory.wf m = true)
    (ha : ∀ w ∈ l, a < 40 * w.1 ∨ 40 * w.1 + 40 ≤ a) : readByte (dramWrites m l) a = readByte m a := by
  induction l generalizing m with
  | nil => rfl
  | cons w t ih =>
    obtain ⟨k, v⟩ := w
    obtain ⟨hw, ht⟩ := List.forall_mem_cons.mp ha
    rw [dramWrites_cons]
    exact (ih (dramWrite_wf hm _ _) ht).trans (dramWrite_outside hm _ _ _ hw)

theorem arbiterStep_dram (n : Nat) : (arbiterStep ch n none m c).1 = dramWrites m (drainSplit c n c.chans[ch].wbuf).1 := by
  unfold arbiterStep drainWrites
  rfl

theorem arbiterDecision_effect (n : Nat) : ∃ t, exec (.arbiterDecision ch n none) s = .next t ∧ t.pending = s.pending ∧
    t.dram = dramWrites s.dram (drainSplit s.ctl n (s.ctl.chans[ch]).wbuf).1 ∧
    (s.memOk → ∀ a, (∀ w ∈ (drainSplit s.ctl n (s.ctl.chans[ch]).wbuf).1, a < 40 * w.1 ∨ 40 * w.1 + 40 ≤ a) →
      readByte t.dram a = readByte s.dram a) := by
  have hdram := arbiterStep_dram (ch := ch) (m := s.dram) (c := s.ctl) n
  refine ⟨{ s with dram := (arbiterStep ch n none s.dram s.ctl).1, ctl := (arbiterStep ch n none s.dram s.ctl).2 }, rfl, rfl, ?_, ?_⟩
  · dsimp only
    exact hdram
  · intro hmem a ha
    dsimp only
    rw [hdram]
    exact readByte_dramWrites_outside hmem ha

/-! ## Decoded read data -/

/-- A tracker entry that is changed under its identifier is found as it now is. -/
theorem find_modTrk {id : Nat} {x : Trk} {f : Trk → Trk} (hf : ∀ t, (f t).id = t.id) (hx : (c.trk.find? fun t => t.id = id) = some x) :
    ((modTrk id f c).trk.find? fun t => t.id = id) = some (f x) := by
  have hsame (t : Trk) : decide ((if decide (t.id = id) = true then f t else t).id = id) = decide (t.id = id) := by
    by_cases ht : t.id = id <;> simp [ht, hf]
  have hid : x.id = id := by simpa using List.find?_some hx
  unfold modTrk mapIf
  rw [find?_map_same hsame, hx]
  simp [hid]

theorem find_modGran {id idx : Nat} {x : Trk} {f : Gran → Gran} (hx : (c.trk.find? fun t => t.id = id) = some x) :
    ((modGran id idx f c).trk.find? fun t => t.id = id) = some { x with grans := listModify f x.grans idx } :=
  find_modTrk (fun _ => rfl) hx

theorem getElem?_listModify_ne {α : Type} (f : α → α) (l : List α) {i j : Nat} (h : j ≠ i) : (listModify f l i)[j]? = l[j]? := by
  induction l generalizing i j with
  | nil => rfl
  | cons a t ih =>
    match i, j with
    | 0, 0 => exact absurd rfl h
    | 0, j + 1 => rfl
    | i + 1, 0 => rfl
    | i + 1, j + 1 => exact ih (fun e => h (congrArg (· + 1) e))

theorem listModify_twice {α : Type} (f g : α → α) (l : List α) (i : Nat) :
    listModify g (listModify f l i) i = listModify (fun a => g (f a)) l i := by
  induction l generalizing i with
  | nil => rfl
  | cons a t ih =>
    cases i with
    | zero => rfl
    | succ i => exact congrArg (a :: ·) (ih i)

/-- A request goes on while one of its granules has not ended. -/
theorem finishIfDone_unfinished {id : Nat} {x : Trk} {y : Gran} (hx : (c.trk.find? fun t => t.id = id) = some x) (hy : y ∈ x.grans)
    (hlive : y.phase ≠ .done) : finishIfDone id c = c := by
  have hall : (x.grans.all fun g => g.phase = .done) = false :=
    List.all_eq_false.mpr ⟨y, hy, by simpa using hlive⟩
  unfold finishIfDone
  rw [hx]
  simp only [hall, Bool.false_eq_true, if_false]

theorem find_endGran {id idx j status : Nat} {data : GData} {x : Trk} {y : Gran} (hx : (c.trk.find? fun t => t.id = id) = some x)
    (hj : j ≠ idx) (hy : x.grans[j]? = some y) (hlive : y.phase ≠ .done) :
    ((endGran id idx status data c).trk.find? fun t => t.id = id) =
      some { x with grans := listModify (fun g => { g with phase := .done, status := status, data := data, epoch := none }) x.grans idx } := by
  have hfound := find_modGran (idx := idx) (f := fun g => { g with phase := .done, status := status, data := data, epoch := none }) hx
  have hmem : y ∈ listModify (fun g => { g with phase := .done, status := status, data := data, epoch := none }) x.grans idx :=
    List.mem_of_getElem? ((getElem?_listModify_ne _ _ hj).trans hy)
  unfold endGran
  rw [finishIfDone_unfinished hfound hmem hlive]
  exact hfound

theorem latSample_trk (t : Trk) (g : Gran) : (latSample ch t g c).trk = c.trk := by
  unfold latSample
  split <;> rfl

theorem readDataDecode_effect {id idx j : Nat} {noise : BitVec 320} {x : Trk} {g y : Gran} {d : GranRead}
    (hx : (s.ctl.trk.find? fun t => t.id = id) = some x) (hop : x.op = .read) (hg : x.grans[idx]? = some g) (hphase : g.phase = .accepted)
    (hau : g.viaAu = false) (hfwd : g.fwd = false) (hmirrored : g.mirrored = false) (hch : keyChan (granKey g.ppn g.g) = ch)
    (hd : dramDecode s.dram s.ctl (granKey g.ppn g.g) noise = d) (hp : d.poisoned = false) (hu : d.uncorrectable = false)
    (h1 : d.ce1 = 0) (h2 : d.ce2 = 0) (hj : j ≠ idx) (hy : x.grans[j]? = some y) (hlive : y.phase ≠ .done) :
    ∃ t, exec (.readDataDecode ch id idx noise) s = .next t ∧
      (t.ctl.trk.find? fun t => t.id = id) =
        some { x with grans := listModify (fun g => { g with phase := .done, status := 0, data := d.data, epoch := none, kind := 0 }) x.grans idx } ∧
      onlyLogic s t := by
  have hctl : readData ch id idx noise s.dram s.ctl =
      endGran id idx 0 d.data (latSample ch x g (modGran id idx (fun g => { g with kind := 0 }) s.ctl)) := by
    unfold readData
    simp only [hx, hg, hphase, hau, hfwd, hmirrored, hch, hop, hd, ne_eq, not_true_eq_false, decide_false, Bool.or_self,
      Bool.false_eq_true, if_false]
    rw [readEnd_clean rfl hp hu h1 h2]
    simp only [Bool.false_eq_true, if_false]
    rfl
  refine ⟨{ s with ctl := readData ch id idx noise s.dram s.ctl }, rfl, ?_, onlyLogic_ctl s _⟩
  have hmarked := find_modGran (idx := idx) (f := fun g => { g with kind := 0 }) hx
  rw [← latSample_trk (ch := ch) x g] at hmarked
  rw [hctl]
  refine (find_endGran hmarked hj ((getElem?_listModify_ne _ _ hj).trans hy) hlive).trans ?_
  rw [listModify_twice]

/-! ## The write-back of the atomic unit -/

section keeps

variable {α : Type} {f : Chan → α} (hca : ∀ pc o x, f (caIssue pc o x) = f x) (hbank : ∀ k b x, f (bankPut k b x) = f x)

include hca hbank

/-- Opening a row changes, of a channel, only its banks and its commands. -/
theorem activate_keeps (key : Nat) (ch : Fin 32) :
    f (activate key c).chans[ch] = f c.chans[ch] := by
  by_cases h : ch = keyChan key
  · subst h
    unfold activate
    rw [modChan_self, bump_chans]
    exact (hbank _ _ _).trans (hca _ _ _)
  · unfold activate
    rw [modChan_other _ _ _ h, bump_chans]
    rfl

theorem openRowFor_keeps (key : Nat) (ch : Fin 32) :
    f (openRowFor key c).chans[ch] = f c.chans[ch] := by
  unfold openRowFor
  dsimp only
  split
  · rfl
  · split
    · exact congrArg (fun v : Vector Chan 32 => f v[ch]) (bump_chans _)
    · exact activate_keeps hca hbank key ch

end keeps

theorem activate_trk (key : Nat) : (activate key c).trk = c.trk := by
  unfold activate
  simp [addActs, modTherm]

theorem openRowFor_trk (key : Nat) : (openRowFor key c).trk = c.trk := by
  unfold openRowFor
  dsimp only
  split
  · rfl
  · split
    · exact bump_trk _
    · exact activate_trk key

/-- The channel controller when the atomic unit has written a granule back: its row is precharged, and its entry is free unless it is
wanted again. -/
def writtenBack (again : Bool) (gran : Nat) (x : Chan) : Chan :=
  { bankPut (bankKey gran) { bankGet x (bankKey gran) with openRow := none } x with
    au := if again then x.au else x.au.filter fun e => !(e.gran = gran && !e.replaced) }

theorem auWriteBack_held {gran : Nat} {e : AuEntry} {v : GData} (he : auFind c.chans[ch] gran = some e) (hv : e.value = some v)
    (hch : keyChan gran = ch) (hread : readOutstanding c gran = false) (hbuf : wbufFind c.chans[ch] gran = none) :
    auWriteBack ch gran m c = (dramWrite m gran (granEncode v),
      if auWaiting c gran then openRowFor gran (modChan ch (writtenBack true gran) c) else modChan ch (writtenBack false gran) c) := by
  obtain ⟨g, value, waiting, replaced⟩ := e
  cases hv
  unfold auWriteBack
  rw [he]
  simp only [hch, hread, hbuf, ne_eq, not_true_eq_false, decide_false, Option.isSome_none, Bool.or_self, Bool.false_eq_true, if_false]
  cases auWaiting c gran <;> rfl

theorem auFind_freed (x : Chan) (gran : Nat) : auFind (writtenBack false gran x) gran = none := by
  unfold auFind writtenBack
  simp only [Bool.false_eq_true, if_false]
  refine List.find?_eq_none.mpr fun e he => ?_
  have hkept := (List.mem_filter.mp he).2
  simpa [imp_iff_not_or] using hkept

theorem auFind_writtenBack {gran : Nat} {e : AuEntry} {again : Bool} (he : auFind c.chans[ch] gran = some e) :
    auFind ((if again then openRowFor gran (modChan ch (writtenBack true gran) c) else modChan ch (writtenBack false gran) c).chans[ch]) gran =
      if again then some e else none := by
  cases again with
  | true =>
    have hau : ((openRowFor gran (modChan ch (writtenBack true gran) c)).chans[ch]).au = (c.chans[ch]).au := by
      refine (openRowFor_keeps (f := Chan.au) (fun _ _ _ => rfl) (fun _ _ _ => rfl) gran ch).trans ?_
      rw [modChan_self]
      rfl
    unfold auFind at he ⊢
    rw [if_pos rfl, if_pos rfl, hau, he]
  | false =>
    rw [if_neg Bool.false_ne_true, if_neg Bool.false_ne_true, modChan_self]
    exact auFind_freed _ _

theorem atomicWriteback_effect {gran : Nat} {e : AuEntry} {v : GData} (he : auFind s.ctl.chans[ch] gran = some e) (hv : e.value = some v)
    (hch : keyChan gran = ch) (hread : readOutstanding s.ctl gran = false) (hbuf : wbufFind s.ctl.chans[ch] gran = none) (hmem : s.memOk) :
    ∃ t, exec (.atomicWriteback ch gran) s = .next t ∧ auFind t.ctl.chans[ch] gran = (if auWaiting s.ctl gran then some e else none) ∧
      (∀ b, b < 40 → readByte t.dram (40 * gran + b) = (granEncode v).extractLsb' (8 * b) 8) ∧
      (∀ a, a < 40 * gran ∨ 40 * gran + 40 ≤ a → readByte t.dram a = readByte s.dram a) ∧ t.pending = s.pending := by
  have heffect := auWriteBack_held (m := s.dram) he hv hch hread hbuf
  have hdram : (auWriteBack ch gran s.dram s.ctl).1 = dramWrite s.dram gran (granEncode v) := by rw [heffect]
  have hctl := congrArg Prod.snd heffect
  refine ⟨{ s with dram := (auWriteBack ch gran s.dram s.ctl).1, ctl := (auWriteBack ch gran s.dram s.ctl).2 }, rfl, ?entry, ?inside, ?outside, rfl⟩
  case entry =>
    dsimp only
    rw [hctl]
    exact auFind_writtenBack he
  case inside =>
    dsimp only
    rw [hdram]
    exact fun b hb => dramWrite_inside hmem _ _ _ hb
  case outside =>
    dsimp only
    rw [hdram]
    exact fun a ha => dramWrite_outside hmem _ _ _ ha

/-! ## Shadow writes -/

/-- The mirror of a host page after a change of it. -/
theorem mirrorOf_modMirror {h i : Nat} {x : Mirror} {f : Mirror → Mirror} (hf : ∀ y, (f y).hpn = y.hpn) (hx : mirrorOf c h = some (i, x)) :
    mirrorOf (modMirror h f c) h = some (i, f x) := by
  have hsame (y : Nat × Mirror) : decide ((if decide (y.2.hpn = h) = true then (y.1, f y.2) else y).2.hpn = h) = decide (y.2.hpn = h) := by
    by_cases hy : y.2.hpn = h <;> simp [hy, hf]
  have hpage : x.hpn = h := by
    unfold mirrorOf at hx
    simpa using List.find?_some hx
  unfold mirrorOf at hx ⊢
  unfold modMirror modMirrors modPm mapIf
  rw [find?_map_same hsame, hx]
  simp [hpage]

/-- Without a copy in progress a shadow write goes to the secondary alone. -/
theorem shadowExtra_none {h g : Nat} (hjobs : ∀ k : Fin 4, (c.pm.copiers[k]).job = none) : shadowExtra c h g = none := by
  unfold shadowExtra
  refine List.findSome?_eq_none_iff.mpr fun k hk => ?_
  obtain ⟨i, hi, rfl⟩ := List.getElem_of_mem hk
  have hjob : (c.pm.copiers.toList[i]).job = none := hjobs ⟨i, by simpa using hi⟩
  rw [hjob]

/-- The oldest pending shadow write taken off its mirror. -/
def popShadow (x : Mirror) : Mirror := { x with pending := x.pending.tail }

theorem shadowPut_mirror {h i g : Nat} {v : BitVec 320} {who : Option (Nat × Nat)} {rest : List (Nat × BitVec 320 × Option (Nat × Nat))} {x : Mirror}
    (hx : mirrorOf c h = some (i, x)) (hp : x.pending = (g, v, who) :: rest) (hjobs : ∀ k : Fin 4, (c.pm.copiers[k]).job = none) :
    shadowPut h c = acceptWrite (granKey x.secPpn g) v none (modMirror h popShadow c) := by
  have hextra : shadowExtra (modMirror h popShadow c) h g = none := shadowExtra_none hjobs
  unfold shadowPut
  simp only [hx, hp, Option.filter_some, List.isEmpty_cons, Bool.not_false, if_true]
  exact (congrArg (fun o => match o with
    | some d => acceptWrite (granKey d g) v none (acceptWrite (granKey x.secPpn g) v none (modMirror h popShadow c))
    | none => acceptWrite (granKey x.secPpn g) v none (modMirror h popShadow c)) hextra)

theorem shadowWrite_effect {h i g : Nat} {v : BitVec 320} {who : Option (Nat × Nat)} {rest : List (Nat × BitVec 320 × Option (Nat × Nat))} {x : Mirror}
    (hx : mirrorOf s.ctl h = some (i, x)) (hp : x.pending = (g, v, who) :: rest) (hfailed : keyFailed s.ctl (granKey x.secPpn g) = false)
    (hroom : shadowRoom s.ctl (shadowKeys s.ctl h) = true) (hjobs : ∀ k : Fin 4, (s.ctl.pm.copiers[k]).job = none) :
    ∃ t, exec (.shadowWrite h) s = .next t ∧ mirrorOf t.ctl h = some (i, { x with pending := rest }) ∧
      (t.ctl.chans[keyChan (granKey x.secPpn g)]).wbuf = (s.ctl.chans[keyChan (granKey x.secPpn g)]).wbuf ++ [(granKey x.secPpn g, v)] ∧
      onlyLogic s t := by
  have hctl : shadowWrite h s.ctl = acceptWrite (granKey x.secPpn g) v none (modMirror h popShadow s.ctl) :=
    (if_pos hroom).trans (shadowPut_mirror hx hp hjobs)
  obtain ⟨hbuf, hpm⟩ := acceptWrite_accepted (c := modMirror h popShadow s.ctl) (v := v) hfailed
  refine ⟨{ s with ctl := shadowWrite h s.ctl }, rfl, ?_, ?_, onlyLogic_ctl s _⟩
  · have hpopped := mirrorOf_modMirror (f := popShadow) (fun _ => rfl) hx
    unfold popShadow at hpopped
    rw [hp] at hpopped
    have hsame : mirrorOf (shadowWrite h s.ctl) h = mirrorOf (modMirror h popShadow s.ctl) h := by
      unfold mirrorOf
      rw [hctl, hpm]
    exact hsame.trans hpopped
  · rw [hctl]
    exact hbuf

end Sys2Proof.Machine
end

section
/-! SUPPORT. What decides whether a channel can accept work, apart from the arbiter's own state (R210 to R219). -/

namespace Sys2Proof.Machine

open Sys2Proof

variable {c d : Ctl} {ch : Fin 32} {m : List Host.Cell} {x : Trk} {g : Gran} {key : Nat}

/-! ## The part of the state that does not depend on arbitration -/

/-- A channel controller without the state of its arbiter (R211, R218). -/
def unarbited (x : Chan) : Chan :=
  { x with fairN := 0, fairNPending := none, arbHolder := none, arbPrio := 0, arbLeft := 0, arbCount := 0, lastBusy := 0 }

/-- A region with its coordinator alone. -/
def coordOnly (r : Region) : Region := { coord := r.coord }

/-- The control state without what an arbiter's choice changes or counts. -/
def workView (c : Ctl) : Ctl :=
  { c with regions := c.regions.map coordOnly, chans := c.chans.map unarbited, therm := {}, score := [] }

@[simp] theorem workView_chan (i : Fin 32) : (workView c).chans[i] = unarbited c.chans[i] := Vector.getElem_map _ _
@[simp] theorem workView_region (r : Fin 4) : (workView c).regions[r] = coordOnly c.regions[r] := Vector.getElem_map _ _

@[simp] theorem workView_bumpBy (i n : Nat) : workView (bumpBy i n c) = workView c := by rw [bumpBy_frame]; rfl
@[simp] theorem workView_bump (i : Nat) : workView (bump i c) = workView c := workView_bumpBy i 1
@[simp] theorem workView_modTherm (f : Therm → Therm) : workView (modTherm f c) = workView c := rfl

theorem map_set_same {α β : Type} {n : Nat} {v : Vector α n} {i : Fin n} {f : α → β} {a : α} (h : f a = f v[i]) :
    (v.set i a).map f = v.map f := by
  refine Vector.ext fun j hj => ?_
  by_cases hij : i.val = j <;> simp_all

theorem workView_modChan {f : Chan → Chan} (h : unarbited (f c.chans[ch]) = unarbited c.chans[ch]) :
    workView (modChan ch f c) = workView c :=
  congrArg (fun v => { workView c with chans := v }) (map_set_same h)

theorem workView_modRegion {r : Fin 4} {f : Region → Region} (h : (f c.regions[r]).coord = c.regions[r].coord) :
    workView (modRegion r f c) = workView c :=
  congrArg (fun v => { workView c with regions := v }) (map_set_same (f := coordOnly) (congrArg (fun k => ({ coord := k } : Region)) h))

theorem flatMap_map_same {α β : Type} {n : Nat} {v : Vector α n} {e : α → α} {f : α → List β} (h : ∀ a, f (e a) = f a) :
    (v.map e).toList.flatMap f = v.toList.flatMap f := by
  rw [Vector.toList_map, List.flatMap_map]
  simp only [h]

theorem any_map_same {α : Type} {n : Nat} {v : Vector α n} {e : α → α} {f : α → Bool} (h : ∀ a, f (e a) = f a) :
    (v.map e).toList.any f = v.toList.any f := by
  rw [Vector.toList_map, List.any_map]
  exact congrArg (v.toList.any ·) (funext h)

/-! ## What a granule's acceptance depends on -/

theorem holders_workView : holders (workView c) = holders c := rfl

theorem readsOut_workView : readsOut (workView c) = readsOut c := by
  have hkeys : allKeys (workView c) = allKeys c := flatMap_map_same fun _ => rfl
  have hrepairs : (workView c).chans.toList.flatMap (·.srrOut) = c.chans.toList.flatMap (·.srrOut) := flatMap_map_same fun _ => rfl
  unfold readsOut
  rw [hkeys, hrepairs]
  rfl

theorem bankLoad_workView : bankLoad (workView c) key = bankLoad c key := by
  unfold bankLoad bankQueue
  rw [readsOut_workView, workView_chan]
  rfl

theorem forwards_workView : forwards (workView c) key = forwards c key := by
  unfold forwards keyFailed
  rw [workView_chan]
  rfl

theorem bankBlocked_workView {k : Nat} : bankBlocked (workView c) ch k = bankBlocked c ch k := by
  unfold bankBlocked
  rw [workView_chan]
  rfl

theorem sliceBlocked_workView : sliceBlocked (workView c) key = sliceBlocked c key := by
  unfold sliceBlocked
  rw [bankBlocked_workView, workView_chan]
  rfl

theorem txnBefore_workView : txnBefore (workView c) x key = txnBefore c x key := by
  unfold txnBefore
  cases x.src with
  | mover => rfl
  | port p => exact any_map_same fun _ => rfl

theorem holdBlocks_workView : holdBlocks (workView c) x key = holdBlocks c x key := by
  unfold holdBlocks
  rw [txnBefore_workView, workView_chan]
  rfl

/-! ## The queues of transactions' accesses and of maintenance -/

theorem txnQueue_workView : txnQueue (workView c) ch = txnQueue c ch := by
  unfold txnQueue txnAccesses
  simp only [workView_region]
  rfl

theorem chunkHeld_workView {ppn n : Nat} : chunkHeld (workView c) ppn n = chunkHeld c ppn n := by
  unfold chunkHeld
  rw [workView_chan]
  rfl

theorem chunkComputing_workView {ppn n : Nat} : chunkComputing (workView c) ppn n = chunkComputing c ppn n := by
  unfold chunkComputing
  rw [workView_chan]
  rfl

theorem chunkInflight_workView {hpn n : Nat} : chunkInflight (workView c) hpn n = chunkInflight c hpn n :=
  congrArg (_ || ·) (any_map_same fun _ => rfl)

theorem chunkReady_workView {j : CopyJob} {n : Nat} : chunkReady (workView c) j n = chunkReady c j n := by
  unfold chunkReady
  rw [chunkInflight_workView, chunkComputing_workView]
  rfl

theorem chunkBlocked_workView {j : CopyJob} {n : Nat} : chunkBlocked (workView c) j n = chunkBlocked c j n := by
  unfold chunkBlocked
  rw [chunkHeld_workView]
  rfl

theorem copyWork_workView : copyWork (workView c) = copyWork c := by
  funext k
  unfold copyWork
  simp only [chunkReady_workView, chunkBlocked_workView]
  rfl

theorem gathering_workView {slice : Nat} : gathering (workView c) slice = gathering c slice := by
  unfold gathering
  rw [workView_chan, holders_workView]
  rfl

theorem probeWork_workView : probeWork (workView c) ch = probeWork c ch := by
  unfold probeWork
  simp only [gathering_workView, workView_chan]
  rfl

theorem maintQueue_workView : maintQueue (workView c) ch = maintQueue c ch := by
  unfold maintQueue
  rw [copyWork_workView, probeWork_workView, workView_chan]
  rfl

theorem chanServes_workView : chanServes (workView c) ch = chanServes c ch := by
  unfold chanServes
  rw [workView_chan]
  rfl

end Sys2Proof.Machine
end

section
/-! SUPPORT. A read that is alone at an idle channel: the arbiter grants it and the channel accepts it (R218, R219). -/

namespace Sys2Proof.Machine

open Sys2Proof

variable {c d : Ctl} {ch : Fin 32} {m : List Host.Cell} {x : Trk} {g : Gran}

/-! ## One read and nothing else -/

/-- A read of one granule that alone waits at a channel with nothing buffered or held. -/
structure LoneRead (c : Ctl) (ch : Fin 32) (x : Trk) (g : Gran) : Prop where
  trk : c.trk = [x]
  op : x.op = .read
  grans : x.grans = [g]
  accepts : eligible c ch x g = true
  wbuf : (c.chans[ch]).wbuf = []
  au : (c.chans[ch]).au = []
  holds : (c.chans[ch]).holds = []
  txns : txnQueue c ch = []
  maint : maintQueue c ch = []

/-- A read is eligible when its granule waits at a channel that blocks it in no way: no other request is before it. -/
theorem eligible_alone (htrk : c.trk = [x]) (hop : x.op = .read) :
    eligible c ch x g = (decide (g.phase = .queued) && !g.staged && decide (keyChan (granKey g.ppn g.g) = ch)
      && !sliceBlocked c (granKey g.ppn g.g) && hasRoom c .read (granKey g.ppn g.g) && !holdBlocks c x (granKey g.ppn g.g)) := by
  unfold eligible
  rw [htrk, hop]
  simp

/-- What only the arbiter's choices change leaves a lone read alone. -/
theorem LoneRead.of_workView_eq (hview : workView d = workView c) (h : LoneRead c ch x g) : LoneRead d ch x g := by
  have htrk : d.trk = c.trk := show (workView d).trk = (workView c).trk by rw [hview]
  have hchan : unarbited d.chans[ch] = unarbited c.chans[ch] := by rw [← workView_chan, hview, workView_chan]
  have hblocked (key : Nat) : sliceBlocked d key = sliceBlocked c key := by rw [← sliceBlocked_workView, hview, sliceBlocked_workView]
  have hroom (key : Nat) : hasRoom d .read key = hasRoom c .read key := by
    unfold hasRoom
    rw [← forwards_workView, ← bankLoad_workView, hview, forwards_workView, bankLoad_workView]
  have hholds (key : Nat) : holdBlocks d x key = holdBlocks c x key := by rw [← holdBlocks_workView, hview, holdBlocks_workView]
  exact {
    trk := htrk.trans h.trk
    op := h.op
    grans := h.grans
    accepts := by
      rw [eligible_alone (htrk.trans h.trk) h.op, hblocked, hroom, hholds, ← eligible_alone h.trk h.op]
      exact h.accepts
    wbuf := (congrArg Chan.wbuf hchan).trans h.wbuf
    au := (congrArg Chan.au hchan).trans h.au
    holds := (congrArg Chan.holds hchan).trans h.holds
    txns := by rw [← txnQueue_workView, hview, txnQueue_workView, h.txns]
    maint := by rw [← maintQueue_workView, hview, maintQueue_workView, h.maint] }

theorem LoneRead.waits (h : LoneRead c ch x g) : g.phase = .queued ∧ g.staged = false ∧ keyChan (granKey g.ppn g.g) = ch := by
  have haccepts := h.accepts
  rw [eligible_alone h.trk h.op] at haccepts
  simp only [Bool.and_eq_true, decide_eq_true_eq, Bool.not_eq_true'] at haccepts
  tauto

theorem LoneRead.firstEligible_eq (h : LoneRead c ch x g) : firstEligible c ch x none = some 0 := by
  unfold firstEligible
  simp [h.grans, h.accepts]

/-! ## Before the choice -/

/-- Nothing of a lone read waits for room in a queue. -/
theorem LoneRead.unstageAt_eq (h : LoneRead c ch x g) : unstageAt ch c = c := by
  obtain ⟨hphase, hstaged, -⟩ := h.waits
  have hnone : stagedAt ch x = false := by
    unfold stagedAt
    simp [h.grans, hstaged]
  have hlist (room : Fin 5 → Nat) : unstageList c ch room c.trk = c.trk := by
    rw [h.trk]
    simp [unstageList, hnone]
  unfold unstageAt
  rw [hlist]
  have hmapped : (c.trk.filter fun t => t.grans.any fun g => g.phase = .atMap) = [] := by simp [h.trk, h.grans, hphase]
  unfold mapRequests
  dsimp only
  rw [hmapped]
  rfl

/-- The one candidate of a channel where a lone read waits. -/
def cand (c : Ctl) (ch : Fin 32) (x : Trk) : Cand :=
  { who := reqOf (masterOf x), prio := effPrio c ch x, since := queuedSince ch x, tc1 := x.tc1, work := .req x }

theorem LoneRead.candidate_eq (h : LoneRead c ch x g) (k : Fin 5) : candidate c ch k = if masterOf x = k then some x else none := by
  have hfirst : (firstEligible c ch x none).isSome = true := by rw [h.firstEligible_eq]; rfl
  unfold candidate
  rw [h.trk]
  by_cases hk : masterOf x = k <;> cases htc : x.tc1 <;> simp [hk, htc, hfirst, leastBy]

theorem filterMap_single (a : Fin 5) : ((List.finRange 5).filterMap fun k => if a = k then some k else none) = [a] := by
  decide +revert

theorem LoneRead.candidates_eq (h : LoneRead c ch x g) : candidates c ch = [cand c ch x] := by
  have htxn : txnCandidate c ch none = none := by unfold txnCandidate; simp [h.txns]
  have hmaint : maintCandidate c ch = none := by unfold maintCandidate; simp [h.maint, leastBy]
  unfold candidates
  rw [htxn, hmaint]
  simp only [h.candidate_eq, Option.toList_none, List.map_nil, List.append_nil]
  have hmine := congrArg (List.map fun k => ({ cand c ch x with who := reqOf k } : Cand)) (filterMap_single (masterOf x))
  rw [List.map_filterMap] at hmine
  refine Eq.trans ?_ hmine
  refine List.filterMap_congr fun k _ => ?_
  by_cases hk : masterOf x = k <;> simp [hk, cand]

/-! ## The choice -/

/-- A single candidate is the one to choose, whether by age or by priority. -/
theorem leastBy_single (y : Cand) (fair : Bool) :
    leastBy (·.since) (if fair then [y] else [y].filter fun z => z.prio = [y].foldl (fun n z => Nat.max n z.prio) 0) = some y := by
  cases fair <;> simp [leastBy]

/-- The arbiter grants the one candidate, whether its requester held the channel before or not. -/
theorem arbitrate_single (y : Cand) : ∃ d, arbitrate [y] c ch = (some y, d) ∧ workView d = workView c ∧ (d.chans[ch]).arbHolder = some y.who := by
  have hheld : ([y].find? fun z => (c.chans[ch]).arbHolder = some z.who) = if (c.chans[ch]).arbHolder = some y.who then some y else none := by
    simp
  unfold arbitrate
  simp only [List.isEmpty_cons, Bool.false_eq_true, if_false, hheld, leastBy_single]
  split
  next z hz =>
    split_ifs at hz with hleft hholder
    cases hz
    refine ⟨_, rfl, workView_modChan rfl, ?_⟩
    rw [modChan_self, hholder]
  next =>
    refine ⟨_, rfl, (workView_modChan rfl).trans ?_, ?_⟩
    · split_ifs <;> simp only [workView_bump]
    · rw [modChan_self]

/-- A channel that decides while a lone read waits accepts that read's slot. -/
theorem LoneRead.decideSlot_grants (h : LoneRead c ch x g) :
    ∃ d, decideSlot ch c = acceptSlot ch x d ∧ LoneRead d ch x g ∧ (d.chans[ch]).arbHolder = some (reqOf (masterOf x)) := by
  have hshadow : workView (applyArbShadow ch c) = workView c := (workView_modRegion rfl).trans (workView_modChan rfl)
  have hbusy (e : Ctl) : workView (noteBusy ch e) = workView e := by
    unfold noteBusy
    split
    · rfl
    · exact workView_modChan rfl
  have hlone : LoneRead (noteBusy ch (applyArbShadow ch c)) ch x g := h.of_workView_eq ((hbusy _).trans hshadow)
  obtain ⟨d, hchoice, hview, hholder⟩ := arbitrate_single (c := noteBusy ch (applyArbShadow ch c)) (ch := ch)
    (cand (noteBusy ch (applyArbShadow ch c)) ch x)
  refine ⟨modTherm (fun t => { t with xbarActs := t.xbarActs + 1 }) d, ?_, hlone.of_workView_eq hview, hholder⟩
  unfold decideSlot
  rw [(h.of_workView_eq hshadow).unstageAt_eq]
  dsimp only
  rw [hlone.candidates_eq, hchoice]
  rfl

/-! ## The acceptance -/

/-- A read's granule that the channel has accepted to read from DRAM. -/
def taken (g : Gran) : Gran := { g with phase := .accepted, epoch := none, viaAu := false }

/-- A channel that buffers, computes and holds nothing forwards nothing. -/
theorem forwards_empty {key : Nat} (hwbuf : (c.chans[keyChan key]).wbuf = []) (hau : (c.chans[keyChan key]).au = [])
    (hholds : (c.chans[keyChan key]).holds = []) : forwards c key = false := by
  unfold forwards wbufFind auFind holdAt
  rw [hwbuf, hau, hholds]
  simp

theorem chargeTokens_chan : ∃ v, (chargeTokens ch x c).chans[ch] = { c.chans[ch] with masters := v } :=
  ⟨_, modChan_self _ _⟩

theorem LoneRead.acceptGran_eq (h : LoneRead c ch x g) :
    acceptGran x.id 0 c = openRowFor (granKey g.ppn g.g) (modGran x.id 0 taken (chargeTokens ch x c)) := by
  obtain ⟨-, -, hch⟩ := h.waits
  subst hch
  obtain ⟨v, hcharged⟩ := chargeTokens_chan (c := c) (x := x) (ch := keyChan (granKey g.ppn g.g))
  have hforwards := forwards_empty (c := chargeTokens (keyChan (granKey g.ppn g.g)) x c)
    ((congrArg Chan.wbuf hcharged).trans h.wbuf) ((congrArg Chan.au hcharged).trans h.au) ((congrArg Chan.holds hcharged).trans h.holds)
  unfold acceptGran
  simp only [h.trk, h.grans, h.op, List.find?_cons, decide_true, List.getElem?_cons_zero, hforwards, Bool.not_false, if_true]
  rfl

/-- The lone read when its granule has been accepted. -/
def takenRead (x : Trk) (g : Gran) : Trk := { x with grans := [taken g] }

theorem LoneRead.acceptGran_trk (h : LoneRead c ch x g) : (acceptGran x.id 0 c).trk = [takenRead x g] := by
  rw [h.acceptGran_eq, openRowFor_trk]
  unfold modGran modTrk mapIf chargeTokens
  simp [h.trk, h.grans, listModify, takenRead]

theorem LoneRead.acceptGran_holder (h : LoneRead c ch x g) : ((acceptGran x.id 0 c).chans[ch]).arbHolder = (c.chans[ch]).arbHolder := by
  obtain ⟨v, hcharged⟩ := chargeTokens_chan (c := c) (x := x) (ch := ch)
  rw [h.acceptGran_eq]
  refine (openRowFor_keeps (f := Chan.arbHolder) (fun _ _ _ => rfl) (fun _ _ _ => rfl) _ ch).trans ?_
  exact (congrArg Chan.arbHolder hcharged :)

/-- A granule that is already accepted is not eligible for the second place of the slot. -/
theorem firstEligible_taken (pc : Option Nat) : firstEligible c ch (takenRead x g) pc = none := by
  unfold firstEligible eligible
  simp [takenRead, taken]

theorem LoneRead.acceptSlot_eq (h : LoneRead c ch x g) : acceptSlot ch x c = acceptGran x.id 0 c := by
  unfold acceptSlot
  have hid : (takenRead x g).id = x.id := rfl
  simp only [h.firstEligible_eq, h.acceptGran_trk, List.find?_cons, hid, decide_true, firstEligible_taken]

end Sys2Proof.Machine
end

section
/-! PROOF. The channel's arbiter, decoder, write-back, open pages and shadow writes (R118, R215, R218, R220, R282): obligation O26. -/

namespace Sys2Proof.Machine

open Sys2Proof

variable {c : Ctl} {ch : Fin 32} {m : List Host.Cell} {x : Trk} {g : Gran} {s : State}

/-! ## A burst slot of an idle channel -/

theorem modChan_same {f : Chan → Chan} (h : f c.chans[ch] = c.chans[ch]) : modChan ch f c = c := by
  unfold modChan
  rw [h]
  simp

theorem modCopier_same {k : Fin 4} {f : Copier → Copier} (h : f c.pm.copiers[k] = c.pm.copiers[k]) : modCopier k f c = c := by
  unfold modCopier modPm
  dsimp only
  rw [h]
  simp

theorem copyReturn_nothing {k : Fin 4} (hout : (c.pm.copiers[k]).out = []) : copyReturn ch m k c = c := by
  have hsame : modCopier k (fun x => { x with out := x.out.filter fun o => !decide (keyChan o.1 = ch) }) c = c := by
    refine modCopier_same ?_
    rw [hout, List.filter_nil, ← hout]
  unfold copyReturn
  dsimp only
  cases (c.pm.copiers[k]).job with
  | none => rfl
  | some j =>
    dsimp only
    rw [hsame, hout]
    rfl

theorem copyReturns_nothing (hout : ∀ k : Fin 4, (c.pm.copiers[k]).out = []) :
    forEach (List.finRange 4) (copyReturn ch m) c = c :=
  List.foldl_fixed' (fun k => copyReturn_nothing (hout k)) _

theorem repairReturns_nothing (hout : (c.chans[ch]).srrOut = []) : repairReturns ch m c = c := by
  have hsame : modChan ch (fun x => { x with srrOut := [] }) c = c := by
    refine modChan_same ?_
    rw [← hout]
  unfold repairReturns
  rw [hsame, hout]
  rfl

theorem drainWrites_none : drainWrites ch 0 m c = (m, bumpBy (cIdx ch 35) 0 c) := by
  have hsame : modChan ch (fun x => { x with wbuf := (c.chans[ch]).wbuf }) (bumpBy (cIdx ch 35) 0 c) = bumpBy (cIdx ch 35) 0 c := by
    refine modChan_same ?_
    rw [bumpBy_chans]
  exact congrArg (Prod.mk m) hsame

/-- With nothing to drain, to return or to refresh, a burst slot is the arbiter's choice alone. -/
theorem arbiterStep_idle (hserves : chanServes c ch = true) (hwindow : (c.chans[ch]).windowRuns = false)
    (hvisits : ∀ b ∈ (c.chans[ch]).banks, b.2.visitDue = false) (hcopies : ∀ k : Fin 4, (c.pm.copiers[k]).out = [])
    (hrepairs : (c.chans[ch]).srrOut = []) : arbiterStep ch 0 none m c = (m, decideSlot ch (bumpBy (cIdx ch 35) 0 c)) := by
  have hserves' : chanServes (bumpBy (cIdx ch 35) 0 c) ch = true := by
    rw [← chanServes_workView, workView_bumpBy, chanServes_workView, hserves]
  unfold arbiterStep
  dsimp only
  rw [drainWrites_none]
  dsimp only
  rw [copyReturns_nothing (by rwa [bumpBy_pm]), repairReturns_nothing (by rwa [bumpBy_chans]), windowWork_closed (by rwa [bumpBy_chans]),
    visitsDue_none (by rwa [bumpBy_chans]), if_pos hserves']

theorem arbiterStep_loneRead (h : LoneRead c ch x g) (hstep : arbiterStep ch 0 none m c = (m, decideSlot ch (bumpBy (cIdx ch 35) 0 c))) :
    (arbiterStep ch 0 none m c).1 = m ∧
      (arbiterStep ch 0 none m c).2.trk = [{ x with grans := [{ g with phase := .accepted, epoch := none, viaAu := false }] }] ∧
      ((arbiterStep ch 0 none m c).2.chans[ch]).arbHolder = some (reqOf (masterOf x)) := by
  obtain ⟨d, hdecided, hlone, hholder⟩ := (h.of_workView_eq (workView_bumpBy (cIdx ch 35) 0)).decideSlot_grants
  rw [hstep, hdecided, hlone.acceptSlot_eq]
  exact ⟨rfl, hlone.acceptGran_trk, hlone.acceptGran_holder.trans hholder⟩

/-- Settles O26: each clause by what its operation does to the channel and to DRAM; for the lone read, by the state on which its
eligibility depends, which the arbiter's choice leaves as it is. -/
theorem channelCommands : Obligations.ChannelCommands := by
  refine ⟨fun ch n s => arbiterDecision_effect n, ?lone, ?decode, fun ch gran e v s => atomicWriteback_effect, ?close, ?shadow⟩
  case lone =>
    intro ch x g s hserves htrk hop hgrans haccepts hwbuf hau hholds htxns hmaint hwindow hvisits hcopies hrepairs
    obtain ⟨hdram, htaken, hholder⟩ := arbiterStep_loneRead ⟨htrk, hop, hgrans, haccepts, hwbuf, hau, hholds, htxns, hmaint⟩
      (arbiterStep_idle (m := s.dram) hserves hwindow hvisits hcopies hrepairs)
    refine ⟨{ s with dram := (arbiterStep ch 0 none s.dram s.ctl).1, ctl := (arbiterStep ch 0 none s.dram s.ctl).2 }, rfl, htaken, hholder, ?_, rfl⟩
    intro a
    dsimp only
    rw [hdram]
  case decode =>
    intro ch id idx noise x g d s hx hop hg hphase hau hfwd hmirrored hch hd hp hu h1 h2 hlive
    obtain ⟨j, y, hj, hy, hlive⟩ := hlive
    exact readDataDecode_effect hx hop hg hphase hau hfwd hmirrored hch hd hp hu h1 h2 hj hy hlive
  case close => exact fun ch b s => ⟨{ s with ctl := closeRow ch b s.ctl }, rfl, modChan_self _ _, onlyChan_modChan _ _ s⟩
  case shadow => exact fun h i g v who rest x s => shadowWrite_effect

end Sys2Proof.Machine
end

section
/-! SUPPORT. Maintenance activities (R270 to R274): what the grant, the request and the end of activities can change of the state, and
where an activity is found afterwards. -/

namespace Sys2Proof.Machine

open Sys2Proof

variable {c d e : Ctl} {i : Fin 25}

/-! ## What maintenance changes -/

/-- What the start, the end and the preemption of activities can do: they change management, the page map's record of a spare slice and
one counter; an in-service test keeps its units, and at most starts its unit in progress again (R273). -/
structure Maintained (c d : Ctl) : Prop where
  frame : d = { c with mgr := d.mgr, pm := d.pm, score := d.score }
  ist : ∀ i : Fin 25, d.mgr.ist[i] = c.mgr.ist[i] ∨ d.mgr.ist[i] = { istClear c.mgr.ist[i] with preempted := true }
  counters : ∀ k, k ≠ gIdx 13 → scoreGet d k = scoreGet c k

namespace Maintained

theorem refl (c : Ctl) : Maintained c c := ⟨rfl, fun _ => .inl rfl, fun _ _ => rfl⟩

theorem trans (h : Maintained c d) (k : Maintained d e) : Maintained c e := by
  refine ⟨?_, fun i => ?_, fun n hn => (k.counters n hn).trans (h.counters n hn)⟩
  · have hframe := k.frame
    rw [h.frame] at hframe
    exact hframe
  · rcases k.ist i with hk | hk <;> rcases h.ist i with hh | hh <;> rw [hh] at hk
    · exact .inl hk
    · exact .inr hk
    · exact .inr hk
    · exact .inr hk

theorem modMgr {f : Mgr → Mgr} (h : (f c.mgr).ist = c.mgr.ist) : Maintained c (modMgr f c) :=
  ⟨rfl, fun i => .inl (congrArg (fun v : Vector Ist 25 => v[i]) h), fun _ _ => rfl⟩

theorem modPm (f : PageMap → PageMap) : Maintained c (modPm f c) := ⟨rfl, fun _ => .inl rfl, fun _ _ => rfl⟩

theorem power (h : Maintained c d) : d.power = c.power := by rw [h.frame]
theorem ports (h : Maintained c d) : d.ports = c.ports := by rw [h.frame]
theorem chans (h : Maintained c d) : d.chans = c.chans := by rw [h.frame]
theorem trk (h : Maintained c d) : d.trk = c.trk := by rw [h.frame]
theorem beat (h : Maintained c d) : d.beat = c.beat := by rw [h.frame]
theorem snapshot (h : Maintained c d) : d.snapshot = c.snapshot := by rw [h.frame]

theorem due (h : Maintained c d) : (d.mgr.ist[i]).due = (c.mgr.ist[i]).due := by
  rcases h.ist i with hi | hi <;> rw [hi]
  rfl

theorem unit (h : Maintained c d) : (d.mgr.ist[i]).unit = (c.mgr.ist[i]).unit := by
  rcases h.ist i with hi | hi <;> rw [hi]
  rfl

theorem done_zero (h : Maintained c d) (hz : (c.mgr.ist[i]).done = 0) : (d.mgr.ist[i]).done = 0 := by
  rcases h.ist i with hi | hi <;> rw [hi]
  · exact hz
  · rfl

end Maintained

/-! ## Preemption and grants -/

/-- What preemption and grants can do: no activity joins or leaves the lists. -/
structure Granted (c d : Ctl) : Prop extends Maintained c d where
  ids : d.mgr.running.map (·.id) = c.mgr.running.map (·.id)
  ended : d.mgr.ended = c.mgr.ended

/-- An activity of this identifier waits or runs. -/
def Lists (id : Nat) (c : Ctl) : Prop := ∃ a ∈ c.mgr.running, a.id = id

namespace Granted

theorem refl (c : Ctl) : Granted c c := ⟨.refl c, rfl, rfl⟩

theorem trans (h : Granted c d) (k : Granted d e) : Granted c e :=
  ⟨h.toMaintained.trans k.toMaintained, k.ids.trans h.ids, k.ended.trans h.ended⟩

theorem bumpBy (n : Nat) : Granted c (bumpBy (gIdx 13) n c) :=
  ⟨⟨by rw [bumpBy_frame], fun i => .inl (by rw [bumpBy_mgr]), fun _ hk => scoreGet_bumpBy_other hk⟩,
    by rw [bumpBy_mgr], by rw [bumpBy_mgr]⟩

theorem modPm (f : PageMap → PageMap) : Granted c (modPm f c) := ⟨.modPm f, rfl, rfl⟩

/-- Activities change, but not their identifiers. -/
theorem modRunning (p : Activity → Bool) {f : Activity → Activity} (h : ∀ a, (f a).id = a.id) :
    Granted c (modMgr (fun g => { g with running := mapIf p f g.running }) c) := by
  refine ⟨.modMgr rfl, ?_, rfl⟩
  rw [modMgr_mgr, mapIf, List.map_map]
  refine List.map_congr_left fun a _ => ?_
  by_cases ha : p a = true <;> simp [ha, h]

/-- An activity is listed afterwards exactly when it was. -/
theorem lists_iff (h : Granted c d) {id : Nat} : Lists id d ↔ Lists id c := by
  rw [Lists, Lists, ← List.mem_map (f := Activity.id), ← List.mem_map (f := Activity.id), h.ids]

end Granted

@[simp] theorem modIst_self (i : Fin 25) (f : Ist → Ist) : ((modIst i f c).mgr.ist[i]) = f c.mgr.ist[i] := by simp [modIst]

theorem modIst_other {i j : Fin 25} (f : Ist → Ist) (h : j ≠ i) : ((modIst i f c).mgr.ist[j]) = c.mgr.ist[j] := by
  have hv : i.val ≠ j.val := fun e => h (Fin.ext e.symm)
  simp [modIst, Vector.getElem_set_ne _ _ hv]

/-- A preempted test starts its unit again later (R273). -/
theorem Granted.preemptIst (i : Fin 25) : Granted c (modIst i (fun t => { istClear t with preempted := true }) c) := by
  refine ⟨⟨rfl, fun j => ?_, fun _ _ => rfl⟩, rfl, rfl⟩
  by_cases hj : j = i
  · subst hj
    exact .inr (modIst_self j _)
  · exact .inl (modIst_other _ hj)

theorem foldl_granted {α : Type} {f : Ctl → α → Ctl} (h : ∀ c a, Granted c (f c a)) (l : List α) (c : Ctl) : Granted c (l.foldl f c) := by
  induction l generalizing c with
  | nil => exact .refl c
  | cons a t ih => exact (h c a).trans (ih (f c a))

theorem forEach_granted {α : Type} {f : α → Ctl → Ctl} (h : ∀ a c, Granted c (f a c)) (l : List α) (c : Ctl) : Granted c (forEach l f c) :=
  foldl_granted (fun c a => h a c) l c

theorem preemptAll_granted (l : List Activity) : Granted c (preemptAll l c) := by
  unfold preemptAll
  refine ((Granted.bumpBy _).trans (foldl_granted (fun x a => ?_) l _)).trans (.modRunning _ fun _ => rfl)
  split
  · exact .preemptIst _
  · exact .refl x

theorem preemptAll_nil : preemptAll [] c = bumpBy (gIdx 13) 0 c := by
  have hid : mapIf (fun a : Activity => [].any fun b : Activity => b.id = a.id) (fun a => { a with state := 4 }) c.mgr.running = c.mgr.running := by
    simp [mapIf]
  unfold preemptAll modMgr
  simp only [List.foldl_nil, List.length_nil, bumpBy_mgr, hid]
  rw [bumpBy_frame]

theorem holdSpare_granted (kind : Nat) : Granted c (holdSpare kind c) := by
  unfold holdSpare
  split
  · exact .modPm _
  · exact .refl c

theorem grantWaiting_granted : Granted c (grantWaiting c) := by
  refine forEach_granted (fun a x => ?_) _ c
  split
  · exact ((preemptAll_granted _).trans (holdSpare_granted _)).trans (.modRunning _ fun _ => rfl)
  · exact .refl x

/-! ## Requests -/

theorem addActivity_maintained (kind tt target state : Nat) (byFirmware : Bool) : Maintained c (addActivity kind tt target state byFirmware c).2 := by
  dsimp only [addActivity]
  exact .modMgr rfl

theorem askIst_maintained (i : Fin 25) : Maintained c (askIst i c) := by
  unfold askIst
  dsimp only
  split
  · exact .refl c
  · exact (Maintained.modMgr rfl).trans grantWaiting_granted.toMaintained

/-- A target's test that has asked for its claim is listed. -/
theorem askIst_lists (i : Fin 25) : Lists (istActivity i).2.2.2 (askIst i c) := by
  unfold askIst
  dsimp only
  split
  next hlisted => simpa [Lists] using hlisted
  next => exact grantWaiting_granted.lists_iff.mpr ⟨_, List.mem_append_right _ List.mem_cons_self, rfl⟩

theorem askIst_keeps (i : Fin 25) {id : Nat} (h : Lists id c) : Lists id (askIst i c) := by
  unfold askIst
  dsimp only
  split
  · exact h
  · obtain ⟨a, ha, hid⟩ := h
    exact grantWaiting_granted.lists_iff.mpr ⟨a, List.mem_append_left _ ha, hid⟩

/-! ## Ends (R274) -/

/-- An activity as the list of ended ones holds it. -/
def endedAs (state : Nat) (result : BitVec 32) (c : Ctl) (a : Activity) : Activity :=
  { a with state := state, result := result, beat := c.beat.number.toNat % 2 ^ 32 }

theorem endActivity_maintained (id state : Nat) (result : BitVec 32) : Maintained c (endActivity id state result c) := by
  unfold endActivity
  split
  · exact .refl c
  · refine .trans ?_ ((Maintained.modMgr rfl).trans grantWaiting_granted.toMaintained)
    split
    · exact .modPm _
    · exact .refl c

/-- The last of the activities that have ended is among the 32 that are kept. -/
theorem mem_last_kept {α : Type} (l : List α) (x : α) : x ∈ (l ++ [x]).drop ((l ++ [x]).length - 32) := by
  have hle : (l ++ [x]).length - 32 ≤ l.length := by simp
  rw [List.drop_append_of_le_length hle]
  exact List.mem_append_right _ List.mem_cons_self

theorem substSpare_freed_mgr (a : Activity) :
    (if a.kind = 1 then modPm (fun pm => { pm with substSpare := none }) c else c).mgr = c.mgr := by
  split <;> rfl

theorem endActivity_ended {id : Nat} {a : Activity} (state : Nat) (result : BitVec 32) (h : (c.mgr.running.find? fun a => a.id = id) = some a) :
    endedAs state result c a ∈ (endActivity id state result c).mgr.ended := by
  unfold endActivity
  rw [h]
  dsimp only
  rw [grantWaiting_granted.ended, modMgr_mgr, substSpare_freed_mgr]
  exact mem_last_kept _ _

theorem endActivity_gone (id state : Nat) (result : BitVec 32) : ∀ x ∈ (endActivity id state result c).mgr.running, x.id ≠ id := by
  intro x hx hid
  unfold endActivity at hx
  split at hx
  next hnone => exact absurd (List.find?_eq_none.mp hnone x hx) (by simpa using hid)
  next a _ =>
    obtain ⟨y, hy, hyid⟩ := grantWaiting_granted.lists_iff.mp ⟨x, hx, hid⟩
    rw [modMgr_mgr] at hy
    simpa [hyid] using (List.mem_filter.mp hy).2

end Sys2Proof.Machine
end

section
/-! PROOF. When two claims overlap (R271): obligation O51. -/

namespace Sys2Proof.Machine

open Sys2Proof

/-! ## What each claim overlaps -/

theorem claimsOverlap_slice (n : Nat) (b : Claim) : claimsOverlap (.slice n) b = true ↔
    b = .slice n ∨ b = .layer (sliceLayer n) true ∨ b = .chan (sliceChan n).val := by
  cases b with
  | slice m => simp [claimsOverlap, eq_comm]
  | layer l e => cases e <;> simp [claimsOverlap, eq_comm]
  | chan k => simp [claimsOverlap, eq_comm]
  | port p => simp [claimsOverlap]

theorem claimsOverlap_layer (l : Nat) (e : Bool) (b : Claim) : claimsOverlap (.layer l e) b = true ↔
    (∃ f, b = .layer l f) ∨ (∃ n, (l = sliceLayer n ∧ e = true) ∧ b = .slice n) ∨ ∃ k, b = .chan k := by
  cases b with
  | slice m => simp [claimsOverlap, and_comm, eq_comm (a := l)]
  | layer m f => simp [claimsOverlap, eq_comm]
  | chan k => simp [claimsOverlap]
  | port p => simp [claimsOverlap]

theorem claimsOverlap_chan (k : Nat) (b : Claim) : claimsOverlap (.chan k) b = true ↔
    (∃ n, k = (sliceChan n).val ∧ b = .slice n) ∨ ∃ l e, b = .layer l e := by
  cases b with
  | slice m => simp [claimsOverlap, eq_comm]
  | layer l e => simp [claimsOverlap]
  | chan j => simp [claimsOverlap]
  | port p => simp [claimsOverlap]

theorem claimsOverlap_port (p : Nat) (b : Claim) : claimsOverlap (.port p) b = true ↔ b = .port p := by
  cases b with
  | port q => simp [claimsOverlap, eq_comm]
  | slice m => simp [claimsOverlap]
  | layer l e => simp [claimsOverlap]
  | chan k => simp [claimsOverlap]

end Sys2Proof.Machine

namespace Sys2Proof.Laws

open Sys2Proof Sys2Proof.Machine

/-- Settles O51: for each claim, what it overlaps is what R271's cases name with it on the left or on the right. -/
theorem claimsOverlap : Obligations.ClaimsOverlap := by
  intro a b
  cases a with
  | slice n => rw [claimsOverlap_slice]; simp
  | layer l e => rw [claimsOverlap_layer]; simp
  | chan k => rw [claimsOverlap_chan]; simp
  | port p => rw [claimsOverlap_port]; simp

end Sys2Proof.Laws
end

section
/-! PROOF. The system beat: edges, marks and the capture states (R256 to R262): obligation O35. -/

namespace Sys2Proof.Machine

open Sys2Proof

variable {c : Ctl} {s : State}

/-! ## A counted beat and its window -/

/-- The judgement of a beat's window changes the window's own record and the counters. -/
theorem windowBeat_frame : windowBeat c = { c with
    score := (windowBeat c).score
    beat := { c.beat with
      windowOpen := (windowBeat c).beat.windowOpen, lastWindow := (windowBeat c).beat.lastWindow, sinceWindow := (windowBeat c).beat.sinceWindow } } := by
  unfold windowBeat
  dsimp only
  split
  · split
    · rw [bump_frame]; rfl
    · rw [bump_frame]; rfl
  · rfl

@[simp] theorem windowBeat_chans : (windowBeat c).chans = c.chans := by rw [windowBeat_frame]
@[simp] theorem windowBeat_snapshot : (windowBeat c).snapshot = c.snapshot := by rw [windowBeat_frame]
@[simp] theorem windowBeat_number : (windowBeat c).beat.number = c.beat.number := by rw [windowBeat_frame]
@[simp] theorem windowBeat_state : (windowBeat c).beat.state = c.beat.state := by rw [windowBeat_frame]
@[simp] theorem windowBeat_intervals : (windowBeat c).beat.intervals = c.beat.intervals := by rw [windowBeat_frame]
@[simp] theorem windowBeat_co : (windowBeat c).beat.co = c.beat.co := by rw [windowBeat_frame]
@[simp] theorem windowBeat_coPending : (windowBeat c).beat.coPending = c.beat.coPending := by rw [windowBeat_frame]
@[simp] theorem windowBeat_snapshotBeat : (windowBeat c).beat.snapshotBeat = c.beat.snapshotBeat := by rw [windowBeat_frame]

@[simp] theorem countBeat_chans : (countBeat c).chans = c.chans := rfl
@[simp] theorem countBeat_number : (countBeat c).beat.number = c.beat.number + 1 := rfl
@[simp] theorem countBeat_state : (countBeat c).beat.state = c.beat.state := rfl
@[simp] theorem countBeat_intervals : (countBeat c).beat.intervals = c.beat.intervals := rfl

/-- BEAT_EVENT is no fault: its record leaves the beat. -/
@[simp] theorem beatEvent_beat (kind : Nat) : (beatEvent kind c).beat = c.beat := raiseEvent_plain_beat rfl

/-! ## Edges (R256, R257, R261) -/

theorem beatEdge_glitch {w v : Nat} (h : classify c.beat w v = .glitch) : beatEdge w v c = bump (gIdx 7) c := by
  unfold beatEdge
  rw [h]

/-- A valid edge in LOCKED, before one and a half periods have passed. -/
theorem beatEdge_locked {w v : Nat} (h : classify c.beat w v = .beat) (hstate : c.beat.state = .locked) (hv : 2 * v < 3 * c.beat.period) :
    beatEdge w v c = edgeLocked v c := by
  unfold beatEdge
  rw [h]
  simp only [hstate, hv, if_true]

/-- A late edge is counted, and the counter alone changes. -/
theorem lateEdge_frame (late : Prop) [Decidable late] :
    (if late then bump (gIdx 6) c else c) = { c with score := (if late then bump (gIdx 6) c else c).score } := by
  split
  · exact bump_frame _
  · rfl

theorem edgeLocked_near {v : Nat} (h : nearTo c.beat.period v = true) :
    (edgeLocked v c).beat.number = c.beat.number + 1 ∧ (edgeLocked v c).beat.state = c.beat.state ∧
      (edgeLocked v c).beat.intervals = (v :: c.beat.intervals).take 8 ∧ (edgeLocked v c).beat.bad = 0 ∧ (edgeLocked v c).chans = c.chans := by
  unfold edgeLocked
  simp only [h, if_true]
  rw [lateEdge_frame]
  simp

/-! ## Marks in LOCKED (R259) -/

/-- A multiple of 1,024 is its own nearest mark. -/
theorem nearestMark_self {n : Nat} (h : n % 1024 = 0) : nearestMark n 0 = n := by
  unfold nearestMark
  omega

theorem calCheck_maintained : Maintained c (calCheck c) := by
  unfold calCheck
  split
  · exact .refl c
  · refine forEach_inv (Maintained c) _ _ (fun l x hx => hx.trans ?_) c (.refl c)
    extract_lets settled
    split
    · exact ((addActivity_maintained _ _ _ _ _).trans (Maintained.modMgr rfl)).trans grantWaiting_granted.toMaintained
    · exact .refl x

/-- The beat with the changeover set that waited for a mark. -/
def markedBeat (b : Beat) : Beat := { b with co := b.coPending.getD b.co, coPending := none, snapshotBeat := b.number }

theorem markActions_effect {external : Bool} (h : c.beat.load = none) :
    (markActions external c).beat = markedBeat c.beat ∧ (markActions external c).snapshot = c.score := by
  unfold markActions loadAtMark
  simp only [h]
  exact ⟨calCheck_maintained.beat, calCheck_maintained.snapshot⟩

theorem rejudge_effect (was : Bool) : (rejudge was c).snapshot = c.snapshot ∧ (rejudge was c).beat.number = c.beat.number ∧
    (rejudge was c).beat.co = c.beat.co ∧ (rejudge was c).beat.coPending = c.beat.coPending ∧ (rejudge was c).beat.snapshotBeat = c.beat.snapshotBeat := by
  unfold rejudge
  split <;> simp

/-- A mark in LOCKED whose number is a multiple of 1,024. -/
theorem mark_locked (f : Nat) (hstate : c.beat.state = .locked) (hn : c.beat.number.toNat % 1024 = 0) :
    mark f c = rejudge (isWindowBeat c) (markActions true c) := by
  unfold mark markLocked
  simp only [hstate, nearestMark_self hn, if_true]

/-! ## The internal beat (R257, R261) -/

theorem internalCount_eq (h : (c.beat.number + 1).toNat % 1024 ≠ 0) : internalCount c = windowBeat (countBeat c) := by
  unfold internalCount
  dsimp only
  rw [if_neg (by rwa [countBeat_number])]

theorem enterFreeRun_beat (h : c.beat.load = none) :
    (enterFreeRun c).beat = { c.beat with state := .freeRun, bad := 0, intervals := [] } := by
  have hnext : ∀ d : Ctl, d.beat.load = none → cancelNext d = d := by
    intro d hd
    unfold cancelNext
    rw [hd]
  unfold enterFreeRun
  rw [beatEvent_beat, hnext _ (by rw [bump_beat]; exact h), bump_beat]
  rfl

/-! ## The obligation -/

/-- Settles O35: each clause by what its case of the capture states does to the beat. -/
theorem beatCapture : Obligations.BeatCapture := by
  refine ⟨fun w v s hclass => ⟨{ s with ctl := beatEdge w v s.ctl }, rfl, ?glitch⟩,
    fun w v s hclass hstate hv hnear => ⟨{ s with ctl := beatEdge w v s.ctl }, rfl, ?edge⟩,
    fun f s hstate hn hload => ⟨{ s with ctl := mark f s.ctl }, rfl, ?mark⟩,
    fun s hstate hload hn => ⟨{ s with ctl := beatMissing s.ctl }, rfl, ?missing⟩,
    fun s hstate hn => ⟨{ s with ctl := if s.ctl.beat.state = .locked then s.ctl else internalCount s.ctl }, rfl, ?internal⟩,
    fun s hstate hreported hfw => ⟨{ s with ctl := beatLockTimeout s.ctl }, rfl, ?lock⟩,
    fun s hstate _ => ⟨{ s with ctl := freeRunTimeout s.ctl }, rfl, ?free⟩⟩
  case glitch =>
    rw [beatEdge_glitch hclass]
    exact ⟨scoreGet_bump_self (w := 32) rfl (by omega), (bump_frame (gIdx 7) :), onlyLogic_ctl s _⟩
  case edge =>
    obtain ⟨hnumber, hlocked, hintervals, hbad, hchans⟩ := edgeLocked_near hnear
    rw [beatEdge_locked hclass hstate hv]
    exact ⟨hnumber, hlocked.trans hstate, hintervals, hbad, hchans, onlyLogic_ctl s _⟩
  case mark =>
    obtain ⟨hbeat, hsnapshot⟩ := markActions_effect (external := true) hload
    obtain ⟨hsnap, hnumber, hco, hpending, hat⟩ := rejudge_effect (c := markActions true s.ctl) (isWindowBeat s.ctl)
    rw [hbeat] at hnumber hco hpending hat
    rw [mark_locked f hstate hn]
    exact ⟨hnumber, hco, hpending, hsnap.trans hsnapshot, hat, onlyLogic_ctl s _⟩
  case missing =>
    have hbeat := enterFreeRun_beat hload
    have hcount : beatMissing s.ctl = windowBeat (countBeat (enterFreeRun s.ctl)) := by
      unfold beatMissing
      rw [if_pos hstate, internalCount_eq (by rwa [hbeat])]
    rw [hcount]
    refine ⟨?_, ?_, ?_, onlyLogic_ctl s _⟩
    · rw [windowBeat_state, countBeat_state, hbeat]
    · rw [windowBeat_number, countBeat_number, hbeat]
    · rw [windowBeat_intervals, countBeat_intervals, hbeat]
  case internal =>
    rw [if_neg hstate, internalCount_eq hn]
    exact ⟨windowBeat_number, windowBeat_state, windowBeat_chans, onlyLogic_ctl s _⟩
  case lock =>
    have hevent : beatLockTimeout s.ctl = beatEvent 0 (modBeat (fun b => { b with lockReported := true }) s.ctl) := by
      unfold beatLockTimeout
      simp [hstate, hreported, hfw]
    rw [hevent]
    exact ⟨beatEvent_beat 0, onlyLogic_ctl s _⟩
  case free =>
    have hevent : freeRunTimeout s.ctl = beatEvent 3 (modBeat (fun b => { b with uncertain := true }) s.ctl) := if_pos hstate
    rw [hevent]
    exact ⟨beatEvent_beat 3, onlyLogic_ctl s _⟩

end Sys2Proof.Machine
end

section
/-! PROOF. In-service test (R273 to R277, R310, R328, R329): units that come due and the steps of a target: obligation O37. -/

namespace Sys2Proof.Machine

open Sys2Proof

variable {c d : Ctl} {i : Fin 25} {ch : Fin 32} {m : List Host.Cell} {reads : List (Nat × BitVec 320)}

/-! ## The time of a step (R211, R275, R277) -/

/-- The test of a target runs, and nothing keeps a step of it from its work but the time that the step takes. -/
structure TestRuns (c : Ctl) (i : Fin 25) : Prop where
  granted : ∃ x, (c.mgr.running.find? fun a => a.id = (istActivity i).2.2.2) = some x ∧ x.state = 1
  awake : c.power.ranksAsleep = false
  selfRefreshOff : c.power.selfRefresh = false
  drained : ∀ r ∈ istRanks i (istChan c i), (c.chans[istChan c i]).sliceDrain.getLsbD r = false
  notSkipped : istSkips c i = false

theorem istSkips_layer (h : 8 ≤ i.val) : istSkips c i = false := by
  simp [istSkips, Nat.not_lt.mpr h]

/-- A step that has its time does its work. -/
theorem TestRuns.step (h : TestRuns c i) (bonds : List (Nat × Bool)) (htime : istTime i (istChan c i) c = some d) :
    istStep i bonds reads m c = if i.val < 8 then benchStep i reads m d else (m, bondStep i (istChan c i) bonds d) := by
  obtain ⟨⟨x, hx, hstate⟩, hawake, hself, hdrain, hskips⟩ := h
  have hany : ((istRanks i (istChan c i)).any fun r => (c.chans[istChan c i]).sliceDrain.getLsbD r) = false :=
    List.any_eq_false.mpr fun r hr => by rw [hdrain r hr]; exact Bool.false_ne_true
  unfold istStep
  dsimp only
  rw [hx]
  dsimp only
  rw [if_neg (by rw [hstate]; decide), hany, hawake, hself, hskips, htime]
  simp [hstate]

/-- On an idle channel a step is the arbiter's only candidate. -/
theorem istTime_idle (hfits : istFits c i ch = false) (hidle : istIdle c ch = true) (hbusy : (c.mgr.ist[i]).busyUntil ≤ c.now) :
    istTime i ch c = some (modIst i (fun t => { t with busyUntil := c.now + 100 }) (arbitrate [istCand c] c ch).2) := by
  unfold istTime
  simp only [hfits, hidle, hbusy, Bool.false_eq_true, if_false, decide_true, Bool.and_self, if_true]

theorem istTime_window (hfits : istFits c i ch = true) :
    istTime i ch c = some (modIst i (fun t => { t with busyUntil := istWindowEnd c i ch }) (istInWindow i ch c)) := by
  unfold istTime
  rw [if_pos hfits]

/-- The arbiter's choice leaves management and the tracker. -/
theorem arbitrate_single_keeps (y : Cand) : (arbitrate [y] c ch).2.mgr = c.mgr ∧ (arbitrate [y] c ch).2.trk = c.trk := by
  obtain ⟨d, hchoice, hview, -⟩ := arbitrate_single (c := c) (ch := ch) y
  rw [hchoice]
  exact ⟨(congrArg Ctl.mgr hview :), (congrArg Ctl.trk hview :)⟩

/-! ## Bench units (R328) -/

theorem activate_mgr (key : Nat) : (activate key c).mgr = c.mgr := by
  unfold activate
  simp [addActs]

theorem openRowFor_mgr (key : Nat) : (openRowFor key c).mgr = c.mgr := by
  unfold openRowFor
  dsimp only
  split
  · rfl
  · split
    · exact bump_mgr _
    · exact activate_mgr key

/-- Every visit is to a granule of the page. -/
theorem marchVisit_lt (n : Nat) : (marchVisit n).1 < 2048 := by
  unfold marchVisit
  dsimp only
  split <;> dsimp only <;> omega

/-- What visits to granules of page `p` leave: the target's progress apart from the granule that failed, the tracker, the form of DRAM
and every byte of other pages. -/
structure VisitsPage (i : Fin 25) (p : Nat) (x y : List Host.Cell × Ctl) : Prop where
  ist : ∃ f, y.2.mgr.ist[i] = { x.2.mgr.ist[i] with failed := f }
  trk : y.2.trk = x.2.trk
  wf : Memory.wf y.1 = true
  bytes : ∀ a, (∀ g < 2048, a < 40 * granKey p g ∨ 40 * granKey p g + 40 ≤ a) → readByte y.1 a = readByte x.1 a

theorem VisitsPage.trans {p : Nat} {x y z : List Host.Cell × Ctl} (h : VisitsPage i p x y) (k : VisitsPage i p y z) : VisitsPage i p x z := by
  obtain ⟨f, hf⟩ := k.ist
  obtain ⟨f', hf'⟩ := h.ist
  exact ⟨⟨f, by rw [hf, hf']⟩, k.trk.trans h.trk, k.wf, fun a ha => (k.bytes a ha).trans (h.bytes a ha)⟩

theorem VisitsPage.page {p : Nat} {x y : List Host.Cell × Ctl} (h : VisitsPage i p x y) : istPage y.2 i = istPage x.2 i := by
  obtain ⟨f, hf⟩ := h.ist
  unfold istPage istUnit
  rw [hf]

/-- The granule of visit `k` of a step. -/
def marchKey (i : Fin 25) (k : Nat) (c : Ctl) : Nat := granKey (istPage c i) (marchVisit ((c.mgr.ist[i]).done + k)).1

/-- A visit opens its granule's row, may note the granule as failed, and stores nothing or one value to it. -/
theorem benchVisit_eq (k : Nat) : ∃ (f : Ist → Option Nat) (w : List Host.Cell),
    benchVisit i reads k (m, c) = (w, modIst i (fun t => { t with failed := f t }) (openRowFor (marchKey i k c) c)) ∧
      (w = m ∨ ∃ v, w = dramWrite m (marchKey i k c) v) := by
  unfold benchVisit
  extract_lets t v key raw bad d
  have hnoted : (fun t : Ist => if bad && t.failed.isNone then { t with failed := some v.1 } else t) =
      fun t => { t with failed := if bad && t.failed.isNone then some v.1 else t.failed } := by
    funext t
    split <;> rfl
  refine ⟨fun t => if bad && t.failed.isNone then some v.1 else t.failed, _, Prod.ext rfl (congrArg (modIst i · _) hnoted), ?_⟩
  cases v.2.2 with
  | none => exact .inl rfl
  | some g => exact .inr ⟨_, rfl⟩

theorem benchVisit_visits (k : Nat) (hm : Memory.wf m = true) : VisitsPage i (istPage c i) (m, c) (benchVisit i reads k (m, c)) := by
  obtain ⟨f, w, hvisit, hw⟩ := benchVisit_eq (i := i) (reads := reads) (m := m) (c := c) k
  rw [hvisit]
  have hist : ((modIst i (fun t => { t with failed := f t }) (openRowFor (marchKey i k c) c)).mgr.ist[i]) =
      { c.mgr.ist[i] with failed := f c.mgr.ist[i] } := by
    rw [modIst_self, openRowFor_mgr]
  have htrk : (modIst i (fun t => { t with failed := f t }) (openRowFor (marchKey i k c) c)).trk = c.trk := openRowFor_trk (marchKey i k c)
  have hwf : Memory.wf w = true := by
    rcases hw with hw | ⟨v, hw⟩ <;> rw [hw]
    · exact hm
    · exact dramWrite_wf hm _ _
  refine ⟨⟨_, hist⟩, htrk, hwf, fun a ha => ?_⟩
  dsimp only
  rcases hw with hw | ⟨v, hw⟩ <;> rw [hw]
  exact dramWrite_outside hm _ _ _ (ha _ (marchVisit_lt _))

/-- All visits of a step are to the page of the unit in progress. -/
theorem foldl_benchVisit_visits (l : List Nat) (x : List Host.Cell × Ctl) (hx : Memory.wf x.1 = true) :
    VisitsPage i (istPage x.2 i) x (l.foldl (fun x k => benchVisit i reads k x) x) := by
  induction l generalizing x with
  | nil => exact ⟨⟨_, rfl⟩, rfl, hx, fun _ _ => rfl⟩
  | cons k t ih =>
    have hfirst := benchVisit_visits (reads := reads) (i := i) (c := x.2) k hx
    have hrest := ih _ hfirst.wf
    rw [hfirst.page] at hrest
    exact hfirst.trans hrest

/-- A step before the last of its unit. -/
theorem benchStep_effect (hdone : (c.mgr.ist[i]).done + stepVisits < unitVisits) (hm : Memory.wf m = true) :
    ∃ f, ((benchStep i reads m c).2.mgr.ist[i]) = { c.mgr.ist[i] with failed := f, done := (c.mgr.ist[i]).done + stepVisits } ∧
      (benchStep i reads m c).2.trk = c.trk ∧ Memory.wf (benchStep i reads m c).1 = true ∧
      (∀ a, (∀ g < 2048, a < 40 * granKey (istPage c i) g ∨ 40 * granKey (istPage c i) g + 40 ≤ a) →
        readByte (benchStep i reads m c).1 a = readByte m a) := by
  have hvisits := foldl_benchVisit_visits (reads := reads) (i := i) (List.range stepVisits) (m, c) hm
  obtain ⟨f, hf⟩ := hvisits.ist
  have hcount : ((modIst i (fun t => { t with done := t.done + stepVisits })
      ((List.range stepVisits).foldl (fun x k => benchVisit i reads k x) (m, c)).2).mgr.ist[i]) =
        { c.mgr.ist[i] with failed := f, done := (c.mgr.ist[i]).done + stepVisits } := by
    rw [modIst_self, hf]
  unfold benchStep
  dsimp only
  rw [hcount, if_neg (Nat.not_le.mpr hdone)]
  exact ⟨f, hcount, hvisits.trk, hvisits.wf, hvisits.bytes⟩

/-- A step of a target on an idle channel works on a state whose tests and tracker are as they were, but for the end of the step. -/
theorem TestRuns.step_idle (h : TestRuns c i) (bonds : List (Nat × Bool)) (hfits : istFits c i (istChan c i) = false)
    (hidle : istIdle c (istChan c i) = true) (hbusy : (c.mgr.ist[i]).busyUntil ≤ c.now) :
    ∃ d, istStep i bonds reads m c = (if i.val < 8 then benchStep i reads m d else (m, bondStep i (istChan c i) bonds d)) ∧
      d.mgr.ist[i] = { c.mgr.ist[i] with busyUntil := c.now + 100 } ∧ d.trk = c.trk := by
  obtain ⟨hmgr, htrk⟩ := arbitrate_single_keeps (c := c) (ch := istChan c i) (istCand c)
  exact ⟨_, h.step bonds (istTime_idle hfits hidle hbusy), by rw [modIst_self, hmgr], htrk⟩

/-- A step of a bench unit on an idle channel, before the last. -/
theorem TestRuns.step_bench (h : TestRuns c i) (bonds : List (Nat × Bool)) (hi : i.val < 8) (hfits : istFits c i (istChan c i) = false)
    (hidle : istIdle c (istChan c i) = true) (hbusy : (c.mgr.ist[i]).busyUntil ≤ c.now)
    (hdone : (c.mgr.ist[i]).done + stepVisits < unitVisits) (hm : Memory.wf m = true) :
    ∃ f, ((istStep i bonds reads m c).2.mgr.ist[i]) =
        { c.mgr.ist[i] with busyUntil := c.now + 100, failed := f, done := (c.mgr.ist[i]).done + stepVisits } ∧
      (istStep i bonds reads m c).2.trk = c.trk ∧ Memory.wf (istStep i bonds reads m c).1 = true ∧
      (∀ a, (∀ g < 2048, a < 40 * granKey (istPage c i) g ∨ 40 * granKey (istPage c i) g + 40 ≤ a) →
        readByte (istStep i bonds reads m c).1 a = readByte m a) := by
  obtain ⟨d, hstep, hist, htrk⟩ := h.step_idle (reads := reads) (m := m) bonds hfits hidle hbusy
  have hpage : istPage d i = istPage c i := by
    unfold istPage istUnit
    rw [hist]
  obtain ⟨f, hbench, hstay, hwf, hbytes⟩ := benchStep_effect (reads := reads) (m := m) (i := i) (c := d) (by rw [hist]; exact hdone) hm
  rw [hpage] at hbytes
  rw [hist] at hbench
  rw [hstep, if_pos hi]
  exact ⟨f, hbench, hstay.trans htrk, hwf, hbytes⟩

/-! ## Units of IST_TSV (R329) -/

/-- One of the four steps of a unit has been made. -/
def bondsTested (i : Fin 25) : Ctl → Ctl := modIst i fun t => { t with done := t.done + 1 }

/-- A step in which no bond fails only counts; the fourth ends its unit. -/
theorem bondStep_good : bondStep i ch [] c = if 4 ≤ (c.mgr.ist[i]).done + 1 then bondsEnd i ch (bondsTested i c) else bondsTested i c := by
  have htested : modIst i (fun t => { t with done := t.done + 1, bonds := t.bonds ++ [] }) c = bondsTested i c := by
    simp only [List.append_nil]
    rfl
  have hdone : ((bondsTested i c).mgr.ist[i]).done = (c.mgr.ist[i]).done + 1 := congrArg Ist.done (modIst_self i _)
  unfold bondStep
  dsimp only [List.filter_nil]
  rw [htested]
  exact congrArg (fun n => if 4 ≤ n then bondsEnd i ch (bondsTested i c) else bondsTested i c) hdone

/-- The end of a unit does no more to the tests than going on to the next unit. -/
theorem istUnitEnd_maintained (found : Bool) : Maintained (modIst i (istNext i) c) (istUnitEnd i found c) := by
  unfold istUnitEnd
  dsimp only
  split
  · exact endActivity_maintained _ _ _
  · exact (endActivity_maintained _ _ _).trans (askIst_maintained i)

/-- A unit that was due ends: the next follows. -/
theorem istUnitEnd_next {found : Bool} (h : (c.mgr.ist[i]).forward = []) :
    ((istUnitEnd i found c).mgr.ist[i]).done = 0 ∧ ((istUnitEnd i found c).mgr.ist[i]).unit = ((c.mgr.ist[i]).unit + 1) % istUnits i ∧
      ((istUnitEnd i found c).mgr.ist[i]).due = (c.mgr.ist[i]).due.tail := by
  have hend := istUnitEnd_maintained (c := c) (i := i) found
  have hnext : (modIst i (istNext i) c).mgr.ist[i] =
      { istClear c.mgr.ist[i] with unit := ((c.mgr.ist[i]).unit + 1) % istUnits i, due := (c.mgr.ist[i]).due.tail, preempted := false } := by
    rw [modIst_self]
    unfold istNext
    rw [h]
  refine ⟨hend.done_zero ?_, hend.unit.trans ?_, hend.due.trans ?_⟩ <;> rw [hnext]
  rfl

/-- A unit none of whose bonds failed ends without a finding. -/
theorem bondsEnd_good (h : (c.mgr.ist[i]).bonds = []) : ∃ f, bondsEnd i ch c = istUnitEnd i false (modChan ch f c) := by
  unfold bondsEnd
  simp only [h, forEach, List.foldl_nil, List.any_nil]
  exact ⟨_, rfl⟩

theorem bondStep_good_trk (hbonds : (c.mgr.ist[i]).bonds = []) : (bondStep i ch [] c).trk = c.trk := by
  have htested : ((bondsTested i c).mgr.ist[i]).bonds = [] := (congrArg Ist.bonds (modIst_self i _)).trans hbonds
  rw [bondStep_good]
  split
  · obtain ⟨f, hends⟩ := bondsEnd_good (ch := ch) htested
    rw [hends]
    exact (istUnitEnd_maintained false).trk
  · rfl

theorem bondStep_goes_on (hdone : (c.mgr.ist[i]).done < 3) : bondStep i ch [] c = bondsTested i c := by
  rw [bondStep_good, if_neg (by omega)]

theorem bondsTested_ist : (bondsTested i c).mgr.ist[i] = { c.mgr.ist[i] with done := (c.mgr.ist[i]).done + 1 } := modIst_self i _

/-- The fourth step of a unit in which no bond has failed ends it, and the next follows. -/
theorem bondStep_ends (hbonds : (c.mgr.ist[i]).bonds = []) (hforward : (c.mgr.ist[i]).forward = []) (hdone : (c.mgr.ist[i]).done = 3) :
    ((bondStep i ch [] c).mgr.ist[i]).done = 0 ∧ ((bondStep i ch [] c).mgr.ist[i]).unit = ((c.mgr.ist[i]).unit + 1) % istUnits i ∧
      ((bondStep i ch [] c).mgr.ist[i]).due = (c.mgr.ist[i]).due.tail := by
  obtain ⟨f, hends⟩ := bondsEnd_good (ch := ch) (c := bondsTested i c) (i := i) (by rw [bondsTested_ist]; exact hbonds)
  have hnext := istUnitEnd_next (found := false) (c := modChan ch f (bondsTested i c)) (i := i)
    (by rw [modChan_mgr, bondsTested_ist]; exact hforward)
  rw [modChan_mgr, bondsTested_ist] at hnext
  rw [bondStep_good, hdone, if_pos (by omega), hends]
  exact hnext

/-! ## A step in the window (R267, R277) -/

theorem foldl_bankPut_windowBusy (b : Nat → Chan → Bank) (l : List Nat) (x : Chan) :
    (l.foldl (fun x k => bankPut k (b k x) x) x).windowBusy = x.windowBusy := by
  induction l generalizing x with
  | nil => rfl
  | cons k t ih => exact ih (bankPut k (b k x) x)

/-- A step in the window changes its channel and one counter. -/
theorem istInWindow_eq : ∃ f, istInWindow i ch c = bump (gIdx 14) (modChan ch f c) ∧
    ∀ x, (f x).windowBusy = Nat.max x.windowBusy (istWindowEnd c i ch) := by
  refine ⟨fun x => { ((istRanks i ch).flatMap rankBanks).foldl (fun x k => bankPut k { bankGet x k with busyUntil := istWindowEnd c i ch } x) x with
    windowBusy := Nat.max x.windowBusy (istWindowEnd c i ch) }, ?_, fun x => rfl⟩
  unfold istInWindow windowItem
  dsimp only
  refine congrArg (bump (gIdx 14)) ?_
  unfold modChan
  simp [foldl_bankPut_windowBusy (fun k x => { bankGet x k with busyUntil := istWindowEnd c i ch })]

/-- A step in the window works on a state in which it is counted and has blocked the slice under test. -/
theorem TestRuns.step_window (h : TestRuns c i) (bonds : List (Nat × Bool)) (hfits : istFits c i (istChan c i) = true) :
    ∃ d, istStep i bonds reads m c = (if i.val < 8 then benchStep i reads m d else (m, bondStep i (istChan c i) bonds d)) ∧
      d.mgr.ist[i] = { c.mgr.ist[i] with busyUntil := istWindowEnd c i (istChan c i) } ∧
      scoreGet d (gIdx 14) = Nat.min (scoreGet c (gIdx 14) + 1) (2 ^ 32 - 1) ∧
      (∃ f, d.chans = (modChan (istChan c i) f c).chans ∧ ∀ x, (f x).windowBusy = Nat.max x.windowBusy (istWindowEnd c i (istChan c i))) ∧
      d.trk = c.trk := by
  obtain ⟨f, hwindow, hbusy⟩ := istInWindow_eq (c := c) (i := i) (ch := istChan c i)
  have htime := istTime_window hfits
  rw [hwindow] at htime
  refine ⟨_, h.step bonds htime, ?_, ?_, ⟨f, bump_chans _, hbusy⟩, (bump_trk (c := modChan (istChan c i) f c) _ :)⟩
  · rw [modIst_self, bump_mgr, modChan_mgr]
  · exact scoreGet_bump_self (c := modChan (istChan c i) f c) (w := 32) rfl (by omega)

theorem istUnitDue_ready (n : Nat) (h : c.power.stage = .ready) : istUnitDue i n c =
    askIst i (modIst i (fun t => { t with due := t.due ++ [(c.now : Int) - (n * istPeriod i / 1000 : Nat)] }) c) := by
  unfold istUnitDue
  rw [if_neg (by simp [h])]

/-! ## The obligation -/

/-- Settles O37: units that come due join the list of their target, a bench step's visits are all to its unit's page, and a step of a
layer's bonds takes its time on the idle channel or in the window. -/
theorem inServiceTest : Obligations.InServiceTest := by
  refine ⟨fun i n s hready => ⟨{ s with ctl := istUnitDue i n s.ctl }, rfl, ?due⟩, ?bench, ?bonds, ?window⟩
  case due =>
    have hlisted := modIst_self (c := s.ctl) i (fun t => { t with due := t.due ++ [(s.ctl.now : Int) - (n * istPeriod i / 1000 : Nat)] })
    have hask := askIst_maintained (c := modIst i (fun t => { t with due := t.due ++ [(s.ctl.now : Int) - (n * istPeriod i / 1000 : Nat)] }) s.ctl) i
    rw [istUnitDue_ready n hready]
    exact ⟨hask.due.trans (by rw [hlisted]), hask.unit.trans (by rw [hlisted]), askIst_lists i, onlyLogic_ctl s _⟩
  case bench =>
    intro i bonds reads x s hx hstate hawake hself hi huse hdrain hfits hidle hbusy hdone hm
    have hruns : TestRuns s.ctl i := ⟨⟨x, hx, hstate⟩, hawake, hself, hdrain, by simp [istSkips, huse]⟩
    obtain ⟨f, hist, htrk, hwf, hbytes⟩ := hruns.step_bench (reads := reads) bonds hi hfits hidle hbusy hdone hm
    refine ⟨{ s with dram := (istStep i bonds reads s.dram s.ctl).1, ctl := (istStep i bonds reads s.dram s.ctl).2 }, rfl, ?_⟩
    dsimp only
    rw [hist]
    exact ⟨rfl, rfl, rfl, htrk, hwf, rfl, hbytes⟩
  case bonds =>
    intro i reads x s hx hstate hawake hself hi hdrain hfits hidle hbusy hbonds hforward
    have hruns : TestRuns s.ctl i := ⟨⟨x, hx, hstate⟩, hawake, hself, hdrain, istSkips_layer hi⟩
    obtain ⟨d, hstep, hist, htrk⟩ := hruns.step_idle (reads := reads) (m := s.dram) [] hfits hidle hbusy
    rw [if_neg (Nat.not_lt.mpr hi)] at hstep
    have hnobonds : (d.mgr.ist[i]).bonds = [] := by rw [hist]; exact hbonds
    have hends := bondStep_ends (ch := istChan s.ctl i) hnobonds (by rw [hist]; exact hforward)
    rw [hist] at hends
    refine ⟨{ s with dram := (istStep i [] reads s.dram s.ctl).1, ctl := (istStep i [] reads s.dram s.ctl).2 }, rfl, ?_⟩
    rw [hstep]
    refine ⟨(bondStep_good_trk hnobonds).trans htrk, onlyLogic_ctl s _, fun hdone => ?_, hends⟩
    dsimp only
    rw [bondStep_goes_on (by rw [hist]; exact hdone), bondsTested_ist, hist]
    exact ⟨rfl, rfl, rfl⟩
  case window =>
    intro i reads x s hx hstate hawake hself hi hdrain hfits hdone
    have hruns : TestRuns s.ctl i := ⟨⟨x, hx, hstate⟩, hawake, hself, hdrain, istSkips_layer hi⟩
    obtain ⟨d, hstep, hist, hcount, ⟨f, hchans, hbusy⟩, htrk⟩ := hruns.step_window (reads := reads) (m := s.dram) [] hfits
    rw [if_neg (Nat.not_lt.mpr hi), bondStep_goes_on (by rw [hist]; exact hdone)] at hstep
    refine ⟨{ s with dram := (istStep i [] reads s.dram s.ctl).1, ctl := (istStep i [] reads s.dram s.ctl).2 }, rfl, ?_⟩
    rw [hstep]
    dsimp only
    rw [bondsTested_ist, hist]
    refine ⟨hcount, ?_, rfl, rfl, fun w hw => ?_, htrk, onlyLogic_ctl s _⟩
    · exact (congrArg (fun v : Vector Chan 32 => (v[istChan s.ctl i]).windowBusy) hchans).trans (by simp [hbusy])
    · exact (congrArg (fun v : Vector Chan 32 => v[w]) hchans).trans (modChan_other _ _ f hw)

end Sys2Proof.Machine
end

section
/-! PROOF. Maintenance commands and the ends of activities (R63, R270 to R274, R311, R330, R331): obligation O38. -/

namespace Sys2Proof.Machine

open Sys2Proof

variable {c d : Ctl} {s : State} {m : Mgmt} {a : Activity}

/-! ## Claims and holders (R270 to R272) -/

/-- What an activity claims depends on the page map and the channels, for the spare slice of a substitution. -/
theorem claimsOf_congr (hpm : d.pm = c.pm) (hchans : d.chans = c.chans) (kind tt target : Nat) : claimsOf d kind tt target = claimsOf c kind tt target := by
  have hspare : nextBench d none = nextBench c none := by
    unfold nextBench benchOk useGet sliceIsOut sliceVacated
    rw [hpm, hchans]
  unfold claimsOf benchSlice
  rw [hpm, hspare]

theorem holders_congr (hmgr : d.mgr.running = c.mgr.running) : holders d = holders c := by
  unfold holders
  rw [hmgr]

theorem overlapping_congr (hmgr : d.mgr.running = c.mgr.running) (hpm : d.pm = c.pm) (hchans : d.chans = c.chans) (kind tt target : Nat) :
    overlapping d kind tt target = overlapping c kind tt target := by
  unfold overlapping
  simp only [holders_congr hmgr, claimsOf_congr hpm hchans]

theorem blocker_congr (hmgr : d.mgr.running = c.mgr.running) (hpm : d.pm = c.pm) (hchans : d.chans = c.chans) (kind tt target : Nat) :
    blocker d kind tt target = blocker c kind tt target := by
  unfold blocker
  rw [overlapping_congr hmgr hpm hchans]

theorem claimsHeld_congr (hmgr : d.mgr.running = c.mgr.running) (hpm : d.pm = c.pm) (hchans : d.chans = c.chans) : claimsHeld d = claimsHeld c := by
  unfold claimsHeld
  simp only [holders_congr hmgr, claimsOf_congr hpm hchans]

/-- Where nothing overlaps, nothing is preempted. -/
theorem preemptOverlap_none {kind tt target : Nat} (h : overlapping c kind tt target = []) : preemptOverlap kind tt target c = bumpBy (gIdx 13) 0 c := by
  unfold preemptOverlap
  rw [h]
  exact preemptAll_nil

theorem takenUp_running (op : Nat) (m : Mgmt) : (takenUp op m c).mgr.running = c.mgr.running := by
  rw [takenUp_mgr]
  cases m.via <;> rfl

theorem takenUp_ended (op : Nat) (m : Mgmt) : (takenUp op m c).mgr.ended = c.mgr.ended := by
  rw [takenUp_mgr]
  cases m.via <;> rfl

theorem replyTo_running (ref : CmdRef) (st op : Nat) (l : List Byte) : (replyTo ref st op l c).mgr.running = c.mgr.running := by rw [replyTo_frame]
theorem replyTo_ended (ref : CmdRef) (st op : Nat) (l : List Byte) : (replyTo ref st op l c).mgr.ended = c.mgr.ended := by rw [replyTo_frame]

/-! ## MAINT_START (R272) and MAINT_STATUS (R274) -/

theorem leaveSelfRefresh_mgr : (leaveSelfRefresh c).mgr = c.mgr := by
  unfold leaveSelfRefresh
  split <;> rfl

/-- The activity that joins the list. -/
theorem addActivity_running (kind tt target state : Nat) (byFirmware : Bool) : ∃ a,
    (addActivity kind tt target state byFirmware c).2.mgr.running = c.mgr.running ++ [a] ∧ a.kind = kind ∧ a.targetType = tt ∧
      a.target = target ∧ a.state = state ∧ a.byFirmware = byFirmware := ⟨_, rfl, rfl, rfl, rfl, rfl, rfl⟩

/-- An eye scan of a port that nothing overlaps starts (R63, R272). -/
theorem maintStart_eyeScan (p : Fin 4) (ref : CmdRef) (hblocker : blocker c 5 1 p.val = none) (hoverlap : overlapping c 5 1 p.val = [])
    (hheld : claimsHeld c < 64) : ∃ id, maintStart 5 1 p.val ref c =
      replyTo ref 0 0 (toBytes 2 id) (addActivity 5 1 p.val 1 false (leaveSelfRefresh (bumpBy (gIdx 13) 0 c))).2 := by
  have hroom : ¬ 64 < claimsHeld (bumpBy (gIdx 13) 0 c) + (claimsOf (bumpBy (gIdx 13) 0 c) 5 1 p.val).length := by
    rw [claimsHeld_congr (congrArg Mgr.running (bumpBy_mgr _ _)) (bumpBy_pm _ _) (bumpBy_chans _ _)]
    exact Nat.not_lt.mpr hheld
  refine ⟨(addActivity 5 1 p.val 1 false (leaveSelfRefresh (bumpBy (gIdx 13) 0 c))).1, ?_⟩
  unfold maintStart
  simp only [preemptOverlap_none hoverlap, hblocker, if_neg hroom]
  simp [targetOk, startAllowed, onStart, p.isLt]

theorem maintStart_effect (p : Fin 4) (hs : served 0x60 m s) (hblocker : blocker s.ctl 5 1 p.val = none) (hoverlap : overlapping s.ctl 5 1 p.val = [])
    (hheld : claimsHeld s.ctl < 64) : ∃ t, exec (.maintStart m 5 1 p.val) s = .next t ∧
      (∃ a, t.ctl.mgr.running = s.ctl.mgr.running ++ [a] ∧ a.kind = 5 ∧ a.targetType = 1 ∧ a.target = p.val ∧ a.state = 1 ∧ a.byFirmware = false) ∧
      onlyLogic s t := by
  have hrunning : (takenUp 0x60 m s.ctl).mgr.running = s.ctl.mgr.running := takenUp_running 0x60 m
  have hpm : (takenUp 0x60 m s.ctl).pm = s.ctl.pm := takenUp_pm 0x60 m
  have hchans : (takenUp 0x60 m s.ctl).chans = s.ctl.chans := takenUp_chans 0x60 m
  obtain ⟨id, hstarted⟩ := maintStart_eyeScan (c := takenUp 0x60 m s.ctl) p (refOf 0x60 m) (by rw [blocker_congr hrunning hpm hchans]; exact hblocker)
    (by rw [overlapping_congr hrunning hpm hchans]; exact hoverlap) (by rw [claimsHeld_congr hrunning hpm hchans]; exact hheld)
  obtain ⟨a, hadded, hfields⟩ := addActivity_running (c := leaveSelfRefresh (bumpBy (gIdx 13) 0 (takenUp 0x60 m s.ctl))) 5 1 p.val 1 false
  rw [leaveSelfRefresh_mgr, bumpBy_mgr, hrunning] at hadded
  refine ⟨{ s with ctl := command 0x60 m (maintStart 5 1 p.val) s.ctl }, rfl, ⟨a, ?_, hfields⟩, onlyLogic_ctl s _⟩
  rw [command_served hs, hstarted]
  exact (replyTo_running _ _ _ _).trans hadded

theorem maintStatus_effect (first : Nat) (hs : served 0x61 m s) : ∃ t, exec (.maintStatus m first) s = .next t ∧
    answers 0x61 m 0 (toBytes 8 (s.ctl.mgr.running ++ s.ctl.mgr.ended).length ++
      (((s.ctl.mgr.running ++ s.ctl.mgr.ended).drop first).take 62).flatMap fun a => toBytes 16 (activityBits a)) s t := by
  refine ⟨{ s with ctl := command 0x61 m (maintStatus first) s.ctl }, rfl, ?_⟩
  unfold answers
  rw [command_served hs]
  unfold maintStatus
  rw [takenUp_running, takenUp_ended]

/-! ## MAINT_ABORT (R274) -/

/-- The one activity of an identifier is the one that a search finds. -/
theorem find_unique {l : List Activity} {id : Nat} (ha : a ∈ l) (hid : a.id = id) (h : ∀ x ∈ l, x.id = id → x = a) :
    (l.find? fun x => x.id = id) = some a := by
  cases hfound : l.find? fun x => x.id = id with
  | none => exact absurd hid (by simpa using List.find?_eq_none.mp hfound a ha)
  | some x => rw [h x (List.mem_of_find?_eq_some hfound) (by simpa using List.find?_some hfound)]

theorem maintAbort_effect {id : Nat} (hs : served 0x62 m s) (ha : a ∈ s.ctl.mgr.running) (hid : a.id = id) (hkind : a.kind = 5)
    (hone : ∀ x ∈ s.ctl.mgr.running, x.id = id → x = a) : ∃ t, exec (.maintAbort m id) s = .next t ∧ (∀ x ∈ t.ctl.mgr.running, x.id ≠ id) ∧
      (∃ x ∈ t.ctl.mgr.ended, x.id = id ∧ x.state = 3 ∧ x.kind = 5) ∧ onlyLogic s t := by
  have hfound : ((takenUp 0x62 m s.ctl).mgr.running.find? fun a => a.id = id) = some a := by
    rw [takenUp_running]
    exact find_unique ha hid hone
  have hbody : command 0x62 m (maintAbort id) s.ctl = replyTo (refOf 0x62 m) 0 0 [] (endActivity id 3 0 (takenUp 0x62 m s.ctl)) := by
    rw [command_served hs]
    unfold maintAbort
    rw [hfound]
    simp [abortable, onAbort, istIndex, hkind]
  have hbist : ((holders s.ctl).find? fun a => a.id = id && a.kind = 8) = none := by
    refine List.find?_eq_none.mpr fun x hx hmatch => ?_
    simp only [Bool.and_eq_true, decide_eq_true_eq] at hmatch
    have hxa := hone x (List.mem_of_mem_filter hx) hmatch.1
    rw [hxa, hkind] at hmatch
    exact absurd hmatch.2 (by decide)
  have hctl : maintAbortCmd m id s.dram s.ctl = (s.dram, command 0x62 m (maintAbort id) s.ctl) := by
    unfold maintAbortCmd
    rw [hbist]
  refine ⟨{ s with dram := (maintAbortCmd m id s.dram s.ctl).1, ctl := (maintAbortCmd m id s.dram s.ctl).2 }, rfl, ?_⟩
  rw [hctl, hbody]
  refine ⟨?_, ⟨endedAs 3 0 (takenUp 0x62 m s.ctl) a, ?_, hid, rfl, hkind⟩, onlyLogic_ctl s _⟩
  · dsimp only
    rw [replyTo_running]
    exact endActivity_gone id 3 0
  · dsimp only
    rw [replyTo_ended]
    exact endActivity_ended 3 0 hfound

/-! ## LAYER_RESET (R311) -/

theorem scoreGet_takenUp {op k : Nat} (m : Mgmt) (h28 : k ≠ gIdx 28) (h29 : k ≠ gIdx 29) : scoreGet (takenUp op m c) k = scoreGet c k := by
  have hcount (x : Ctl) : scoreGet (countCmd m.via x) k = scoreGet x k := by
    unfold countCmd
    split
    · cases m.via
      · exact scoreGet_bump_other h28
      · exact scoreGet_bump_other h29
    · rfl
  have harrive (x : Ctl) : scoreGet (arrive 0x40 m.via m.tag (isCommand op m) x) k = scoreGet x k := by
    unfold scoreGet
    rw [arrive_score]
  unfold takenUp
  dsimp only
  split
  · exact harrive c
  · exact (hcount _).trans (harrive c)

/-- A reply counts nothing but what its port sends. -/
theorem scoreGet_replyTo {k : Nat} (h : k < 0x100) (ref : CmdRef) (st op : Nat) (l : List Byte) : scoreGet (replyTo ref st op l c) k = scoreGet c k := by
  unfold replyTo sendReply
  dsimp only
  split
  · rfl
  next p _ =>
    split
    · rfl
    · unfold pumpPort
      exact scoreGet_bumpBy_other (c := modPort p _ c) (by unfold pIdx; omega)

theorem refreshOut_keeps {β : Type} {g : Ctl → β} (h : ∀ s c, g (refAb s c) = g c) (s : Nat) : g (refreshOut s c) = g c := by
  unfold refreshOut
  split
  · dsimp only
    exact forEach_keeps g (List.range _) (fun _ c => refAb s c) (fun _ c => h s c) c
  · rfl

theorem scoreGet_refAb {k : Nat} (h : k < 0x1000) (s : Nat) (c : Ctl) : scoreGet (refAb s c) k = scoreGet c k :=
  (scoreGet_bump_other (by unfold cIdx; omega) : scoreGet (bump _ (addActs s 32 c)) k = _)

theorem refAb_power (s : Nat) (c : Ctl) : (refAb s c).power = c.power := bump_power (c := addActs s 32 c) _

theorem counterWidth_layerResets {l : Nat} (h1 : 1 ≤ l) (h17 : l ≤ 17) : counterWidth (gIdx (34 + l)) = some 16 := by
  interval_cases l <;> rfl

/-- LAYER_RESET of a layer whose slices are all out of service, and whose read-back succeeds. -/
theorem layerReset_served {l : Nat} (ref : CmdRef) (h1 : 1 ≤ l) (h17 : l ≤ 17) (hlayer : c.power.layers.toList.getD (l - 1) 0 = 2)
    (hout : ∀ n ∈ layerSlices l, sliceIsOut c n = true) (hblocker : blocker c 6 5 l = none) :
    layerReset l true true ref c = replyTo ref 0 0 [] (endActivity (addActivity 6 5 l 1 false (preemptOverlap 6 5 l c)).1 2 0
      (bump (gIdx (34 + l)) (forEach (layerSlices l) refreshOut (addActivity 6 5 l 1 false (preemptOverlap 6 5 l c)).2))) := by
  have hrange : (decide (l < 1) || decide (17 < l)) = false := by simp; omega
  have hdrained : ((layerSlices l).any fun s => !sliceIsOut c s && !sliceDrained c (sliceChan s) (sliceRank s)) = false :=
    List.any_eq_false.mpr fun n hn => by simp [hout n hn]
  unfold layerReset
  simp only [hrange, hlayer, hdrained, hblocker, Bool.false_eq_true, if_false, ne_eq, not_true_eq_false, Bool.or_self, if_true, replyStatus_eq]

theorem layerReset_effect {l : Nat} (hs : served 0x72 m s) (h1 : 1 ≤ l) (h17 : l ≤ 17) (hlayer : s.ctl.power.layers.toList.getD (l - 1) 0 = 2)
    (hout : ∀ n ∈ layerSlices l, sliceIsOut s.ctl n = true) (hblocker : blocker s.ctl 6 5 l = none) :
    ∃ t, exec (.layerReset m l true true) s = .next t ∧
      scoreGet t.ctl (gIdx (34 + l)) = Nat.min (scoreGet s.ctl (gIdx (34 + l)) + 1) (2 ^ 16 - 1) ∧ t.ctl.power.layers = s.ctl.power.layers ∧
      onlyLogic s t := by
  have hsame := layerReset_served (c := takenUp 0x72 m s.ctl) (refOf 0x72 m) h1 h17 (by rw [takenUp_power]; exact hlayer)
    (by unfold sliceIsOut; rw [takenUp_chans]; exact hout)
    (by rw [blocker_congr (takenUp_running 0x72 m) (takenUp_pm 0x72 m) (takenUp_chans 0x72 m)]; exact hblocker)
  have hjoined : Maintained (takenUp 0x72 m s.ctl) (addActivity 6 5 l 1 false (preemptOverlap 6 5 l (takenUp 0x72 m s.ctl))).2 :=
    (preemptAll_granted _).toMaintained.trans (addActivity_maintained _ _ _ _ _)
  generalize (addActivity 6 5 l 1 false (preemptOverlap 6 5 l (takenUp 0x72 m s.ctl))).1 = id at hsame
  generalize (addActivity 6 5 l 1 false (preemptOverlap 6 5 l (takenUp 0x72 m s.ctl))).2 = d at hsame hjoined
  have hended := endActivity_maintained (c := bump (gIdx (34 + l)) (forEach (layerSlices l) refreshOut d)) id 2 0
  refine ⟨{ s with ctl := command 0x72 m (layerReset l true true) s.ctl }, rfl, ?count, ?layers, onlyLogic_ctl s _⟩
  case count =>
    have hsmall : gIdx (34 + l) < 0x1000 := by unfold gIdx; omega
    have hbefore : scoreGet (forEach (layerSlices l) refreshOut d) (gIdx (34 + l)) = scoreGet s.ctl (gIdx (34 + l)) :=
      calc scoreGet (forEach (layerSlices l) refreshOut d) (gIdx (34 + l))
        _ = scoreGet d (gIdx (34 + l)) := forEach_keeps (fun x => scoreGet x (gIdx (34 + l))) _ _
            (fun s _ => refreshOut_keeps (g := fun x => scoreGet x (gIdx (34 + l))) (scoreGet_refAb hsmall) s) d
        _ = scoreGet (takenUp 0x72 m s.ctl) (gIdx (34 + l)) := hjoined.counters _ (by unfold gIdx; omega)
        _ = scoreGet s.ctl (gIdx (34 + l)) := scoreGet_takenUp m (by unfold gIdx; omega) (by unfold gIdx; omega)
    rw [command_served hs, hsame]
    dsimp only
    rw [scoreGet_replyTo (by unfold gIdx; omega), hended.counters _ (by unfold gIdx; omega),
      scoreGet_bump_self (counterWidth_layerResets h1 h17) (by omega), hbefore]
  case layers =>
    have hpower : (forEach (layerSlices l) refreshOut d).power = d.power := forEach_keeps Ctl.power _ _ (fun s _ => refreshOut_keeps refAb_power s) d
    rw [command_served hs, hsame]
    dsimp only
    rw [replyTo_power, hended.power, bump_power, hpower, hjoined.power, takenUp_power]

/-! ## The ends of tests (R274, R330, R331) -/

theorem lists_of_holder {id : Nat} {p : Activity → Bool} (h : (holders c).find? p = some a) (hp : ∀ x, p x = true → x.id = id) : Lists id c :=
  ⟨a, List.mem_of_mem_filter (List.mem_of_find?_eq_some h), hp a (List.find?_some h)⟩

/-- An activity that ends is listed as ended. -/
theorem endActivity_lists {id : Nat} (state : Nat) (result : BitVec 32) (h : Lists id c) :
    ∃ b ∈ c.mgr.running, b.id = id ∧ endedAs state result c b ∈ (endActivity id state result c).mgr.ended := by
  obtain ⟨b, hb, hid⟩ := h
  cases hfound : c.mgr.running.find? fun x => x.id = id with
  | none => exact absurd hid (by simpa using List.find?_eq_none.mp hfound b hb)
  | some y => exact ⟨y, List.mem_of_find?_eq_some hfound, by simpa using List.find?_some hfound, endActivity_ended state result hfound⟩

theorem testComplete_effect {id : Nat} {found : BistFinding} {bad : Bool} {hists : List UnitHist}
    (ha : (holders s.ctl).find? (fun a => a.id = id) = some a) (hkind : a.kind = 3 ∨ a.kind = 4) :
    ∃ t, exec (.bistComplete id found bad hists) s = .next t ∧
      (∃ x ∈ t.ctl.mgr.ended, x.id = id ∧ x.state = 2 ∧ x.result = (if bad then 1#32 else 0#32)) ∧ t.ctl.chans = s.ctl.chans ∧ onlyLogic s t := by
  have hctl : bistComplete id found bad hists s.dram s.ctl = (s.dram, endActivity id 2 (BitVec.ofNat 32 (b2n bad)) s.ctl) := by
    unfold bistComplete
    rw [ha]
    rcases hkind with h | h <;> simp [h]
  obtain ⟨b, -, hid, hb⟩ := endActivity_lists 2 (BitVec.ofNat 32 (b2n bad)) (lists_of_holder ha fun x hx => by simpa using hx)
  refine ⟨{ s with dram := (bistComplete id found bad hists s.dram s.ctl).1, ctl := (bistComplete id found bad hists s.dram s.ctl).2 }, rfl, ?_⟩
  rw [hctl]
  exact ⟨⟨_, hb, hid, rfl, by cases bad <;> rfl⟩, (endActivity_maintained id 2 _).chans, onlyLogic_ctl s _⟩

/-! ## Re-initialisation after a BIST (R331) -/

theorem Lists.of_running {id : Nat} (h : d.mgr.running = c.mgr.running) (hc : Lists id c) : Lists id d := by
  unfold Lists
  rwa [h]

/-- A rejected unit may bring an in-service test forward, which asks for its claim (R318). -/
theorem rejectUnit_lists {id : Nat} (slice : Nat) (f : (Nat × Nat) × Nat × Nat × Nat) (h : Lists id c) : Lists id (rejectUnit slice f c).2 := by
  have hasked (p : Prop) [Decidable p] (i : Fin 25) (g : Ist → Ist) {x : Ctl} (hx : Lists id x) :
      Lists id (if p then askIst i (modIst i g x) else x) := by
    split
    · exact askIst_keeps i hx
    · exact hx
  unfold rejectUnit
  refine hasked _ _ _ (Lists.of_running ?_ h)
  rw [modChan_mgr, bump_mgr]
  split <;> rfl

theorem startUnit_lists {id : Nat} (slice : Nat) (hist : List LaneHist) (h : Lists id c) : Lists id (startUnit slice hist c).2 := by
  unfold startUnit
  dsimp only
  split
  · exact h
  · exact rejectUnit_lists slice _ h

theorem recalibrate_lists {id : Nat} (hists : List UnitHist) (slices : List Nat) (h : Lists id c) : Lists id (recalibrate hists slices c) := by
  refine forEach_inv (Lists id) _ _ (fun u x hx => ?_) c h
  have hunit := startUnit_lists u.slice.val u.lanes hx
  split
  next d y hy =>
    rw [hy] at hunit
    exact hunit.of_running (congrArg Mgr.running (raiseEvent_plain_mgr rfl))
  next y hy =>
    rw [hy] at hunit
    exact hunit

theorem reinit_lists {id : Nat} (fail : Bool) (hists : List UnitHist) {mem : List Host.Cell} (h : Lists id c) : Lists id (reinit a fail hists mem c).2 := by
  have hslices : (forEach (bistSlices a.targetType a.target) reinitSlice c).mgr = c.mgr := forEach_keeps Ctl.mgr _ reinitSlice (fun _ _ => rfl) c
  unfold reinit
  refine recalibrate_lists hists _ (Lists.of_running (congrArg Mgr.running ?_) h)
  split
  · exact hslices
  · exact hslices

/-- A BIST clears the pages of its target's slices, those that have failed left out. -/
theorem reinit_dram (fail : Bool) (hists : List UnitHist) {mem : List Host.Cell} : (reinit a fail hists mem c).1 =
    dramClear mem (fun ppn => (bistSlices a.targetType a.target).contains (ppnSlice ppn) &&
      !(c.chans[sliceChan (ppnSlice ppn)]).sliceFailed.getLsbD (sliceRank (ppnSlice ppn))) := by
  unfold reinit
  dsimp only
  refine congrArg (dramClear mem) (funext fun ppn => ?_)
  rw [List.contains_eq_mem, List.contains_eq_mem]
  simp

theorem noteRows_running {id : Nat} {rows : List (Nat × Nat × Nat)} {b : Activity} (hb : b ∈ (noteRows id rows c).mgr.running) (hid : b.id = id) :
    b.rows = rows := by
  unfold noteRows at hb
  obtain ⟨y, -, hy⟩ := List.mem_map.mp hb
  by_cases h : y.id = id
  · rw [if_pos (by simpa using h)] at hy
    rw [← hy]
  · rw [if_neg (by simpa using h)] at hy
    exact absurd (hy ▸ hid) h

theorem noteRows_lists {id n : Nat} {rows : List (Nat × Nat × Nat)} (h : Lists n c) : Lists n (noteRows id rows c) :=
  (Granted.modRunning (f := fun a => { a with rows := rows }) _ fun _ => rfl).lists_iff.mpr h

theorem bistComplete_effect {id : Nat} {found : BistFinding} {bad : Bool} {hists : List UnitHist}
    (ha : (holders s.ctl).find? (fun a => a.id = id) = some a) (hkind : a.kind = 8) :
    ∃ t, exec (.bistComplete id found bad hists) s = .next t ∧
      (∃ x ∈ t.ctl.mgr.ended, x.id = id ∧ x.state = 2 ∧ x.result = bistResult a.targetType found ∧ x.rows = found.rows) ∧
      t.dram = dramClear s.dram (fun ppn => (bistSlices a.targetType a.target).contains (ppnSlice ppn) &&
        !(s.ctl.chans[sliceChan (ppnSlice ppn)]).sliceFailed.getLsbD (sliceRank (ppnSlice ppn))) ∧
      t.pending = s.pending := by
  have heffect : bistComplete id found bad hists s.dram s.ctl =
      ((reinit a (bistFails a.targetType found) hists s.dram s.ctl).1,
        endActivity id 2 (bistResult a.targetType found)
          (noteRows id found.rows (reinit a (bistFails a.targetType found) hists s.dram s.ctl).2)) := by
    unfold bistComplete
    rw [ha]
    exact if_pos hkind
  have hlisted : Lists id (reinit a (bistFails a.targetType found) hists s.dram s.ctl).2 :=
    reinit_lists _ hists (lists_of_holder ha fun x hx => by simpa using hx)
  have hdram := reinit_dram (a := a) (c := s.ctl) (mem := s.dram) (bistFails a.targetType found) hists
  generalize reinit a (bistFails a.targetType found) hists s.dram s.ctl = r at heffect hlisted hdram
  obtain ⟨b, hb, hid, hended⟩ := endActivity_lists 2 (bistResult a.targetType found) (noteRows_lists (id := id) (rows := found.rows) hlisted)
  refine ⟨{ s with dram := (bistComplete id found bad hists s.dram s.ctl).1, ctl := (bistComplete id found bad hists s.dram s.ctl).2 }, rfl, ?_⟩
  rw [heffect]
  exact ⟨⟨_, hended, hid, rfl, rfl, (noteRows_running hb hid :)⟩, hdram, rfl⟩

/-! ## Eye scans (R63) -/

/-- A port whose lanes hold what an eye scan found. -/
def scanned (eyes : List EyeSweep) (q : Port) : Port := { q with rx := Vector.ofFn fun i => eyeLane eyes i.val q.rx[i] }

/-- A scan of a port that neither sleeps nor retrains ends with its lanes written. -/
theorem eyeScanComplete_awake {id : Nat} (eyes : List EyeSweep) {p : Fin 4} (ha : (holders c).find? (fun a => a.id = id && a.kind = 5) = some a)
    (htarget : a.target = p.val) (hretrain : (c.ports[p]).retraining = false) (hsleep : (c.ports[p]).rxSleep = .active) :
    ∃ result, eyeScanComplete id eyes c = endActivity id 2 result (modPort p (scanned eyes) c) := by
  obtain rfl : p = Fin.ofNat 4 a.target := by rw [htarget]; exact (Fin.ofNat_val_eq_self p).symm
  unfold eyeScanComplete
  rw [ha]
  dsimp only
  rw [hretrain, hsleep]
  exact ⟨_, if_neg (by simp)⟩

theorem eyeScanComplete_effect {id : Nat} {eyes : List EyeSweep} {p : Fin 4} (ha : (holders s.ctl).find? (fun a => a.id = id && a.kind = 5) = some a)
    (htarget : a.target = p.val) (hretrain : (s.ctl.ports[p]).retraining = false) (hsleep : (s.ctl.ports[p]).rxSleep = .active) :
    ∃ t, exec (.eyeScanComplete id eyes) s = .next t ∧
      (∀ l : Fin 17, (t.ctl.ports[p]).rx[l] = eyeLane eyes l.val (s.ctl.ports[p]).rx[l]) ∧ (t.ctl.ports[p]).link = (s.ctl.ports[p]).link ∧
      (∃ x ∈ t.ctl.mgr.ended, x.id = id ∧ x.state = 2) ∧ onlyLogic s t := by
  obtain ⟨result, hctl⟩ := eyeScanComplete_awake eyes ha htarget hretrain hsleep
  have hlisted : Lists id (modPort p (scanned eyes) s.ctl) := lists_of_holder (c := s.ctl) ha fun x hx => by simpa using (Bool.and_eq_true_iff.mp hx).1
  have hports := (endActivity_maintained (c := modPort p (scanned eyes) s.ctl) id 2 result).ports
  obtain ⟨b, -, hid, hended⟩ := endActivity_lists 2 result hlisted
  refine ⟨{ s with ctl := eyeScanComplete id eyes s.ctl }, rfl, ?_⟩
  rw [hctl]
  dsimp only
  rw [hports, modPort_self]
  refine ⟨fun l => ?_, ?_, ⟨endedAs 2 result _ b, hended, hid, rfl⟩, onlyLogic_ctl s _⟩
  · simp [scanned]
  · simp only [scanned]

/-! ## The obligation -/

/-- Settles O38: each command and each end of an activity by its own effect. -/
theorem maintenanceCommands : Obligations.MaintenanceCommands :=
  ⟨fun _ p _ => maintStart_effect p, fun _ first _ => maintStatus_effect first, fun _ _ _ _ => maintAbort_effect, fun _ _ _ => layerReset_effect,
    fun _ _ _ _ _ _ => testComplete_effect, fun _ _ _ _ _ _ => bistComplete_effect, fun _ _ _ _ _ => eyeScanComplete_effect⟩

end Sys2Proof.Machine
end

section
/-! PROOF. The code corrects any one or two bits in error and keeps poison (R279 to R282): obligation O55. -/

namespace Sys2Proof.Machine

open Sys2Proof

/-! ## The sum of syndromes is linear (R280) -/

theorem eccSum_nil (x i : Nat) : eccSum x i [] = 0 := rfl

theorem eccSum_cons (x i c : Nat) (l : List Nat) : eccSum x i (c :: l) = (if x.testBit i then c else 0) ^^^ eccSum x (i + 1) l := rfl

theorem eccSum_xor (x y i : Nat) (l : List Nat) : eccSum (x ^^^ y) i l = eccSum x i l ^^^ eccSum y i l := by
  induction l generalizing i with
  | nil => simp [eccSum_nil]
  | cons c t ih =>
    have hbit : (if (x ^^^ y).testBit i then c else 0) = (if x.testBit i then c else 0) ^^^ (if y.testBit i then c else 0) := by
      rw [Nat.testBit_xor]
      cases x.testBit i <;> cases y.testBit i <;> simp
    rw [eccSum_cons, eccSum_cons, eccSum_cons, ih, hbit]
    ac_rfl

theorem eccSum_append (x i : Nat) (l r : List Nat) : eccSum x i (l ++ r) = eccSum x i l ^^^ eccSum x (i + l.length) r := by
  induction l generalizing i with
  | nil => exact (Nat.zero_xor _).symm
  | cons c t ih =>
    rw [List.cons_append, eccSum_cons, eccSum_cons, ih, List.length_cons, Nat.xor_assoc, Nat.add_right_comm, Nat.add_assoc]

/-- A sum reads only the bits that its columns stand for. -/
theorem eccSum_congr {x y i k : Nat} {l : List Nat} (h : ∀ j < l.length, x.testBit (i + j) = y.testBit (k + j)) :
    eccSum x i l = eccSum y k l := by
  induction l generalizing i k with
  | nil => rfl
  | cons c t ih =>
    have hfirst : x.testBit i = y.testBit k := h 0 (Nat.succ_pos _)
    have hrest : eccSum x (i + 1) t = eccSum y (k + 1) t :=
      ih fun j hj => by simpa [Nat.add_assoc, Nat.add_comm 1] using h (j + 1) (Nat.succ_lt_succ hj)
    rw [eccSum_cons, eccSum_cons, hfirst, hrest]

theorem eccSum_lt {n : Nat} (x i : Nat) {l : List Nat} (h : ∀ c ∈ l, c < 2 ^ n) : eccSum x i l < 2 ^ n := by
  induction l generalizing i with
  | nil => exact Nat.two_pow_pos n
  | cons c t ih =>
    obtain ⟨hc, ht⟩ := List.forall_mem_cons.mp h
    rw [eccSum_cons]
    refine Nat.xor_lt_two_pow ?_ (ih _ ht)
    split
    · exact hc
    · exact Nat.two_pow_pos n

theorem eccSum_above {x i : Nat} (l : List Nat) (h : x < 2 ^ i) : eccSum x i l = 0 := by
  induction l generalizing i with
  | nil => rfl
  | cons c t ih =>
    rw [eccSum_cons, ih (h.trans_le (Nat.pow_le_pow_right (by omega) (Nat.le_succ i))), Nat.testBit_lt_two_pow h]
    exact Nat.xor_zero 0

theorem eccSyndrome_xor (v w : CodeWord) : eccSyndrome (v ^^^ w) = eccSyndrome v ^^^ eccSyndrome w := by
  unfold eccSyndrome
  rw [BitVec.toNat_xor, eccSum_xor]

/-! ## A clean word has the syndrome zero (R280) -/

theorem two_pow_mul_add_xor {n x : Nat} (a b : Nat) (hx : x < 2 ^ n) : (2 ^ n * a + x) ^^^ 2 ^ n * b = 2 ^ n * (a ^^^ b) + x := by
  refine Nat.eq_of_testBit_eq fun i => ?_
  rw [Nat.testBit_xor, Nat.testBit_two_pow_mul_add a hx, Nat.testBit_two_pow_mul, Nat.testBit_two_pow_mul_add _ hx, Nat.testBit_xor]
  by_cases h : i < n
  · simp [h, Nat.not_le.mpr h]
  · simp [h, Nat.not_lt.mp h]

/-- An additive function that fixes each power of two below `2 ^ n` fixes every number below it. -/
theorem eq_self_of_xor_additive {f : Nat → Nat} (hf : ∀ x y, f (x ^^^ y) = f x ^^^ f y) {n : Nat} (h : ∀ i < n, f (2 ^ i) = 2 ^ i)
    {x : Nat} (hx : x < 2 ^ n) : f x = x := by
  induction n generalizing x with
  | zero =>
    obtain rfl : x = 0 := by simpa using hx
    simpa using hf 0 0
  | succ n ih =>
    have hbelow : ∀ y < 2 ^ n, f y = y := fun y hy => ih (fun i hi => h i (Nat.lt_succ_of_lt hi)) hy
    by_cases hlow : x < 2 ^ n
    · exact hbelow x hlow
    · have hrest : x - 2 ^ n < 2 ^ n := by rw [Nat.pow_succ] at hx; omega
      have hsplit : x = (x - 2 ^ n) ^^^ 2 ^ n := by
        have htop := two_pow_mul_add_xor 0 1 hrest
        simp only [Nat.mul_zero, Nat.zero_add, Nat.mul_one, Nat.zero_xor] at htop
        omega
      rw [hsplit, hf, hbelow _ hrest, h n (Nat.lt_succ_self n)]

/-- The sum of the syndromes of a word's data bits. -/
def dataSum (d : BitVec 64) : Nat := eccSum d.toNat 0 (eccColumns.drop 14)

/-- The sum of the syndromes of check bits 13 to 0 of value `x`. -/
def checkSum (x : Nat) : Nat := eccSum x 0 (eccColumns.take 14)

theorem eccColumns_lt : ∀ c ∈ eccColumns, c < 2 ^ 15 := by decide

theorem dataSum_lt (d : BitVec 64) : dataSum d < 2 ^ 15 := eccSum_lt _ _ fun c hc => eccColumns_lt c (List.mem_of_mem_drop hc)

theorem checkSum_lt (x : Nat) : checkSum x < 2 ^ 15 := eccSum_lt _ _ fun c hc => eccColumns_lt c (List.mem_of_mem_take hc)

/-- The remainder of check bits is the check bits themselves. -/
theorem checkSum_low {x : Nat} (hx : x < 2 ^ 14) : checkSum x % 2 ^ 14 = x :=
  eq_self_of_xor_additive (f := fun x => checkSum x % 2 ^ 14)
    (fun x y => by unfold checkSum; rw [eccSum_xor, Nat.xor_mod_two_pow]) (by decide) hx

/-- The columns of the data bits add nothing to the sum of check bits 13 to 0. -/
theorem eccSum_eccColumns {x : Nat} (hx : x < 2 ^ 14) : eccSum x 0 eccColumns = checkSum x := by
  have happend := eccSum_append x 0 (eccColumns.take 14) (eccColumns.drop 14)
  have habove : eccSum x (0 + (eccColumns.take 14).length) (eccColumns.drop 14) = 0 := eccSum_above _ hx
  rw [habove, Nat.xor_zero, List.take_append_drop] at happend
  exact happend

theorem bitsOf_one_lt (x lo : Nat) : bitsOf x lo 1 < 2 := Nat.mod_lt _ (by decide)

/-- A number of 15 bits from its highest bit and the others. -/
theorem top_add_low {r : Nat} (h : r < 2 ^ 15) : 2 ^ 14 * bitsOf r 14 1 + r % 2 ^ 14 = r := by
  unfold bitsOf
  rw [Nat.shiftRight_eq_div_pow]
  omega

/-- The overall parity of a word's data bits and of its check bits 13 to 0, which is c[14]. -/
def wordParity (d : BitVec 64) : Nat := (bitsOf (dataSum d) 14 1 + bitsOf (checkSum (dataSum d % 2 ^ 14)) 14 1) % 2

theorem wordParity_lt (d : BitVec 64) : wordParity d < 2 := Nat.mod_lt _ (by decide)

theorem eccCheck_toNat (d : BitVec 64) : (eccCheck d).toNat = 2 ^ 14 * wordParity d + dataSum d % 2 ^ 14 := by
  have hlow : dataSum d % 2 ^ 14 < 2 ^ 14 := Nat.mod_lt _ (by decide)
  have hcheck : eccCheck d = BitVec.ofNat 16 (dataSum d % 2 ^ 14 + 0x4000 * wordParity d) := by
    unfold wordParity
    rw [← eccSum_eccColumns hlow]
    rfl
  have hparity := wordParity_lt d
  rw [hcheck, BitVec.toNat_ofNat]
  omega

/-- A parity bit above a remainder enters the overall parity alone. -/
theorem eccSum_top {x b : Nat} (hx : x < 2 ^ 14) (hb : b < 2) : eccSum (2 ^ 14 * b + x) 14 [0x4000, 0x8000] = 2 ^ 14 * b := by
  have hbits : eccSum (2 ^ 14 * b + x) 14 [0x4000, 0x8000] = eccSum b 0 [0x4000, 0x8000] := eccSum_congr fun j _ => by
    rw [Nat.testBit_two_pow_mul_add _ hx, if_neg (by omega), Nat.add_sub_cancel_left, Nat.zero_add]
  rw [hbits]
  obtain rfl | rfl : b = 0 ∨ b = 1 := by omega
  · decide
  · decide

/-- Check bits with a parity bit above them: their sum, and the parity bit's own syndrome. -/
theorem eccSum_check {x b : Nat} (hx : x < 2 ^ 14) (hb : b < 2) :
    eccSum (2 ^ 14 * b + x) 0 (eccColumns.take 14 ++ [0x4000, 0x8000]) = checkSum x ^^^ 2 ^ 14 * b := by
  have hlow : eccSum (2 ^ 14 * b + x) 0 (eccColumns.take 14) = checkSum x := eccSum_congr fun j hj => by
    rw [Nat.testBit_two_pow_mul_add _ hx, if_pos (by rw [Nat.zero_add]; exact hj)]
  rw [eccSum_append, hlow]
  exact congrArg (checkSum x ^^^ ·) (eccSum_top hx hb)

/-- The check bits have the syndrome of the data. -/
theorem eccSum_eccCheck (d : BitVec 64) : eccSum (eccCheck d).toNat 0 (eccColumns.take 14 ++ [0x4000, 0x8000]) = dataSum d := by
  have hlow : dataSum d % 2 ^ 14 < 2 ^ 14 := Nat.mod_lt _ (by decide)
  have hsum : checkSum (dataSum d % 2 ^ 14) = 2 ^ 14 * bitsOf (checkSum (dataSum d % 2 ^ 14)) 14 1 + dataSum d % 2 ^ 14 := by
    have htop := top_add_low (checkSum_lt (dataSum d % 2 ^ 14))
    rw [checkSum_low hlow] at htop
    exact htop.symm
  have hparity : ∀ a < 2, ∀ b < 2, a ^^^ (b + a) % 2 = b := by decide
  rw [eccCheck_toNat, eccSum_check hlow (wordParity_lt d), hsum, two_pow_mul_add_xor _ _ hlow, wordParity,
    hparity _ (bitsOf_one_lt _ 14) _ (bitsOf_one_lt _ 14), top_add_low (dataSum_lt d)]

theorem eccEncode_testBit (d : BitVec 64) (i : Nat) :
    (eccEncode d).toNat.testBit i = if i < 64 then d.toNat.testBit i else (eccCheck d).toNat.testBit (i - 64) := by
  unfold eccEncode
  simp only [BitVec.testBit_toNat, BitVec.getLsbD_append]

theorem eccSyndrome_eccEncode (d : BitVec 64) : eccSyndrome (eccEncode d) = 0 := by
  have hdata : eccSum (eccEncode d).toNat 0 (eccColumns.drop 14) = dataSum d :=
    eccSum_congr fun j hj => by rw [eccEncode_testBit, if_pos (by rw [Nat.zero_add]; exact hj)]
  have hcheck : eccSum (eccEncode d).toNat 64 (eccColumns.take 14 ++ [0x4000, 0x8000]) =
      eccSum (eccCheck d).toNat 0 (eccColumns.take 14 ++ [0x4000, 0x8000]) :=
    eccSum_congr fun j _ => by rw [eccEncode_testBit, if_neg (by omega), Nat.add_sub_cancel_left, Nat.zero_add]
  unfold eccSyndrome eccBitSyndromes
  rw [List.append_assoc, eccSum_append, hdata]
  exact (congrArg (_ ^^^ ·) (hcheck.trans (eccSum_eccCheck d))).trans (Nat.xor_self _)

/-! ## Error patterns and their syndromes (R280, R281) -/

/-- An error in bit `i`: the bits in error, as a number, and its syndrome. -/
def bitError (i : Nat) : Nat × Nat := (2 ^ i, eccBitSyndromes.getD i 0)

/-- The errors of one stored bit. -/
def bitErrors : List (Nat × Nat) := (List.range 80).map bitError

/-- Two errors together. -/
def addErrors (x y : Nat × Nat) : Nat × Nat := (x.1 ^^^ y.1, x.2 ^^^ y.2)

/-- Every two errors of a list together. -/
def twoOf : List (Nat × Nat) → List (Nat × Nat)
  | [] => []
  | x :: t => t.map (addErrors x) ++ twoOf t

/-- The errors that the decoder corrects: none, of one bit and of two. -/
def correctable : List (Nat × Nat) := (0, 0) :: bitErrors ++ twoOf bitErrors

/-- The syndromes of poison, with no bit and with one bit in error. -/
def poisonSyndromes : List Nat := eccSyndrome poisonWord :: bitErrors.map fun x => eccSyndrome poisonWord ^^^ x.2

/-- Whether the numbers of a list are all different and have no bit set in `seen`, where each number met sets its own bit. -/
def allNew : Nat → List Nat → Bool
  | _, [] => true
  | seen, n :: t => !seen.testBit n && allNew (seen ||| 2 ^ n) t

theorem nodup_of_allNew {l : List Nat} {seen : Nat} (h : allNew seen l = true) : l.Nodup ∧ ∀ n ∈ l, seen.testBit n = false := by
  induction l generalizing seen with
  | nil => simp
  | cons a t ih =>
    simp only [allNew, Bool.and_eq_true, Bool.not_eq_true'] at h
    obtain ⟨ha, ht⟩ := h
    obtain ⟨hnodup, hnew⟩ := ih ht
    simp only [Nat.testBit_or, Bool.or_eq_false_iff, Nat.testBit_two_pow] at hnew
    refine ⟨List.nodup_cons.mpr ⟨fun hmem => ?_, hnodup⟩, List.forall_mem_cons.mpr ⟨ha, fun n hn => (hnew n hn).1⟩⟩
    simpa using (hnew a hmem).2

/-- The distance of the code and of the poison pattern (R280, R281): no two of these errors share a syndrome. One pass over the 3,322
syndromes decides it. -/
theorem syndromes_nodup : (correctable.map (·.2) ++ poisonSyndromes).Nodup :=
  (nodup_of_allNew (seen := 0) (by decide +kernel)).1

theorem correctable_ext {x y : Nat × Nat} (hx : x ∈ correctable) (hy : y ∈ correctable) (h : x.2 = y.2) : x = y :=
  List.inj_on_of_nodup_map (List.nodup_append.mp syndromes_nodup).1 hx hy h

theorem ne_of_poison {x : Nat × Nat} {p : Nat} (hx : x ∈ correctable) (hp : p ∈ poisonSyndromes) : x.2 ≠ p :=
  (List.nodup_append.mp syndromes_nodup).2.2 _ (List.mem_map_of_mem hx) _ hp

theorem bitError_mem {i : Nat} (h : i < 80) : bitError i ∈ bitErrors := List.mem_map_of_mem (List.mem_range.mpr h)

theorem addErrors_comm (x y : Nat × Nat) : addErrors x y = addErrors y x := by
  unfold addErrors
  rw [Nat.xor_comm x.1, Nat.xor_comm x.2]

theorem addErrors_self (x : Nat × Nat) : addErrors x x = (0, 0) := by
  unfold addErrors
  rw [Nat.xor_self, Nat.xor_self]

theorem addErrors_mem_twoOf {l : List (Nat × Nat)} {x y : Nat × Nat} (hx : x ∈ l) (hy : y ∈ l) (hne : x ≠ y) : addErrors x y ∈ twoOf l := by
  induction l with
  | nil => exact absurd hx List.not_mem_nil
  | cons z t ih =>
    rw [twoOf, List.mem_append]
    rcases List.mem_cons.mp hx with rfl | hx' <;> rcases List.mem_cons.mp hy with rfl | hy'
    · exact absurd rfl hne
    · exact .inl (List.mem_map_of_mem hy')
    · exact .inl (addErrors_comm x y ▸ List.mem_map_of_mem hx')
    · exact .inr (ih hx' hy')

theorem none_correctable : (0, 0) ∈ correctable := List.mem_cons_self

theorem bitError_correctable {i : Nat} (h : i < 80) : bitError i ∈ correctable :=
  List.mem_cons_of_mem _ (List.mem_append_left _ (bitError_mem h))

theorem addErrors_correctable {i j : Nat} (hi : i < 80) (hj : j < 80) : addErrors (bitError i) (bitError j) ∈ correctable := by
  by_cases hne : bitError i = bitError j
  · rw [hne, addErrors_self]
    exact none_correctable
  · exact List.mem_cons_of_mem _ (List.mem_append_right _ (addErrors_mem_twoOf (bitError_mem hi) (bitError_mem hj) hne))

/-! ## Flipped bits -/

theorem eccSyndrome_two_pow : ∀ i < 80, eccSyndrome (BitVec.ofNat 80 (2 ^ i)) = (bitError i).2 := by decide +kernel

theorem eccSyndrome_eccFlip (w : CodeWord) {i : Nat} (h : i < 80) : eccSyndrome (eccFlip w i) = eccSyndrome w ^^^ (bitError i).2 := by
  unfold eccFlip
  rw [eccSyndrome_xor, eccSyndrome_two_pow i h]

theorem eccFlip_eccFlip (w : CodeWord) (i j : Nat) : eccFlip (eccFlip w i) j = w ^^^ BitVec.ofNat 80 (addErrors (bitError i) (bitError j)).1 := by
  unfold eccFlip
  rw [BitVec.xor_assoc, ← BitVec.ofNat_xor]
  rfl

theorem eccFlip_self (w : CodeWord) (i : Nat) : eccFlip (eccFlip w i) i = w := by
  unfold eccFlip
  rw [BitVec.xor_assoc, BitVec.xor_self, BitVec.xor_zero]

/-! ## The decoder's two searches (R282) -/

theorem eccFindOne_some {s i : Nat} (h : eccFindOne s = some i) : i < 80 ∧ (bitError i).2 = s := by
  obtain ⟨hi, hs, -⟩ := List.findIdx?_eq_some_iff_getElem.mp h
  refine ⟨hi, ?_⟩
  rw [bitError, List.getD_eq_getElem _ _ hi]
  simpa using hs

theorem eccFindOne_bitError {i : Nat} (h : i < 80) : (eccFindOne (bitError i).2).isSome := by
  unfold eccFindOne bitError
  rw [List.findIdx?_isSome, List.any_eq_true, List.getD_eq_getElem _ _ h]
  exact ⟨_, List.getElem_mem h, beq_self_eq_true _⟩

theorem eccFindTwo_cons (s i c : Nat) (l : List Nat) : eccFindTwo s i (c :: l) =
    match eccFindOne (s ^^^ c) with
    | some j => some (i, j)
    | none => eccFindTwo s (i + 1) l := rfl

theorem eccFindTwo_some {s i a b : Nat} {l : List Nat} (h : eccFindTwo s i l = some (a, b)) :
    ∃ k < l.length, a = i + k ∧ eccFindOne (s ^^^ l.getD k 0) = some b := by
  induction l generalizing i with
  | nil => exact nomatch h
  | cons c t ih =>
    rw [eccFindTwo_cons] at h
    split at h
    next j hj =>
      obtain ⟨rfl, rfl⟩ := Prod.mk.inj (Option.some.inj h)
      exact ⟨0, Nat.succ_pos _, rfl, hj⟩
    next =>
      obtain ⟨k, hk, ha, hb⟩ := ih h
      exact ⟨k + 1, Nat.succ_lt_succ hk, by omega, hb⟩

theorem eccFindTwo_none {s i : Nat} {l : List Nat} (h : eccFindTwo s i l = none) : ∀ c ∈ l, eccFindOne (s ^^^ c) = none := by
  induction l generalizing i with
  | nil => exact List.forall_mem_nil _
  | cons c t ih =>
    rw [eccFindTwo_cons] at h
    split at h
    next => exact nomatch h
    next hc => exact List.forall_mem_cons.mpr ⟨hc, ih h⟩

/-- The two bits found have the syndrome together. -/
theorem eccFindTwo_addErrors {s a b : Nat} (h : eccFindTwo s 0 eccBitSyndromes = some (a, b)) :
    a < 80 ∧ b < 80 ∧ (addErrors (bitError a) (bitError b)).2 = s := by
  obtain ⟨k, hk, ha, hb⟩ := eccFindTwo_some h
  obtain rfl : a = k := by omega
  obtain ⟨hlt, hsum⟩ := eccFindOne_some hb
  refine ⟨hk, hlt, ?_⟩
  unfold addErrors
  rw [hsum, Nat.xor_comm s]
  exact Nat.xor_xor_cancel_left _ _

theorem eccFindTwo_isSome {i j : Nat} (hi : i < 80) (hj : j < 80) :
    (eccFindTwo (addErrors (bitError i) (bitError j)).2 0 eccBitSyndromes).isSome := by
  by_contra hnone
  have hmem : (bitError i).2 ∈ eccBitSyndromes := by
    unfold bitError
    rw [List.getD_eq_getElem _ _ hi]
    exact List.getElem_mem hi
  have hother := eccFindTwo_none (by simpa using hnone) _ hmem
  rw [addErrors_comm] at hother
  have hfound := eccFindOne_bitError hj
  unfold addErrors at hother
  rw [Nat.xor_xor_cancel_right] at hother
  rw [hother] at hfound
  exact nomatch hfound

/-! ## Outcomes (Table 2 of R282) -/

theorem eccDecode_clean {w : CodeWord} (h : eccSyndrome w = 0) : eccDecode w = .clean (w.extractLsb' 0 64) := if_pos h

theorem eccDecode_oneBit {w : CodeWord} {i : Nat} (hi : i < 80) (h : eccSyndrome w = (bitError i).2) :
    eccDecode w = .corrected1 ((eccFlip w i).extractLsb' 0 64) := by
  have hzero : eccSyndrome w ≠ 0 := fun h0 =>
    absurd (congrArg Prod.fst (correctable_ext (bitError_correctable hi) none_correctable (h.symm.trans h0))) (Nat.two_pow_pos i).ne'
  obtain ⟨k, hk⟩ := Option.isSome_iff_exists.mp (h ▸ eccFindOne_bitError hi)
  obtain ⟨hlt, hsyn⟩ := eccFindOne_some hk
  have hsame : bitError k = bitError i := correctable_ext (bitError_correctable hlt) (bitError_correctable hi) (hsyn.trans h)
  obtain rfl : k = i := Nat.pow_right_injective (le_refl 2) (congrArg Prod.fst hsame)
  unfold eccDecode
  simp only [hzero, if_false, hk]

/-- Two bits are neither none nor one. -/
theorem two_pow_xor_ne {i j : Nat} (hij : i ≠ j) : 2 ^ i ^^^ 2 ^ j ≠ 0 ∧ ∀ k, 2 ^ k ≠ 2 ^ i ^^^ 2 ^ j := by
  have hbits (n : Nat) : (2 ^ i ^^^ 2 ^ j).testBit n = (decide (i = n) ^^ decide (j = n)) := by
    rw [Nat.testBit_xor, Nat.testBit_two_pow, Nat.testBit_two_pow]
  refine ⟨fun h => ?_, fun k h => ?_⟩
  · have hi := hbits i
    rw [h] at hi
    simp [hij.symm] at hi
  · have hi := hbits i
    have hj := hbits j
    rw [← h, Nat.testBit_two_pow] at hi hj
    simp [hij.symm] at hi
    simp [hij] at hj
    exact hij (hi.symm.trans hj)

theorem eccDecode_twoBit {w : CodeWord} {i j : Nat} (hi : i < 80) (hj : j < 80) (hij : i ≠ j)
    (h : eccSyndrome w = (addErrors (bitError i) (bitError j)).2) :
    eccDecode w = .corrected2 ((eccFlip (eccFlip w i) j).extractLsb' 0 64) := by
  have hmem := addErrors_correctable hi hj
  obtain ⟨hsome, hother⟩ := two_pow_xor_ne hij
  have hzero : eccSyndrome w ≠ 0 := fun h0 => hsome (congrArg Prod.fst (correctable_ext hmem none_correctable (h.symm.trans h0)))
  have hone : eccFindOne (eccSyndrome w) = none := by
    refine Option.eq_none_iff_forall_ne_some.mpr fun k hk => ?_
    obtain ⟨hlt, hsyn⟩ := eccFindOne_some hk
    exact hother k (congrArg Prod.fst (correctable_ext (bitError_correctable hlt) hmem (hsyn.trans h)))
  obtain ⟨⟨a, b⟩, hab⟩ := Option.isSome_iff_exists.mp (h ▸ eccFindTwo_isSome hi hj)
  obtain ⟨ha, hb, hsyn⟩ := eccFindTwo_addErrors hab
  have hsame := correctable_ext (addErrors_correctable ha hb) hmem (hsyn.trans h)
  unfold eccDecode
  simp only [hzero, if_false, hone, hab]
  rw [eccFlip_eccFlip, hsame, ← eccFlip_eccFlip]

/-- A syndrome of poison is that of no correctable error. -/
theorem eccDecode_poison {w : CodeWord} (h : eccSyndrome w ∈ poisonSyndromes)
    (hpoison : eccSyndrome w = eccSyndrome poisonWord ∨ (eccFindOne (eccSyndrome w ^^^ eccSyndrome poisonWord)).isSome) :
    eccDecode w = .poison := by
  have hzero : eccSyndrome w ≠ 0 := (ne_of_poison none_correctable h).symm
  have hone : eccFindOne (eccSyndrome w) = none := by
    refine Option.eq_none_iff_forall_ne_some.mpr fun k hk => ?_
    obtain ⟨hlt, hsyn⟩ := eccFindOne_some hk
    exact ne_of_poison (bitError_correctable hlt) h hsyn
  have htwo : eccFindTwo (eccSyndrome w) 0 eccBitSyndromes = none := by
    refine Option.eq_none_iff_forall_ne_some.mpr fun ⟨a, b⟩ hab => ?_
    obtain ⟨ha, hb, hsyn⟩ := eccFindTwo_addErrors hab
    exact ne_of_poison (addErrors_correctable ha hb) h hsyn
  unfold eccDecode
  simp only [hzero, if_false, hone, htwo]
  exact if_pos (by simpa using hpoison)

theorem extractLsb'_eccEncode (d : BitVec 64) : (eccEncode d).extractLsb' 0 64 = d := by
  unfold eccEncode
  exact BitVec.extractLsb'_append_eq_right

/-! ## The obligation -/

theorem eccDecode_eccEncode (d : BitVec 64) : eccDecode (eccEncode d) = .clean d := by
  rw [eccDecode_clean (eccSyndrome_eccEncode d), extractLsb'_eccEncode]

theorem eccDecode_eccFlip (d : BitVec 64) {i : Nat} (hi : i < 80) : eccDecode (eccFlip (eccEncode d) i) = .corrected1 d := by
  have hsyn : eccSyndrome (eccFlip (eccEncode d) i) = (bitError i).2 := by
    rw [eccSyndrome_eccFlip _ hi, eccSyndrome_eccEncode, Nat.zero_xor]
  rw [eccDecode_oneBit hi hsyn, eccFlip_self, extractLsb'_eccEncode]

theorem eccDecode_eccFlip_eccFlip (d : BitVec 64) {i j : Nat} (hi : i < 80) (hj : j < 80) (hij : i ≠ j) :
    eccDecode (eccFlip (eccFlip (eccEncode d) i) j) = .corrected2 d := by
  have hsyn : eccSyndrome (eccFlip (eccFlip (eccEncode d) i) j) = (addErrors (bitError j) (bitError i)).2 := by
    rw [eccSyndrome_eccFlip _ hj, eccSyndrome_eccFlip _ hi, eccSyndrome_eccEncode, Nat.zero_xor, addErrors_comm]
    rfl
  rw [eccDecode_twoBit hj hi hij.symm hsyn, eccFlip_self, eccFlip_self, extractLsb'_eccEncode]

theorem eccDecode_poisonWord : eccDecode poisonWord = .poison := eccDecode_poison List.mem_cons_self (.inl rfl)

theorem eccDecode_eccFlip_poisonWord {i : Nat} (hi : i < 80) : eccDecode (eccFlip poisonWord i) = .poison := by
  have hsyn := eccSyndrome_eccFlip poisonWord hi
  refine eccDecode_poison ?_ (.inr ?_)
  · rw [hsyn]
    exact List.mem_cons_of_mem _ (List.mem_map_of_mem (bitError_mem hi))
  · rw [hsyn, Nat.xor_comm, Nat.xor_xor_cancel_left]
    exact eccFindOne_bitError hi

/-- Settles O55: the syndrome is linear and zero for a clean word, and the errors of Table 2 of R282 have different syndromes. -/
theorem eccDecoder : Obligations.EccDecoder :=
  ⟨eccDecode_eccEncode, fun d _ => eccDecode_eccFlip d, fun d _ _ => eccDecode_eccFlip_eccFlip d, eccDecode_poisonWord,
    fun _ => eccDecode_eccFlip_poisonWord⟩

end Sys2Proof.Machine
end

section
/-! PROOF. Every step keeps the canonical form of DRAM, the model's representation of it (log 3): obligation O4. -/

namespace Sys2Proof.Machine

open Sys2Proof

variable {s t : State}

/-- An operation on the logic and DRAM that keeps the canonical form of DRAM. -/
def KeepsWf (f : List Host.Cell → Ctl → List Host.Cell × Ctl) : Prop :=
  ∀ m c, Memory.wf m = true → Memory.wf (f m c).1 = true

theorem memory_wf_nil : Memory.wf [] = true := rfl

theorem wf_ite {p : Prop} [Decidable p] {x y : List Host.Cell × Ctl} (hx : Memory.wf x.1 = true) (hy : Memory.wf y.1 = true) :
    Memory.wf (if p then x else y).1 = true := by
  split
  · exact hx
  · exact hy

/-! ## Starts, resets and erasure (R343, R375, R380, R406 to R426) -/

theorem powerOn_keepsWf (addrSel : Fin 4) : KeepsWf (powerOn addrSel) := by
  intro m c hm
  unfold powerOn
  exact wf_ite memory_wf_nil hm

theorem brownout_keepsWf : KeepsWf brownout := fun _ _ _ => memory_wf_nil

/-- The drain writes what the write buffers and the atomic units hold. -/
theorem drainData_keepsWf : KeepsWf drainData := by
  intro m c hm
  unfold drainData
  extract_lets
  dsimp only
  exact dramWrites_wf _ (dramWrites_wf _ hm)

theorem warmDown_keepsWf (cause : Nat) : KeepsWf (warmDown cause) := by
  intro m c hm
  unfold warmDown
  extract_lets
  dsimp only
  exact drainData_keepsWf m c hm

theorem resetAssert_keepsWf : KeepsWf resetAssert := by
  intro m c hm
  unfold resetAssert
  extract_lets c' st
  exact wf_ite hm (wf_ite hm (wf_ite memory_wf_nil (warmDown_keepsWf 1 m c' hm)))

theorem refclkPresent_keepsWf (post : Post) : KeepsWf (refclkPresent post) := by
  intro m c hm
  unfold refclkPresent
  extract_lets
  exact wf_ite (wf_ite hm memory_wf_nil) hm

theorem thermalRestart_keepsWf (post : Post) : KeepsWf (thermalRestart post) := by
  intro m c hm
  unfold thermalRestart
  exact wf_ite memory_wf_nil hm

theorem resetWarm_keepsWf (mg : Mgmt) (post : Post) : KeepsWf (resetWarm mg post) := by
  intro m c hm
  unfold resetWarm
  extract_lets go c'
  refine wf_ite ?_ hm
  dsimp only
  exact warmDown_keepsWf 2 m c' hm

theorem fwActivate_keepsWf (mg : Mgmt) (digestOk : Bool) (post : Post) : KeepsWf (fwActivate mg digestOk post) := by
  intro m c hm
  unfold fwActivate
  extract_lets st go c'
  refine wf_ite ?_ hm
  dsimp only
  exact warmDown_keepsWf 3 m c' hm

theorem beginErase_keepsWf : KeepsWf beginErase := by
  intro m c hm
  unfold beginErase
  extract_lets
  dsimp only
  exact drainData_keepsWf m _ hm

theorem lifecycle_keepsWf (mg : Mgmt) (target phase : Nat) (hash : BitVec 384) (countersign : Bool) (x : Chain) :
    KeepsWf (lifecycle mg target phase hash countersign x) := by
  intro m c hm
  unfold lifecycle
  extract_lets c'
  exact wf_ite (beginErase_keepsWf m c' hm) hm

/-- The erase leaves nothing listed. -/
theorem eraseComplete_keepsWf (failed : List Nat) : KeepsWf (eraseComplete failed) := by
  intro m c _
  unfold eraseComplete
  extract_lets
  exact wf_ite memory_wf_nil (wf_ite memory_wf_nil memory_wf_nil)

theorem zeroizeComplete_keepsWf : KeepsWf zeroizeComplete := by
  intro m c hm
  unfold zeroizeComplete
  refine wf_ite ?_ hm
  extract_lets
  dsimp only
  exact dramClear_wf hm _

/-! ## Channels and the fabric (R210, R218, R220, R292) -/

theorem completeChan_keepsWf (ch : Fin 32) : KeepsWf (completeChan ch) := by
  intro m c hm
  unfold completeChan
  extract_lets w
  exact dramWrites_wf w hm

theorem arbiterStep_keepsWf (ch : Fin 32) (drain : Nat) (soft : Option SoftLoss) : KeepsWf (arbiterStep ch drain soft) := by
  intro m c hm
  cases soft with
  | some l => exact wf_ite hm (completeChan_keepsWf ch m _ hm)
  | none =>
    rw [arbiterStep_dram]
    exact dramWrites_wf _ hm

/-- The atomic unit writes one granule back or none. -/
theorem auWriteBack_keepsWf (ch : Fin 32) (gran : Nat) : KeepsWf (auWriteBack ch gran) := by
  intro m c hm
  unfold auWriteBack
  split
  next =>
    refine wf_ite hm ?_
    dsimp only
    exact dramWrite_wf hm _ _
  next => exact hm

/-- A fold of operations on the logic and DRAM keeps the canonical form that each of them keeps. -/
theorem foldl_wf {α : Type} {f : List Host.Cell × Ctl → α → List Host.Cell × Ctl}
    (hf : ∀ x a, Memory.wf x.1 = true → Memory.wf (f x a).1 = true) (l : List α) (x : List Host.Cell × Ctl) (hx : Memory.wf x.1 = true) :
    Memory.wf (l.foldl f x).1 = true := by
  induction l generalizing x with
  | nil => exact hx
  | cons a t ih => exact ih (f x a) (hf x a hx)

/-- The values of a region's commit records are written channel by channel. -/
theorem fabricLost_keepsWf (r : Fin 4) (l : FabricLoss) : KeepsWf (fabricLost r l) := by
  intro m c hm
  unfold fabricLost
  extract_lets c' grans
  refine wf_ite hm (foldl_wf (fun x ch hx => ?_) allChans (m, c') hm)
  extract_lets w
  exact dramWrites_wf w hx

theorem trackerAllocate_keepsWf (who : Holder) (soft : Option FabricLoss) : KeepsWf (trackerAllocate who soft) := by
  intro m c hm
  cases soft with
  | some l => exact fabricLost_keepsWf _ l m c hm
  | none => exact hm

/-! ## Tests (R267, R273 to R277, R331) -/

/-- A step of a bench unit writes granules of its page. -/
theorem benchStep_keepsWf (i : Fin 25) (reads : List (Nat × BitVec 320)) : KeepsWf (benchStep i reads) := fun m c hm =>
  (foldl_benchVisit_visits (List.range stepVisits) (m, c) hm).wf

theorem istStep_keepsWf (i : Fin 25) (bonds : List (Nat × Bool)) (reads : List (Nat × BitVec 320)) : KeepsWf (istStep i bonds reads) := by
  intro m c hm
  unfold istStep
  extract_lets ch
  split
  next => exact hm
  next =>
    refine wf_ite hm (wf_ite hm (wf_ite hm ?_))
    split
    next => exact hm
    next d _ => exact wf_ite (benchStep_keepsWf i reads m d hm) hm

theorem windowTests_keepsWf (ch : Fin 32) (tests : List IstRun) : KeepsWf (windowTests ch tests) := fun m c hm =>
  foldl_wf (fun x y hx => wf_ite (istStep_keepsWf y.target y.bonds y.reads x.1 x.2 hx) hx) tests (m, c) hm

theorem windowWorkStart_keepsWf (ch : Fin 32) (tests : List IstRun) : KeepsWf (windowWorkStart ch tests) := by
  intro m c hm
  unfold windowWorkStart
  extract_lets
  exact wf_ite (windowTests_keepsWf ch tests m (openWindow ch c) hm) hm

theorem reinit_keepsWf (a : Activity) (fail : Bool) (hists : List UnitHist) : KeepsWf (reinit a fail hists) := by
  intro m c hm
  rw [reinit_dram]
  exact dramClear_wf hm _

theorem bistComplete_keepsWf (id : Nat) (found : BistFinding) (bad : Bool) (hists : List UnitHist) :
    KeepsWf (bistComplete id found bad hists) := by
  intro m c hm
  unfold bistComplete
  split
  next => exact hm
  next a _ =>
    refine wf_ite ?_ (wf_ite hm hm)
    extract_lets
    exact reinit_keepsWf a (bistFails a.targetType found) hists m c hm

theorem maintAbortCmd_keepsWf (mg : Mgmt) (id : Nat) : KeepsWf (maintAbortCmd mg id) := by
  intro m c hm
  unfold maintAbortCmd
  extract_lets c'
  split
  next a _ => exact wf_ite hm (reinit_keepsWf a false [] m c' hm)
  next => exact hm

/-! ## Housekeeping (R335 to R343) -/

theorem thermTrip_keepsWf : KeepsWf thermTrip := by
  intro m c hm
  unfold thermTrip
  exact wf_ite hm memory_wf_nil

theorem evalDie_keepsWf (die : Nat) (e : Int) : KeepsWf (evalDie die e) := by
  intro m c hm
  unfold evalDie
  extract_lets _ _ c'
  exact wf_ite (thermTrip_keepsWf m c' hm) hm

theorem evalBase_keepsWf : KeepsWf evalBase := by
  intro m c hm
  unfold evalBase
  extract_lets r c'
  cases r with
  | some e => exact evalDie_keepsWf 0 e m c' hm
  | none => exact hm

theorem evalLayer_keepsWf (l : Nat) : KeepsWf (evalLayer l) := by
  intro m c hm
  unfold evalLayer
  extract_lets r c'
  split
  next e _ => exact evalDie_keepsWf l e m c' hm
  next => exact hm

/-- A conversion of a layer's second sensor may evaluate the base die before its layer. -/
theorem convertTemp_keepsWf (i : Nat) (reading : Option Int) : KeepsWf (convertTemp i reading) := by
  intro m c hm
  unfold convertTemp
  extract_lets c₁ l c₂ late r
  have hbase : Memory.wf r.1 = true := wf_ite (evalBase_keepsWf m c₂ hm) hm
  exact wf_ite (evalBase_keepsWf m _ hm) (wf_ite hm (evalLayer_keepsWf l r.1 r.2 hbase))

theorem hkConversion_keepsWf (ch : Nat) (reading : HkReading) : KeepsWf (hkConversion ch reading) := by
  intro m c hm
  unfold hkConversion
  exact wf_ite hm (wf_ite (convertTemp_keepsWf ch reading.value m c hm) hm)

/-! ## The obligation -/

theorem step_nil (h : s.pending = []) : step s = .next (idleStep s) := by
  unfold step
  rw [h]

theorem step_cons {i : Instr} {rest : List Instr} (h : s.pending = i :: rest) : step s = exec i { s with pending := rest } := by
  unfold step
  rw [h]

theorem onBoth_memOk {f : List Host.Cell → Ctl → List Host.Cell × Ctl} (hf : KeepsWf f) (hs : s.memOk) (h : onBoth f s = .next t) : t.memOk := by
  obtain rfl := Host.Outcome.next.inj h
  exact hf s.dram s.ctl hs

/-- Every command keeps the canonical form: one that stores by its own operation, every other leaves DRAM. -/
theorem exec_memOk (i : Instr) (hs : s.memOk) (h : exec i s = .next t) : t.memOk := by
  by_cases hstores : storesDram i = true
  · cases i
    case powerOn addrSel => exact onBoth_memOk (powerOn_keepsWf addrSel) hs h
    case brownout => exact onBoth_memOk brownout_keepsWf hs h
    case resetNAssert => exact onBoth_memOk resetAssert_keepsWf hs h
    case refclkPresent post => exact onBoth_memOk (refclkPresent_keepsWf post) hs h
    case thermalRestart post => exact onBoth_memOk (thermalRestart_keepsWf post) hs h
    case trackerAllocate who soft => exact onBoth_memOk (trackerAllocate_keepsWf who soft) hs h
    case arbiterDecision ch drain soft => exact onBoth_memOk (arbiterStep_keepsWf ch drain soft) hs h
    case atomicWriteback ch gran => exact onBoth_memOk (auWriteBack_keepsWf ch gran) hs h
    case windowWorkStart ch tests => exact onBoth_memOk (windowWorkStart_keepsWf ch tests) hs h
    case istStep i bonds reads => exact onBoth_memOk (istStep_keepsWf i bonds reads) hs h
    case hkConversion ch reading => exact onBoth_memOk (hkConversion_keepsWf ch.val reading) hs h
    case eraseComplete failed => exact onBoth_memOk (fun m c hm => wf_ite (eraseComplete_keepsWf failed m c hm) hm) hs h
    case zeroizeComplete => exact onBoth_memOk zeroizeComplete_keepsWf hs h
    case bistComplete id found bad hists => exact onBoth_memOk (bistComplete_keepsWf id found bad hists) hs h
    case maintAbort mg id => exact onBoth_memOk (maintAbortCmd_keepsWf mg id) hs h
    case fwActivate mg digestOk post => exact onBoth_memOk (fwActivate_keepsWf mg digestOk post) hs h
    case lifecycleTransition mg target phase hash countersign x =>
      exact onBoth_memOk (lifecycle_keepsWf mg target phase hash countersign x) hs h
    case resetWarm mg post => exact onBoth_memOk (resetWarm_keepsWf mg post) hs h
    all_goals exact Bool.noConfusion hstores
  · have hdram : t.dram = s.dram := onlyStorersChangeDram i s t (by simpa using hstores) h
    rw [State.memOk, hdram]
    exact hs

/-- Settles O4, by the queue: an empty one moves the clock alone, and a command in front keeps the canonical form. -/
theorem stepsKeepMemory : Obligations.StepsKeepMemory := by
  intro s t hs h
  cases hq : s.pending with
  | nil =>
    rw [step_nil hq] at h
    obtain rfl := Host.Outcome.next.inj h
    exact hs
  | cons i rest =>
    rw [step_cons hq] at h
    exact exec_memOk i (s := { s with pending := rest }) hs h

end Sys2Proof.Machine
end

section
/-! PROOF. Steps of the queue: every command answers a next state (obligations O1 and O5). -/

namespace Sys2Proof.Machine

open Sys2Proof

/-- Settles O1: the front command leaves the queue and runs. -/
theorem stepRunsFront : Obligations.StepRunsFront := fun _ _ _ h => step_cons h

/-- Settles O5, by the command: each is a function of the logic, or of the logic and DRAM, that answers a next state. -/
theorem commandsKeepQueue : Obligations.CommandsKeepQueue := by
  intro i s
  cases i
  all_goals exact ⟨_, rfl, rfl⟩

end Sys2Proof.Machine
end

section
/-! PROOF. choose_centre answers the longest run of open bins, of equals the lowest (R316): obligation O57. -/

namespace Sys2Proof.Machine

open Sys2Proof

variable {f : Nat → Bool} {n i run : Nat} {best : Nat × Nat}

/-- Among the open runs below `n`, `best` (first bin and width) is the longest, and of equals the lowest; its width is zero when there
is none. -/
structure LongestBelow (f : Nat → Bool) (n : Nat) (best : Nat × Nat) : Prop where
  isOpen : ∀ i, best.1 ≤ i → i < best.1 + best.2 → f i = true
  below : best.1 + best.2 ≤ n
  longest : ∀ a b, a < b → b ≤ n → (∀ i, a ≤ i → i < b → f i = true) → b - a < best.2 ∨ b - a = best.2 ∧ best.1 ≤ a

theorem longestBelow_zero : LongestBelow f 0 (0, 0) :=
  ⟨fun _ _ h => absurd h (Nat.not_lt_zero _), Nat.le_refl _, fun _ _ hab hb => absurd (hab.trans_le hb) (Nat.not_lt_zero _)⟩

/-- A closed bin ends no run that was not ended before it. -/
theorem LongestBelow.closedBin (h : LongestBelow f i best) (hi : f i = false) : LongestBelow f (i + 1) best := by
  refine ⟨h.isOpen, Nat.le_succ_of_le h.below, fun a b hab hb hrun => h.longest a b hab ?_ hrun⟩
  by_contra hlt
  have hopen := hrun i (by omega) (by omega)
  simp [hi] at hopen

/-- The longest run once the run of `run` bins that ends before bin `i` is counted in. -/
def withRun (i run : Nat) (best : Nat × Nat) : Nat × Nat := if best.2 < run then (i - run, run) else best

/-- A maximal run is counted in: every run that ends inside it begins inside it. -/
theorem LongestBelow.withRun (h : LongestBelow f (i - run) best) (hle : run ≤ i) (hopen : ∀ k, i - run ≤ k → k < i → f k = true)
    (hedge : i - run = 0 ∨ f (i - run - 1) = false) : LongestBelow f i (withRun i run best) := by
  have hbelow := h.below
  have hrest : ∀ a b, a < b → b ≤ i → (∀ k, a ≤ k → k < b → f k = true) → b ≤ i - run ∨ i - run ≤ a := by
    intro a b hab hb hrun
    by_contra hc
    have := hrun (i - run - 1) (by omega) (by omega)
    rcases hedge with h0 | hfalse
    · omega
    · simp [hfalse] at this
  unfold Machine.withRun
  split
  next hlt =>
    refine ⟨fun k hk hk' => hopen k hk (by dsimp only at hk'; omega), by dsimp only; omega, fun a b hab hb hrun => ?_⟩
    dsimp only
    rcases hrest a b hab hb hrun with hb' | ha
    · have := h.longest a b hab hb' hrun
      omega
    · omega
  next hge =>
    refine ⟨h.isOpen, by omega, fun a b hab hb hrun => ?_⟩
    rcases hrest a b hab hb hrun with hb' | ha
    · exact h.longest a b hab hb' hrun
    · omega

/-- The search answers the longest run of the bins before `i` and of the `n` that follow. -/
theorem longestRun_longestBelow (n : Nat) (h : LongestBelow f (i - run) best) (hle : run ≤ i)
    (hopen : ∀ k, i - run ≤ k → k < i → f k = true) (hedge : i - run = 0 ∨ f (i - run - 1) = false) :
    LongestBelow f (i + n) (longestRun ((List.range' i n).map f) i run best) := by
  induction n generalizing i run best with
  | zero => exact h.withRun hle hopen hedge
  | succ n ih =>
    rw [List.range'_succ, List.map_cons, Nat.add_succ, ← Nat.succ_add]
    cases hf : f i with
    | true =>
      have hfirst : i + 1 - (run + 1) = i - run := by omega
      refine ih (run := run + 1) (hfirst ▸ h) (by omega) (fun k hk hk' => ?_) (hfirst ▸ hedge)
      by_cases hki : k = i
      · exact hki ▸ hf
      · exact hopen k (by omega) (by omega)
    | false =>
      exact ih (run := 0) ((h.withRun hle hopen hedge).closedBin hf) (Nat.zero_le _) (fun k hk hk' => by omega) (.inr hf)

/-- Whether the bin of a number is open. -/
def openAt (bins : List (Nat × Nat)) (i : Nat) : Bool := binOpen (bins.getD i (0, 0))

theorem map_binOpen_eq (bins : List (Nat × Nat)) : bins.map binOpen = (List.range' 0 bins.length).map (openAt bins) := by
  refine List.ext_getElem (by simp) fun i h _ => ?_
  have hi : i < bins.length := by simpa using h
  simp [openAt, List.getD, hi]

theorem chooseCentre_longest (bins : List (Nat × Nat)) :
    ∃ best, LongestBelow (openAt bins) bins.length best ∧ chooseCentre bins = ((2 * best.1 + best.2 - 1) / 2, best.2) := by
  refine ⟨_, ?_, rfl⟩
  rw [map_binOpen_eq]
  simpa using longestRun_longestBelow (i := 0) (run := 0) bins.length (longestBelow_zero (f := openAt bins)) (Nat.le_refl _)
    (fun k _ hk => absurd hk (Nat.not_lt_zero _)) (.inl rfl)

/-- An open bin is a run of width one. -/
theorem LongestBelow.width_pos (h : LongestBelow f n best) (hi : i < n) (hopen : f i = true) : 0 < best.2 := by
  have := h.longest i (i + 1) (by omega) hi (fun k hk hk' => by rwa [show k = i by omega])
  omega

theorem openAt_lt_length {bins : List (Nat × Nat)} (h : openAt bins i = true) : i < bins.length := by
  by_contra hge
  rw [openAt, List.getD_eq_default _ _ (by omega)] at h
  exact absurd h (by decide)

/-- Settles O57, by the invariant of the search over the bins. -/
theorem centreRule : Obligations.CentreRule := by
  intro bins
  obtain ⟨best, hbest, hcentre⟩ := chooseCentre_longest bins
  rw [hcentre]
  refine ⟨fun hclosed => ?_, fun ⟨b, hb, hopen⟩ => ?_⟩
  · by_contra hwidth
    have hopen := hbest.isOpen best.1 (Nat.le_refl _) (by dsimp only at hwidth; omega)
    have hlt := openAt_lt_length hopen
    have hclosed := hclosed _ (List.getElem_mem hlt)
    rw [openAt, List.getD_eq_getElem _ _ hlt, hclosed] at hopen
    exact Bool.noConfusion hopen
  · obtain ⟨i, hi, rfl⟩ := List.getElem_of_mem hb
    have hwidth : 0 < best.2 := hbest.width_pos hi (by rwa [openAt, List.getD_eq_getElem _ _ hi])
    have hbelow := hbest.below
    refine ⟨best.1, best.1 + best.2 - 1, by omega, by omega, ?_, fun i hfirst hlast => hbest.isOpen i hfirst (by omega), fun a b hab hb hrun => ?_⟩
    · congr 1 <;> omega
    · have := hbest.longest a (b + 1) (by omega) (by omega) (fun i hi hi' => hrun i hi (by omega))
      omega

end Sys2Proof.Machine
end

section
/-! PROOF. The test access port (R332), the MCTP endpoint (R386) and the I3C target's command codes (R385): obligations O49, O47 and
O48. -/

namespace Sys2Proof.Machine

open Sys2Proof

variable {c : Ctl} {s : State}

/-! ## The test access port (R332, R376) -/

/-- What the port holds with an instruction selected. -/
def tapSide (i : Nat) (d : Side) : Side :=
  { d with tapInstr := i, pinDrive := tapDrive i, tapData := if i = 1 then Config.standardValue 0x149 0 else 0 }

/-- BYPASS and IDCODE are available at any time. -/
theorem tapSelect_always {i : Nat} (hon : sideOn c = true) (hi : i ≤ 1) : tapSelect i c = modSide (tapSide i) c := by
  unfold tapSelect
  simp only [hi, hon, decide_true, Bool.true_or, if_true]
  rfl

/-- Any other instruction is available where the port is open, and BYPASS in its place where it is not. -/
theorem tapSelect_boundary {i : Nat} (hon : sideOn c = true) (hi : 1 < i) :
    tapSelect i c = modSide (tapSide (if tapOpen c then i else 0)) c := by
  unfold tapSelect
  simp only [show ¬ i ≤ 1 by omega, hon, decide_false, Bool.false_or, if_true]
  rfl

/-- The boundary instructions that lay nothing into the boundary register, with their codes and what drives the signal balls. -/
theorem boundary_effect {i : Instr} {code drive : Nat} (h : (i, code, drive) ∈ [(Instr.extest, 3, 1), (.clamp, 4, 1), (.highz, 5, 2)])
    (s : State) : exec i s = onCtl (tapSelect code) s ∧ 1 < code ∧ tapDrive code = drive := by
  simp only [List.mem_cons, Prod.mk.injEq, List.not_mem_nil, or_false] at h
  obtain ⟨rfl, rfl, rfl⟩ | ⟨rfl, rfl, rfl⟩ | ⟨rfl, rfl, rfl⟩ := h
  all_goals exact ⟨rfl, by decide, rfl⟩

/-- Settles O49: each instruction by whether it needs the port open. -/
theorem testAccessPort : Obligations.TestAccessPort := by
  refine ⟨fun s hon => ⟨{ s with ctl := tapSelect 0 s.ctl }, rfl, ?bypass⟩, fun s hon => ⟨{ s with ctl := tapSelect 1 s.ctl }, rfl, ?idcode⟩,
    fun b s hon => ?sample, fun i code drive s hi hon => ?boundary, fun s => ⟨_, rfl, rfl⟩⟩
  case bypass => rw [tapSelect_always hon (by decide)]; rfl
  case idcode => rw [tapSelect_always hon (by decide)]; rfl
  case sample =>
    refine ⟨_, rfl, ?_⟩
    simp only [tapSelect_boundary hon (show 1 < 2 by decide), hon, Bool.true_and]
    cases tapOpen s.ctl <;> rfl
  case boundary =>
    obtain ⟨hexec, hcode, hdrive⟩ := boundary_effect hi s
    refine ⟨{ s with ctl := tapSelect code s.ctl }, hexec, ?_⟩
    rw [tapSelect_boundary hon hcode]
    have hdata : (if code = 1 then Config.standardValue 0x149 0 else 0) = 0 := if_neg (by omega)
    cases tapOpen s.ctl
    · rfl
    · simp only [if_true, ← hdrive, sideIs, modSide, tapSide, hdata]

/-! ## The MCTP endpoint (R288, R386) -/

/-- A reserved endpoint ID leaves the one in force. -/
theorem setEndpointId_side (e : BitVec 8) (hon : mctpOn s.ctl = true) :
    ∃ t, exec (.setEndpointId e) s = .next t ∧
      sideIs { s.ctl.side with
        eid := if e = 0 ∨ e = 0xFF then s.ctl.side.eid else e
        answers := s.ctl.side.answers ++ [(0x101, (if e = 0 ∨ e = 0xFF then s.ctl.side.eid else e).toNat)] } s t := by
  refine ⟨_, rfl, ?_⟩
  simp only [hon, if_true, Bool.or_eq_true, decide_eq_true_eq]
  by_cases he : e = 0 ∨ e = 0xFF
  · simp only [he, if_true]; rfl
  · simp only [he, if_false]; rfl

theorem mctpOn_of_class5 (h : s.ctl.umpire.class5 = true) : mctpOn s.ctl = false := by simp [mctpOn, h]

/-- In class 5 the endpoint's requests find no answer. -/
theorem mctp_silent {i : Instr} {e : BitVec 8} (h : i ∈ [Instr.setEndpointId e, .getEndpointId, .getMctpVersionSupport, .getMessageTypeSupport])
    (hoff : mctpOn s.ctl = false) : exec i s = .next s := by
  simp only [List.mem_cons, List.not_mem_nil, or_false] at h
  obtain rfl | rfl | rfl | rfl := h
  all_goals
    refine congrArg Host.Outcome.next ?_
    simp only [hoff, Bool.false_eq_true, if_false]

/-- Settles O47: each request of the endpoint, its silence in class 5, and a message of a type that it does not take. -/
theorem mctpEndpoint : Obligations.MctpEndpoint := by
  refine ⟨fun e s => setEndpointId_side e, fun s hon => ⟨_, rfl, ?id⟩, fun s hon => ⟨_, rfl, ?versions⟩, fun s hon => ⟨_, rfl, ?types⟩,
    fun i e s hi h5 => mctp_silent hi (mctpOn_of_class5 h5), fun type s hon h0 h5 h7 => ⟨_, rfl, ?other⟩⟩
  case id | versions | types => simp only [hon, if_true]; rfl
  case other =>
    simp only [hon, h0, h5, h7, ne_eq, not_false_eq_true, decide_true, Bool.and_true, if_true]
    exact ⟨bump_frame _, onlyLogic_ctl s _, scoreGet_bump_self (w := 16) rfl (by decide)⟩

/-! ## The I3C command codes (R385) -/

/-- A directed read that the target's dynamic address answers. -/
theorem cccRead_addressed {a : BitVec 7} (code value : Nat) (hon : sideOn c = true) (ha : c.side.dynAddr = some a) :
    cccRead code value c = answer code value c := by
  unfold cccRead
  simp [hon, ha]

/-- The reads of a fixed characteristic, with their codes. -/
theorem characteristic_exec {i : Instr} {code : Nat}
    (h : (i, code) ∈ [(Instr.getpid, 0x8D), (.getbcr, 0x8E), (.getdcr, 0x8F), (.getmwl, 0x8B), (.getmrl, 0x8C)]) (s : State) :
    exec i s = onCtl (cccRead code (Config.standardValue code 0)) s := by
  simp only [List.mem_cons, Prod.mk.injEq, List.not_mem_nil, or_false] at h
  obtain ⟨rfl, rfl⟩ | ⟨rfl, rfl⟩ | ⟨rfl, rfl⟩ | ⟨rfl, rfl⟩ | ⟨rfl, rfl⟩ := h
  all_goals rfl

/-- SETDASA gives the dynamic address to the target of the static address, when it has none. -/
theorem setdasa_side (a d : BitVec 7) (hon : sideOn s.ctl = true) :
    ∃ t, exec (.setdasa a d) s = .next t ∧
      (a = BitVec.ofNat 7 (0x48 + s.ctl.power.addrSel.val) → s.ctl.side.dynAddr = none → sideIs { s.ctl.side with dynAddr := some d } s t) ∧
      (a ≠ BitVec.ofNat 7 (0x48 + s.ctl.power.addrSel.val) → t = s) := by
  refine ⟨_, rfl, fun ha hnone => ?_, fun ha => ?_⟩
  · have hstatic : a = staticAddr s.ctl := ha
    simp only [hon, hstatic, hnone, decide_true, Bool.true_and, Option.isNone_none, if_true]
    rfl
  · have hstatic : a ≠ staticAddr s.ctl := ha
    simp only [hstatic, decide_false, Bool.and_false, Bool.false_and, Bool.false_eq_true, if_false]

/-- Settles O48: what each command code does to the target once the rails are up. -/
theorem i3cCommandCodes : Obligations.I3cCommandCodes := by
  refine ⟨fun e s hon => ⟨_, rfl, ?enec⟩, fun e s hon => ⟨_, rfl, ?disec⟩, fun s hon => ⟨_, rfl, ?rstdaa⟩, fun a d s => setdasa_side a d,
    fun s hon hnone => ⟨_, rfl, ?setaasa⟩, fun a d s hon ha => ⟨_, rfl, ?setnewda⟩, fun r s hon => ⟨_, rfl, ?rstact⟩,
    fun i code a s hi hon ha => ⟨_, characteristic_exec hi s, ?read⟩, fun a s hon ha => ⟨_, rfl, ?status⟩⟩
  case enec | disec | rstdaa | rstact => simp only [hon, if_true]; rfl
  case setaasa => simp only [hon, hnone, Option.isNone_none, Bool.true_and, if_true]; rfl
  case setnewda => simp only [hon, ha, Option.isSome_some, Bool.true_and, if_true]; rfl
  case read | status => simp only [cccRead_addressed _ _ hon ha]; rfl

end Sys2Proof.Machine
end

section
/-! SUPPORT. What the umpire's reactions and the loss of a link never touch (R51, R284 to R302): the model's clock, the beat's number and
the housekeeping record. -/

namespace Sys2Proof.Machine

open Sys2Proof

variable {c d e : Ctl}

/-- The clock, the beat's number and the housekeeping record are as before. -/
structure Lasting (c d : Ctl) : Prop where
  now : d.now = c.now
  number : d.beat.number = c.beat.number
  therm : d.therm = c.therm

namespace Lasting

theorem refl (c : Ctl) : Lasting c c := ⟨rfl, rfl, rfl⟩

theorem trans (h : Lasting c d) (k : Lasting d e) : Lasting c e :=
  ⟨k.now.trans h.now, k.number.trans h.number, k.therm.trans h.therm⟩

/-- An operation outside the clock, the beat and housekeeping. -/
theorem of_eq (hnow : d.now = c.now) (hbeat : d.beat = c.beat) (htherm : d.therm = c.therm) : Lasting c d :=
  ⟨hnow, by rw [hbeat], htherm⟩

theorem ite {p : Prop} [Decidable p] (hd : Lasting c d) (he : Lasting c e) : Lasting c (if p then d else e) := by
  split
  · exact hd
  · exact he

end Lasting

theorem foldl_lasting {α : Type} (l : List α) {f : Ctl → α → Ctl} (h : ∀ c a, Lasting c (f c a)) (c : Ctl) : Lasting c (l.foldl f c) := by
  induction l generalizing c with
  | nil => exact .refl c
  | cons a t ih => exact (h c a).trans (ih (f c a))

theorem forEach_lasting {α : Type} (l : List α) {f : α → Ctl → Ctl} (h : ∀ a c, Lasting c (f a c)) (c : Ctl) : Lasting c (forEach l f c) :=
  foldl_lasting l (fun c a => h a c) c

/-! ## Updates of one part -/

theorem scoreSet_lasting (i v : Nat) : Lasting c (scoreSet i v c) := .of_eq (by simp) (by simp) (by simp)
theorem bumpBy_lasting (i n : Nat) : Lasting c (bumpBy i n c) := scoreSet_lasting _ _
theorem bump_lasting (i : Nat) : Lasting c (bump i c) := bumpBy_lasting i 1
theorem modPort_lasting (p : Fin 4) (f : Port → Port) : Lasting c (modPort p f c) := ⟨rfl, rfl, rfl⟩
theorem modRegion_lasting (r : Fin 4) (f : Region → Region) : Lasting c (modRegion r f c) := ⟨rfl, rfl, rfl⟩
theorem modMover_lasting (m : Fin 16) (f : Mover → Mover) : Lasting c (modMover m f c) := ⟨rfl, rfl, rfl⟩
theorem modChan_lasting (ch : Fin 32) (f : Chan → Chan) : Lasting c (modChan ch f c) := ⟨rfl, rfl, rfl⟩
theorem modPm_lasting (f : PageMap → PageMap) : Lasting c (modPm f c) := ⟨rfl, rfl, rfl⟩
theorem modUmpire_lasting (f : Umpire → Umpire) : Lasting c (modUmpire f c) := ⟨rfl, rfl, rfl⟩
theorem modMgr_lasting (f : Mgr → Mgr) : Lasting c (modMgr f c) := ⟨rfl, rfl, rfl⟩
theorem modLife_lasting (f : Life → Life) : Lasting c (modLife f c) := ⟨rfl, rfl, rfl⟩
theorem queuePut_lasting (q : Nat) (v : Queue) : Lasting c (queuePut q v c) := ⟨rfl, rfl, rfl⟩
theorem usePut_lasting (ppn : Nat) (u : Use) : Lasting c (usePut ppn u c) := ⟨rfl, rfl, rfl⟩
theorem updateAlert_lasting : Lasting c (updateAlert c) := ⟨rfl, rfl, rfl⟩
theorem modPower_lasting (f : Power → Power) : Lasting c (modPower f c) := ⟨rfl, rfl, rfl⟩
theorem modBeat_lasting {f : Beat → Beat} (h : ∀ b, (f b).number = b.number) : Lasting c (modBeat f c) := ⟨rfl, h _, rfl⟩
theorem setTrk_lasting (l : List Trk) : Lasting c { c with trk := l } := ⟨rfl, rfl, rfl⟩
theorem setChans_lasting (l : Vector Chan 32) : Lasting c { c with chans := l } := ⟨rfl, rfl, rfl⟩
theorem setMovers_lasting (l : Vector Mover 16) : Lasting c { c with movers := l } := ⟨rfl, rfl, rfl⟩
theorem setDraws_lasting (n : Nat) : Lasting c { c with draws := n } := ⟨rfl, rfl, rfl⟩

/-! ## Responses, replies and NOTIFY packets -/

theorem endTrkWith_lasting (id st : Nat) (info : BitVec 32) (data : List Slot) : Lasting c (endTrkWith id st info data c) :=
  .of_eq (by simp) (by simp) (by simp)
theorem endTrk_lasting (id st : Nat) : Lasting c (endTrk id st c) := endTrkWith_lasting _ _ _ _
theorem replyTo_lasting (ref : CmdRef) (st op : Nat) (l : List Byte) : Lasting c (replyTo ref st op l c) :=
  .of_eq (by simp) (by simp) (by simp)
theorem notifyEntry_lasting (x : LogEntry) : Lasting c (notifyEntry x c) := .of_eq (by simp) (by simp) (by simp)

theorem replyParked_lasting (ref : CmdRef) (st : Nat) (l : List Byte) : Lasting c (replyParked ref st l c) := by
  unfold replyParked
  exact .ite ((modMgr_lasting _).trans (replyTo_lasting _ _ _ _)) (.refl c)

theorem logPlain_lasting (x : LogEntry) : Lasting c (logPlain x c) := by
  unfold logPlain
  split
  · exact (modUmpire_lasting _).trans (notifyEntry_lasting x)
  · exact .refl c

/-! ## Maintenance activities -/

theorem preemptAll_lasting (l : List Activity) : Lasting c (preemptAll l c) := by
  unfold preemptAll
  refine ((bumpBy_lasting _ _).trans (foldl_lasting l (fun x a => ?_) _)).trans (modMgr_lasting _)
  split
  · exact modMgr_lasting _
  · exact .refl x

theorem holdSpare_lasting (kind : Nat) : Lasting c (holdSpare kind c) := by
  unfold holdSpare
  split
  · exact modPm_lasting _
  · exact .refl c

theorem grantWaiting_lasting : Lasting c (grantWaiting c) :=
  forEach_lasting _ (fun _ x => .ite (((preemptAll_lasting _).trans (holdSpare_lasting _)).trans (modMgr_lasting _)) (.refl x)) c

theorem endActivity_lasting (id st : Nat) (result : BitVec 32) : Lasting c (endActivity id st result c) := by
  unfold endActivity
  split
  · exact .refl c
  · exact (Lasting.ite (modPm_lasting _) (.refl c)).trans ((modMgr_lasting _).trans grantWaiting_lasting)

/-! ## Slices and pages out of service (R290, R291) -/

theorem leaveSelfRefresh_lasting : Lasting c (leaveSelfRefresh c) := by
  unfold leaveSelfRefresh
  exact .ite ⟨rfl, rfl, rfl⟩ (.refl c)

theorem startSubstitution_lasting (s : Nat) : Lasting c (startSubstitution s c) := by
  unfold startSubstitution
  exact .ite (.refl c) ((leaveSelfRefresh_lasting.trans (modPm_lasting _)).trans ((modMgr_lasting _).trans grantWaiting_lasting))

theorem sliceOutOfService_lasting (s : Nat) : Lasting c (sliceOutOfService s c) := by
  unfold sliceOutOfService
  exact .ite (.refl c) ((modChan_lasting _ _).trans (startSubstitution_lasting s))

theorem slicesOut_lasting (f : Nat → Nat) (l : List Nat) : Lasting c (forEach l (fun k c => sliceOutOfService (f k) c) c) :=
  forEach_lasting l (fun _ _ => sliceOutOfService_lasting _) c

theorem substitutePage_lasting (ppn : Nat) : Lasting c (substitutePage ppn c) := by
  have copy (x : Nat) (f : PageMap → PageMap) : Lasting c (modPm f (usePut x .target (leaveSelfRefresh c))) :=
    (leaveSelfRefresh_lasting.trans (usePut_lasting _ _)).trans (modPm_lasting f)
  unfold substitutePage
  split
  · exact usePut_lasting _ _
  · split
    · exact bump_lasting _
    · exact copy _ _
  · split
    · exact bump_lasting _
    · exact copy _ _
  · exact .refl c

/-! ## Class 4 (R287) -/

theorem dropHolds_lasting (id : Nat) : Lasting c (dropHolds id c) := ⟨rfl, rfl, rfl⟩

theorem endSeq_lasting (r : Fin 4) (q : LSeq) (st : Nat) : Lasting c (endSeq r q st c) := by
  unfold endSeq
  extract_lets c1 stages c2 c3
  have h2 : Lasting c c2 := ((Lasting.ite (.refl c) (bump_lasting _)).trans (dropHolds_lasting _)).trans (modRegion_lasting _ _)
  have h3 : Lasting c2 c3 := forEach_lasting stages (fun _ _ => (dropHolds_lasting _).trans (endTrk_lasting _ _)) c2
  exact (h2.trans h3).trans (forEach_lasting _ (fun _ _ => endTrk_lasting _ _) c3)

theorem coordHalt_lasting (r : Fin 4) : Lasting c (coordHalt r c) := by
  unfold coordHalt
  extract_lets ts c1 c2 undone
  have h1 : Lasting c c1 := forEach_lasting ts (fun _ _ => (dropHolds_lasting _).trans (endTrkWith_lasting _ _ _ _)) c
  exact (h1.trans (modRegion_lasting _ _)).trans (forEach_lasting _ (fun _ _ => endSeq_lasting _ _ _) c2)

theorem pushShadow_lasting (who : Option (Nat × Nat)) (hpn g : Nat) (v : BitVec 320) : Lasting c (pushShadow who hpn g v c) := ⟨rfl, rfl, rfl⟩

theorem acceptWrite_lasting (key : Nat) (v : BitVec 320) (hpn : Option Nat) : Lasting c (acceptWrite key v hpn c) := by
  have put (x : Ctl) (f : Chan → Chan) : Lasting x (if keyFailed x key then x else modChan (keyChan key) f x) :=
    .ite (.refl x) (modChan_lasting _ _)
  cases hpn with
  | none => exact put c _
  | some h => exact .trans (pushShadow_lasting none h (keyGran key) v) (put _ _)

theorem finishKey_lasting (id : Nat) (k : Key) : Lasting c (finishKey id k c) := by
  unfold finishKey
  exact .ite ((acceptWrite_lasting _ _ _).trans (modChan_lasting _ _)) (.refl c)

theorem coordFinish_lasting (r : Fin 4) : Lasting c (coordFinish r c) := by
  unfold coordFinish
  extract_lets ts c1
  have h1 : Lasting c c1 := forEach_lasting ts (fun _ x => forEach_lasting _ (fun _ _ => finishKey_lasting _ _) x) c
  exact h1.trans (modRegion_lasting _ _)

theorem moverHalt_lasting (m : Fin 16) : Lasting c (moverHalt m c) := by
  unfold moverHalt
  extract_lets v disabled ran
  split
  · exact .refl c
  · extract_lets x c1 c2 c3 c4
    have h2 : Lasting c c2 := ⟨rfl, rfl, rfl⟩
    have h3 : Lasting c2 c3 := by
      unfold c3
      split
      · exact replyParked_lasting _ _ _
      · exact .refl c2
    exact ((h2.trans h3).trans (bumpBy_lasting _ _)).trans (modMover_lasting _ _)

theorem enterHalt_lasting : Lasting c (enterHalt c) := by
  unfold enterHalt
  extract_lets c1 c2 c3 c4
  have h1 : Lasting c c1 :=
    leaveSelfRefresh_lasting.trans (forEach_lasting allRegions (fun r _ => (coordHalt_lasting r).trans (coordFinish_lasting r)) _)
  have h2 : Lasting c1 c2 := forEach_lasting _ (fun _ _ => endTrk_lasting _ _) c1
  have h3 : Lasting c2 c3 := forEach_lasting allMovers (fun m _ => moverHalt_lasting m) c2
  have h4 : Lasting c3 c4 := setChans_lasting _
  exact (((h1.trans h2).trans h3).trans h4).trans ((modPower_lasting _).trans (modBeat_lasting fun _ => rfl))

/-! ## Link loss and class 5 (R51, R288) -/

theorem linkLoss_lasting (p : Fin 4) : Lasting c (linkLoss p c) := by
  unfold linkLoss
  extract_lets sent c1 c2 c3 c4 c5 c6
  have h1 : Lasting c c1 := setTrk_lasting _
  have h2 : Lasting c1 c2 := (bump_lasting _).trans (modPort_lasting p _)
  have h3 : Lasting c2 c3 := forEach_lasting _ (fun _ _ => endSeq_lasting _ _ _) c2
  have h4 : Lasting c3 c4 := setMovers_lasting _
  have h6 : Lasting c4 c6 := (bumpBy_lasting _ _).trans (modMgr_lasting _)
  have lost : Lasting c c6 := (((h1.trans h2).trans h3).trans h4).trans h6
  split
  · exact lost.trans (endActivity_lasting _ _ _)
  · exact lost

theorem portLockdown_lasting (p : Fin 4) : Lasting c (portLockdown p c) := by
  unfold portLockdown
  extract_lets c1 c2 off
  have h1 : Lasting c c1 := .ite (bumpBy_lasting _ _) (.refl c)
  have h2 : Lasting c1 c2 := .ite (linkLoss_lasting p) (.refl c1)
  exact (h1.trans h2).trans (modPort_lasting p _)

theorem enterLockdown_lasting : Lasting c (enterLockdown c) := by
  unfold enterLockdown
  extract_lets c1 c2 c3
  have h1 : Lasting c c1 := enterHalt_lasting.trans (forEach_lasting allPorts (fun p _ => portLockdown_lasting p) _)
  have h2 : Lasting c1 c2 := setDraws_lasting _
  exact ((h1.trans h2).trans (modLife_lasting _)).trans (modMgr_lasting _)

/-! ## Reactions and events (R285 to R300) -/

theorem codeReaction_lasting (code idx detail : Nat) : Lasting c (codeReaction code idx detail c) := by
  unfold codeReaction
  refine .ite (sliceOutOfService_lasting _) (.ite ?_ (.ite (usePut_lasting _ _) (.ite (modMover_lasting _ _) (.ite (queuePut_lasting _ _)
    (.ite ?_ (.refl c))))))
  · exact (modChan_lasting _ _).trans (slicesOut_lasting _ _)
  · exact slicesOut_lasting _ _

theorem classReaction_lasting (code orig st idx detail k : Nat) : Lasting c (classReaction code orig st idx detail k c) := by
  unfold classReaction
  refine .ite (.ite (codeReaction_lasting _ _ _) (.ite (substitutePage_lasting _) (.ite (sliceOutOfService_lasting _) (.refl c))))
    (.ite ⟨rfl, rfl, rfl⟩ (.ite (.ite (modUmpire_lasting _) ?_) (.ite (.ite (.refl c) ?_) (.refl c))))
  · exact (modUmpire_lasting _).trans enterHalt_lasting
  · exact (modUmpire_lasting _).trans enterLockdown_lasting

theorem reactTo_lasting (x : LogEntry) : Lasting c (reactTo x c) := by
  unfold reactTo
  dsimp only
  exact .ite ((classReaction_lasting _ _ _ _ _ _).trans (classReaction_lasting _ _ _ _ _ _)) (classReaction_lasting _ _ _ _ _ _)

theorem raiseOverflow_lasting : Lasting c (raiseOverflow c) := by
  have log (x : LogEntry) (f : Umpire → Umpire) : Lasting c (notifyEntry x (reactTo x (bump (gIdx 19) (modUmpire f c)))) :=
    (((modUmpire_lasting f).trans (bump_lasting _)).trans (reactTo_lasting x)).trans (notifyEntry_lasting x)
  unfold raiseOverflow
  split
  · exact .ite (modUmpire_lasting _) (log _ _)
  · exact log _ _

theorem logFault_lasting (x : LogEntry) : Lasting c (logFault x c) := by
  unfold logFault
  dsimp only
  split
  · exact ((modUmpire_lasting _).trans (reactTo_lasting _)).trans (notifyEntry_lasting _)
  · exact ((bump_lasting _).trans (reactTo_lasting x)).trans raiseOverflow_lasting

theorem recordEvent_lasting (code st idx detail : Nat) : Lasting c (recordEvent code st idx detail c) := by
  unfold recordEvent
  extract_lets known sliceOpen again merged plain counted c'
  have hagain (x : Ctl) : Lasting x (again x) := .ite (classReaction_lasting _ _ _ _ _ _) (.refl x)
  have hmerged (p : LogEntry → Bool) (x : Ctl) : Lasting x (merged p x) := modUmpire_lasting _
  have hcounted : Lasting c counted := bump_lasting _
  have h : Lasting c c' := by
    refine .ite (.ite ((bump_lasting _).trans (hmerged _ _)) ((bump_lasting _).trans (logPlain_lasting _)))
      (.ite ((bump_lasting _).trans (modUmpire_lasting _)) (hcounted.trans ?_))
    exact .ite ((hmerged _ _).trans (hagain _)) (.ite (logPlain_lasting _) (logFault_lasting _))
  exact h.trans updateAlert_lasting

theorem raiseEvent_lasting (code st idx detail : Nat) : Lasting c (raiseEvent code st idx detail c) := by
  have h := recordEvent_lasting (c := c) code st idx detail
  unfold raiseEvent benchCheck
  exact .ite (.ite (h.trans (recordEvent_lasting _ _ _ _)) h) h

/-! ## DETECT and LANE_MAP (R35, R41, R43, R51) -/

theorem toDetect_lasting (p : Fin 4) : Lasting c (toDetect p c) := by
  unfold toDetect
  extract_lets q lost failed n rx c1 c2
  have h1 : Lasting c c1 := .ite (linkLoss_lasting p) (modPort_lasting p _)
  have h2 : Lasting c c2 := h1.trans (modPort_lasting p _)
  exact .ite (h2.trans ((modPort_lasting p _).trans (raiseEvent_lasting _ _ _ _))) h2

theorem mapEvent_lasting (p : Fin 4) (dir : Nat) (old new : DirMap) : Lasting c (mapEvent p dir old new c) := by
  unfold mapEvent
  exact .ite ((modPort_lasting p _).trans (raiseEvent_lasting _ _ _ _))
    (.ite ((modPort_lasting p _).trans (raiseEvent_lasting _ _ _ _)) (.refl c))

theorem mapFails_lasting (p : Fin 4) : Lasting c (mapFails p c) := by
  unfold mapFails
  extract_lets sent c1
  have h1 : Lasting c c1 := (modPort_lasting p _).trans (toDetect_lasting p)
  exact .ite h1 (h1.trans (raiseEvent_lasting _ _ _ _))

theorem enterLaneMap_lasting (p : Fin 4) : Lasting c (enterLaneMap p c) := by
  unfold enterLaneMap
  extract_lets q
  split
  · exact toDetect_lasting p
  · split
    · exact ((modPort_lasting p _).trans (mapEvent_lasting _ _ _ _)).trans (mapEvent_lasting _ _ _ _)
    · exact mapFails_lasting p

theorem bringupExit_lasting (p : Fin 4) : Lasting c (bringupExit p c) := by
  unfold bringupExit trainExit
  split
  · exact modPort_lasting p _
  · exact .ite (enterLaneMap_lasting p) (.refl c)
  · exact modPort_lasting p _
  · exact .refl c

theorem noteSent_lasting (p : Fin 4) : Lasting c (noteSent p c) := by
  unfold noteSent
  extract_lets l c1 c2
  have h1 : Lasting c c1 := .ite (.refl c) (bumpBy_lasting _ _)
  have h2 : Lasting c1 c2 := .ite (.refl c1) (bumpBy_lasting _ _)
  exact .ite (h1.trans h2) ((h1.trans h2).trans (modPort_lasting p _))

end Sys2Proof.Machine
end

section
/-! PROOF. What a nanosecond without a command changes (logs 1 and 66): obligation O2. -/

namespace Sys2Proof.Machine

open Sys2Proof

variable {c d e : Ctl} {p : Fin 4} {q : Port}

/-! ## Counters of time -/

/-- What the counters of time and the marks of time change: the counters and the channels. -/
def Timed (c d : Ctl) : Prop := d = { c with score := d.score, chans := d.chans }

namespace Timed

theorem refl (c : Ctl) : Timed c c := rfl

theorem trans (h : Timed c d) (k : Timed d e) : Timed c e := by
  unfold Timed at *
  rw [h] at k
  exact k

theorem addTime (i n : Nat) (c : Ctl) : Timed c (addTime i n c) := by
  unfold Machine.addTime
  split
  · rfl
  · rw [bumpBy_frame]; rfl

theorem modChan (ch : Fin 32) (f : Chan → Chan) (c : Ctl) : Timed c (modChan ch f c) := rfl

theorem forEach {α : Type} {f : α → Ctl → Ctl} (h : ∀ a c, Timed c (f a c)) (l : List α) (c : Ctl) : Timed c (forEach l f c) :=
  forEach_inv (Timed c) l f (fun a d hd => hd.trans (h a d)) c (refl c)

theorem ports (h : Timed c d) : d.ports = c.ports := by rw [h]

end Timed

/-- What a nanosecond changes beside the clock: the ports, the counters and the channels. -/
def Ticked (c d : Ctl) : Prop := d = { c with score := d.score, ports := d.ports, chans := d.chans }

theorem Ticked.refl (c : Ctl) : Ticked c c := rfl

theorem Ticked.trans (h : Ticked c d) (k : Ticked d e) : Ticked c e := by
  unfold Ticked at *
  rw [h] at k
  exact k

theorem Ticked.of_ports {x : Vector Port 4} {y : List (Nat × Nat)} (h : d = { c with ports := x, score := y }) : Ticked c d := by
  subst h
  rfl

theorem Timed.ticked (h : Timed c d) : Ticked c d := by
  unfold Ticked
  rw [h.ports]
  exact h

theorem timeThrottle_timed (c : Ctl) : Timed c (timeThrottle c) := .forEach (fun _ _ => .addTime _ _ _) _ c

theorem timePort_timed (p : Fin 4) (c : Ctl) : Timed c (timePort p c) :=
  .trans (.trans (.trans (.addTime _ _ _) (.addTime _ _ _)) (.addTime _ _ _)) (.addTime _ _ _)

theorem timeRegion_timed (r : Fin 4) (c : Ctl) : Timed c (timeRegion r c) := .trans (.addTime _ _ _) (.addTime _ _ _)

theorem timeMover_timed (m : Fin 16) (c : Ctl) : Timed c (timeMover m c) :=
  .trans (.trans (.addTime _ _ _) (.addTime _ _ _)) (.addTime _ _ _)

theorem noteBusy_timed (ch : Fin 32) (c : Ctl) : Timed c (noteBusy ch c) := by
  unfold noteBusy
  split
  · exact .refl c
  · exact .modChan _ _ c

theorem withholdAt_timed (ch : Fin 32) (c : Ctl) : Timed c (withholdAt ch c) := by
  unfold withholdAt
  split
  · exact .modChan _ _ c
  · exact .refl c

theorem timeChan_timed (ch : Fin 32) (c : Ctl) : Timed c (timeChan ch c) := by
  unfold timeChan
  extract_lets c1 x c2 c3 c4 c5 c6
  have h1 : Timed c c1 := (noteBusy_timed ch c).trans (withholdAt_timed ch _)
  have h2 : Timed c1 c2 := .forEach (fun _ _ => .addTime _ _ _) _ c1
  have h6 : Timed c2 c6 := .trans (.trans (.trans (.addTime _ _ _) (.addTime _ _ _)) (.addTime _ _ _)) (.addTime _ _ _)
  exact ((h1.trans h2).trans h6).trans (.forEach (fun _ _ => .addTime _ _ _) _ c6)

/-! ## What a transmitter sends leaves its port in its state of Table 3 -/

theorem followState_link (q : Port) : (followState q).link = q.link := by
  unfold followState
  extract_lets
  repeat' split
  all_goals rfl

theorem sendFrames_link (q : Port) : (sendFrames q).link = q.link := by
  unfold sendFrames
  split
  · rfl
  · extract_lets
    split <;> rfl

theorem sendLine_link (q : Port) : (sendLine q).link = q.link := by
  unfold sendLine
  split
  · rfl
  · split
    · split
      · exact (wakeTx_sent q).link
      · rfl
    · split
      · rfl
      · rw [Laws.sendNext_same]

theorem sendPort_link (q : Port) : (sendPort q).link = q.link := by
  unfold sendPort
  rw [sendLine_link, sendFrames_link, followState_link]

/-! ## What was sent is counted, and a state of bring-up may end -/

/-- A port whose flits sent again and NAK slots sent have been counted. -/
def noted (q : Port) : Port := { q with line := { q.line with again := 0, naks := 0 } }

theorem noted_of_zero (ha : q.line.again = 0) (hn : q.line.naks = 0) : noted q = q :=
  calc noted q = { q with line := { q.line with again := q.line.again, naks := q.line.naks } } := by rw [ha, hn]; rfl
    _ = q := rfl

theorem noted_noted (q : Port) : noted (noted q) = noted q := rfl

theorem noteSent_frame : noteSent p c = { c with ports := c.ports.set p (noted c.ports[p]), score := (noteSent p c).score } := by
  unfold noteSent
  extract_lets l c1 c2
  have h1 : c1 = { c with score := c1.score } := by
    unfold c1
    split
    · rfl
    · exact bumpBy_frame _ _
  have h2 : c2 = { c with score := c2.score } := by
    have : c2 = { c1 with score := c2.score } := by
      unfold c2
      split
      · rfl
      · exact bumpBy_frame _ _
    rw [this, h1]
  clear_value c2
  split
  next hzero =>
    simp only [Bool.and_eq_true, decide_eq_true_eq] at hzero
    rw [noted_of_zero hzero.1 hzero.2]
    simpa only [Fin.getElem_fin, Vector.set_getElem_self] using h2
  next =>
    rw [h2]
    rfl

theorem noteSent_self : (noteSent p c).ports[p] = noted c.ports[p] := by
  rw [noteSent_frame]
  simp

/-- One port counts what it sent, and leaves its state of bring-up when it may. -/
def exitPort (p : Fin 4) (c : Ctl) : Ctl := bringupExit p (noteSent p c)

/-- Outside TRAIN a port that leaves its state of bring-up changes itself alone. -/
theorem bringupExit_frame (h : (c.ports[p]).link ≠ .train) :
    ∃ q, bringupExit p c = { c with ports := c.ports.set p q } := by
  have hsame : ∃ q, c = { c with ports := c.ports.set p q } := ⟨c.ports[p], by simp⟩
  unfold bringupExit
  split
  · exact ⟨_, rfl⟩
  · contradiction
  · exact ⟨_, rfl⟩
  · exact hsame

theorem exitPort_frame (h : (c.ports[p]).link ≠ .train) :
    ∃ q, exitPort p c = { c with ports := c.ports.set p q, score := (exitPort p c).score } := by
  obtain ⟨q, hq⟩ := bringupExit_frame (c := noteSent p c) (p := p) (by rwa [noteSent_self])
  refine ⟨q, ?_⟩
  unfold exitPort
  rw [hq, noteSent_frame]
  simp

theorem exitPort_other {w : Fin 4} (h : (c.ports[p]).link ≠ .train) (hw : w ≠ p) : (exitPort p c).ports[w] = c.ports[w] := by
  obtain ⟨q, hq⟩ := exitPort_frame h
  have hv : p.val ≠ w.val := fun e => hw (Fin.ext e.symm)
  rw [hq]
  simp [Vector.getElem_set_ne _ _ hv]

theorem exitPort_ticked (h : (c.ports[p]).link ≠ .train) : Ticked c (exitPort p c) :=
  (exitPort_frame h).elim fun _ => .of_ports

/-- Ports that are not in TRAIN, each taken once, change the ports and the counters alone. -/
theorem forEach_exitPort_ticked (l : List (Fin 4)) (hl : l.Nodup) (c : Ctl) (h : ∀ p ∈ l, (c.ports[p]).link ≠ .train) :
    Ticked c (forEach l exitPort c) := by
  induction l generalizing c with
  | nil => exact .refl c
  | cons p t ih =>
    obtain ⟨hp, ht⟩ := List.nodup_cons.mp hl
    have hlink := h p List.mem_cons_self
    refine (exitPort_ticked hlink).trans (ih ht (exitPort p c) fun w hw => ?_)
    rw [exitPort_other hlink fun e => hp (e ▸ hw)]
    exact h w (List.mem_cons_of_mem _ hw)

/-- A port outside bring-up has nothing to leave. -/
theorem exitPort_settled (h : (c.ports[p]).link ≠ .speed ∧ (c.ports[p]).link ≠ .train ∧ (c.ports[p]).link ≠ .laneMap) :
    exitPort p c = noteSent p c := by
  obtain ⟨hspeed, htrain, hmap⟩ := h
  have hlink : ((noteSent p c).ports[p]).link = (c.ports[p]).link := by rw [noteSent_self]; rfl
  unfold exitPort bringupExit
  rw [hlink]
  split
  · contradiction
  · contradiction
  · contradiction
  · rfl

theorem forEach_exitPort_settled (l : List (Fin 4)) (c : Ctl)
    (h : ∀ p : Fin 4, (c.ports[p]).link ≠ .speed ∧ (c.ports[p]).link ≠ .train ∧ (c.ports[p]).link ≠ .laneMap) (w : Fin 4) :
    (forEach l exitPort c).ports[w] = if w ∈ l then noted c.ports[w] else c.ports[w] := by
  induction l generalizing c with
  | nil => rfl
  | cons p t ih =>
    have hport (v : Fin 4) : (exitPort p c).ports[v] = if v = p then noted c.ports[v] else c.ports[v] := by
      rw [exitPort_settled (h p)]
      by_cases hv : v = p
      · subst hv
        rw [noteSent_self, if_pos rfl]
      · rw [noteSent_other hv, if_neg hv]
    refine (ih (exitPort p c) fun v => ?_).trans ?_
    · rw [hport]
      split <;> exact h v
    · rw [hport]
      by_cases hw : w = p
      · rw [if_pos hw, noted_noted, ite_self, if_pos (by simp [hw])]
      · simp only [hw, if_false, List.mem_cons, false_or]

/-! ## A nanosecond -/

/-- The logic once the transmitters have sent, before any port leaves its state. -/
def sent (c : Ctl) : Ctl := timeThrottle { c with now := c.now + 1, ports := c.ports.map sendPort }

theorem sent_timed (c : Ctl) : Timed { c with now := c.now + 1, ports := c.ports.map sendPort } (sent c) := timeThrottle_timed _

theorem sent_port (c : Ctl) (p : Fin 4) : (sent c).ports[p] = sendPort c.ports[p] := by
  rw [(sent_timed c).ports]
  simp

theorem sent_link (c : Ctl) (p : Fin 4) : ((sent c).ports[p]).link = (c.ports[p]).link := by
  rw [sent_port, sendPort_link]

theorem exitPort_lasting (p : Fin 4) (c : Ctl) : Lasting c (exitPort p c) := (noteSent_lasting p).trans (bringupExit_lasting p)

theorem tick_timed (c : Ctl) : Timed (forEach allPorts exitPort (sent c)) (tick c) :=
  .trans (.trans (.trans (.forEach timePort_timed _ _) (.forEach timeRegion_timed _ _)) (.forEach timeMover_timed _ _))
    (.forEach timeChan_timed _ _)

theorem Timed.now (h : Timed c d) : d.now = c.now := by rw [h]

theorem tick_now (c : Ctl) : (tick c).now = c.now + 1 := by
  rw [(tick_timed c).now, (forEach_lasting allPorts exitPort_lasting (sent c)).now, (sent_timed c).now]

/-- With no port in TRAIN a nanosecond changes the clock, the counters, the ports and the channels. -/
theorem tick_ticked (h : ∀ p : Fin 4, (c.ports[p]).link ≠ .train) : Ticked { c with now := c.now + 1 } (tick c) := by
  have hsent : Ticked { c with now := c.now + 1 } (sent c) := (Ticked.of_ports rfl).trans (sent_timed c).ticked
  have hexit := forEach_exitPort_ticked allPorts (List.nodup_finRange 4) (sent c) fun p _ => by rw [sent_link]; exact h p
  exact (hsent.trans hexit).trans (tick_timed c).ticked

/-- Outside bring-up a port's transmitter sends, and what it sent is counted. -/
theorem tick_port (h : ∀ p : Fin 4, (c.ports[p]).link ≠ .speed ∧ (c.ports[p]).link ≠ .train ∧ (c.ports[p]).link ≠ .laneMap) (p : Fin 4) :
    (tick c).ports[p] = noted (sendPort c.ports[p]) := by
  rw [(tick_timed c).ports, forEach_exitPort_settled allPorts (sent c) (fun w => by rw [sent_link]; exact h w), if_pos (show p ∈ allPorts from List.mem_finRange p),
    sent_port]

/-- Settles O2: what a nanosecond changes, in any case, with the rails off, and port by port. -/
theorem stepIdles : Obligations.StepIdles := by
  intro s hq
  refine ⟨idleStep s, step_nil hq, ?now, rfl, hq, fun h => ?frame, fun hoff => if_pos hoff, fun hon h p => ?port⟩
  case now =>
    show (if s.ctl.power.stage = .off then { s.ctl with now := s.ctl.now + 1 } else tick s.ctl).now = _
    split
    · rfl
    · exact tick_now s.ctl
  case frame =>
    have hticked : Ticked { s.ctl with now := s.ctl.now + 1 } (idleStep s).ctl := by
      show Ticked _ (if s.ctl.power.stage = .off then { s.ctl with now := s.ctl.now + 1 } else tick s.ctl)
      split
      · exact .refl _
      · exact tick_ticked h
    exact hticked
  case port =>
    have htick : (idleStep s).ctl = tick s.ctl := if_neg hon
    rw [htick]
    exact tick_port h p

end Sys2Proof.Machine
end

section
/-! PROOF. When a supplied page map is accepted, and INIT_BAD_HPN (R416): obligation O54. -/

namespace Sys2Proof.Machine

open Sys2Proof

variable {c : Ctl} {seen : List Nat} {pre l : List (Nat × PmEntry)} {x y : Nat × PmEntry} {i j : Nat}

/-! ## Ascending tables -/

/-- A table in canonical form ascends. -/
theorem sparseWfFrom_head_le {α : Type} [DecidableEq α] {d : Nat → α} {l : List (Nat × α)} {lo : Nat} (w : sparseWfFrom d lo l = true) :
    ∀ x ∈ l, lo ≤ x.1 := by
  induction l generalizing lo with
  | nil => exact fun _ h => absurd h List.not_mem_nil
  | cons a t ih =>
    simp only [sparseWfFrom, Bool.and_eq_true, decide_eq_true_eq] at w
    intro x hx
    obtain rfl | hx := List.mem_cons.mp hx
    · exact w.1.1
    · have := ih w.2 x hx
      omega

theorem sparseWfFrom_pairwise {α : Type} [DecidableEq α] {d : Nat → α} {l : List (Nat × α)} {lo : Nat} (w : sparseWfFrom d lo l = true) :
    l.Pairwise (fun a b => a.1 ≤ b.1) := by
  induction l generalizing lo with
  | nil => exact .nil
  | cons a t ih =>
    simp only [sparseWfFrom, Bool.and_eq_true, decide_eq_true_eq] at w
    exact .cons (fun b hb => Nat.le_of_succ_le (sparseWfFrom_head_le w.2 b hb)) (ih w.2)

/-- An entry at a later place of an ascending table is of no lower page. -/
theorem key_le_of_place_le (w : sparseWf (fun _ => unmappedEntry) l = true) (hij : i ≤ j) (hx : l[i]? = some x) (hy : l[j]? = some y) :
    x.1 ≤ y.1 := by
  obtain ⟨hi, rfl⟩ := List.getElem?_eq_some_iff.mp hx
  obtain ⟨hj, rfl⟩ := List.getElem?_eq_some_iff.mp hy
  obtain hlt | rfl := Nat.lt_or_eq_of_le hij
  · exact List.pairwise_iff_getElem.mp (sparseWfFrom_pairwise w) i j hi hj hlt
  · exact Nat.le_refl _

/-! ## One entry after those before it -/

/-- `seen` lists the pages of the NORMAL entries of a table. -/
def ListsPages (seen : List Nat) (pre : List (Nat × PmEntry)) : Prop :=
  ∀ p, p ∈ seen ↔ ∃ y ∈ pre, y.2.state = .normal ∧ y.2.ppn = p

theorem ListsPages.snoc (h : ListsPages seen pre) (x : Nat × PmEntry) :
    ListsPages (if x.2.state = .normal then x.2.ppn :: seen else seen) (pre ++ [x]) := by
  intro p
  have hadd : (∃ y ∈ pre ++ [x], y.2.state = .normal ∧ y.2.ppn = p) ↔ p ∈ seen ∨ x.2.state = .normal ∧ x.2.ppn = p := by
    rw [h p]
    simp [or_and_right, exists_or]
  rw [hadd]
  split
  next hx => simp [hx, or_comm, eq_comm]
  next hx => simp [hx]

/-- The entry at a place fails R416 by itself, or by a page that the entries before it list. -/
theorem imageEntryBad_at (h : ListsPages seen pre) (x : Nat × PmEntry) (t : List (Nat × PmEntry)) :
    imageEntryBad c (pre ++ x :: t) pre.length ↔ ¬ entryShapeOk c x.2 ∨ (x.2.state = .normal ∧ x.2.ppn ∈ seen) := by
  have hmem : x.2.ppn ∈ seen ↔ ∃ j y, j < pre.length ∧ (pre ++ x :: t)[j]? = some y ∧ y.2.state = .normal ∧ y.2.ppn = x.2.ppn := by
    rw [h]
    constructor
    · rintro ⟨y, hy, hs, hp⟩
      obtain ⟨j, hj, rfl⟩ := List.getElem_of_mem hy
      exact ⟨j, pre[j], hj, by rw [List.getElem?_append_left hj, List.getElem?_eq_getElem hj], hs, hp⟩
    · rintro ⟨j, y, hj, hy, hs, hp⟩
      rw [List.getElem?_append_left hj] at hy
      exact ⟨y, List.mem_of_getElem? hy, hs, hp⟩
  rw [hmem]
  simp [imageEntryBad]

/-- The model's test of an entry, which reads its shape and the pages seen. -/
theorem entryTest_iff (c : Ctl) (seen : List Nat) (e : PmEntry) :
    (!(!e.mirrored && (e.state = .unmapped || (e.state = .normal && e.ppn < 2097152 && !sliceIsOut c (ppnSlice e.ppn))))
      || (e.state = .normal && seen.contains e.ppn)) = true ↔ ¬ entryShapeOk c e ∨ (e.state = .normal ∧ e.ppn ∈ seen) := by
  have hlt : e.ppn < 2097152 ↔ e.ppn / 16384 < 128 := by omega
  unfold entryShapeOk ppnSlice
  cases e.state <;> cases e.mirrored <;> simp [hlt, imp_iff_not_or]

/-- The search stops at an entry that fails. -/
theorem firstBad_cons_bad (x : Nat × PmEntry) (t : List (Nat × PmEntry))
    (h : ¬ entryShapeOk c x.2 ∨ (x.2.state = .normal ∧ x.2.ppn ∈ seen)) : firstBad c seen (x :: t) = some x.1 := by
  rw [firstBad]
  exact if_pos ((entryTest_iff c seen x.2).mpr h)

/-- It goes on behind one that does not. -/
theorem firstBad_cons_good (x : Nat × PmEntry) (t : List (Nat × PmEntry))
    (h : ¬ (¬ entryShapeOk c x.2 ∨ (x.2.state = .normal ∧ x.2.ppn ∈ seen))) :
    firstBad c seen (x :: t) = firstBad c (if x.2.state = .normal then x.2.ppn :: seen else seen) t := by
  rw [firstBad]
  exact if_neg (mt (entryTest_iff c seen x.2).mp h)

/-! ## The search (R416) -/

/-- What the search behind some entries finds: the first place behind them whose entry fails. -/
theorem firstBad_spec (t : List (Nat × PmEntry)) (h : ListsPages seen pre) :
    (firstBad c seen t = none → ∀ i, pre.length ≤ i → ¬ imageEntryBad c (pre ++ t) i) ∧
    (∀ n, firstBad c seen t = some n → ∃ k x, (pre ++ t)[k]? = some x ∧ x.1 = n ∧ imageEntryBad c (pre ++ t) k ∧
      ∀ i, pre.length ≤ i → i < k → ¬ imageEntryBad c (pre ++ t) i) := by
  induction t generalizing seen pre with
  | nil =>
    refine ⟨fun _ i hi ⟨x, hx, _⟩ => ?_, fun n hn => absurd hn.symm (Option.some_ne_none n)⟩
    rw [List.append_nil, List.getElem?_eq_none hi] at hx
    exact absurd hx.symm (Option.some_ne_none x)
  | cons x t ih =>
    have hat := imageEntryBad_at (c := c) h x t
    by_cases hbad : ¬ entryShapeOk c x.2 ∨ (x.2.state = .normal ∧ x.2.ppn ∈ seen)
    · rw [firstBad_cons_bad x t hbad]
      refine ⟨fun hnone => absurd hnone (Option.some_ne_none _), fun n hn => ⟨pre.length, x, by simp, Option.some.inj hn, hat.mpr hbad, ?_⟩⟩
      exact fun i hi hlt => absurd (hi.trans_lt hlt) (Nat.lt_irrefl _)
    · rw [firstBad_cons_good x t hbad]
      have hrest := ih (h.snoc x)
      rw [List.append_assoc, List.singleton_append, List.length_append, List.length_singleton] at hrest
      have hskip (P : Nat → Prop) (hP : ∀ i, pre.length + 1 ≤ i → P i → ¬ imageEntryBad c (pre ++ x :: t) i) (i : Nat) (hi : pre.length ≤ i)
          (hPi : P i) : ¬ imageEntryBad c (pre ++ x :: t) i := by
        obtain rfl | hlt := Nat.eq_or_lt_of_le hi
        · exact mt hat.mp hbad
        · exact hP i hlt hPi
      refine ⟨fun hnone i hi => hskip (fun _ => True) (fun i hi _ => hrest.1 hnone i hi) i hi trivial, fun n hn => ?_⟩
      obtain ⟨k, y, hk, hy, hfails, hbefore⟩ := hrest.2 n hn
      exact ⟨k, y, hk, hy, hfails, fun i hi hlt => hskip (· < k) hbefore i hi hlt⟩

theorem firstBad_none_iff : firstBad c [] l = none ↔ ∀ i, ¬ imageEntryBad c l i := by
  have hspec := firstBad_spec (c := c) (pre := []) l (fun _ => by simp : ListsPages [] [])
  refine ⟨fun h i => hspec.1 h i (Nat.zero_le _), fun h => ?_⟩
  cases hfound : firstBad c [] l with
  | none => rfl
  | some n =>
    obtain ⟨k, _, _, _, hbad, _⟩ := hspec.2 n hfound
    exact absurd hbad (h k)

/-- The page found is the lowest whose entry fails. -/
theorem firstBad_lowest (w : sparseWf (fun _ => unmappedEntry) l = true) (hi : imageEntryBad c l i) :
    ∃ k x y, l[k]? = some x ∧ l[i]? = some y ∧ imageEntryBad c l k ∧ firstBad c [] l = some x.1 ∧ x.1 ≤ y.1 := by
  have hspec := firstBad_spec (c := c) (pre := []) l (fun _ => by simp : ListsPages [] [])
  cases hfound : firstBad c [] l with
  | none => exact absurd hi (hspec.1 hfound i (Nat.zero_le _))
  | some n =>
    obtain ⟨k, x, hk, rfl, hbad, hbefore⟩ := hspec.2 n hfound
    have hki : k ≤ i := Nat.le_of_not_lt fun hlt => hbefore i (Nat.zero_le _) hlt hi
    have hi' := hi
    obtain ⟨y, hy, _⟩ := hi'
    exact ⟨k, x, y, hk, hy, hbad, rfl, key_le_of_place_le w hki hk hy⟩

/-! ## Initialisation (R415, R416) -/

theorem initImage_rejected {n : Nat} (h : firstBad c [] c.pm.entries = some n) :
    (initImage c).pm.initResult = 2 ∧ (initImage c).pm.initBadHpn = n := by
  unfold initImage
  rw [h]
  exact ⟨rfl, rfl⟩

theorem initImage_accepted (h : firstBad c [] c.pm.entries = none) : (initImage c).pm.initResult = 1 := by
  unfold initImage
  rw [h]
  rfl

/-- Settles O54, by the search for the first entry that fails. -/
theorem imageAcceptance : Obligations.ImageAcceptance := by
  intro c w
  refine ⟨firstBad_none_iff, ⟨fun hresult => ?_, fun ⟨i, hi⟩ => ?_⟩, fun i hi => ?_⟩
  · by_contra hgood
    have hnone := firstBad_none_iff.mpr (not_exists.mp hgood)
    rw [initImage_accepted hnone] at hresult
    exact absurd hresult (by decide)
  · obtain ⟨_, x, _, _, _, _, hfound, _⟩ := firstBad_lowest w hi
    exact (initImage_rejected hfound).1
  · obtain ⟨k, x, y, hk, hy, hbad, hfound, hle⟩ := firstBad_lowest w hi
    exact ⟨k, x, y, hk, hy, hbad, (initImage_rejected hfound).2, hle⟩

end Sys2Proof.Machine
end

section
/-! PROOF. REG_READ and REG_WRITE, writes at the register bus, and SC_CLEAR (R304, R401, R431, R442, R447): obligation O45. -/

namespace Sys2Proof.Machine

open Sys2Proof

variable {c : Ctl} {s : State} {m : Mgmt}

/-! ## REG_READ (R401) -/

/-- A range of one to 252 registers inside the blocks is read and answered. -/
theorem regReadCmd_answers {addr n : Nat} (ref : CmdRef) (h1 : 1 ≤ n) (h2 : n ≤ 252) (hrange : regRangeOk addr n = true) :
    regReadCmd addr n ref c =
      replyTo ref 0 0 ((readRegs (srcOf ref.1) addr n c).1.flatMap fun v => toBytes 4 v.toNat) (readRegs (srcOf ref.1) addr n c).2 := by
  unfold regReadCmd
  rw [if_neg]
  simp only [hrange, Bool.not_true, Bool.or_false, Bool.or_eq_true, decide_eq_true_eq]
  omega

/-- A source that has latched nothing reads GLOBAL.ID as it is, and the read leaves no trace. -/
theorem readReg_id (src : RegSrc) (h : c.mgr.latches = []) : readReg src 0 c = (0xA1D128, c) := by
  have hat : regAt 0 = some (.global, 0) := by decide
  have hwide : wideAt .global 0 c = none := rfl
  unfold readReg
  rw [hat, h]
  dsimp only [List.find?_nil]
  unfold readLive
  rw [hwide]
  rfl

/-- The assemblies of a transport are apart from the latches. -/
theorem takenUp_latches (op : Nat) (m : Mgmt) (c : Ctl) : (takenUp op m c).mgr.latches = c.mgr.latches := by
  rw [takenUp_mgr]
  unfold setAsm
  cases m.via <;> rfl

/-! ## Writes (R304, R431, R442) -/

theorem regAt_shotClock2 : regAt 0xF0008 = some (.umpire, 0x008) := by decide

/-- UMPIRE.SHOT_CLOCK_2 takes a value within its range and keeps its own otherwise. -/
theorem writeReg_shotClock2 (src : RegSrc) (v : Nat) :
    (writeReg src 0xF0008 v c).umpire.shotClock2 = inRange 10 10000 (v % 2 ^ 14) c.umpire.shotClock2 := by
  unfold writeReg
  rw [regAt_shotClock2]
  rfl

/-- One register inside the blocks is written, and the command ends OK. -/
theorem regWriteCmd_one {addr : Nat} (v : BitVec 32) (ref : CmdRef) (h : regRangeOk addr 1 = true) :
    regWriteCmd addr [v] ref c = replyTo ref 0 0 [] (writeReg (srcOf ref.1) addr v.toNat c) := by
  unfold regWriteCmd
  rw [if_neg (by simp [h])]
  rfl

theorem regAt_rowCeLimit : ∀ ch : Fin 32, regAt (0x80010 + 0x1000 * ch.val) = some (.chan ch, 0x010) := by decide

/-- CH.ROW_CE_LIMIT takes a value of at least 2. -/
theorem writeReg_rowCeLimit (src : RegSrc) (ch : Fin 32) (v : Nat) : writeReg src (0x80010 + 0x1000 * ch.val) v c =
    modChan ch (fun x => { x with rowCeLimit := if 2 ≤ v % 256 then v % 256 else x.rowCeLimit }) c := by
  have hrange (old : Nat) : inRange 2 255 (bitsOf v 0 8) old = if 2 ≤ v % 256 then v % 256 else old := by
    have hle : v % 256 ≤ 255 := by omega
    by_cases h2 : 2 ≤ v % 256 <;> simp [inRange, bitsOf, hle, h2]
  unfold writeReg
  rw [regAt_rowCeLimit]
  simp only [writeChan, hrange]

/-! ## SC_CLEAR (R447) -/

/-- One counter of SC_CLEAR's range. -/
def clearCounter (i : Nat) (c : Ctl) : Ctl := if counterRo i then c else scoreSet i 0 c

/-- A counter that SC_CLEAR may zero: it exists and is not RO. -/
def clearable (i : Nat) : Bool := !counterRo i && (counterWidth i).isSome

theorem clearCounter_not_clearable {i : Nat} (h : clearable i = false) : clearCounter i c = c := by
  unfold clearable at h
  unfold clearCounter scoreSet
  split
  · rfl
  next hro =>
    have hnone : counterWidth i = none := by simpa [hro] using h
    rw [hnone]

theorem clearCounter_clearable {i : Nat} (h : clearable i = true) :
    clearCounter i c = { c with score := sparsePut (fun _ => 0) c.score i 0 } := by
  unfold clearable at h
  simp only [Bool.and_eq_true, Bool.not_eq_true', Option.isSome_iff_exists] at h
  obtain ⟨hro, w, hw⟩ := h
  unfold clearCounter scoreSet
  rw [if_neg (by simp [hro]), hw]
  simp

/-- The counters of a list: those that may be zeroed read zero, and every other one keeps its value. -/
theorem forEach_clearCounter (l : List Nat) (c : Ctl) (w : sparseWf (fun _ => 0) c.score = true) :
    forEach l clearCounter c = { c with score := (forEach l clearCounter c).score } ∧
    ∀ j, scoreGet (forEach l clearCounter c) j = if j ∈ l ∧ clearable j = true then 0 else scoreGet c j := by
  induction l generalizing c with
  | nil => exact ⟨rfl, fun j => by simp; rfl⟩
  | cons i t ih =>
    cases h : clearable i with
    | false =>
      obtain ⟨hframe, hget⟩ := ih (clearCounter i c) (by rwa [clearCounter_not_clearable h])
      rw [clearCounter_not_clearable h] at hframe hget
      have hcons : forEach (i :: t) clearCounter c = forEach t clearCounter c := by
        show forEach t clearCounter (clearCounter i c) = _
        rw [clearCounter_not_clearable h]
      rw [hcons]
      refine ⟨hframe, fun j => (hget j).trans ?_⟩
      have hj : (j ∈ i :: t ∧ clearable j = true) ↔ (j ∈ t ∧ clearable j = true) := by
        rw [List.mem_cons]
        constructor
        · rintro ⟨rfl | hjt, hcl⟩
          · rw [h] at hcl
            exact absurd hcl Bool.false_ne_true
          · exact ⟨hjt, hcl⟩
        · exact fun ⟨hjt, hcl⟩ => ⟨.inr hjt, hcl⟩
      simp only [hj]
    | true =>
      have w' : sparseWf (fun _ => 0) (clearCounter i c).score = true := by
        rw [clearCounter_clearable h]
        exact sparsePut_wfFrom w (Nat.zero_le i)
      obtain ⟨hframe, hget⟩ := ih (clearCounter i c) w'
      have hhead : ∀ j, scoreGet (clearCounter i c) j = if j = i then 0 else scoreGet c j := by
        intro j
        rw [clearCounter_clearable h]
        split
        next hj => rw [hj]; exact sparseGet_put_self w
        next hj => exact sparseGet_put_other w hj
      refine ⟨?_, fun j => (hget j).trans ?_⟩
      · have hscore (x : List (Nat × Nat)) : { clearCounter i c with score := x } = { c with score := x } := by
          rw [clearCounter_clearable h]
        exact hframe.trans (hscore _)
      · rw [hhead]
        by_cases hj : j = i
        · simp [hj, h]
        · simp [hj]

/-- SC_CLEAR's range, counter by counter. -/
theorem clearCounters_eq (first n : Nat) (h : n ≤ 127) :
    clearCounters first (Nat.min n 127) c = forEach ((List.range n).map (first + ·)) clearCounter c := by
  rw [show Nat.min n 127 = n from Nat.min_eq_left h]
  rfl

theorem mem_clearRange {first n i : Nat} : i ∈ (List.range n).map (first + ·) ↔ first ≤ i ∧ i < first + n := by
  simp only [List.mem_map, List.mem_range]
  constructor
  · rintro ⟨k, hk, rfl⟩
    omega
  · exact fun ⟨hlo, hhi⟩ => ⟨i - first, by omega, by omega⟩

/-- Settles O45, by the command: what the registers of the range read, the ranges of the two registers, and SC_CLEAR's counters one by
one. -/
theorem registerAccess : Obligations.RegisterAccess := by
  refine ⟨fun m addr n s hs h1 h2 hrange => ⟨_, rfl, ?_⟩, fun m s hs hl => ⟨_, rfl, ?_⟩,
    fun m v s hs => ⟨_, rfl, onlyLogic_ctl _ _, fun hlo hhi => ?_, fun hout => ?_⟩, fun ch v s hfw => ?_, fun first n s hn w => ?_⟩
  · simp only [command_served hs, regReadCmd_answers _ h1 h2 hrange]
    rfl
  · have hrange : regRangeOk 0x0 1 = true := by decide
    have hid : readRegs (srcOf (refOf 0x10 m).1) 0x0 1 (takenUp 0x10 m s.ctl) = ([BitVec.ofNat 32 0xA1D128], takenUp 0x10 m s.ctl) := by
      have hread := readReg_id (c := takenUp 0x10 m s.ctl) (srcOf (refOf 0x10 m).1) ((takenUp_latches _ _ _).trans hl)
      simp [readRegs, hread]
    simp only [command_served hs, regReadCmd_answers _ (Nat.le_refl 1) (by omega : 1 ≤ 252) hrange, hid]
    rfl
  · have hrange : regRangeOk 0xF0008 1 = true := by decide
    simp only [command_served hs, regWriteCmd_one v _ hrange, replyTo_umpire, writeReg_shotClock2, inRange, hlo, hhi]
    rfl
  · have hrange : regRangeOk 0xF0008 1 = true := by decide
    have hno : (decide (10 ≤ v.toNat % 2 ^ 14) && decide (v.toNat % 2 ^ 14 ≤ 10000)) = false := by
      rw [← Bool.not_eq_true, Bool.and_eq_true, decide_eq_true_eq, decide_eq_true_eq]
      omega
    simp only [command_served hs, regWriteCmd_one v _ hrange, replyTo_umpire, writeReg_shotClock2, inRange, hno, takenUp_umpire]
    rfl
  · have hbus : busWrite .firmware (0x80010 + 0x1000 * ch.val) v.toNat s.ctl = _ :=
      (if_pos (show reachesBus .firmware s.ctl = true from hfw)).trans (writeReg_rowCeLimit _ ch _)
    refine ⟨_, rfl, ?_, ?_⟩
    · simp only [hbus]
      exact onlyChan_modChan ch _ s
    · simp only [hbus]
      exact modChan_self ch _
  · obtain ⟨hframe, hget⟩ := forEach_clearCounter ((List.range n).map (first + ·)) s.ctl w
    refine ⟨_, rfl, ?_, onlyLogic_ctl _ _, fun i hlo hhi hro hw => ?_, fun i hi => ?_⟩
    · simp only [clearCounters_eq _ _ hn]
      exact hframe
    · simp only [clearCounters_eq _ _ hn, hget]
      exact if_pos ⟨mem_clearRange.mpr ⟨hlo, hhi⟩, by simp [clearable, hro, hw]⟩
    · simp only [clearCounters_eq _ _ hn, hget]
      refine if_neg fun ⟨hmem, hcl⟩ => ?_
      obtain ⟨hlo, hhi⟩ := mem_clearRange.mp hmem
      rcases hi with hi | hi | hro
      · omega
      · omega
      · simp [clearable, hro] at hcl

end Sys2Proof.Machine
end

section
/-! PROOF. Sensors, throttles and thermal shutdown (R334 to R343): obligation O44, and the layer that O43 uses too. -/

namespace Sys2Proof.Machine

open Sys2Proof

variable {c d e : Ctl} {t : Therm}

/-! ## Tables -/

theorem getD_set_self {α : Type} {n i : Nat} (v : Vector α n) (x a : α) (h : i < n) : (v.set! i x).toList.getD i a = x := by
  simp [List.getD_eq_getElem?_getD, h]

theorem getD_set_other {α : Type} {n i j : Nat} (v : Vector α n) (x a : α) (h : i ≠ j) : (v.set! i x).toList.getD j a = v.toList.getD j a := by
  simp [List.getD_eq_getElem?_getD, h]

/-! ## What an evaluation leaves: the configured levels and the power state -/

/-- The configured levels and the power state are as before. -/
structure Judged (c d : Ctl) : Prop where
  levels : d.therm.levels = c.therm.levels
  power : d.power = c.power

namespace Judged

theorem refl (c : Ctl) : Judged c c := ⟨rfl, rfl⟩

theorem trans (h : Judged c d) (k : Judged d e) : Judged c e := ⟨k.levels.trans h.levels, k.power.trans h.power⟩

theorem ite {p : Prop} [Decidable p] (hd : Judged c d) (he : Judged c e) : Judged c (if p then d else e) := by
  split
  · exact hd
  · exact he

theorem modTherm {f : Therm → Therm} (h : (f c.therm).levels = c.therm.levels) : Judged c (modTherm f c) := ⟨h, rfl⟩

theorem thermEvent (kind die sensor : Nat) (r : Option Int) : Judged c (thermEvent kind die sensor r c) :=
  ⟨by rw [Machine.thermEvent, raiseEvent_plain_therm (by decide)], raiseEvent_plain_power (by decide)⟩

theorem forEach {α : Type} (l : List α) {f : α → Ctl → Ctl} (h : ∀ a c, Judged c (f a c)) (c : Ctl) : Judged c (forEach l f c) := by
  induction l generalizing c with
  | nil => exact .refl c
  | cons a t ih => exact (h a c).trans (ih (f a c))

theorem modChan (ch : Fin 32) (f : Chan → Chan) : Judged c (modChan ch f c) := ⟨rfl, rfl⟩

theorem applyThrottle : Judged c (applyThrottle c) := ⟨rfl, rfl⟩

theorem throttleEval (x : Nat) (t level : Int) (clear : Bool) : Judged c (throttleEval x t level clear c) := by
  unfold Machine.throttleEval
  extract_lets old new d
  have hd : Judged c d := .modTherm rfl
  exact .ite hd ((hd.trans applyThrottle).trans (thermEvent _ _ _ _))

theorem hotEval (die : Nat) (x : Int) : Judged c (hotEval die x c) := by
  unfold Machine.hotEval
  exact .ite (.refl c) (.ite (.forEach _ (fun _ _ => .modChan _ _) c) (.ite (.forEach _ (fun _ _ => .modChan _ _) c) (.refl c)))

theorem warnEval (die : Nat) (x : Int) : Judged c (warnEval die x c) := by
  unfold Machine.warnEval
  exact .ite ((modTherm rfl).trans (thermEvent _ _ _ _)) (.ite ((modTherm rfl).trans (thermEvent _ _ _ _)) (.refl c))

theorem implausibleEval (l : Nat) (x : Option Int) (now : Bool) : Judged c (implausibleEval l x now c) := by
  unfold Machine.implausibleEval
  exact .ite ((modTherm rfl).trans (thermEvent _ _ _ _)) (.ite ((modTherm rfl).trans (thermEvent _ _ _ _)) (.refl c))

end Judged

theorem levelOf_congr {u : Therm} (h : u.levels = t.levels) (die k : Nat) : levelOf u die k = levelOf t die k := by
  unfold levelOf
  rw [h]

/-! ## Shutdown (R343) -/

theorem thermTrip_running {m : List Host.Cell} (hoff : c.power.stage ≠ .off) (hshut : c.power.stage ≠ .shutdown) :
    thermTrip m c = ([], shutDown c) := by
  simp [thermTrip, hoff, hshut]

/-- A shut-down stack: THERMTRIP_N low, the shutdown recorded, the links down, nothing in flight and firmware stopped. -/
structure Tripped (c : Ctl) : Prop where
  stage : c.power.stage = .shutdown
  recorded : c.therm.shutdown = true
  thermtripN : c.therm.thermtripN = false
  links : ∀ p : Fin 4, linkUp c.ports[p] = false
  trk : c.trk = []
  fwRunning : c.life.fwRunning = false

theorem linkUp_resetPort (p : Port) : linkUp (resetPort p) = false := rfl

theorem shutDown_tripped : Tripped (shutDown c) := by
  unfold shutDown
  extract_lets w off recent u plane
  exact ⟨by rw [bump_power], by rw [bump_therm], by rw [bump_therm], fun p => by rw [bump_ports]; simp [linkUp_resetPort],
    by rw [bump_trk]; rfl, by rw [bump_life]⟩

/-- A die at or above its shutdown level shuts a running stack down, whatever the throttle and the warning do. -/
theorem evalDie_hot {die : Nat} {x : Int} {m : List Host.Cell} (hlevel : levelOf c.therm die 2 ≤ x) (hoff : c.power.stage ≠ .off)
    (hshut : c.power.stage ≠ .shutdown) : (evalDie die x m c).1 = [] ∧ Tripped (evalDie die x m c).2 := by
  unfold evalDie
  extract_lets c1 c2 c3
  have h3 : Judged c c3 :=
    ((Judged.modTherm rfl).trans ((Judged.hotEval die x).trans (Judged.warnEval die x))).trans (Judged.throttleEval _ _ _ _)
  rw [levelOf_congr h3.levels, if_pos hlevel, thermTrip_running (by rwa [h3.power]) (by rwa [h3.power])]
  exact ⟨rfl, shutDown_tripped⟩

/-! ## Sensors and effective temperatures (R335 to R337) -/

theorem inSpan_some {x : Int} (h1 : -400 ≤ x) (h2 : x ≤ 1500) : inSpan (some x) = some x := if_pos ⟨h1, h2⟩

/-- The highest of two sensors is no lower than the second's reading. -/
theorem highest_second {i j : Nat} {x : Int} (h : sensorValue t j = some x) : ∃ o, highest t [i, j] = some o ∧ x ≤ o := by
  unfold highest
  cases hi : sensorValue t i with
  | none => exact ⟨x, by simp [hi, h], Int.le_refl x⟩
  | some y => exact ⟨max y x, by simp [hi, h], Int.le_max_right y x⟩

/-- A layer's effective temperature is no lower than its own reading. -/
theorem layerEffective_own {l : Nat} {o : Int} (h : t.own.toList.getD l none = some o) :
    ∃ y, (layerEffective t l).1 = some y ∧ o ≤ y := by
  unfold layerEffective
  rw [h]
  cases neighbours t l with
  | none => exact ⟨o, rfl, Int.le_refl o⟩
  | some n =>
    dsimp only
    split
    · exact ⟨_, rfl, Int.le_max_left _ _⟩
    · exact ⟨o, rfl, Int.le_refl o⟩

/-- A core layer whose own reading is at or above the core dies' shutdown level shuts the stack down. -/
theorem evalLayer_hot {l : Nat} {o : Int} {m : List Host.Cell} (hown : c.therm.own.toList.getD l none = some o)
    (hlevel : levelOf c.therm l 2 ≤ o) (hoff : c.power.stage ≠ .off) (hshut : c.power.stage ≠ .shutdown) :
    (evalLayer l m c).1 = [] ∧ Tripped (evalLayer l m c).2 := by
  obtain ⟨y, hy, hoy⟩ := layerEffective_own hown
  unfold evalLayer
  extract_lets r d
  have hd : Judged c d := Judged.implausibleEval l r.1 r.2
  rw [show r.1 = some y from hy]
  exact evalDie_hot (by rw [levelOf_congr hd.levels]; omega) (by rwa [hd.power]) (by rwa [hd.power])

/-- A core sensor's reading in its span is its valid reading. -/
theorem takeSensor_core {i : Nat} {x : Int} (h8 : 8 ≤ i) (h42 : i < 42) (h1 : -400 ≤ x) (h2 : x ≤ 1500) :
    sensorValue (takeSensor i (some x) c).therm i = some x ∧ Judged c (takeSensor i (some x) c) := by
  have htake : takeSensor i (some x) c = sensorGood i (modTherm (fun t => { t with sensors := t.sensors.set! i (some x) }) c) := by
    unfold takeSensor
    simp only [inSpan_some h1 h2]
    rw [if_neg (by simp), if_neg (by omega)]
  rw [htake]
  refine ⟨?_, rfl, rfl⟩
  simp [sensorValue, sensorGood, h42]

/-- Settles O44: the layer's own reading, its effective temperature and its shutdown level, one after another. -/
theorem thermalShutdown : Obligations.ThermalShutdown := by
  intro l i x s hl2 hl17 hi h1 h2 hlevel hoff hshut
  obtain ⟨hvalue, htaken⟩ := takeSensor_core (c := s.ctl) (i := i.val) (by omega) (by omega) h1 h2
  have hl : (i.val - 8) / 2 + 1 = l := by omega
  have hlate : (l = 1 : Prop) = False := by simp; omega
  obtain ⟨o, ho, hxo⟩ := highest_second (i := 8 + 2 * (l - 1)) (hi ▸ hvalue)
  have hown : (takeOwn l (takeSensor i.val (some x) s.ctl)).therm.own.toList.getD l none = some o := by
    simp only [takeOwn, modTherm_therm]
    rw [getD_set_self _ _ _ (by omega)]
    exact hi ▸ ho
  have hconv : hkConversion i.val { value := some x, vppLost := false } s.dram s.ctl =
      evalLayer l s.dram (takeOwn l (takeSensor i.val (some x) s.ctl)) := by
    unfold hkConversion convertTemp
    rw [if_neg hoff, if_pos (by omega)]
    dsimp only
    rw [if_neg (by omega), if_neg (by simp; omega), hl]
    simp only [hlate, decide_false, Bool.false_and, Bool.false_eq_true, if_false]
  have hjudged : Judged s.ctl (takeOwn l (takeSensor i.val (some x) s.ctl)) := htaken.trans (.modTherm rfl)
  have hlevel' : levelOf (takeOwn l (takeSensor i.val (some x) s.ctl)).therm l 2 ≤ o := by
    have heq : levelOf s.ctl.therm l 2 = 10 * (s.ctl.therm.levels.toList.getD 5 0 : Int) := by
      unfold levelOf
      rw [if_neg (by omega)]
    rw [levelOf_congr (t := s.ctl.therm) hjudged.levels, heq]
    omega
  have hpower := hjudged.power
  obtain ⟨hdram, ht⟩ := evalLayer_hot (m := s.dram) hown hlevel' (by rwa [hpower]) (by rwa [hpower])
  refine ⟨_, rfl, ?_⟩
  simp only [hconv]
  exact ⟨hdram, ht.stage, ht.recorded, ht.thermtripN, ht.links, ht.trk, ht.fwRunning, trivial⟩

end Sys2Proof.Machine
end

section
/-! PROOF. Conversions, the round's end and STACK_SELF_REFRESH (R334 to R349): obligation O43. -/

namespace Sys2Proof.Machine

open Sys2Proof

variable {c d : Ctl}

/-! ## Conversions (R335, R345) -/

theorem hkConversion_base {i : Nat} {x : Int} {m : List Host.Cell} (hi : i < 7) (h1 : -400 ≤ x) (h2 : x ≤ 1500) (hoff : c.power.stage ≠ .off) :
    hkConversion i { value := some x, vppLost := false } m c = (m, modTherm (fun t => { t with sensors := t.sensors.set! i (some x) }) c) := by
  unfold hkConversion convertTemp takeSensor
  simp only [inSpan_some h1 h2]
  rw [if_neg hoff, if_pos (by omega), if_neg (by omega), if_pos (by simp; omega), if_neg (by simp), if_pos (by omega)]

theorem hkConversion_monitor {i : Nat} {r : HkReading} {m : List Host.Cell} (hi : 42 ≤ i) (hoff : c.power.stage ≠ .off) :
    hkConversion i r m c = (m, takeMonitor (i - 42) r c) := by
  unfold hkConversion
  rw [if_neg hoff, if_neg (by omega)]

/-- Every monitor's range lies within the 12 bits of a reading. -/
theorem vRange_bounds (i : Nat) : 0 ≤ (vRange i).1 ∧ (vRange i).2 ≤ 4095 := by
  unfold vRange
  split <;> decide

theorem takeMonitor_inRange {i : Nat} {x : Int} (h1 : (vRange i).1 ≤ x) (h2 : x ≤ (vRange i).2) :
    takeMonitor i { value := some x, vppLost := false } c =
      modTherm (fun t => { t with vmon := t.vmon.set! i x.toNat, vOut := t.vOut.set! i 0 }) c := by
  have hin : decide (x < (vRange i).1 ∨ (vRange i).2 < x) = false := decide_eq_false (by omega)
  have hmin : Nat.min 4095 x.toNat = x.toNat := Nat.min_eq_right (by have := (vRange_bounds i).2; omega)
  simp only [takeMonitor, hin, hmin, Bool.and_false, Bool.or_false, Bool.false_eq_true, if_false]

theorem holdRail_afterReady (h : c.power.everReady = true) : holdRail c = c := by
  simp [holdRail, h]

theorem takeMonitor_vppLost {i : Nat} {x : Int} (hi : 5 ≤ i) (hignored : vIgnored c i = false) (hready : c.power.everReady = true) :
    takeMonitor i { value := some x, vppLost := true } c =
      modTherm (fun t => { t with vmon := t.vmon.set! i (Nat.min 4095 x.toNat), vOut := t.vOut.set! i (t.vOut.toList.getD i 0 + 1) }) c := by
  simp only [takeMonitor, hignored, hi, decide_true, Bool.not_false, Bool.and_true, Bool.true_or, if_true]
  exact holdRail_afterReady hready

/-! ## The round's end (R336, R340, R342) -/

/-- Of the housekeeping record only the throttles are new, and the power state is as before. -/
structure Throttled (c d : Ctl) : Prop where
  therm : d.therm = { c.therm with steps := d.therm.steps, prevIn := d.therm.prevIn, creditAllow := d.therm.creditAllow }
  power : d.power = c.power

theorem throttleEval_throttled (x : Nat) (t level : Int) (clear : Bool) : Throttled c (throttleEval x t level clear c) := by
  refine ⟨?_, (Judged.throttleEval x t level clear).power⟩
  unfold throttleEval
  extract_lets old new d
  split
  · rfl
  · rw [thermEvent, raiseEvent_plain_therm (by decide)]
    rfl

theorem throttleStep_zero (t prev level : Int) (clear : Bool) : throttleStep 0 t prev level clear = if level ≤ t then 1 else 0 :=
  if_pos rfl

/-- Below the limit a throttle at step 0 stays there, and nothing is sent. -/
theorem throttleEval_idle {x : Nat} {t level : Int} {clear : Bool} (hx : x < 19) (h0 : c.therm.steps.toList.getD x 0 = 0) (hlevel : t < level) :
    throttleEval x t level clear c = { c with therm := (throttleEval x t level clear c).therm } ∧
    (throttleEval x t level clear c).therm.steps.toList.getD x 0 = 0 := by
  unfold throttleEval
  simp only [h0, throttleStep_zero, if_neg (Int.not_le.mpr hlevel), if_true]
  exact ⟨rfl, getD_set_self _ _ _ hx⟩

/-- At the limit a throttle leaves step 0 for step 1. -/
theorem throttleEval_first {x : Nat} {t level : Int} {clear : Bool} (hx : x < 19) (h0 : c.therm.steps.toList.getD x 0 = 0) (hlevel : level ≤ t) :
    (throttleEval x t level clear c).therm.steps.toList.getD x 0 = 1 := by
  unfold throttleEval
  simp only [h0, throttleStep_zero, if_pos hlevel, Nat.one_ne_zero, if_false]
  rw [thermEvent, raiseEvent_plain_therm (by decide)]
  exact getD_set_self _ _ _ hx

/-- No monitor has been out of range for two rounds: no VOLTAGE_RANGE. -/
theorem voltageCheck_inRange (h : ∀ x ∈ c.therm.vOut.toList, x < 2) : voltageCheck c = c := by
  have hone : ∀ i, ¬ 2 ≤ c.therm.vOut.toList.getD i 0 := by
    intro i
    rw [List.getD_eq_getElem?_getD]
    cases hi : c.therm.vOut.toList[i]? with
    | none => simp
    | some y => exact Nat.not_le.mpr (h y (List.mem_of_getElem? hi))
  unfold voltageCheck
  split
  · exact forEach_inv (· = c) _ _ (fun i e he => by rw [he, if_neg (hone i)]) c rfl
  · rfl

/-- The record of a round: the layers' power and the stack's estimate, and the activity counts started anew. -/
def roundTaken (p : Vector Nat 17) (est : Nat) (c : Ctl) : Ctl :=
  modTherm (fun t => { t with
    power := p, powerEst := est, acts := Vector.replicate 18 0, xbarActs := 0, atomicActs := 0, moverActs := 0
    vGood := if t.vOut.toList.all (· = 0) then t.vGood + 1 else 0 }) c

/-- A round's end while the stack runs, and no monitor is out of range for long: the record, then the power throttle. -/
theorem hkRoundEnd_ready {xbar movers est : Nat} {p : Vector Nat 17} (hstage : c.power.stage = .ready) (hv : ∀ x ∈ c.therm.vOut.toList, x < 2)
    (hp : ∀ i : Fin 17, p[i] = layerPower (c.therm.acts.toList.getD (i.val + 1) 0))
    (hest : est = stackPower p.toList.sum (Config.basePower (c.therm.xbarActs + xbar) c.therm.atomicActs (c.therm.moverActs + movers)) (portPower c)) :
    hkRoundEnd xbar movers c =
      throttleEval 18 est c.therm.powerLimit (decide (10 * est ≤ 9 * c.therm.powerLimit)) (roundTaken p est c) := by
  have hofFn : (Vector.ofFn fun i : Fin 17 => layerPower (c.therm.acts.toList.getD (i.val + 1) 0)) = p := by
    ext i hi
    rw [Vector.getElem_ofFn]
    exact (hp ⟨i, hi⟩).symm
  unfold hkRoundEnd
  rw [if_neg (by simp [hstage])]
  extract_lets pw p' est' c1 limit c2 c3
  have hp' : p' = p := hofFn
  have hest' : est' = est := by
    rw [hest, ← hp']
    rfl
  have hc1 : c1 = roundTaken p est c := by
    rw [← hp', ← hest']
    rfl
  have h2 : Throttled c1 c2 := throttleEval_throttled _ _ _ _
  have h3 : c3 = c2 := voltageCheck_inRange (by rw [h2.therm, hc1]; exact hv)
  have hready : c3.power.stage = .ready := by rw [h3, h2.power, hc1]; exact hstage
  rw [if_neg (by simp [hready]), h3]
  have hlimit : limit = c.therm.powerLimit := by
    show c1.therm.powerLimit = _
    rw [hc1]
    rfl
  show throttleEval 18 est' limit (decide (10 * est' ≤ 9 * limit)) c1 = _
  rw [hc1, hest', hlimit]

/-! ## STACK_SELF_REFRESH (R347 to R349) -/

/-- Preempted tests are a matter of the maintenance record and the scorecard. -/
theorem preemptAll_frame (l : List Activity) (c : Ctl) : ∃ g n, preemptAll l c = { c with mgr := g, score := n } := by
  unfold preemptAll
  extract_lets c1 mark c2
  have hmark : ∀ x : Ctl, ∃ g, l.foldl mark x = { x with mgr := g } := by
    induction l with
    | nil => exact fun x => ⟨x.mgr, rfl⟩
    | cons a t ih =>
      intro x
      have hone : ∃ g, mark x a = { x with mgr := g } := by
        unfold mark
        split
        · exact ⟨_, rfl⟩
        · exact ⟨_, rfl⟩
      obtain ⟨g1, h1⟩ := hone
      obtain ⟨g, hg⟩ := ih (mark x a)
      exact ⟨g, hg.trans (by rw [h1])⟩
  obtain ⟨g, hg⟩ := hmark c1
  have hc1 : c1 = { c with score := c1.score } := bumpBy_frame _ _
  have hc2 : c2 = { c with mgr := g, score := c1.score } := hg.trans (by rw [hc1])
  rw [hc2]
  exact ⟨_, _, rfl⟩

theorem leaveSelfRefresh_selfRefresh : (leaveSelfRefresh c).power.selfRefresh = false := by
  unfold leaveSelfRefresh
  split
  · rfl
  next h => simpa using h

theorem leaveSelfRefresh_trk : (leaveSelfRefresh c).trk = c.trk := by
  unfold leaveSelfRefresh
  split <;> rfl

theorem leaveSelfRefresh_srRequest : (leaveSelfRefresh c).power.srRequest = c.power.srRequest := by
  unfold leaveSelfRefresh
  split <;> rfl

/-- What entering STACK_SELF_REFRESH sets and keeps. -/
theorem enterSelfRefresh_spec (h : selfRefreshOk c = true) :
    (enterSelfRefresh c).power = { c.power with selfRefresh := true, changeoversRun := false } ∧ (enterSelfRefresh c).beat.windowOpen = false ∧
    (∀ ch : Fin 32, ((enterSelfRefresh c).chans[ch]).windowRuns = false) ∧ (enterSelfRefresh c).trk = c.trk := by
  obtain ⟨g, n, hp⟩ := preemptAll_frame (holders c) c
  unfold enterSelfRefresh
  rw [if_pos h, hp]
  refine ⟨?_, ?_, fun ch => ?_, ?_⟩
  · rw [bump_power]
    rfl
  · rw [bump_beat]
    rfl
  · rw [bump_chans]
    simp
  · rw [bump_trk]
    rfl

/-- Settles O43, by the command and its case. -/
theorem housekeeping : Obligations.Housekeeping := by
  refine ⟨fun i x s hi h1 h2 hoff => ⟨_, rfl, ?_⟩, fun i x s hi h1 h2 hoff => ⟨_, rfl, ?_⟩, fun i x s hi hignored hready hoff => ⟨_, rfl, ?_⟩,
    fun xbar movers est p s hstage h0 hv hp hest => ?_, fun s h => ?_, fun s => ⟨_, rfl, rfl⟩, fun s => ?_⟩
  · simp only [hkConversion_base hi h1 h2 hoff]
    rfl
  · simp only [hkConversion_monitor hi hoff, takeMonitor_inRange h1 h2]
    rfl
  · simp only [hkConversion_monitor (by omega : 42 ≤ i.val) hoff, takeMonitor_vppLost (by omega) hignored hready]
    rfl
  · have hround := hkRoundEnd_ready hstage hv hp hest
    obtain ⟨htherm, -⟩ := throttleEval_throttled (c := roundTaken p est s.ctl) 18 est s.ctl.therm.powerLimit
      (decide (10 * est ≤ 9 * s.ctl.therm.powerLimit))
    rw [← hround] at htherm
    refine ⟨_, rfl, ?_, ?_, ?_, ?_, ?_, ?_, ?_, onlyLogic_ctl _ _, fun hlt => ?_, fun hle => ?_⟩
    iterate 7
      dsimp only
      rw [htherm]
      rfl
    · obtain ⟨hframe, hstep⟩ := throttleEval_idle (c := roundTaken p est s.ctl) (clear := decide (10 * est ≤ 9 * s.ctl.therm.powerLimit))
        (by omega : 18 < 19) h0 (Int.ofNat_lt.mpr hlt)
      rw [← hround] at hframe hstep
      exact ⟨hframe, hstep⟩
    · have hstep := throttleEval_first (c := roundTaken p est s.ctl) (clear := decide (10 * est ≤ 9 * s.ctl.therm.powerLimit))
        (by omega : 18 < 19) h0 (Int.ofNat_le.mpr hle)
      rw [← hround] at hstep
      exact hstep
  · obtain ⟨hpower, hbeat, hchans, htrk⟩ := enterSelfRefresh_spec h
    exact ⟨_, rfl, hpower, hbeat, hchans, htrk, onlyLogic_ctl _ _⟩
  · exact ⟨_, rfl, leaveSelfRefresh_srRequest, leaveSelfRefresh_selfRefresh, fun h => leaveSelfRefresh_awake h, leaveSelfRefresh_trk, onlyLogic_ctl _ _⟩

end Sys2Proof.Machine
end

section
/-! PROOF. Commands that answer with what the state holds (R399, R445, R469): obligation O11. -/

namespace Sys2Proof.Machine

open Sys2Proof

variable {c : Ctl}

/-- A SCORECARD_READ of the snapshot answers with its beat and its counters. -/
theorem scorecardRead_snapshot {first n : Nat} (ref : CmdRef) (h1 : 1 ≤ n) (h2 : n ≤ 125) :
    scorecardRead first n true ref c =
      replyTo ref 0 0 (toBytes 8 c.beat.snapshotBeat.toNat ++
        (List.range n).flatMap fun i => toBytes 8 (sparseGet (fun _ => 0) c.snapshot (first + i))) c := by
  unfold scorecardRead
  rw [if_neg (by simp; omega)]
  rfl

/-- A FAULT_LOG_READ from the oldest entry answers with the log's first entries. -/
theorem faultLogRead_oldest {n : Nat} (ref : CmdRef) (h1 : 1 ≤ n) (h2 : n ≤ 31) :
    faultLogRead 0 n false ref c =
      replyTo ref 0 0 (toBytes 2 (c.umpire.log.take n).length ++ toBytes 14 c.umpire.nextSeq ++
        (c.umpire.log.take n).flatMap fun e => toBytes 32 (entryBits e)) c := by
  unfold faultLogRead
  rw [if_neg (by simp; omega)]
  rfl

/-- Settles O11, by the command: each that is served is its reply on the logic after its arrival. -/
theorem statusAnswers : Obligations.StatusAnswers := by
  refine ⟨fun m s hs => ⟨_, rfl, ?_⟩, fun m s hs => ⟨_, rfl, ?_⟩, fun m first n s hs h1 h2 => ⟨_, rfl, ?_⟩, fun m n s hs h1 h2 => ⟨_, rfl, ?_⟩⟩
  · simp only [command_served hs, answers]
  · simp only [command_served hs, answers]
  · simp only [command_served hs, answers, scorecardRead_snapshot _ h1 h2, takenUp_beat, takenUp_snapshot]
  · simp only [command_served hs, answers, faultLogRead_oldest _ h1 h2, takenUp_umpire]

end Sys2Proof.Machine
end

section
/-! SUPPORT. A privileged command whose envelope passes (R362 to R365, R392). -/

namespace Sys2Proof.Machine

open Sys2Proof

variable {c : Ctl}

/-- The logic once a signed envelope has passed: a fresh NONCE, and the count of failures in a row at zero. -/
def signedIn (c : Ctl) : Ctl := modLife (fun l => { l with authRun := 0 }) (newNonce c)

theorem newNonce_ports : (newNonce c).ports = c.ports := by
  unfold newNonce
  split <;> rfl

theorem newNonce_mgr : (newNonce c).mgr = c.mgr := by
  unfold newNonce
  split <;> rfl

/-- A fresh NONCE is drawn unless the stack is in class 5. -/
theorem newNonce_life (c : Ctl) : ∃ n g, (newNonce c).life = { c.life with nonce := n, drbg := g } := by
  unfold newNonce
  split
  · exact ⟨_, _, rfl⟩
  · exact ⟨_, _, rfl⟩

theorem signedIn_ports : (signedIn c).ports = c.ports := newNonce_ports
theorem signedIn_mgr : (signedIn c).mgr = c.mgr := newNonce_mgr

theorem signedIn_life (c : Ctl) : ∃ n g, (signedIn c).life = { c.life with nonce := n, drbg := g, authRun := 0 } := by
  obtain ⟨n, g, h⟩ := newNonce_life c
  refine ⟨n, g, ?_⟩
  unfold signedIn
  rw [modLife_life, h]

theorem envelopeOk_congr {d : Ctl} (h : d.life = c.life) (owner : Bool) (e : Envelope) : envelopeOk owner e d = envelopeOk owner e c := by
  unfold envelopeOk
  rw [h]

/-- An envelope that passes names an assigned signer. -/
theorem signer_of_envelopeOk {owner : Bool} {e : Envelope} (h : envelopeOk owner e c = true) : e.signer = 1 ∨ e.signer = 2 := by
  cases owner
  · exact .inr (by simp [envelopeOk] at h; tauto)
  · exact .inl (by simp [envelopeOk] at h; tauto)

/-- A signature that is needed and passes: the command runs its body. -/
theorem authorise_signed {owner : Bool} {m : Mgmt} {e : Envelope} (ref : CmdRef) (body : CmdRef → Ctl → Ctl) (henv : m.env = some e)
    (hneeded : (owner && (liveOwner c.life).isNone) = false) (hlock : c.life.lockout = false) (hok : envelopeOk owner e c = true) :
    authorise owner m ref body c = body ref (signedIn c) := by
  have hsigner : (decide (e.signer ≠ 1) && decide (e.signer ≠ 2)) = false := by
    rcases signer_of_envelopeOk hok with h | h <;> simp [h]
  unfold authorise
  simp only [hneeded, henv, hlock, hok, hsigner, Bool.false_and, Bool.not_true, Bool.false_eq_true, if_false]
  rfl

/-- A command that only the live owner may sign, served and signed by it. -/
theorem ownerCommand_signed {op : Nat} {m : Mgmt} {e : Envelope} {s : State} (body : CmdRef → Ctl → Ctl) (hs : served op m s)
    (henv : m.env = some e) (howner : (liveOwner s.ctl.life).isSome = true) (hlock : s.ctl.life.lockout = false)
    (hok : envelopeOk true e s.ctl = true) :
    ownerCommand op m body s.ctl = body (refOf op m) (signedIn (takenUp op m s.ctl)) := by
  have hlife : (takenUp op m s.ctl).life = s.ctl.life := takenUp_life op m
  unfold ownerCommand
  rw [command_served hs]
  refine authorise_signed _ body henv ?_ (by rw [hlife, hlock]) ((envelopeOk_congr hlife true e).trans hok)
  rw [hlife, Option.isNone_eq_false_iff.mpr howner, Bool.and_false]

end Sys2Proof.Machine
end

section
/-! PROOF. The runtime check, the lockout's end, DOMAIN_SET and firmware staging (R362, R365, R368, R370, R403): obligation O10. -/

namespace Sys2Proof.Machine

open Sys2Proof

variable {c : Ctl}

/-! ## DOMAIN_SET (R362) -/

/-- Every port of a list is written, by its number; the others are as they were. -/
theorem forEach_modPort {l : List (Fin 4)} (g : Fin 4 → Port → Port) (h : l.Nodup) (q : Fin 4) (c : Ctl) :
    (forEach l (fun p c => modPort p (g p) c) c).ports[q] = if q ∈ l then g q c.ports[q] else c.ports[q] := by
  induction l generalizing c with
  | nil => simp [forEach]
  | cons p t ih =>
    obtain ⟨hp, ht⟩ := List.nodup_cons.mp h
    refine (ih ht (modPort p (g p) c)).trans ?_
    by_cases hq : q = p
    · subst hq
      rw [if_neg hp, if_pos (List.mem_cons_self ..), modPort_self]
    · rw [modPort_other p q _ hq]
      simp [hq]

theorem forEach_allPorts_modPort (g : Fin 4 → Port → Port) (q : Fin 4) (c : Ctl) :
    (forEach allPorts (fun p c => modPort p (g p) c) c).ports[q] = g q c.ports[q] :=
  (forEach_modPort g (List.nodup_finRange 4) q c).trans (if_pos (List.mem_finRange q))

/-- The port's mask as DOMAIN_SET leaves it. -/
def maskSet (valid : BitVec 4) (masks : List (BitVec 64)) (p : Fin 4) (x : Port) : Port :=
  if valid.getLsbD p.val then { x with domainMask := masks.getD p.val 0 } else x

/-- DOMAIN_SET's loop over the ports writes each one's mask. -/
theorem forEach_domainMask (valid : BitVec 4) (masks : List (BitVec 64)) (c : Ctl) :
    forEach allPorts (fun p c => if valid.getLsbD p.val then modPort p (fun q => { q with domainMask := masks.getD p.val 0 }) c else c) c =
      forEach allPorts (fun p c => modPort p (maskSet valid masks p) c) c := by
  congr 1
  funext p x
  unfold maskSet
  split
  · rfl
  · simp [modPort]

theorem domainSet_owner (valid : BitVec 4) (owner : Fin 4) (masks : List (BitVec 64)) (ref : CmdRef) :
    (domainSet valid true owner.val masks ref c).life.ownerPort = some owner ∧
    ∀ p : Fin 4, ((domainSet valid true owner.val masks ref c).ports[p]).domainMask =
      if valid.getLsbD p.val then masks.getD p.val 0 else (c.ports[p]).domainMask := by
  have hassigned : ¬ (true && (decide (7 < owner.val) || decide (3 < owner.val) && decide (owner.val < 7))) = true := by
    have := owner.isLt
    simp
    omega
  unfold domainSet
  rw [if_neg hassigned]
  extract_lets d e
  refine ⟨?_, fun p => ?_⟩
  · rw [replyStatus_eq, replyTo_life]
    simp [e]
  · have hd : d.ports[p] = maskSet valid masks p c.ports[p] := by
      show (forEach allPorts _ c).ports[p] = _
      rw [forEach_domainMask, forEach_allPorts_modPort]
    have hsent : SentFrom e.ports[p] (replyStatus ref 0 e).ports[p] := replyTo_self _ _ _ _ _
    have he : e.ports[p] = d.ports[p] := by simp [e]
    rw [hsent]
    show (e.ports[p]).domainMask = _
    rw [he, hd]
    unfold maskSet
    split <;> rfl

/-- A packet that leaves a receive buffer leaves the port's mask. -/
theorem takeFirst_domainMask (vc : Fin 3) (want : Slot → List Slot → Bool) (x : Port) : (takeFirst vc want x).domainMask = x.domainMask := by
  unfold takeFirst
  extract_lets isVc
  split
  · rfl
  · split
    · split
      · rfl
      · rfl
    · rfl

theorem arrive_domainMask (pkt : Nat) (via : Via) (tag : Nat) (cmd : Slot → Bool) (p : Fin 4) :
    ((arrive pkt via tag cmd c).ports[p]).domainMask = (c.ports[p]).domainMask := by
  cases via with
  | i3c => rfl
  | port w =>
    by_cases h : p = w
    · subst h
      exact (congrArg Port.domainMask (modPort_self p _)).trans (takeFirst_domainMask _ _ _)
    · exact congrArg Port.domainMask (modPort_other w p _ h)

theorem takenUp_domainMask (op : Nat) (m : Mgmt) (p : Fin 4) :
    ((takenUp op m c).ports[p]).domainMask = (c.ports[p]).domainMask := by
  refine Eq.trans ?_ (arrive_domainMask 0x40 m.via m.tag (isCommand op m) p)
  unfold takenUp setAsm
  rw [modMgr_ports]
  split
  · rfl
  · simp only [countCmd_ports]

/-! ## Firmware staging (R368, R403) -/

theorem sameTransport_self (v : Via) : sameTransport v v = true := by cases v <;> rfl

theorem stagingHeld_own {v : Via} {g : Staging} (h : g.claim = some v) : stagingHeld v g = false := by
  simp [stagingHeld, h, sameTransport_self]

theorem stagingHeld_free {v : Via} {g : Staging} (h : g.claim = none) : stagingHeld v g = false := by
  simp [stagingHeld, h]

theorem replyTo_staging (ref : CmdRef) (st op : Nat) (l : List Byte) : (replyTo ref st op l c).mgr.staging = c.mgr.staging := by
  rw [replyTo_frame]

theorem takenUp_staging (op : Nat) (m : Mgmt) (c : Ctl) : (takenUp op m c).mgr.staging = c.mgr.staging := by
  rw [takenUp_mgr]
  unfold setAsm
  cases m.via <;> rfl

theorem fwLoadBegin_staging {len : Nat} {ref : CmdRef} (h1 : 2049 ≤ len) (h2 : len ≤ 786432) (hfree : stagingHeld ref.1 c.mgr.staging = false) :
    (fwLoadBegin len ref c).mgr.staging = { claim := some ref.1, len := len, bytes := [], verified := none } := by
  unfold fwLoadBegin
  rw [if_neg (by simp; omega), if_neg (by simp [hfree]), replyStatus_eq, replyTo_staging]
  rfl

theorem fwLoadChunk_staging {data : List Byte} {ref : CmdRef} (hclaim : c.mgr.staging.claim = some ref.1) (h1 : 1 ≤ data.length)
    (h2 : data.length ≤ 1000) (hroom : c.mgr.staging.bytes.length + data.length ≤ c.mgr.staging.len) :
    (fwLoadChunk c.mgr.staging.bytes.length data ref c).mgr.staging =
      { c.mgr.staging with bytes := c.mgr.staging.bytes ++ data } := by
  have hne : data ≠ [] := List.length_pos_iff.mp h1
  unfold fwLoadChunk
  extract_lets g len
  rw [if_neg (by simp [g, stagingHeld_own hclaim]), if_neg (by simp [g, len, hclaim, hroom, hne, h2]), replyStatus_eq, replyTo_staging]
  rfl

theorem fwLoadEnd_staging {i : Image} {ref : CmdRef} (hbegun : c.mgr.staging.len ≠ 0)
    (hwhole : c.mgr.staging.bytes.length = c.mgr.staging.len) (hok : imageOk { bytes := c.mgr.staging.bytes, found := i } c.life = true) :
    (fwLoadEnd i ref c).mgr.staging =
      { c.mgr.staging with claim := none, verified := some { bytes := c.mgr.staging.bytes, found := i } } := by
  unfold fwLoadEnd
  extract_lets g f
  rw [if_neg (by simp [g, hbegun, hwhole]), if_pos hok, replyTo_staging]
  rfl

/-- Settles O10, by the command. -/
theorem firmwareAndDomains : Obligations.FirmwareAndDomains := by
  refine ⟨fun s hfw => ⟨_, rfl, ?_⟩, fun s => ⟨_, rfl, rfl, fun h => if_pos h, onlyLogic_ctl _ _⟩,
    fun m e valid owner masks s hs henv howner hlock hok => ⟨_, rfl, ?_⟩, fun m len s hs h1 h2 hclaim => ⟨_, rfl, ?_, onlyLogic_ctl _ _⟩,
    fun m data s hs hclaim h1 h2 hroom => ⟨_, rfl, ?_⟩, fun m i s hs hbegun hwhole hok => ⟨_, rfl, ?_⟩⟩
  · have hcheck : fwRecheck true s.ctl = bump 26 s.ctl := by
      simp [fwRecheck, hfw, gIdx]
    simp only [hcheck]
    exact ⟨scoreGet_bump_self (w := 32) (by decide) (by omega), bump_life 26, onlyLogic_ctl _ _⟩
  · obtain ⟨hport, hmask⟩ := domainSet_owner (c := signedIn (takenUp 0x40 m s.ctl)) valid owner masks (refOf 0x40 m)
    simp only [ownerCommand_signed _ hs henv howner hlock hok]
    refine ⟨hport, fun p => (hmask p).trans ?_⟩
    simp only [signedIn_ports, takenUp_domainMask]
  · simp only [command_served hs]
    exact fwLoadBegin_staging h1 h2 (stagingHeld_free (by rw [takenUp_staging, hclaim]))
  · have hst := takenUp_staging 0x81 m s.ctl
    have hchunk := fwLoadChunk_staging (c := takenUp 0x81 m s.ctl) (data := data) (ref := refOf 0x81 m) (by rw [hst]; exact hclaim) h1 h2
      (by rw [hst]; exact hroom)
    rw [hst] at hchunk
    simp only [command_served hs, hchunk]
    exact ⟨trivial, hclaim, onlyLogic_ctl _ _⟩
  · have hst := takenUp_staging 0x82 m s.ctl
    have hend := fwLoadEnd_staging (c := takenUp 0x82 m s.ctl) (i := i) (ref := refOf 0x82 m) (by rw [hst]; exact hbegun)
      (by rw [hst]; exact hwhole) (by rw [hst, takenUp_life]; exact hok)
    rw [hst] at hend
    simp only [command_served hs, hend]
    exact ⟨trivial, trivial, onlyLogic_ctl _ _⟩

end Sys2Proof.Machine
end

section
/-! PROOF. Life-cycle transitions, owner keys, ZEROIZE and the end of an erase (R353 to R380): obligation O9. -/

namespace Sys2Proof.Machine

open Sys2Proof

variable {c : Ctl} {s : State} {m : Mgmt} {e : Envelope}

/-! ## Operations (R395) -/

theorem endOperation_life (id st : Nat) : (endOperation id st c).life = c.life := rfl
theorem endOperation_chans (id st : Nat) : (endOperation id st c).chans = c.chans := rfl

theorem replyInProgress_fst (ref : CmdRef) : (replyInProgress ref c).1 = c.mgr.nextOp := rfl
theorem replyInProgress_life (ref : CmdRef) : (replyInProgress ref c).2.life = c.life := replyTo_life _ _ _ _

theorem takenUp_nextOp (op : Nat) (m : Mgmt) (c : Ctl) : (takenUp op m c).mgr.nextOp = c.mgr.nextOp := by
  rw [takenUp_mgr]
  unfold setAsm
  cases m.via <;> rfl

/-! ## LIFECYCLE_TRANSITION to MANUFACTURE (R353, R354) -/

/-- A transition whose work ends at once: the connections are cleared (R373), and the work is done. -/
theorem shortTransition_life (ref : CmdRef) (payload : List Byte) (f : Life → Life) :
    (shortTransition ref payload f c).life = f { c.life with spdmInband := {}, spdmI3c := {} } := by
  unfold shortTransition acceptTransition
  rw [endOperation_life]
  simp only [modLife_life, replyTo_life]
  rfl

theorem thermoValue_zero : thermoValue 0 = 0 := by decide

theorem lcState_blank {l : Life} (hscrap : scrapped l = false) (hblank : l.thermA = 0) : lcState l = 0 := by
  unfold lcState
  rw [hblank, thermoValue_zero, hscrap]
  rfl

theorem transitionBody_manufacture {h : BitVec 384} {cs : Bool} {x : Chain} {nonce : BitVec 256} (ref : CmdRef) (hblank : lcState c.life = 0)
    (hfree : c.life.transition = none) (hzero : c.life.zeroizing = false) :
    transitionBody 1 0 h cs x nonce ref c = shortTransition ref [] blowThermometer c := by
  have hallowed : transitionAllowed 0 1 = true := by decide
  unfold transitionBody
  rw [hblank, hallowed, hfree, hzero]
  rfl

/-- A blank stack's served and signed transition to MANUFACTURE: of the life cycle the NONCE, the connections and a thermometer bit change. -/
theorem lifecycleCmd_manufacture {h : BitVec 384} {cs : Bool} {x : Chain} (hs : served 0x90 m s) (henv : m.env = some e)
    (hscrap : scrapped s.ctl.life = false) (hblank : s.ctl.life.thermA = 0) (hlock : s.ctl.life.lockout = false)
    (hok : envelopeOk false e s.ctl = true) (hfree : s.ctl.life.transition = none) (hzero : s.ctl.life.zeroizing = false) :
    ∃ n g, (lifecycleCmd m 1 0 h cs x s.ctl).life =
      blowThermometer { s.ctl.life with nonce := n, drbg := g, authRun := 0, spdmInband := {}, spdmI3c := {} } := by
  have hlife : (takenUp 0x90 m s.ctl).life = s.ctl.life := takenUp_life _ m
  have hlc : lcState s.ctl.life = 0 := lcState_blank hscrap hblank
  have howner : ownerSigns (takenUp 0x90 m s.ctl).life = false := by
    rw [hlife]
    simp [ownerSigns, hlc]
  obtain ⟨n, g, hin⟩ := signedIn_life (takenUp 0x90 m s.ctl)
  rw [hlife] at hin
  refine ⟨n, g, ?_⟩
  unfold lifecycleCmd
  rw [command_served hs, howner, authorise_signed _ _ henv rfl (by rw [hlife, hlock]) ((envelopeOk_congr hlife false e).trans hok),
    transitionBody_manufacture _ (by rw [hin]; exact hlc) (by rw [hin]; exact hfree) (by rw [hin]; exact hzero), shortTransition_life, hin]

/-! ## OWNER_KEY_SET (R361) -/

theorem ownerKeySet_life {h : BitVec 384} {cs : Bool} (ref : CmdRef) (hfield : lcState c.life = 2) (hroom : c.life.owners.length < 4) :
    (ownerKeySet h cs ref c).life.owners =
      c.life.owners.map (fun o => { o with killed := true }) ++ [{ digest := h, countersign := cs, killed := false }] := by
  unfold ownerKeySet
  rw [if_neg (by simp [hfield]), if_neg (by simp [ownerSlotsLeft, hfield]; omega)]
  rw [replyStatus_eq, replyTo_life]
  rfl

/-! ## ZEROIZE (R380) -/

theorem leaveSelfRefresh_life : (leaveSelfRefresh c).life = c.life := by
  unfold leaveSelfRefresh
  split <;> rfl

theorem endSeq_life (r : Fin 4) (q : LSeq) (st : Nat) : (endSeq r q st c).life = c.life := by
  have count (x : Ctl) : (if q.state = .committing then x else bump (rIdx r 17) x).life = x.life := by
    split
    · rfl
    · exact bump_life _
  unfold endSeq
  extract_lets c1 stages c2 c3
  have h3 : c3.life = c2.life :=
    forEach_keeps Ctl.life stages (fun t c => endTrk t.trk st (dropHolds t.id c)) (fun _ _ => endTrk_life _ _) c2
  exact (forEach_keeps Ctl.life q.waiting _ (fun _ _ => endTrk_life _ _) c3).trans (h3.trans (count c))

/-- Locked sequences that end leave the life cycle. -/
theorem forEach_endSeq_life (regions : List (Fin 4)) (seqs : Fin 4 → Ctl → List LSeq) :
    (forEach regions (fun g x => forEach (seqs g x) (fun q y => endSeq g q 6 y) x) c).life = c.life :=
  forEach_keeps Ctl.life regions _ (fun g x => forEach_keeps Ctl.life (seqs g x) _ (fun q _ => endSeq_life g q 6) x) c

/-- An accepted ZEROIZE: its mark and its operation; no request that was ready waits. -/
theorem zeroizeBody_accepted (ref : CmdRef) (hzero : c.life.zeroizing = false) (hfree : c.life.transition = none) :
    (zeroizeBody ref c).life = { c.life with zeroizing := true, zeroizeOp := c.mgr.nextOp } ∧ ∀ r : Fin 4, ((zeroizeBody ref c).regions[r]).ready = [] := by
  have hop : (replyInProgress ref (leaveSelfRefresh c)).1 = c.mgr.nextOp := congrArg Mgr.nextOp leaveSelfRefresh_mgr
  have hlife : (replyInProgress ref (leaveSelfRefresh c)).2.life = c.life := (replyInProgress_life ref).trans leaveSelfRefresh_life
  unfold zeroizeBody
  rw [if_neg (by simp [hzero, hfree])]
  generalize replyInProgress ref (leaveSelfRefresh c) = r at hop hlife
  obtain ⟨op, d⟩ := r
  dsimp only at hop hlife ⊢
  subst hop
  refine ⟨?_, fun q => ?_⟩
  · rw [forEach_endSeq_life allRegions (fun g c => c.regions[g].coord.seqs.filter fun q => q.state ≠ .committing), modLife_life, hlife]
  · simp

/-! ## What the sequencer clears (R375, R380) -/

/-- A key that no entry of a table's rest holds reads as the default. -/
theorem sparseGet_filter_gone {α : Type} {d : Nat → α} (l : List (Nat × α)) {p : Nat × α → Bool} {k : Nat} (h : ∀ v, p (k, v) = false) :
    sparseGet d (l.filter p) k = d k := by
  induction l with
  | nil => rfl
  | cons x t ih =>
    obtain ⟨j, v⟩ := x
    by_cases hj : k = j
    · subst hj
      rw [List.filter_cons_of_neg (by simp [h v])]
      exact ih
    · by_cases hp : p (j, v) = true
      · rw [List.filter_cons_of_pos hp, sparseGet, if_neg hj]
        exact ih
      · rw [List.filter_cons_of_neg hp]
        exact ih

/-- A byte of a cleared page reads zero. -/
theorem readByte_dramClear {mem : List Host.Cell} {hit : Nat → Bool} {a : Nat} (h : hit (a / 81920) = true) :
    readByte (dramClear mem hit) a = 0 :=
  sparseGet_filter_gone mem fun _ => by simp [h]

/-- A slice on a layer that is on, and not failed, is written. -/
theorem unwritten_sound {i : Nat} (hon : layerOn c i = true) (hsound : (c.chans[sliceChan i]).sliceFailed.getLsbD (sliceRank i) = false) :
    (unwritten c []).contains i = false := by
  rw [List.contains_eq_mem, decide_eq_false_iff_not]
  unfold unwritten
  rw [List.mem_filter]
  rintro ⟨-, h⟩
  rw [hon, hsound] at h
  exact absurd h (by simp)

/-- The end of a ZEROIZE whose plane has run out of work. -/
theorem zeroizeComplete_idle {mem : List Host.Cell} (hzero : c.life.zeroizing = true) (hidle : planeIdle c = true) :
    (zeroizeComplete mem c).1 = dramClear mem (fun ppn => !(unwritten c []).contains (ppnSlice ppn)) ∧
    (zeroizeComplete mem c).2.life.zeroizing = false ∧
    ∀ ch : Fin 32, ((zeroizeComplete mem c).2.chans[ch]).wbuf = [] ∧ ((zeroizeComplete mem c).2.chans[ch]).au = [] := by
  unfold zeroizeComplete
  rw [if_pos (by simp [hzero, hidle])]
  extract_lets bad chan c1 c2
  refine ⟨rfl, rfl, fun ch => ?_⟩
  rw [modLife_chans, endOperation_chans]
  simp [c2, c1, chan]

/-! ## The end of a SERVICE entry's erase (R375, R376) -/

/-- The life cycle once the erase of a SERVICE entry has ended. -/
def serviceEntered (granules : Nat) (class5 : Bool) (l : Life) : Life :=
  { blowThermometer { l with eraseGranules := granules } with
    eraseLatch := latchOk (blowThermometer l) && !class5, transition := none, transitionOp := 0 }

theorem eraseComplete_service {mem : List Host.Cell} {failed : List Nat} (hservice : c.life.transition = some 3)
    (hstage : c.power.stage = .ready) (hscrap : scrapped c.life = false) :
    (eraseComplete failed mem c).1 = [] ∧ ∃ n, (eraseComplete failed mem c).2.life = serviceEntered n c.umpire.class5 c.life := by
  unfold eraseComplete
  extract_lets bad off c1 c2 c3 c4 running c5 c6
  have h3 : c3 = modLife blowThermometer c2 := by
    unfold c3
    rw [show c2.life.transition = some 3 from hservice]
    rfl
  have hrunning : running := by
    have h4 : c4.power.stage = .ready := by
      simp only [c4, h3, c2, c1, modLife_power, modPower_power]
      exact hstage
    show c4.power.stage ≠ .erasing
    rw [h4]
    exact Stage.noConfusion
  have h4 : c4.life = { blowThermometer c2.life with eraseLatch := latchOk (blowThermometer c2.life) && !c.umpire.class5 } := by
    unfold c4
    rw [h3]
    rfl
  have h6 : c6.life = serviceEntered (4563402752 - 33554432 * bad.length) c.umpire.class5 c.life := by
    show { c5.life with transition := none, transitionOp := 0 } = _
    have h5 : c5.life = c4.life := by
      unfold c5
      split <;> rfl
    have h2 : c2.life = { c.life with eraseGranules := 4563402752 - 33554432 * bad.length } := by
      simp only [c2, c1, modLife_life, modPower_life]
    rw [h5, h4, h2]
    rfl
  rw [if_neg (by rw [h6]; exact Bool.eq_false_iff.mp hscrap), if_pos hrunning]
  exact ⟨rfl, _, h6⟩

/-- Settles O9, by the command. -/
theorem lifeCycleCommands : Obligations.LifeCycleCommands := by
  refine ⟨fun m e h cs x s hs henv hscrap hblank hlock hok hfree hzero => ⟨_, rfl, ?_⟩,
    fun m e h cs s hs henv hfield hroom howner hlock hok => ⟨_, rfl, ?_, rfl⟩,
    fun m e s hs henv howner hlock hok hzero hfree => ⟨_, rfl, ?_⟩, fun s hzero hidle => ⟨_, rfl, ?_⟩,
    fun failed s hservice hstage hscrap => ⟨_, rfl, ?_⟩⟩
  · obtain ⟨n, g, hlife⟩ := lifecycleCmd_manufacture (h := h) (cs := cs) (x := x) hs henv hscrap hblank hlock hok hfree hzero
    have hshort : lifecycle m 1 0 h cs x s.dram s.ctl = (s.dram, lifecycleCmd m 1 0 h cs x s.ctl) := by
      unfold lifecycle
      refine if_neg ?_
      rw [hlife]
      simp [blowThermometer, hfree]
    simp only [hshort, hlife, blowThermometer, hblank, thermoValue_zero]
    exact ⟨rfl, rfl, trivial, trivial⟩
  · obtain ⟨n, g, hin⟩ := signedIn_life (takenUp 0x91 m s.ctl)
    rw [takenUp_life] at hin
    simp only [ownerCommand_signed _ hs henv howner hlock hok]
    rw [ownerKeySet_life _ (by rw [hin]; exact hfield) (by rw [hin]; exact hroom), hin]
  · obtain ⟨n, g, hin⟩ := signedIn_life (takenUp 0x92 m s.ctl)
    rw [takenUp_life] at hin
    simp only [ownerCommand_signed _ hs henv howner hlock hok]
    obtain ⟨hlife, hready⟩ := zeroizeBody_accepted (c := signedIn (takenUp 0x92 m s.ctl)) (refOf 0x92 m) (by rw [hin]; exact hzero)
      (by rw [hin]; exact hfree)
    rw [hlife]
    exact ⟨rfl, (congrArg Mgr.nextOp signedIn_mgr).trans (takenUp_nextOp 0x92 m s.ctl), hready, trivial⟩
  · obtain ⟨hmem, hlife, hchans⟩ := zeroizeComplete_idle (mem := s.dram) hzero hidle
    refine ⟨hlife, hchans, fun a _ hon hsound => ?_⟩
    simp only [hmem]
    refine readByte_dramClear ?_
    show (!(unwritten s.ctl []).contains (a / 81920 / 16384)) = true
    rw [unwritten_sound hon hsound]
    rfl
  · obtain ⟨hmem, n, hlife⟩ := eraseComplete_service (mem := s.dram) (failed := failed) hservice hstage hscrap
    have hrun : (decide (s.ctl.power.stage = .erasing) || s.ctl.life.transition.isSome) = true := by
      simp [hservice]
    simp only [hrun, if_true, hmem, hlife]
    exact ⟨trivial, rfl, rfl, rfl⟩

end Sys2Proof.Machine
end

section
/-! PROOF. The SPDM responder (R371 to R373): obligation O46. -/

namespace Sys2Proof.Machine

open Sys2Proof

variable {c : Ctl} {via : Via}

/-! ## Answers and connections -/

/-- The side logic with one more answer, behind the earlier ones. -/
def sideAnswered (item v : Nat) (c : Ctl) : Side := { c.side with answers := c.side.answers ++ [(item, v)] }

/-- A response leaves behind the earlier answers, and joins its connection's transcript with its request. -/
theorem respond_eq (request arg code v : Nat) :
    respond via request arg code v c =
      { c with side := sideAnswered (spdmItem code) v c, life := (logSpdm via [(request, arg), (code, v)] c).life } := rfl

theorem modSpdm_frame (f : Spdm → Spdm) : modSpdm via f c = { c with life := (modSpdm via f c).life } := rfl

theorem modSpdm_modSpdm (f g : Spdm → Spdm) : modSpdm via f (modSpdm via g c) = modSpdm via (fun x => f (g x)) c := by
  cases via <;> rfl

theorem spdmOf_modSpdm (f : Spdm → Spdm) : spdmOf via (modSpdm via f c) = f (spdmOf via c) := by
  cases via <;> rfl

/-- A response after a change of its connection. -/
theorem respond_modSpdm (request arg code v : Nat) (f : Spdm → Spdm) :
    respond via request arg code v (modSpdm via f c) =
      { c with side := sideAnswered (spdmItem code) v c, life := (logSpdm via [(request, arg), (code, v)] (modSpdm via f c)).life } := rfl

/-- A request that needs the identity key, where it exists and the rest of the request fits. -/
theorem spdmWithKey_live {ok : Bool} {f : Ctl → Ctl} (hs : spdmServed via c = true) (hid : identityLive c = true) (hok : ok = true) :
    spdmWithKey via ok f c = f c := by
  simp [spdmWithKey, hs, hid, hok]

theorem spdmWithKey_refused {ok : Bool} {f : Ctl → Ctl} (hs : spdmServed via c = true) (hno : identityLive c = false ∨ ok = false) :
    spdmWithKey via ok f c = spdmError 1 c := by
  rcases hno with h | h <;> simp [spdmWithKey, hs, h]

/-! ## The requests -/

/-- GET_VERSION's connection: begun anew, with its request and response. -/
theorem logSpdm_version (msgs : List (Nat × Nat)) :
    logSpdm via msgs (modSpdm via (fun _ => { version := true }) c) = modSpdm via (fun _ => { version := true, transcript := msgs }) c :=
  modSpdm_modSpdm _ _

theorem spdmGetVersion_served (hs : spdmServed via c = true) :
    spdmGetVersion via c = { c with
      side := sideAnswered 0x504 0x12 c
      life := (modSpdm via (fun _ => { version := true, transcript := [(0x84, 0), (0x04, 0x12)] }) c).life } := by
  unfold spdmGetVersion
  rw [if_pos hs, respond_modSpdm, logSpdm_version]
  rfl

theorem spdmGetCapabilities_served (hs : spdmServed via c = true) :
    spdmGetCapabilities via c = { c with
      side := sideAnswered 0x561 (Config.standardValue 0x61 18) c
      life := (logSpdm via [(0xE1, 0), (0x61, Config.standardValue 0x61 18)] (modSpdm via (fun x => { x with capabilities := true }) c)).life } :=
  if_pos hs

theorem spdmNegotiate_offered (hs : spdmServed via c = true) :
    spdmNegotiate via true c = { c with
      side := sideAnswered 0x563 (Config.standardValue 0x63 0) c
      life := (logSpdm via [(0xE3, 1), (0x63, Config.standardValue 0x63 0)] (modSpdm via (fun x => { x with algorithms := true }) c)).life } := by
  unfold spdmNegotiate
  rw [hs]
  rfl

theorem spdmNegotiate_notOffered (hs : spdmServed via c = true) : spdmNegotiate via false c = { c with side := sideAnswered 0x57F 2 c } := by
  unfold spdmNegotiate
  rw [hs]
  rfl

/-- A CHALLENGE in the subset: its response, the signature over the connection's transcript up to it, and the transcript ended. -/
theorem spdmChallenge_live {k : Nat} {i : Fin 12} (hs : spdmServed via c = true) (hid : identityLive c = true) (hk : k = 0 ∨ k = 1 ∨ k = 0xFF)
    (hkey : c.life.keyReg = some i) :
    spdmChallenge via 0 k c = { c with
      side := { c.side with answers := c.side.answers ++ [(0x503, summaryHash k c),
        (0x503, (Config.signature c.draws (c.life.slots[i]).publicKey
          (Config.transcriptHash ((spdmOf via c).transcript ++ [(0x83, k), (0x03, summaryHash k c)]))).toNat)] }
      life := (modSpdm via (fun x => { x with transcript := [], measured := [] }) c).life
      draws := c.draws + 1 } := by
  have hok : (decide (0 = 0) && (decide (k = 0) || decide (k = 1) || decide (k = 0xFF))) = true := by
    rcases hk with h | h | h <;> simp [h]
  unfold spdmChallenge
  rw [spdmWithKey_live hs hid hok]
  cases via <;> simp only [sign, respond_eq, logSpdm, modSpdm, spdmOf, answer, sideAnswered, modSide, modLife, hkey, List.append_assoc] <;> rfl

theorem spdmChallenge_refused {slot k : Nat} (hs : spdmServed via c = true)
    (hno : identityLive c = false ∨ slot ≠ 0 ∨ ¬(k = 0 ∨ k = 1 ∨ k = 0xFF)) : spdmChallenge via slot k c = { c with side := sideAnswered 0x57F 1 c } := by
  refine spdmWithKey_refused hs (hno.imp_right fun h => ?_)
  rw [Bool.and_eq_false_iff, decide_eq_false_iff_not]
  refine h.imp_right fun hk => ?_
  simpa [and_assoc] using hk

/-- An unsigned GET_MEASUREMENTS of one block: the block, and the request and response in the transcript of the measurements. -/
theorem spdmGetMeasurements_one {i : Nat} (hs : spdmServed via c = true) (h1 : 1 ≤ i) (h5 : i ≤ 5) :
    spdmGetMeasurements via i false c = { c with
      side := sideAnswered (0x600 + i) (measurementBlock c i) c
      life := (modSpdm via (fun x => { x with measured := x.measured ++ [(0xE0, i), (0x600 + i, measurementBlock c i)] }) c).life } := by
  unfold spdmGetMeasurements
  rw [if_neg (by simp [hs]), if_neg (by simp; omega), if_neg (by omega : ¬ i = 0xFF)]
  cases via <;> simp only [List.append_assoc] <;> rfl

/-- A GET_CAPABILITIES that SPDM_MESSAGE carries: the answer goes into the reply, and the connection keeps it. -/
theorem spdmMessage_capabilities {param : Nat} {ref : CmdRef} (hs : spdmServed ref.1 c = true) :
    spdmMessage 0xE1 param ref c =
      replyTo ref 0 0 (toBytes 2 0x561 ++ toBytes 96 (Config.standardValue 0x61 18))
        (logSpdm ref.1 [(0xE1, 0), (0x61, Config.standardValue 0x61 18)] (modSpdm ref.1 (fun x => { x with capabilities := true }) c)) := by
  have hdispatch : spdmDispatch ref.1 0xE1 param c = spdmGetCapabilities ref.1 c := rfl
  unfold spdmMessage
  simp only [hdispatch, spdmGetCapabilities_served hs, sideAnswered, List.drop_left, List.take_left, modSide, List.flatMap_cons, List.flatMap_nil,
    List.append_nil]
  rfl

/-- Settles O46, by the request. -/
theorem spdmAnswers : Obligations.SpdmAnswers := by
  refine ⟨fun via s hs => ⟨_, rfl, ?_⟩, fun via s hs => ⟨_, rfl, ?_⟩, fun via b s hs => ⟨_, rfl, ?_⟩, fun via v s hs hid hv => ⟨_, rfl, ?_⟩,
    fun via offset len v s hs hid hv => ⟨_, rfl, ?_⟩, fun via k i s hs hid hk hkey => ⟨_, rfl, ?_⟩, fun via slot k s hs hno => ⟨_, rfl, ?_⟩,
    fun via i s hs h1 h5 => ⟨_, rfl, ?_⟩, fun via code s hs => ⟨_, rfl, ?_⟩, fun m param s hs hspdm => ⟨_, rfl, ?_⟩⟩
  · simp only [spdmGetVersion_served hs]
    exact ⟨rfl, trivial, trivial, onlyLogic_ctl _ _⟩
  · simp only [spdmGetCapabilities_served hs]
    exact ⟨rfl, trivial, trivial, onlyLogic_ctl _ _⟩
  · cases b with
    | true =>
      simp only [spdmNegotiate_offered hs]
      exact ⟨trivial, onlyLogic_ctl _ _, fun _ => ⟨trivial, rfl⟩, fun h => absurd h.symm Bool.false_ne_true⟩
    | false =>
      simp only [spdmNegotiate_notOffered hs]
      exact ⟨trivial, onlyLogic_ctl _ _, fun h => absurd h Bool.false_ne_true, fun _ => ⟨trivial, rfl⟩⟩
  · have h : spdmGetDigests via s.ctl = _ := (spdmWithKey_live hs hid rfl).trans (respond_eq _ _ _ _)
    rw [← hv] at h
    simp only [h]
    exact ⟨rfl, trivial, trivial, onlyLogic_ctl _ _⟩
  · have h : spdmGetCertificate via 0 offset len s.ctl = _ := (spdmWithKey_live hs hid rfl).trans (respond_eq _ _ _ _)
    rw [← hv] at h
    simp only [h]
    exact ⟨rfl, trivial, trivial, onlyLogic_ctl _ _⟩
  · simp only [spdmChallenge_live hs hid hk hkey]
    exact ⟨trivial, trivial, trivial, trivial, onlyLogic_ctl _ _⟩
  · simp only [spdmChallenge_refused hs hno]
    rfl
  · simp only [spdmGetMeasurements_one hs h1 h5]
    exact ⟨rfl, trivial, trivial, onlyLogic_ctl _ _⟩
  · simp only [hs, if_true]
    rfl
  · simp only [command_served hs, spdmMessage_capabilities (ref := refOf 0xA1 m) hspdm]
    rfl

end Sys2Proof.Machine
end

section
/-! PROOF. PAGEMAP_READ, PAGEMAP_UPDATE, MIRROR_SET, MIRROR_RESOLVE and BENCH_DONATE (R106, R117, R121, R123, R402): obligation O29. -/

namespace Sys2Proof.Machine

open Sys2Proof

variable {c d : Ctl} {ref : CmdRef} {m : Mgmt}

/-! ## Parked commands and the quarter's drain (R107) -/

theorem parkOnce_pm : (parkOnce ref c).pm = c.pm := by
  unfold parkOnce
  split <;> rfl

theorem parkOnce_chans : (parkOnce ref c).chans = c.chans := by
  unfold parkOnce
  split <;> rfl

theorem parkOnce_mem : ref ∈ (parkOnce ref c).mgr.parked := by
  unfold parkOnce
  split
  next h => exact List.contains_iff_mem.mp h
  · exact List.mem_append_right _ (List.mem_singleton_self ref)

/-- What the beginning of a drain leaves: the tables but the epoch and the drains, the channels and the parked commands. -/
theorem beginDrain_frame (q : Fin 4) (hpns : List Nat) (old : List (Nat × Use)) (secs : List Nat) (reply : Option CmdRef) (payload : List Byte) :
    ∃ x, beginDrain q hpns old secs reply payload c =
      { c with pm := { c.pm with epoch := c.pm.epoch.set q (!c.pm.epoch[q]), drains := c.pm.drains.set q (c.pm.drains[q] ++ [x]) } } :=
  ⟨_, rfl⟩

/-- A command's change of the page map, parked behind its drain: the quarter's epoch turns and one more drain stands; the command is
parked; the channels are as before. -/
structure DrainsBehind (ref : CmdRef) (q : Fin 4) (c d : Ctl) : Prop where
  epoch : d.pm.epoch[q] = (!c.pm.epoch[q])
  drains : (d.pm.drains[q]).length = (c.pm.drains[q]).length + 1
  parked : ref ∈ d.mgr.parked
  chans : d.chans = c.chans

theorem beginDrain_drainsBehind {q : Fin 4} {hpns : List Nat} {old : List (Nat × Use)} {secs : List Nat} {reply : Option CmdRef}
    {payload : List Byte} (hepoch : d.pm.epoch = c.pm.epoch) (hdrains : d.pm.drains = c.pm.drains) (hparked : ref ∈ d.mgr.parked)
    (hchans : d.chans = c.chans) : DrainsBehind ref q c (beginDrain q hpns old secs reply payload d) := by
  obtain ⟨x, hx⟩ := beginDrain_frame (c := d) q hpns old secs reply payload
  rw [hx]
  exact ⟨by simp [hepoch], by simp [hdrains], hparked, hchans⟩

/-- The change measured from the logic before the command's arrival. -/
theorem DrainsBehind.beforeArrival {op : Nat} {m : Mgmt} {q : Fin 4} (h : DrainsBehind ref q (takenUp op m c) d) : DrainsBehind ref q c d := by
  obtain ⟨hepoch, hdrains, hparked, hchans⟩ := h
  simp only [takenUp_pm, takenUp_chans] at hepoch hdrains hchans
  exact ⟨hepoch, hdrains, hparked, hchans⟩

/-! ## PAGEMAP_READ (R402) -/

theorem pmGet_congr (h : d.pm = c.pm) (n : Nat) : pmGet d n = pmGet c n := by
  unfold pmGet
  rw [h]

theorem pagemapRead_entries {first n : Nat} (h1 : 1 ≤ n) (h2 : n ≤ 252) (hin : first + n ≤ 2097152) :
    pagemapRead first false n ref c =
      replyTo ref 0 0 ((List.range n).flatMap fun i => toBytes 4 (pmBits (pmGet c (first + i)))) c := by
  unfold pagemapRead
  rw [if_neg (by simp; omega)]
  rfl

/-! ## ASSIGN (R106, R107) -/

/-- The entry that an ASSIGN writes. -/
def assigned (x : PmChange) : PmEntry := { ppn := x.ppn, domain := x.domain, mirrored := false, shared := x.shared, state := .normal }

theorem changeEntry_assign {x : PmChange} (h : x.kind = 0) : changeEntry x c = ([], pmPut x.hpn (assigned x) (usePut x.ppn .mapped c)) := by
  unfold changeEntry
  rw [h]
  rfl

/-- An ASSIGN that nothing holds up: the entry and the page's use are written, and the drain begins with the command parked. -/
theorem tryUpdate_assign {x : PmChange} (hparams : updateParams [x] = none) (hgo : updateVerdict [x] c = .go) (hkind : x.kind = 0) :
    tryUpdate false m [x] ref c =
      beginDrain (quarterOf x.hpn) [x.hpn] [] [] (some ref) [] (parkOnce ref (pmPut x.hpn (assigned x) (usePut x.ppn .mapped c))) := by
  have hall : changeAll [x] c = ([], pmPut x.hpn (assigned x) (usePut x.ppn .mapped c)) := by
    unfold changeAll changeAll
    rw [changeEntry_assign hkind]
    rfl
  unfold tryUpdate
  rw [hparams, hgo]
  dsimp only
  unfold updateGo
  rw [hall]
  dsimp only
  rw [if_neg (by rw [hkind]; exact Nat.zero_ne_add_one 1)]
  rfl

/-- What the ASSIGN leaves: the entry in both copies, the page's use, and the drain. -/
theorem tryUpdate_assign_effect {x : PmChange} (hparams : updateParams [x] = none) (hgo : updateVerdict [x] c = .go) (hkind : x.kind = 0) :
    (tryUpdate false m [x] ref c).pm.entries = sparsePut (layoutEntry c.pm.layout) c.pm.entries x.hpn (assigned x) ∧
    (tryUpdate false m [x] ref c).pm.restore = sparsePut (layoutEntry c.pm.restoreLayout) c.pm.restore x.hpn (assigned x) ∧
    (tryUpdate false m [x] ref c).pm.uses = sparsePut (layoutUse c.pm.layout) c.pm.uses x.ppn .mapped ∧
    DrainsBehind ref (quarterOf x.hpn) c (tryUpdate false m [x] ref c) := by
  rw [tryUpdate_assign hparams hgo hkind]
  have hpm := parkOnce_pm (ref := ref) (c := pmPut x.hpn (assigned x) (usePut x.ppn .mapped c))
  refine ⟨?_, ?_, ?_, beginDrain_drainsBehind ?_ ?_ parkOnce_mem parkOnce_chans⟩
  · exact (congrArg PageMap.entries hpm).trans rfl
  · exact (congrArg PageMap.restore hpm).trans rfl
  · exact (congrArg PageMap.uses hpm).trans rfl
  · exact (congrArg PageMap.epoch hpm).trans rfl
  · exact (congrArg PageMap.drains hpm).trans rfl

/-! ## MIRROR_SET (R117) -/

theorem mirrorLeave_pm (h : Nat) : ∃ l r, (mirrorLeave h c).pm =
    { c.pm with mirrors := c.pm.mirrors.filter (fun x => x.2.hpn ≠ h), restoreMirrors := r, leaving := l } := by
  unfold mirrorLeave
  cases hm : mirrorOf c h with
  | some x => exact ⟨_, _, rfl⟩
  | none =>
    have hnone : c.pm.mirrors.filter (fun x => x.2.hpn ≠ h) = c.pm.mirrors := by
      rw [List.filter_eq_self]
      intro x hx
      simpa using List.find?_eq_none.mp hm x hx
    rw [hnone]
    exact ⟨_, _, rfl⟩

theorem mirrorLeave_chans (h : Nat) : (mirrorLeave h c).chans = c.chans := by
  unfold mirrorLeave
  split <;> rfl

/-- A mirror that is cleared: its entry loses the mark, the mirror leaves the table, and the drain begins. -/
theorem mirrorDisable_effect (h : Nat) :
    (mirrorDisable h ref c).pm.mirrors = c.pm.mirrors.filter (fun x => x.2.hpn ≠ h) ∧
    (mirrorDisable h ref c).pm.entries = sparsePut (layoutEntry c.pm.layout) c.pm.entries h { pmGet c h with mirrored := false } ∧
    DrainsBehind ref (quarterOf h) c (mirrorDisable h ref c) := by
  obtain ⟨l, r, hleave⟩ := mirrorLeave_pm (c := pmPut h { pmGet c h with mirrored := false } c) h
  have hpm : (parkOnce ref (mirrorLeave h (pmPut h { pmGet c h with mirrored := false } c))).pm = _ := parkOnce_pm.trans hleave
  unfold mirrorDisable
  extract_lets secs d
  refine ⟨?_, ?_, beginDrain_drainsBehind ?_ ?_ parkOnce_mem (parkOnce_chans.trans (mirrorLeave_chans h))⟩
  · exact congrArg PageMap.mirrors hpm
  · exact congrArg PageMap.entries hpm
  · exact (congrArg PageMap.epoch hpm).trans rfl
  · exact (congrArg PageMap.drains hpm).trans rfl

theorem tryMirror_disable {h : Nat} (hin : h < 2097152) (hgo : mirrorVerdict h false c = .go) :
    tryMirror false m h false ref c = mirrorDisable h ref c := by
  unfold tryMirror
  rw [if_neg (by omega), hgo]
  rfl

/-! ## MIRROR_RESOLVE (R121) -/

theorem granView_congr (h : d.chans = c.chans) (mem : List Host.Cell) (key : Nat) : granView mem d key = granView mem c key := by
  unfold granView storedAt keyFailed
  rw [h]

theorem primaryAt_congr (h : d.pm = c.pm) (hpn g : Nat) : primaryAt d hpn g = primaryAt c hpn g := by
  unfold primaryAt pmGet moverOf
  rw [h]

theorem mirrorBusy_congr (h : d.pm = c.pm) (hpn : Nat) : mirrorBusy d hpn = mirrorBusy c hpn := by
  unfold mirrorBusy mirrorOf
  rw [h]

theorem heldHpns_congr (h : d.pm = c.pm) : heldHpns d = heldHpns c := by
  unfold heldHpns
  rw [h]

theorem mirrorOf_congr (h : d.pm = c.pm) (hpn : Nat) : mirrorOf d hpn = mirrorOf c hpn := by
  unfold mirrorOf
  rw [h]

theorem keyFailed_congr (h : d.chans = c.chans) (key : Nat) : keyFailed d key = keyFailed c key := by
  unfold keyFailed
  rw [h]

/-- Copies that differ, with a sound primary: its value is accepted for the secondary's page. -/
theorem mirrorResolve_primary {h g i : Nat} {x : Mirror} {mem : List Host.Cell} {p : GranRead} {sk : Nat} (hh : h < 2097152) (hg : g < 2048)
    (hbusy : mirrorBusy c h = false) (hheld : (heldHpns c).contains h = false) (hmirrored : (pmGet c h).mirrored = true)
    (hof : mirrorOf c h = some (i, x)) (hpending : x.pending = []) (hsk : granKey x.secPpn g = sk)
    (hp : granView mem c (granKey (primaryAt c h g) g) = p) (hdiffer : copiesAgree p (granView mem c sk) = false)
    (hpoison : p.poisoned = false) (hue : p.uncorrectable = false) :
    mirrorResolve h g false ref mem c =
      replyStatus ref 0 (acceptWrite sk (granEncode p.data) none (countPoison sk (granEncode p.data) c)) := by
  unfold mirrorResolve
  rw [if_neg (by simp; omega), if_neg (by simp [hbusy]; simpa using hheld), if_pos hmirrored, hof]
  simp only [hpending, List.length_nil, drainShadow, hsk, hp, hdiffer, carryGran, hpoison, hue, Bool.false_eq_true, if_false]

/-- A counted write to a sound slice, answered: it joins its channel's write buffer, and the page map is as before. -/
theorem replied_acceptWrite {key : Nat} (v : BitVec 320) (h : keyFailed c key = false) :
    ((replyStatus ref 0 (acceptWrite key v none (countPoison key v c))).chans[keyChan key]).wbuf = (c.chans[keyChan key]).wbuf ++ [(key, v)] ∧
    (replyStatus ref 0 (acceptWrite key v none (countPoison key v c))).pm = c.pm := by
  obtain ⟨hbuf, hpm⟩ := acceptWrite_accepted (v := v) ((keyFailed_countPoison key key v).trans h)
  rw [countPoison_frame] at hbuf hpm ⊢
  simp only [replyStatus_eq, replyTo_chans, replyTo_pm]
  exact ⟨hbuf, hpm⟩

/-! ## BENCH_DONATE (R123) -/

/-- A loop of which one round does something. -/
theorem forEach_single {α : Type} {l : List α} {f : α → Ctl → Ctl} {a : α} (hmem : a ∈ l) (hnodup : l.Nodup)
    (hother : ∀ b, b ≠ a → ∀ c, f b c = c) (c : Ctl) : forEach l f c = f a c := by
  have hidle (t : List α) (ht : a ∉ t) (x : Ctl) : forEach t f x = x := by
    induction t generalizing x with
    | nil => rfl
    | cons b t ih =>
      show forEach t f (f b x) = x
      rw [hother b (List.ne_of_not_mem_cons ht).symm, ih (List.not_mem_of_not_mem_cons ht)]
  induction l generalizing c with
  | nil => exact absurd hmem List.not_mem_nil
  | cons b t ih =>
    obtain ⟨hb, ht⟩ := List.nodup_cons.mp hnodup
    show forEach t f (f b c) = f a c
    by_cases hab : a = b
    · subst hab
      exact hidle t hb _
    · rw [hother b (Ne.symm hab)]
      exact ih ((List.mem_cons.mp hmem).resolve_left hab) ht c

theorem donateQuarter_other {h : Nat} {q : Fin 4} (hq : q ≠ quarterOf h) : donateQuarter [h] ref q c = c := by
  unfold donateQuarter
  simp [Ne.symm hq]

/-- The entry of a donated page. -/
def donated (h : Nat) (c : Ctl) : PmEntry := { unmappedEntry with domain := (pmGet c h).domain }

theorem donateQuarter_own (h : Nat) : ∃ old,
    donateQuarter [h] ref (quarterOf h) c = beginDrain (quarterOf h) [h] old [] (some ref) (toBytes 4 0) (pmPut h (donated h c) c) := by
  unfold donateQuarter
  simp only [decide_true, List.filter_cons_of_pos, List.filter_nil]
  exact ⟨_, rfl⟩

/-- A page that is donated and that nothing holds up: its entry is unmapped, and the drain begins with the command parked. -/
theorem tryDonate_one {h : Nat} (hin : h < 2097152) (hgo : donateVerdict [h] c = .go) : ∃ old,
    tryDonate false m [h] ref c =
      beginDrain (quarterOf h) [h] old [] (some ref) (toBytes 4 0) (pmPut h (donated h (parkOnce ref c)) (parkOnce ref c)) := by
  obtain ⟨old, hown⟩ := donateQuarter_own (ref := ref) (c := parkOnce ref c) h
  refine ⟨old, ?_⟩
  unfold tryDonate
  rw [if_neg (by simp; omega), hgo]
  dsimp only
  exact (forEach_single (List.mem_finRange (quarterOf h)) (List.nodup_finRange 4) (fun q hq x => donateQuarter_other hq) _).trans hown

theorem tryDonate_effect {h : Nat} (hin : h < 2097152) (hgo : donateVerdict [h] c = .go) :
    (tryDonate false m [h] ref c).pm.entries = sparsePut (layoutEntry c.pm.layout) c.pm.entries h (donated h c) ∧
    DrainsBehind ref (quarterOf h) c (tryDonate false m [h] ref c) := by
  obtain ⟨old, hdonate⟩ := tryDonate_one (m := m) (ref := ref) hin hgo
  have hentry : donated h (parkOnce ref c) = donated h c := by
    unfold donated
    rw [pmGet_congr parkOnce_pm]
  rw [hdonate, hentry]
  have hpm := parkOnce_pm (ref := ref) (c := c)
  refine ⟨?_, beginDrain_drainsBehind ?_ ?_ parkOnce_mem parkOnce_chans⟩
  · show sparsePut (layoutEntry (parkOnce ref c).pm.layout) (parkOnce ref c).pm.entries h (donated h c) = _
    rw [hpm]
  · exact (congrArg PageMap.epoch hpm :)
  · exact (congrArg PageMap.drains hpm :)

/-- Settles O29, by the command. -/
theorem pageMapCommands : Obligations.PageMapCommands := by
  refine ⟨fun m first n s hs h1 h2 hin => ⟨_, rfl, ?_⟩, fun m x s hs hparams hgo hkind => ⟨_, rfl, ?_⟩, fun m h s hs hin hgo => ⟨_, rfl, ?_⟩,
    fun m h g i x s hs hh hg hbusy hheld hmirrored hof hpending hdiffer hpoison hue hsound => ⟨_, rfl, ?_⟩,
    fun m h s hs hin hgo => ⟨_, rfl, ?_⟩⟩
  · simp only [command_served hs, answers, pagemapRead_entries h1 h2 hin, pmGet_congr (takenUp_pm 0x20 m)]
  · obtain ⟨hentries, hrestore, huses, hdrain⟩ := tryUpdate_assign_effect (m := m) (ref := refOf 0x21 m) hparams hgo hkind
    obtain ⟨hepoch, hdrains, hparked, hchans⟩ := hdrain.beforeArrival
    rw [takenUp_pm] at hentries hrestore huses
    simp only [command_served hs]
    exact ⟨hentries, hrestore, huses, hepoch, hdrains, hparked, hchans, onlyLogic_ctl _ _⟩
  · obtain ⟨hmirrors, hentries, hdrain⟩ := mirrorDisable_effect (ref := refOf 0x22 m) (c := takenUp 0x22 m s.ctl) h
    obtain ⟨hepoch, hdrains, hparked, hchans⟩ := hdrain.beforeArrival
    rw [takenUp_pm] at hmirrors hentries
    rw [pmGet_congr (takenUp_pm 0x22 m)] at hentries
    simp only [command_served hs, tryMirror_disable hin hgo]
    exact ⟨hmirrors, hentries, hepoch, hchans, onlyLogic_ctl _ _⟩
  · have hpm : (takenUp 0x23 m s.ctl).pm = s.ctl.pm := takenUp_pm 0x23 m
    have hchans : (takenUp 0x23 m s.ctl).chans = s.ctl.chans := takenUp_chans 0x23 m
    have hresolve := mirrorResolve_primary (ref := refOf 0x23 m) (c := takenUp 0x23 m s.ctl) (mem := s.dram) hh hg
      (by rw [mirrorBusy_congr hpm, hbusy]) (by rw [heldHpns_congr hpm, hheld]) (by rw [pmGet_congr hpm, hmirrored])
      ((mirrorOf_congr hpm h).trans hof) hpending rfl rfl
      (by rw [primaryAt_congr hpm, granView_congr hchans, granView_congr hchans, hdiffer])
      (by rw [primaryAt_congr hpm, granView_congr hchans, hpoison]) (by rw [primaryAt_congr hpm, granView_congr hchans, hue])
    rw [primaryAt_congr hpm, granView_congr hchans] at hresolve
    obtain ⟨hbuf, hmap⟩ := replied_acceptWrite (ref := refOf 0x23 m) (c := takenUp 0x23 m s.ctl)
      (granEncode (granView s.dram s.ctl (granKey (primaryAt s.ctl h g) g)).data) ((keyFailed_congr hchans _).trans hsound)
    rw [← hresolve] at hbuf hmap
    simp only [hchans] at hbuf
    simp only [command_served hs]
    exact ⟨hbuf, hmap.trans hpm, onlyLogic_ctl _ _⟩
  · obtain ⟨hentries, hdrain⟩ := tryDonate_effect (m := m) (ref := refOf 0x24 m) hin hgo
    obtain ⟨hepoch, hdrains, hparked, hchans⟩ := hdrain.beforeArrival
    unfold donated at hentries
    rw [takenUp_pm, pmGet_congr (takenUp_pm 0x24 m)] at hentries
    simp only [command_served hs]
    exact ⟨hentries, hepoch, hparked, hchans, onlyLogic_ctl _ _⟩

end Sys2Proof.Machine
end

section
/-! SUPPORT. The drain of a warm reset (R420 to R424) leaves the beat's number and RESET_N: reads that return, the atomic unit, shadow
writes, targeted refresh, halted movers and settled updates of the page map. -/

namespace Sys2Proof.Machine

open Sys2Proof

variable {c d e : Ctl} {m : List Host.Cell}

/-- The beat's number and the level of RESET_N. -/
def beatAndPin (c : Ctl) : BitVec 64 × Bool := (c.beat.number, c.power.resetN)

theorem beatAndPin_of_eq (hbeat : d.beat = c.beat) (hpower : d.power = c.power) : beatAndPin d = beatAndPin c := by
  unfold beatAndPin
  rw [hbeat, hpower]

theorem beatAndPin_of_reacted (h : Reacted c d) (k : Lasting c d) : beatAndPin d = beatAndPin c := by
  unfold beatAndPin
  rw [k.number, h.power]

theorem beatAndPin_ite {p : Prop} [Decidable p] (hc : beatAndPin c = beatAndPin e) (hd : beatAndPin d = beatAndPin e) :
    beatAndPin (if p then c else d) = beatAndPin e := by
  split
  · exact hc
  · exact hd

theorem forEach_beatAndPin {α : Type} (l : List α) {f : α → Ctl → Ctl} (h : ∀ a c, beatAndPin (f a c) = beatAndPin c) (c : Ctl) :
    beatAndPin (forEach l f c) = beatAndPin c := forEach_keeps beatAndPin l f h c

/-! ## Updates of one part -/

@[simp] theorem modChan_beatAndPin (ch : Fin 32) (f : Chan → Chan) : beatAndPin (modChan ch f c) = beatAndPin c := rfl
@[simp] theorem modTherm_beatAndPin (f : Therm → Therm) : beatAndPin (modTherm f c) = beatAndPin c := rfl
@[simp] theorem modTrk_beatAndPin (id : Nat) (f : Trk → Trk) : beatAndPin (modTrk id f c) = beatAndPin c := rfl
@[simp] theorem bumpBy_beatAndPin (i n : Nat) : beatAndPin (bumpBy i n c) = beatAndPin c := beatAndPin_of_eq (by simp) (by simp)
@[simp] theorem bump_beatAndPin (i : Nat) : beatAndPin (bump i c) = beatAndPin c := bumpBy_beatAndPin i 1
@[simp] theorem endGran_beatAndPin (id idx st : Nat) (data : GData) : beatAndPin (endGran id idx st data c) = beatAndPin c :=
  beatAndPin_of_eq (by simp) (by simp)
@[simp] theorem raiseEvent_beatAndPin (code st idx detail : Nat) : beatAndPin (raiseEvent code st idx detail c) = beatAndPin c :=
  beatAndPin_of_reacted (raiseEvent_reacted _ _ _ _) (raiseEvent_lasting _ _ _ _)
@[simp] theorem acceptWrite_beatAndPin (key : Nat) (v : BitVec 320) (hpn : Option Nat) :
    beatAndPin (acceptWrite key v hpn c) = beatAndPin c :=
  beatAndPin_of_reacted (acceptWrite_reacted _ _ _) (acceptWrite_lasting _ _ _)
@[simp] theorem moverHalt_beatAndPin (i : Fin 16) : beatAndPin (moverHalt i c) = beatAndPin c :=
  beatAndPin_of_reacted (moverHalt_reacted i) (moverHalt_lasting i)

/-! ## Reports and write-backs (R132, R145, R282, R283) -/

@[simp] theorem requestSrr_beatAndPin (key : Nat) : beatAndPin (requestSrr key c) = beatAndPin c := by
  unfold requestSrr
  dsimp only
  split
  · rfl
  · rfl

@[simp] theorem reportCorrected_beatAndPin (key ce1 ce2 : Nat) : beatAndPin (reportCorrected key ce1 ce2 c) = beatAndPin c := by
  unfold reportCorrected
  extract_lets ch c1 before r c2 c3
  split
  · rfl
  · have h2 : beatAndPin c2 = beatAndPin c := (modChan_beatAndPin ch _).trans (by simp [c1])
    have h3 : beatAndPin c3 = beatAndPin c := by simp only [c3, bump_beatAndPin, raiseEvent_beatAndPin, h2]
    exact beatAndPin_ite (beatAndPin_ite h3 ((requestSrr_beatAndPin _).trans h3)) h2

@[simp] theorem reportPoison_beatAndPin (first : Bool) (hpn : Option Nat) (key word source port : Nat) :
    beatAndPin (reportPoison first hpn key word source port c) = beatAndPin c := by
  unfold reportPoison
  split <;> simp

@[simp] theorem countUe_beatAndPin (stale : Bool) (key : Nat) : beatAndPin (countUe stale key c) = beatAndPin c := by
  unfold countUe
  split
  · rfl
  · extract_lets c1 c2
    have h1 : beatAndPin c1 = beatAndPin c := beatAndPin_ite rfl (modChan_beatAndPin _ _)
    have h2 : beatAndPin c2 = beatAndPin c := beatAndPin_ite h1 ((requestSrr_beatAndPin _).trans h1)
    exact (bump_beatAndPin _).trans h2

@[simp] theorem reportUe_beatAndPin (stale : Bool) (hpn : Option Nat) (key word source port : Nat) :
    beatAndPin (reportUe stale hpn key word source port c) = beatAndPin c := by
  unfold reportUe raiseUe
  split <;> simp

@[simp] theorem storePoison_beatAndPin (key : Nat) (hpn : Option Nat) : beatAndPin (storePoison key hpn c) = beatAndPin c := by
  unfold storePoison
  split <;> simp

@[simp] theorem writeBack_beatAndPin (key : Nat) (v : BitVec 320) (hpn : Option Nat) : beatAndPin (writeBack key v hpn c) = beatAndPin c := by
  unfold writeBack
  split <;> simp

@[simp] theorem readOther_beatAndPin (key : Nat) : beatAndPin (readOther key c) = beatAndPin c := by
  unfold readOther openRowFor activate
  split
  · simp
  · dsimp only
    split
    · rfl
    · split <;> simp [addActs]

/-! ## Reads that return (R119, R120, R145) -/

@[simp] theorem readPoisons_beatAndPin (key : Nat) (x : Reader) (stale : Bool) (word : Nat) :
    beatAndPin (readPoisons key x stale word c).2 = beatAndPin c := by
  unfold readPoisons
  split
  · rfl
  · cases stale <;> simp

@[simp] theorem readSecondary_beatAndPin (key : Nat) (x : Reader) (mir : Mirror) (stale : Bool) (word : Nat) :
    beatAndPin (readSecondary m key x mir stale word c).2 = beatAndPin c := by
  unfold readSecondary
  dsimp only
  split
  · rfl
  · split
    · simp
    · split
      · simp
      · split
        · rfl
        · cases x.own <;> simp

@[simp] theorem readCompare_beatAndPin (key : Nat) (x : Reader) (mir : Mirror) (v : GData) (k : Nat) :
    beatAndPin (readCompare m key x mir v k c).2 = beatAndPin c := by
  unfold readCompare
  split
  · cases x.all <;> simp
  · dsimp only
    split
    · rfl
    · split <;> simp

@[simp] theorem readEnd_beatAndPin (key : Nat) (x : Reader) (g : GranRead) : beatAndPin (readEnd m key x g c).2 = beatAndPin c := by
  unfold readEnd
  extract_lets c1 mir stale back c2 k
  have h1 : beatAndPin c1 = beatAndPin c := reportCorrected_beatAndPin _ _ _
  have h2 : beatAndPin c2 = beatAndPin c := by
    unfold c2
    split
    · rw [writeBack_beatAndPin, h1]
    · exact h1
  clear_value mir
  split
  · exact (reportPoison_beatAndPin _ _ _ _ _ _).trans h1
  · split
    · split
      · exact (readSecondary_beatAndPin _ _ _ _ _).trans h1
      · exact (readPoisons_beatAndPin _ _ _ _).trans h1
    · split
      · exact h1
      · split
        · exact (readCompare_beatAndPin _ _ _ _ _).trans h2
        · exact h2

/-! ## The atomic unit (R137, R138, R220) -/

@[simp] theorem latSample_beatAndPin (ch : Fin 32) (t : Trk) (g : Gran) : beatAndPin (latSample ch t g c) = beatAndPin c := by
  unfold latSample
  split <;> rfl

@[simp] theorem auCount_beatAndPin (ch : Fin 32) (t : Trk) (st : Nat) (chained : Bool) : beatAndPin (auCount ch t st chained c) = beatAndPin c := by
  unfold auCount
  split
  · split <;> simp
  · dsimp only
    cases chained <;> split <;> simp
  · rfl

@[simp] theorem serveRead_beatAndPin (key : Nat) (t : Trk) (idx : Nat) (g : Gran) (v : GData) :
    beatAndPin (serveRead key t idx g v c) = beatAndPin c := by
  unfold serveRead
  dsimp only
  split
  · simp [modGran]
  · simp

@[simp] theorem pushShadow_beatAndPin (who : Option (Nat × Nat)) (hpn g : Nat) (v : BitVec 320) :
    beatAndPin (pushShadow who hpn g v c) = beatAndPin c := rfl

@[simp] theorem auStep_beatAndPin (key : Nat) (chained replaced : Bool) (o : AuOp) (v : GData) :
    beatAndPin (auStep key chained replaced o v c).2 = beatAndPin c := by
  unfold auStep
  split
  · rfl
  · split
    · rfl
    · split
      · simp
      · dsimp only
        split
        · split <;> simp
        · simp

theorem auRun_beatAndPin (key : Nat) (chained replaced : Bool) (l : List AuOp) (v : GData) (c : Ctl) :
    beatAndPin (auRun key chained replaced l v c).2 = beatAndPin c := by
  induction l generalizing chained v c with
  | nil => rfl
  | cons o t ih => exact (ih true _ _).trans (auStep_beatAndPin _ _ _ _ _)

@[simp] theorem auValue_beatAndPin (key : Nat) (v : GData) : beatAndPin (auValue key v c) = beatAndPin c := by
  unfold auValue
  dsimp only
  split
  · rfl
  · exact auRun_beatAndPin _ _ _ _ _ _

@[simp] theorem notePoison_beatAndPin (key word : Nat) (t : Trk) : beatAndPin (notePoison key word t c) = beatAndPin c :=
  reportPoison_beatAndPin _ _ _ _ _ _

/-- One operation of a poisoned entry ends. -/
theorem poisonedOp_beatAndPin (key word : Nat) (stored : Bool) (first : Option Nat) (o : AuOp) (c : Ctl) :
    beatAndPin (match c.trk.find? fun t => t.id = o.id with
      | some t =>
        let c := if stored && first ≠ some o.id then notePoison key word t c else c
        let c := match t.grans[o.idx]? with | some g => latSample (keyChan key) t g c | none => c
        endGran o.id o.idx 1 0 (auCount (keyChan key) t 1 false c)
      | none => c) = beatAndPin c := by
  split
  · dsimp only
    split
    · split <;> simp
    · split <;> simp
  · rfl

@[simp] theorem auPoisoned_beatAndPin (key word : Nat) (stored : Bool) : beatAndPin (auPoisoned key word stored c) = beatAndPin c := by
  unfold auPoisoned
  dsimp only
  split
  · rfl
  · exact forEach_beatAndPin _ (fun o x => poisonedOp_beatAndPin key word stored _ o x) c

@[simp] theorem readData_beatAndPin (ch : Fin 32) (id idx : Nat) (noise : BitVec 320) :
    beatAndPin (readData ch id idx noise m c) = beatAndPin c := by
  unfold readData
  split
  · rfl
  · split
    · rfl
    · extract_lets key x g r c'
      split
      · rfl
      · have h : beatAndPin c' = beatAndPin c := by
          unfold c'
          split
          · exact readEnd_beatAndPin _ _ _
          · exact readEnd_beatAndPin _ _ _
        split
        · rfl
        · split
          · split
            · split
              · exact (auPoisoned_beatAndPin _ _ _).trans h
              · exact (auValue_beatAndPin _ _).trans h
            · rfl
          · split
            · split
              · exact (auPoisoned_beatAndPin _ _ _).trans h
              · exact (auValue_beatAndPin _ _).trans h
            · rfl
          · rw [endGran_beatAndPin, latSample_beatAndPin]
            exact h

/-! ## The drain (R203, R422) -/

@[simp] theorem shadowPut_beatAndPin (hpn : Nat) : beatAndPin (shadowPut hpn c) = beatAndPin c := by
  have put (x : Mirror) (y : Ctl) : beatAndPin (match x.pending with
      | (g, v, _) :: _ =>
        match shadowExtra y hpn g with
        | some k => acceptWrite (granKey k g) v none (acceptWrite (granKey x.secPpn g) v none y)
        | none => acceptWrite (granKey x.secPpn g) v none y
      | [] => y) = beatAndPin y := by
    split
    · split <;> simp
    · rfl
  unfold shadowPut
  dsimp only
  split
  · exact put _ _
  · exact put _ _
  · rfl

theorem drainShadow_beatAndPin (hpn n : Nat) (c : Ctl) : beatAndPin (drainShadow hpn n c) = beatAndPin c := by
  induction n generalizing c with
  | zero => rfl
  | succ n ih => exact (ih _).trans (shadowPut_beatAndPin hpn)

@[simp] theorem drainShadows_beatAndPin : beatAndPin (drainShadows c) = beatAndPin c := by
  unfold drainShadows
  exact (forEach_beatAndPin _ (fun _ _ => drainShadow_beatAndPin _ _ _) _).trans
    (forEach_beatAndPin _ (fun (x : Nat × Mirror) y => drainShadow_beatAndPin x.2.hpn x.2.pending.length y) c)

@[simp] theorem applyCommits_beatAndPin : beatAndPin (applyCommits c) = beatAndPin c :=
  forEach_beatAndPin _ (fun _ _ => acceptWrite_beatAndPin _ _ _) c

@[simp] theorem settleAu_beatAndPin (e : AuEntry) : beatAndPin (settleAu m e c) = beatAndPin c := by
  unfold settleAu
  split
  · exact readData_beatAndPin _ _ _ _
  · rfl

@[simp] theorem trrIssue_beatAndPin (slice k r : Nat) (must deferred : Bool) : beatAndPin (trrIssue slice k r must deferred c) = beatAndPin c := by
  unfold trrIssue addActs
  cases must <;> cases deferred <;> simp

@[simp] theorem flushTrr_beatAndPin : beatAndPin (flushTrr c) = beatAndPin c :=
  forEach_beatAndPin _ (fun _ _ => trrIssue_beatAndPin _ _ _ _ _) c

theorem drainData_beatAndPin : beatAndPin (drainData m c).2 = beatAndPin c := by
  unfold drainData
  extract_lets mute c1 c2 c3 c4 w c5 h
  have h2 : beatAndPin c2 = beatAndPin c := drainShadows_beatAndPin.trans applyCommits_beatAndPin
  have h3 : beatAndPin c3 = beatAndPin c2 := forEach_beatAndPin _ (fun e _ => settleAu_beatAndPin e) c2
  have h5 : beatAndPin c5 = beatAndPin c4 := forEach_beatAndPin allChans (fun _ _ => bumpBy_beatAndPin _ _) c4
  have h4 : beatAndPin c4 = beatAndPin c := drainShadows_beatAndPin.trans (h3.trans h2)
  have h6 : beatAndPin (flushTrr c5) = beatAndPin c := flushTrr_beatAndPin.trans (h5.trans h4)
  clear_value c5
  exact h6

theorem emptyPlane_beatAndPin : beatAndPin (emptyPlane c) = beatAndPin c := by
  have h : beatAndPin (forEach allMovers moverHalt c) = beatAndPin c :=
    forEach_beatAndPin allMovers (fun i _ => moverHalt_beatAndPin i) c
  unfold emptyPlane
  generalize forEach allMovers moverHalt c = d at h ⊢
  exact h

/-! ## Updates of the page map are settled (R424) -/

theorem startClearing_pm (ppn : Nat) (toBench : Bool) (c : Ctl) : ∃ x, startClearing ppn toBench c = { c with pm := x } := ⟨_, rfl⟩

theorem retire_pm (ppn : Nat) (c : Ctl) : ∃ x, retire ppn c = { c with pm := x } := by
  unfold retire
  dsimp only
  split
  · exact ⟨_, rfl⟩
  · exact ⟨_, rfl⟩

theorem settleSecondary_pm (p : Nat) (c : Ctl) : ∃ x, settleSecondary p c = { c with pm := x } := by
  unfold settleSecondary
  split
  · exact ⟨_, rfl⟩
  · split
    · exact retire_pm _ _
    · exact startClearing_pm _ _ _

theorem settleOld_pm (x : Nat × Use) (c : Ctl) : ∃ y, settleOld x c = { c with pm := y } := by
  unfold settleOld
  split
  · split
    · exact ⟨_, rfl⟩
    · split
      · exact retire_pm _ _
      · exact startClearing_pm _ _ _
  · split
    · exact retire_pm _ _
    · exact ⟨_, rfl⟩
  · exact retire_pm _ _
  · exact ⟨_, rfl⟩

theorem forEach_pm {α : Type} (l : List α) {f : α → Ctl → Ctl} (h : ∀ a c, ∃ x, f a c = { c with pm := x }) (c : Ctl) :
    ∃ x, forEach l f c = { c with pm := x } := by
  refine forEach_inv (fun d => ∃ x, d = { c with pm := x }) l f (fun a d hd => ?_) c ⟨c.pm, rfl⟩
  obtain ⟨x, hx⟩ := hd
  obtain ⟨y, hy⟩ := h a d
  exact ⟨y, hy.trans (by rw [hx])⟩

/-- Of the logic the page map alone changes. -/
theorem settleDrains_pm (c : Ctl) : ∃ x, settleDrains c = { c with pm := x } := by
  unfold settleDrains
  extract_lets l c1
  have step (d : Drain) (y : Ctl) : ∃ x, forEach d.secondaries settleSecondary (forEach d.oldPages settleOld y) = { y with pm := x } := by
    obtain ⟨a, ha⟩ := forEach_pm d.oldPages settleOld_pm y
    obtain ⟨b, hb⟩ := forEach_pm d.secondaries settleSecondary_pm (forEach d.oldPages settleOld y)
    exact ⟨b, hb.trans (by rw [ha])⟩
  obtain ⟨x, hx⟩ := forEach_pm l step c1
  exact ⟨x, hx.trans rfl⟩

end Sys2Proof.Machine
end

section
/-! PROOF. The rails and RESET_N (O6): the sequence from cold of Table 2 (R409), and steps 1 to 5 of a warm reset (R421). -/

namespace Sys2Proof.Machine

open Sys2Proof

variable {c d e : Ctl} {l : Life} {t : Post}

/-! ## What the steps of the sequence leave alone -/

/-- A step of the sequence: the cause of the reset, RESET_N, the layers, the life cycle and which channels are enabled stay. -/
structure Sequenced (c d : Ctl) : Prop where
  cause : d.power.resetCause = c.power.resetCause
  resetN : d.power.resetN = c.power.resetN
  layers : d.power.layers = c.power.layers
  life : d.life = c.life
  enable : ∀ i : Fin 32, d.chans[i].enable = c.chans[i].enable

namespace Sequenced

theorem refl (c : Ctl) : Sequenced c c := ⟨rfl, rfl, rfl, rfl, fun _ => rfl⟩

theorem trans (h : Sequenced c d) (k : Sequenced d e) : Sequenced c e where
  cause := k.cause.trans h.cause
  resetN := k.resetN.trans h.resetN
  layers := k.layers.trans h.layers
  life := k.life.trans h.life
  enable i := (k.enable i).trans (h.enable i)

theorem ite {p : Prop} [Decidable p] (h : Sequenced c d) (k : Sequenced c e) : Sequenced c (if p then d else e) := by
  split
  · exact h
  · exact k

theorem modChan (ch : Fin 32) {f : Chan → Chan} (hf : ∀ x, (f x).enable = x.enable) : Sequenced c (modChan ch f c) where
  cause := rfl
  resetN := rfl
  layers := rfl
  life := rfl
  enable i := by
    by_cases h : i = ch
    · subst h
      rw [modChan_self]
      exact hf _
    · rw [modChan_other _ _ _ h]

theorem forEach {α : Type} (l : List α) {f : α → Ctl → Ctl} (h : ∀ a c, Sequenced c (f a c)) (c : Ctl) : Sequenced c (forEach l f c) :=
  forEach_inv (Sequenced c) l f (fun a d hd => hd.trans (h a d)) c (.refl c)

end Sequenced

theorem applyRepair_sequenced (r : Nat × Nat) : Sequenced c (applyRepair r c) := by
  unfold applyRepair
  refine .ite (.modChan _ fun x => ?_) (.refl c)
  split
  · rfl
  · rfl

theorem defer_sequenced (code st idx detail : Nat) : Sequenced c (defer code st idx detail c) := ⟨rfl, rfl, rfl, rfl, fun _ => rfl⟩

theorem bump_sequenced (i : Nat) : Sequenced c (bump i c) := ⟨by simp, by simp, by simp, by simp, fun _ => by simp⟩

theorem putTaps_enable (layer : Nat) (l : List (Nat × Nat)) (x : Chan) :
    (l.foldl (fun x t => tapPut (layer * 128 + t.1) t.2 x) x).enable = x.enable := by
  induction l generalizing x with
  | nil => rfl
  | cons a l ih => exact ih _

theorem askIst_sequenced (i : Fin 25) : Sequenced c (askIst i c) := by
  rw [(askIst_maintained i).frame]
  exact ⟨rfl, rfl, rfl, rfl, fun _ => rfl⟩

theorem modIst_sequenced (i : Fin 25) (f : Ist → Ist) : Sequenced c (modIst i f c) := ⟨rfl, rfl, rfl, rfl, fun _ => rfl⟩

theorem rejectUnit_sequenced (slice : Nat) (f : (Nat × Nat) × Nat × Nat × Nat) : Sequenced c (rejectUnit slice f c).2 := by
  unfold rejectUnit
  obtain ⟨lane, q, centre, width⟩ := f
  dsimp -zeta only
  extract_lets ch rank cv c1 run c2 i ahead
  have h1 : Sequenced c c1 := .ite ⟨rfl, rfl, rfl, rfl, fun _ => rfl⟩ (.refl c)
  have h2 : Sequenced c c2 := (h1.trans (bump_sequenced (cIdx ch 56))).trans (.modChan ch fun _ => rfl)
  have h3 : Sequenced c (modIst i ahead c2) := h2.trans (modIst_sequenced i ahead)
  exact .ite (h3.trans (askIst_sequenced i)) h2

theorem startUnit_sequenced (slice : Nat) (hist : List LaneHist) : Sequenced c (startUnit slice hist c).2 := by
  unfold startUnit
  dsimp only
  split
  · dsimp only
    exact .modChan _ fun x => (putTaps_enable _ _ _).trans rfl
  · exact rejectUnit_sequenced _ _

/-- Start-up calibration enables every channel, and is a step of the sequence for the rest (R321). -/
theorem startCal_sequenced (t : Post) (c : Ctl) : ∃ d, Sequenced d (startCal t c) ∧ d.power = c.power ∧ d.life = c.life ∧
    ∀ i : Fin 32, d.chans[i].enable = true := by
  unfold startCal
  refine ⟨_, .forEach _ (fun u x => ?_) _, rfl, rfl, fun i => by simp⟩
  have h : Sequenced x (startUnit u.slice.val u.lanes x).2 := startUnit_sequenced _ _
  split
  · next d y hu => rw [hu] at h; exact h.trans (defer_sequenced _ _ _ _)
  · next y hu => rw [hu] at h; exact h

/-! ## The life cycle through the sequence (R354, R355, R358) -/

theorem fuseState_agree (hsame : l.thermA = l.thermB) (hvalid : thermoValid l.thermA = true) : fuseState l = .agree := by
  unfold fuseState
  rw [← hsame, hvalid]
  simp

theorem not_scrapped_of_lcState_le (h : lcState l ≤ 2) : scrapped l = false := by
  cases hs : scrapped l with
  | false => rfl
  | true =>
    unfold lcState at h
    simp [hs] at h

theorem dropGenerated_of_certified {s : SlotFuses} (h : slotState s = .certified) : dropGenerated s = s := by
  unfold dropGenerated
  rw [h]
  rfl

/-- A certified slot in use unwraps, and the fuses that hold the life cycle stay. -/
theorem settleSlots_certified (h : ∀ i, l.slotInUse = some i → slotState l.slots[i] = .certified) :
    ∃ k, settleSlots true l = { l with slots := l.slots.map dropGenerated, keyReg := k } := by
  unfold settleSlots
  dsimp only
  split
  · next i hi =>
    have hc : slotState (l.slots.map dropGenerated)[i] = .certified := by
      calc slotState (l.slots.map dropGenerated)[i] = slotState (dropGenerated l.slots[i]) := by simp
        _ = .certified := by rw [dropGenerated_of_certified (h i hi), h i hi]
    rw [if_neg (not_not.mpr hc)]
    exact ⟨_, rfl⟩
  · exact ⟨_, rfl⟩

/-- With a certified slot in use no SERVICE entry was interrupted (R377). -/
theorem interruptedEntry_of_certified (h : ∀ i, l.slotInUse = some i → slotState l.slots[i] = .certified) :
    interruptedEntry l = false := by
  unfold interruptedEntry
  split
  · next i hi =>
    rw [h i hi]
    simp
  · simp

/-! ## The sequence when every step passes (Table 2 of R409) -/

theorem chosenRecord_same {a : RepairCopy} (h : recordOk a = true) : chosenRecord a a = some (a, 0) := by
  unfold chosenRecord
  rw [h]
  simp

theorem newNonce_power : (newNonce c).power = c.power := by
  unfold newNonce
  split
  · rfl
  · rfl

theorem powerUp_repaired (hclock : c.power.refclk = true) (hcause : c.power.resetCause ≠ 4)
    (hsame : c.life.repairA = c.life.repairB) (hok : recordOk c.life.repairA = true) :
    powerUp t c = fusesAndTests t (forEach c.life.repairA.repairs applyRepair (newNonce c)) := by
  obtain ⟨n, g, hlife⟩ := newNonce_life c
  unfold powerUp
  simp [hclock, hlife, ← hsame, chosenRecord_same hok, newNonce_power, hcause]

theorem fusesAndTests_pass (hfuses : fuseState c.life = .agree) (htests : selfTest t false = none) (hbonds : t.badBonds = []) :
    fusesAndTests t c = rampAndCalibrate t c := by
  unfold fusesAndTests
  rw [hfuses, htests, hbonds]
  rfl

theorem selfTest_pass (hrom : t.romOk = true) (hmap : t.pagemapOk = true) (htracker : t.trackerOk = true) (hmgmt : t.mgmtOk = true)
    (hcontrol : t.controlOk = true) : selfTest t false = none := by
  unfold selfTest
  simp [hrom, hmap, htracker, hmgmt, hcontrol]

theorem enterBoot_cold (h : c.power.resetCause ≠ 4) : enterBoot c = setStage .boot c := by
  unfold enterBoot
  split
  · rw [if_neg (by simp [h])]
  · rfl

theorem afterCal_waits (hstate : lcState c.life ≤ 2) (htransition : c.life.transition = none) (hcause : c.power.resetCause ≠ 4) :
    afterCal c = setStage .boot (modPower (fun w => { w with holdReason := 0 }) c) := by
  unfold afterCal
  dsimp only
  have hservice : lcState c.life ≠ 3 := by omega
  rw [if_neg (by simp [not_scrapped_of_lcState_le hstate, htransition, hservice])]
  exact enterBoot_cold hcause

theorem rampTo_resetCause (n : Nat) (c : Ctl) : (rampTo n c).power.resetCause = c.power.resetCause := by
  simp only [rampTo, modPower_power]

theorem rampTo_resetN (n : Nat) (c : Ctl) : (rampTo n c).power.resetN = c.power.resetN := by
  simp only [rampTo, modPower_power]

theorem rampTo_life (n : Nat) (c : Ctl) : (rampTo n c).life = c.life := by
  simp only [rampTo, modPower_life]

theorem rampTo_chans (n : Nat) (c : Ctl) : (rampTo n c).chans = c.chans := by
  simp only [rampTo, modPower_chans]

theorem rampTo_all_layers (i : Fin 17) : (rampTo 18 c).power.layers[i] = if c.power.layers[i] = 3 then 3 else 2 := by
  have hi : i.val + 1 < 18 := by omega
  simp [rampTo, hi]

theorem rampAndCalibrate_pass (hkey : t.keyOk = true) (hrail : t.railLayer = none)
    (hslot : ∀ i, c.life.slotInUse = some i → slotState c.life.slots[i] = .certified) :
    rampAndCalibrate t c = afterCal (rampTo 18 (startCal t (modLife (settleSlots true) c))) := by
  have hentry : interruptedEntry (settleSlots true c.life) = false := by
    obtain ⟨k, hk⟩ := settleSlots_certified hslot
    rw [hk]
    refine interruptedEntry_of_certified fun i hi => ?_
    have hi : slotState c.life.slots[i] = .certified := hslot i hi
    calc slotState (c.life.slots.map dropGenerated)[i] = slotState (dropGenerated c.life.slots[i]) := by simp
      _ = .certified := by rw [dropGenerated_of_certified hi, hi]
  unfold rampAndCalibrate
  rw [hkey, hrail]
  dsimp only
  rw [if_neg (by rw [modLife_life, hentry]; decide)]

/-- A stack that starts from cold, not after a thermal shutdown, with whole fuses and a certified slot, if one is in use. -/
structure StartsCold (c : Ctl) : Prop where
  clock : c.power.refclk = true
  cause : c.power.resetCause ≠ 4
  records : c.life.repairA = c.life.repairB
  record : recordOk c.life.repairA = true
  fuses : fuseState c.life = .agree
  state : lcState c.life ≤ 2
  transition : c.life.transition = none
  slot : ∀ i, c.life.slotInUse = some i → slotState c.life.slots[i] = .certified

/-- Self-tests, bonds, rails and the identity key without a fault. -/
structure Passes (t : Post) : Prop where
  tests : selfTest t false = none
  bonds : t.badBonds = []
  rail : t.railLayer = none
  key : t.keyOk = true

theorem powerUp_boots (h : StartsCold c) (ht : Passes t) : ∃ d, powerUp t c = setStage .boot (modPower (fun w => { w with holdReason := 0 }) (rampTo 18 d)) ∧
    d.power.resetN = c.power.resetN ∧ d.power.layers = c.power.layers ∧ ∀ i : Fin 32, d.chans[i].enable = true := by
  have hrepair : Sequenced (newNonce c) (forEach c.life.repairA.repairs applyRepair (newNonce c)) :=
    .forEach _ (fun r _ => applyRepair_sequenced r) _
  rw [powerUp_repaired h.clock h.cause h.records h.record]
  generalize forEach c.life.repairA.repairs applyRepair (newNonce c) = c2 at hrepair ⊢
  obtain ⟨n, g, hnonce⟩ := newNonce_life c
  have hlife : c2.life = { c.life with nonce := n, drbg := g } := hrepair.life.trans hnonce
  have hslot : ∀ i, c2.life.slotInUse = some i → slotState c2.life.slots[i] = .certified := by
    rw [hlife]
    exact h.slot
  obtain ⟨k, hsettled⟩ := settleSlots_certified hslot
  rw [fusesAndTests_pass (by rw [hlife]; exact h.fuses) ht.tests ht.bonds, rampAndCalibrate_pass ht.key ht.rail hslot]
  obtain ⟨c3, hcal, hpower3, hlife3, henable⟩ := startCal_sequenced t (modLife (settleSlots true) c2)
  generalize startCal t (modLife (settleSlots true) c2) = d at hcal ⊢
  have hcause : d.power.resetCause = c.power.resetCause := by
    rw [hcal.cause, hpower3, modLife_power, hrepair.cause, newNonce_power]
  have hresetN : d.power.resetN = c.power.resetN := by
    rw [hcal.resetN, hpower3, modLife_power, hrepair.resetN, newNonce_power]
  have hlayers : d.power.layers = c.power.layers := by
    rw [hcal.layers, hpower3, modLife_power, hrepair.layers, newNonce_power]
  have hdlife : d.life = { c2.life with slots := c2.life.slots.map dropGenerated, keyReg := k } := by
    rw [hcal.life, hlife3, modLife_life, hsettled]
  refine ⟨d, afterCal_waits ?_ ?_ ?_, hresetN, hlayers, fun i => (hcal.enable i).trans (henable i)⟩
  · have hstate : lcState d.life = lcState c.life := by
      rw [hdlife, hlife]
      rfl
    rw [rampTo_life, hstate]
    exact h.state
  · have htransition : d.life.transition = c.life.transition := by
      rw [hdlife, hlife]
    rw [rampTo_life, htransition]
    exact h.transition
  · rw [rampTo_resetCause, hcause]
    exact h.cause

theorem resetDeassert_boots (h : StartsCold c) (hstage : c.power.stage = .inReset) (ht : Passes t) :
    (resetDeassert t c).power.stage = .boot ∧ (resetDeassert t c).power.holdReason = 0 ∧ (resetDeassert t c).power.resetN = true ∧
      (∀ i : Fin 17, (resetDeassert t c).power.layers[i] = if c.power.layers[i] = 3 then 3 else 2) ∧
      ∀ i : Fin 32, ((resetDeassert t c).chans[i]).enable = true := by
  have hcold : StartsCold { modPower (fun w => { w with resetN := true }) c with umpire := resetUmpire c.umpire } :=
    ⟨h.clock, h.cause, h.records, h.record, h.fuses, h.state, h.transition, h.slot⟩
  obtain ⟨d, hd, hresetN, hlayers, henable⟩ := powerUp_boots hcold ht
  have heq : resetDeassert t c = updateAlert (setStage .boot (modPower (fun w => { w with holdReason := 0 }) (rampTo 18 d))) := by
    unfold resetDeassert
    rw [if_neg (by simp [hstage])]
    dsimp only
    rw [if_pos (by simp [hstage])]
    exact congrArg updateAlert hd
  rw [heq]
  simp only [modPower_power] at hresetN hlayers
  simp only [updateAlert, setStage, modUmpire_power, modPower_power, modUmpire_chans, modPower_chans, rampTo_resetN, rampTo_chans,
    rampTo_all_layers, hresetN, hlayers]
  exact ⟨trivial, trivial, trivial, fun _ => trivial, henable⟩

/-! ## Warm reset (Table 5 of R421) -/

/-- The tracker and the life cycle stay. -/
def SameTracked (c d : Ctl) : Prop := d.trk = c.trk ∧ d.life = c.life

namespace SameTracked

theorem refl (c : Ctl) : SameTracked c c := ⟨rfl, rfl⟩

theorem trans (h : SameTracked c d) (k : SameTracked d e) : SameTracked c e := ⟨k.1.trans h.1, k.2.trans h.2⟩

theorem forEach {α : Type} (l : List α) {f : α → Ctl → Ctl} (h : ∀ a c, SameTracked c (f a c)) (c : Ctl) : SameTracked c (forEach l f c) :=
  forEach_inv (SameTracked c) l f (fun a d hd => hd.trans (h a d)) c (.refl c)

end SameTracked

theorem askActivity_tracked (kind tt target : Nat) : SameTracked c (askActivity kind tt target c) := by
  have h : Maintained c (askActivity kind tt target c) := (addActivity_maintained _ _ _ _ _).trans grantWaiting_granted.toMaintained
  exact ⟨h.trk, by rw [h.frame]⟩

theorem startSubstitution_tracked (s : Nat) : SameTracked c (startSubstitution s c) := by
  unfold startSubstitution
  split
  · exact .refl c
  · have hawake : SameTracked c (leaveSelfRefresh c) := ⟨leaveSelfRefresh_trk, leaveSelfRefresh_life⟩
    have hput (f : PageMap → PageMap) (x : Ctl) : SameTracked x (modPm f x) := ⟨rfl, rfl⟩
    exact (hawake.trans (hput _ _)).trans (askActivity_tracked _ _ _)

theorem sliceOutOfService_tracked (s : Nat) : SameTracked c (sliceOutOfService s c) := by
  have hout (ch : Fin 32) (f : Chan → Chan) (x : Ctl) : SameTracked x (modChan ch f x) := ⟨rfl, rfl⟩
  unfold sliceOutOfService
  split
  · exact .refl c
  · exact (hout _ _ _).trans (startSubstitution_tracked s)

theorem lostChannels_tracked (l : List (Fin 32)) (c : Ctl) : SameTracked c (lostChannels l c) :=
  .forEach _ (fun ch x => .forEach _ (fun k _ => sliceOutOfService_tracked (sliceOf ch k)) x) c

theorem lostChannels_reacted (l : List (Fin 32)) (c : Ctl) : Reacted c (lostChannels l c) :=
  forEach_reacted _ (fun ch x => forEach_reacted _ (fun k _ => sliceOutOfService_reacted (sliceOf ch k)) x) c

/-- The base die after the reset of its logic: held, with an empty tracker, without firmware. -/
structure HeldWarm (cause : Nat) (beat : BitVec 64) (resetN : Bool) (c : Ctl) : Prop where
  stage : c.power.stage = .heldReset
  cause : c.power.resetCause = cause
  resetN : c.power.resetN = resetN
  beat : c.power.lastResetBeat = beat
  trk : c.trk = []
  firmware : c.life.fwRunning = false

namespace HeldWarm

variable {cause : Nat} {beat : BitVec 64} {resetN : Bool}

theorem of_reacted (h : HeldWarm cause beat resetN c) (hpower : Reacted c d) (htracked : SameTracked c d) : HeldWarm cause beat resetN d where
  stage := (congrArg Power.stage hpower.power).trans h.stage
  cause := (congrArg Power.resetCause hpower.power).trans h.cause
  resetN := (congrArg Power.resetN hpower.power).trans h.resetN
  beat := (congrArg Power.lastResetBeat hpower.power).trans h.beat
  trk := htracked.1.trans h.trk
  firmware := (congrArg Life.fwRunning htracked.2).trans h.firmware

end HeldWarm

theorem updateAlert_held {cause : Nat} {beat : BitVec 64} {resetN : Bool} (h : HeldWarm cause beat resetN c) :
    HeldWarm cause beat resetN (updateAlert c) :=
  ⟨h.stage, h.cause, h.resetN, h.beat, h.trk, h.firmware⟩

theorem newNonce_held {cause : Nat} {beat : BitVec 64} {resetN : Bool} (h : HeldWarm cause beat resetN c) :
    HeldWarm cause beat resetN (newNonce c) := by
  unfold newNonce
  split
  · exact h
  · exact ⟨h.stage, h.cause, h.resetN, h.beat, h.trk, h.firmware⟩

theorem bump_held {cause : Nat} {beat : BitVec 64} {resetN : Bool} (i : Nat) (h : HeldWarm cause beat resetN c) :
    HeldWarm cause beat resetN (bump i c) :=
  h.of_reacted (bump_reacted i) ⟨by simp, by simp⟩

theorem lostChannels_held {cause : Nat} {beat : BitVec 64} {resetN : Bool} (l : List (Fin 32)) (h : HeldWarm cause beat resetN c) :
    HeldWarm cause beat resetN (lostChannels l c) :=
  h.of_reacted (lostChannels_reacted l c) (lostChannels_tracked l c)

theorem warmDown_held (cause : Nat) (m : List Host.Cell) (c : Ctl) :
    HeldWarm cause c.beat.number c.power.resetN (warmDown cause m c).2 := by
  unfold warmDown
  extract_lets lost r c1 c2 w c3 c4 c5 c6
  have hdrained : beatAndPin c1 = beatAndPin c := emptyPlane_beatAndPin.trans drainData_beatAndPin
  have htrk : c1.trk = [] := rfl
  obtain ⟨x, hsettled⟩ : ∃ x, c2 = { c1 with pm := x } := settleDrains_pm c1
  clear_value c1 c2
  subst hsettled
  have hbeat : c1.beat.number = c.beat.number := congrArg Prod.fst hdrained
  have hresetN : c1.power.resetN = c.power.resetN := congrArg Prod.snd hdrained
  have hheld : HeldWarm cause c.beat.number c.power.resetN c6 := ⟨rfl, rfl, hresetN, hbeat, htrk, rfl⟩
  exact updateAlert_held (lostChannels_held lost (bump_held (gIdx 34) (newNonce_held hheld)))

/-- Settles O6: the four commands of the rails and of RESET_N, each by the steps that its sequence runs. -/
theorem railsAndResetPin : Obligations.RailsAndResetPin := by
  unfold Obligations.RailsAndResetPin
  refine ⟨?powerOn, ?brownout, ?deassert, ?assert⟩
  case powerOn =>
    intro a s hoff
    refine ⟨_, rfl, ?_⟩
    simp only [powerOn, hoff, if_true]
    exact ⟨rfl, rfl, trivial, rfl, rfl, rfl, rfl, rfl⟩
  case brownout =>
    exact fun s => ⟨_, rfl, rfl, rfl, rfl, rfl, rfl, rfl⟩
  case deassert =>
    intro x s hstage hclock hcause hrecords hrecord hsame hvalid hstate htransition hslot hrom hmap htracker hmgmt hcontrol hbonds hrail hkey
    have hcold : StartsCold s.ctl :=
      ⟨hclock, hcause, hrecords, hrecord, fuseState_agree hsame hvalid, hstate, htransition, hslot⟩
    have hpass : Passes x := ⟨selfTest_pass hrom hmap htracker hmgmt hcontrol, hbonds, hrail, hkey⟩
    obtain ⟨hboot, hreason, hresetN, hlayers, henable⟩ := resetDeassert_boots hcold hstage hpass
    exact ⟨_, rfl, hboot, hreason, hresetN, hlayers, henable, rfl⟩
  case assert =>
    intro s hstage hready hclass
    have hheld := warmDown_held 1 s.dram (modPower (fun w => { w with resetN := false }) s.ctl)
    have hrun : resetAssert s.dram s.ctl = warmDown 1 s.dram (modPower (fun w => { w with resetN := false }) s.ctl) := by
      simp [resetAssert, restartsCold, hstage, hready, hclass]
    rw [← hrun] at hheld
    exact ⟨_, rfl, hheld.stage, hheld.cause, hheld.resetN, hheld.trk, hheld.firmware, hheld.beat⟩

end Sys2Proof.Machine
end
